-- ==== Sys2Proof/Word.lean ====
section
/-!
DEFINITION. Word.lean: the word types of the block and their plainest arithmetic (R10: bit 0 is the least
significant bit, multi-byte values are little-endian).
-/
namespace Sys2Proof

/-- One byte. -/
abbrev Byte := BitVec 8

/-- One register, 64 bits (R17). -/
abbrev W64 := BitVec 64

/-- The 544 bytes of one beam: payload bytes 0 to 511, peg lane bytes 512 to 543 (R28). -/
abbrev Beam := BitVec 4352

/-- A beam with its poison mark in bit 4352. -/
abbrev MarkedBeam := BitVec 4353

/-- A sparse table: pairs of a key and a value, the keys strictly rising, no value equal to what an unlisted key
reads as. -/
abbrev SMap (α : Type) := List (Nat × α)

/-- Bits [lo + w - 1 : lo] of a word, as a word of w bits (R10). -/
abbrev field {n : Nat} (x : BitVec n) (lo w : Nat) : BitVec w := x.extractLsb' lo w

/-- Bit i of a word (R10). -/
abbrev bitAt {n : Nat} (x : BitVec n) (i : Nat) : Bool := x.getLsbD i

/-- A Bool as a word of w bits. -/
abbrev flagBits (w : Nat) (b : Bool) : BitVec w := if b then 1 else 0

end Sys2Proof
end

