-- ==== Sys2Proof/Syntax.lean ====
section
/-!
DEFINITION. Syntax.lean: the commands the block takes, one constructor per row of the table of operations and
events, with what each carries from outside.
-/
namespace Sys2Proof

/-- The initiator of a register access (R15, R319, R325): the host port with its HP_REQ_ID, the vent port, or the
firmware on the register path. -/
inductive Src where
  | host (id : BitVec 8)
  | vent
  | firmware
  deriving DecidableEq, Repr

/-- What the flash's SFDP header, basic parameter table and status register returned (R353). -/
structure SfdpResult where
  /-- The signature read. -/
  sig : BitVec 32
  /-- The major revision. -/
  major : BitVec 8
  /-- The parameter header names the basic flash parameter table. -/
  bfpt : Bool
  /-- The table's length in words of 32 bits. -/
  words : Nat
  /-- Word 1 of the table. -/
  w1 : BitVec 32
  /-- Word 2 of the table, the density. -/
  w2 : BitVec 32
  /-- Word 3 of the table: the 1-1-4 read's instruction, mode clocks and wait states. -/
  w3 : BitVec 32
  /-- Bits [22:20] of word 15, the quad enable requirement. -/
  qer : BitVec 3
  /-- The QE bit read. -/
  qe : Bool
  deriving DecidableEq, Repr

/-- What a gather entry takes (R118): the number of its stream, and whether a parity error strikes its beam. -/
structure GatherTake where
  /-- The stream's number. -/
  stream : Nat
  /-- A parity error strikes the beam of the entry (R117). -/
  parity : Bool
  deriving DecidableEq, Repr

/-- A change of Ep_FAULT_N (R141, R145). -/
structure FaultEdge where
  /-- The level the input takes. -/
  high : Bool
  /-- The input chatters (R141). -/
  chatter : Bool
  deriving DecidableEq, Repr

/-- A beat of write data at a memory port (R239). -/
structure WriteBeat where
  /-- The memory port. -/
  port : Fin 8
  /-- TCM code errors of a move's bytes (R323): 0 none, 1 corrected, 2 or 3 uncorrectable. -/
  tcm : BitVec 2
  deriving DecidableEq, Repr

/-- What a path monitor comes to read (R312). -/
structure SlackReading where
  /-- The monitor. -/
  monitor : Fin 16
  /-- Its reading: 0, or the reading that ends the episode. -/
  slack : BitVec 6
  deriving DecidableEq, Repr

/-- The data of a Block Write of the vent port, with the byte count it gives (R336, R337). -/
structure BlockWrite (w : Nat) where
  /-- The data of the bytes the table requires. -/
  data : BitVec w
  /-- The byte count of the transaction. -/
  count : BitVec 8
  deriving DecidableEq, Repr

/-- The command byte of a vent transaction that the port does not carry out (R335, R336). -/
structure VentCall where
  /-- The command code. -/
  code : BitVec 8
  /-- The transaction's protocol is not implemented. -/
  badProtocol : Bool
  deriving DecidableEq, Repr

/-- How the controller ends a read (R337, R340). -/
structure ReadEnd where
  /-- It clocks the PEC byte. -/
  pec : Bool
  /-- The transaction ends with a STOP, not with a repeated START. -/
  stop : Bool
  deriving DecidableEq, Repr

/-- The tiers and banks that a march test runs over (R406). -/
structure TestSel where
  /-- Bit t: memory tier t + 1. -/
  tiers : BitVec 3
  /-- Bit k: bank k. -/
  banks : BitVec 512
  deriving DecidableEq, Repr

/-- What the tester drives while BYPASS is the instruction, or one that acts as it (R405, R406). -/
structure BypassOp where
  /-- The instruction code. -/
  code : BitVec 4
  /-- The level of TRST_N. -/
  trstN : Bool
  /-- The bits shifted in. -/
  tdi : List Bool
  deriving DecidableEq, Repr

/-- Symbol errors standing in one stored line (R73, R75): symbol number and the bits that differ, per codeword. -/
structure LineErr where
  /-- errors of codeword 0 (03 R73). -/
  cw0 : List (Nat × BitVec 16) := []
  /-- errors of codeword 1 (03 R73). -/
  cw1 : List (Nat × BitVec 16) := []
  deriving DecidableEq, Repr

/-- A member of a ring or a ridge of a crown (R261, R264). -/
structure Member where
  /-- fabric ID (10 R261). -/
  fid : BitVec 12 := 0
  /-- highest collective version (10 R282). -/
  ver : BitVec 4 := 0
  /-- fabric IDs of a ridge's ring in rank order (crown table) (10 R270). -/
  ring : List (BitVec 12) := []
  /-- ring epoch of a ridge's last die report (crown table) (10 R264). -/
  repoch : BitVec 32 := 0
  deriving DecidableEq, Repr

/-- The header of a ring packet (R256). -/
structure Hdr where
  /-- KIND (10 R256). -/
  kind : BitVec 4 := 0
  /-- DIRN (10 R256). -/
  dirn : BitVec 3 := 0
  /-- ring step (STEP_HI and STEP) (10 R256). -/
  step : BitVec 12 := 0
  /-- VER (10 R256). -/
  ver : BitVec 4 := 0
  /-- SRC (10 R256). -/
  src : BitVec 12 := 0
  /-- DEST (10 R256). -/
  dest : BitVec 12 := 0
  /-- SEQ (10 R256). -/
  seq : BitVec 16 := 0
  /-- EPOCH (10 R256). -/
  epoch : BitVec 16 := 0
  /-- OP (10 R256). -/
  op : BitVec 4 := 0
  /-- FORMAT (10 R256). -/
  fmt : BitVec 4 := 0
  /-- POISON (10 R256). -/
  poison : BitVec 3 := 0
  /-- NBEAM (10 R256). -/
  nbeam : BitVec 2 := 0
  /-- BEAM (10 R256). -/
  beam : BitVec 20 := 0
  /-- HOPS (10 R256). -/
  hops : BitVec 5 := 0
  deriving DecidableEq, Repr

/-- An epoch proposal (R262). -/
structure Proposal where
  /-- new epoch (10 R262). -/
  epoch : BitVec 32 := 0
  /-- admitted fabric IDs (10 R262). -/
  admitted : List (BitVec 12) := []
  /-- removed fabric IDs (10 R262). -/
  removed : List (BitVec 12) := []
  /-- entries appended on the way (10 R262). -/
  order : List Member := []
  deriving DecidableEq, Repr

/-- The code errors a beat of a side-port path meets (R91, R323). -/
structure BeatErr where
  /-- Those of the stored line it reads. -/
  line : LineErr := {}
  /-- Those of the TCM words of a move's beam: 0 none, 1 corrected, 2 or 3 uncorrectable. -/
  tcm : BitVec 2 := 0
  deriving DecidableEq, Repr

/-- A control packet's header as it arrives, and whether a parity error hit its payload (R256, R257). -/
structure Arrival where
  /-- The header. -/
  hdr : Hdr
  /-- A payload parity error. -/
  bad : Bool
  deriving DecidableEq, Repr

/-- A packet the unit cannot read: its header as sampled, and its flits (R257). -/
structure RawPacket where
  /-- The header. -/
  hdr : Hdr
  /-- The flits. -/
  flits : List (BitVec 1024)
  deriving DecidableEq, Repr

/-- The payload of an ABORT packet: SEQ and status of the collective that ended (R256, R273). -/
structure AbortBody where
  /-- The SEQ of the collective. -/
  seq : BitVec 16
  /-- The status it ended with. -/
  status : BitVec 4
  deriving DecidableEq, Repr

/-- The payload of a ring packet, by kind (R256, R314). -/
inductive Payload where
  /-- Beams of a DATA packet. -/
  | data (beams : List (BitVec 4352))
  /-- A JOIN entry. -/
  | join (m : Member)
  /-- A PROPOSE. -/
  | propose (p : Proposal)
  /-- A COMMIT: the epoch, the agreed version, the members in rank order. -/
  | commit (epoch : BitVec 32) (ver : BitVec 4) (table : List Member)
  /-- A LEAVE: LOST. SRC names the instance that leaves. -/
  | leave (lost : Bool)
  /-- A REFUSE: its code. DEST names the instance that is refused. -/
  | refuse (code : BitVec 8)
  /-- A NORM_UP partial. -/
  | normUp (value : BitVec 64) (invalid : Bool)
  /-- A NORM_DOWN with the sum and the clip factor. -/
  | normDown (value : BitVec 64) (clip : BitVec 32) (invalid : Bool)
  /-- A BAR_UP. -/
  | barUp (barId : BitVec 16)
  /-- A BAR_DOWN. -/
  | barDown (barId : BitVec 16)
  /-- An ABORT: which collective ended, and how. -/
  | abort (body : AbortBody)
  /-- A DIE_REPORT: the ring epoch and its members. -/
  | dieReport (epoch : BitVec 32) (table : List Member)
  /-- A CROWN_COMMIT: the crown epoch, the agreed version, the ridges in crown order. -/
  | crownCommit (epoch : BitVec 32) (ver : BitVec 4) (ridges : List Member)
  /-- What a packet of a reserved KIND, or one with a damaged header, carries: its flits. -/
  | raw (flits : List (BitVec 1024))
  /-- A BUDGET packet: SUB, exchange number, amount, and a responder's CAP_EFF and P. -/
  | budget (sub : BitVec 8) (exch amt effCap power : BitVec 16)
  deriving DecidableEq, Repr

/-- The commands of the block: each row of the table of operations and events. -/
inductive Instr where
  /-- VAON_APPLIED (R23). -/
  | vaonApplied
  /-- VAON_REMOVED (R395). -/
  | vaonRemoved
  /-- ARST_N_ASSERT (R346). Operands: chatter: the level changes four or more times in 64 ACLK. -/
  | arstAssert (chatter : Bool)
  /-- ARST_N_DEASSERT (R345). Operands: the strap levels sampled. -/
  | arstDeassert (fabricId : BitVec 12) (bootSrc : BitVec 2) (ridgeEn : Bool)
  /-- MRST_N_ASSERT (R346). -/
  | mrstAssert (chatter : Bool)
  /-- MRST_N_DEASSERT (R345). -/
  | mrstDeassert
  /-- PWROK_MAIN_FALL (R348). -/
  | pwrokFall (chatter : Bool)
  /-- PWROK_MAIN_RISE (R347). -/
  | pwrokRise
  /-- CLK_SE_CHANGE (R401). Operands: the new level of CLK_SE. -/
  | clkSeChange (level : Bool)
  /-- CLOCK_MONITOR_MEASURE (R344). Operands: the ring oscillator's measurement. -/
  | clockMonitorMeasure (mhz : BitVec 16)
  /-- BOOT_ENTRY (R351). -/
  | bootEntry
  /-- PURGE_COMPLETE (R98). Operands: lines whose read-back differs, with their symbol errors. -/
  | purgeComplete (bad : List (Nat × LineErr))
  /-- FLASH_DISCOVERY (R353). Operands: what the SFDP, BFPT and status reads returned. -/
  | flashDiscovery (r : SfdpResult)
  /-- DISCOVERY_RETRY (R353). -/
  | discoveryRetry
  /-- SLOT_HEADERS_READ (R359). Operands: the 64 header bytes of slots 0 and 1. -/
  | slotHeadersRead (h0 h1 : BitVec 512)
  /-- SECTION_TABLE_READ (R357). Operands: the section table's bytes. -/
  | sectionTableRead (bytes : List (BitVec 8))
  /-- SECTION_DATA_RECEIVED (R357). Operands: the next section bytes. -/
  | sectionDataReceived (bytes : List (BitVec 8))
  /-- SLOT_UNDO_COMPLETE (R358). -/
  | slotUndoComplete
  /-- BOOT_COMPLETE (R351). -/
  | bootComplete
  /-- BOOT_FIFO_WRITE (R360). -/
  | bootFifoWrite (src : Src) (v : BitVec 64)
  /-- BOOT_STREAM_TIMEOUT (R360). -/
  | bootStreamTimeout
  /-- HOST_CMD_NOP (R329). -/
  | hostCmdNop (src : Src)
  /-- HOST_PAUSE (R24). -/
  | hostPause (src : Src)
  /-- HOST_RESUME (R24). -/
  | hostResume (src : Src)
  /-- HOST_KILL (R381). -/
  | hostKill (src : Src)
  /-- HOST_CMD_RESERVED (R329). Operands: the value written. -/
  | hostCmdReserved (src : Src) (raw : BitVec 64)
  /-- KILL_PURGE_START (R381). -/
  | killPurgeStart
  /-- MCMD_NOP (R78). -/
  | mcmdNop (src : Src) (idx : BitVec 10)
  /-- MCMD_READ (R78). -/
  | mcmdRead (src : Src) (idx : BitVec 10)
  /-- MCMD_WRITE (R79). -/
  | mcmdWrite (src : Src) (idx : BitVec 10)
  /-- MCMD_FREE (R78). -/
  | mcmdFree (src : Src) (idx : BitVec 10)
  /-- MCMD_SET_EMPTY (R78). -/
  | mcmdSetEmpty (src : Src) (idx : BitVec 10)
  /-- MCMD_SET_FULL (R78). -/
  | mcmdSetFull (src : Src) (idx : BitVec 10)
  /-- MCMD_RETIRE (R99). -/
  | mcmdRetire (src : Src) (idx : BitVec 10)
  /-- MCMD_ACK_UE (R92). -/
  | mcmdAckUe (src : Src) (idx : BitVec 10)
  /-- MCMD_CLEAR_POISON (R92). -/
  | mcmdClearPoison (src : Src) (idx : BitVec 10)
  /-- MCMD_RESERVED (R78). Operands: the value written. -/
  | mcmdReserved (src : Src) (raw : BitVec 64)
  /-- RANGE_CLEAR_COMPLETE (R97). Operands: the entry in CLEARING. -/
  | rangeClearComplete (idx : BitVec 10)
  /-- SCRUB_READ (R94). Operands: upset: symbol errors that struck the line before the read. -/
  | scrubRead (bay : Fin 32) (upset : LineErr)
  /-- SCRUB_PASS_COMPLETE (R94). -/
  | scrubPassComplete
  /-- CE_BANK_WRITE (R96). -/
  | ceBankWrite (src : Src) (bank : Fin 512) (v : BitVec 64)
  /-- BS_NOP (R108). -/
  | bsNop (src : Src) (n : BitVec 6)
  /-- BS_VALIDATE (R109). -/
  | bsValidate (src : Src) (n : BitVec 6)
  /-- BS_INVALIDATE (R108). -/
  | bsInvalidate (src : Src) (n : BitVec 6)
  /-- BS_RESERVED (R108). Operands: the value written. -/
  | bsReserved (src : Src) (raw : BitVec 64)
  /-- BRACE_WORD_WRITE (R107). Operands: set n, word w. -/
  | braceWordWrite (src : Src) (n : BitVec 6) (w : BitVec 6) (v : BitVec 64)
  /-- OPERAND_READ (R112). Operands: stream: position in the slot's stream list; parity: a parity error on the bank's output. -/
  | operandRead (slot : Fin 4) (stream : Nat) (upset : LineErr) (parity : Bool)
  /-- INDEX_READ (R120). Operands: stream past the list: the drain index. -/
  | indexRead (slot : Fin 4) (stream : Nat) (upset : LineErr) (parity : Bool)
  /-- GATHER_ENTRY (R119). -/
  | gatherEntry (slot : Fin 4) (stream : GatherTake)
  /-- GATHER_READ (R119). Operands: the gather read accepted. -/
  | gatherRead (id : Nat) (upset : LineErr) (parity : Bool)
  /-- ISSUE_DELIVERY (R127). Operands: bent: position in the slot's bent list. -/
  | issueDelivery (slot : Fin 4) (bent : Nat)
  /-- BRACE_SET_SWITCH (R123). -/
  | braceSetSwitch (slot : Fin 4)
  /-- OPERAND_CREDIT (R137). -/
  | operandCredit (port : Fin 16)
  /-- DRAIN (R136). Operands: Ep_DR_TAG, Ep_DR_DATA, Ep_DR_POISON, a parity error, a framing error. -/
  | drain (port : Fin 16) (tag : BitVec 24) (data : BitVec 4352) (poison parity framing : Bool)
  /-- CAP (R142). -/
  | cap (port : Fin 16) (rec : BitVec 512) (parity : Bool)
  /-- ACK (R143). -/
  | ack (port : Fin 16) (rec : BitVec 512) (parity : Bool)
  /-- ABORT_RECORD_SEND (R147). -/
  | abortRecordSend (port : Fin 16)
  /-- DRAIN_NETWORK_ENTRY (R151). -/
  | drainNetworkEntry (port : Fin 16)
  /-- EP_PRESENT_RISE (R141). -/
  | epPresentRise (port : Fin 16) (chatter : Bool)
  /-- EP_PRESENT_FALL (R146). -/
  | epPresentFall (port : Fin 16) (chatter : Bool)
  /-- EP_FAULT_ASSERT (R145). Operands: edge: the level it takes, and whether it chatters. -/
  | epFaultAssert (port : Fin 16) (edge : FaultEdge)
  /-- TRAINING_TIMEOUT (R143). -/
  | trainingTimeout (port : Fin 16)
  /-- OPERAND_STALL_TIMEOUT (R145). -/
  | operandStallTimeout (port : Fin 16)
  /-- DRAIN_STALL_TIMEOUT (R145). -/
  | drainStallTimeout (port : Fin 16)
  /-- ABORT_ACK_TIMEOUT (R145). -/
  | abortAckTimeout (port : Fin 16)
  /-- PORT_CMD_NOP (R141). -/
  | portCmdNop (src : Src) (port : Fin 16)
  /-- PORT_RETRAIN (R141). -/
  | portRetrain (src : Src) (port : Fin 16)
  /-- PORT_OFFLINE (R149). -/
  | portOffline (src : Src) (port : Fin 16)
  /-- PORT_ONLINE (R141). -/
  | portOnline (src : Src) (port : Fin 16)
  /-- PORT_CMD_RESERVED (R141). Operands: the value written. -/
  | portCmdReserved (src : Src) (raw : BitVec 64)
  /-- PORT_RESET_END (R141). -/
  | portResetEnd (port : Fin 16)
  /-- SINTER_UPDATE_ENQUEUE (R151). Operands: source: 0 to 15 ports, 16 to 19 loop-back of slots 0 to 3, 20 to 23 the sequencer of slots 0 to 3. -/
  | sinterUpdateEnqueue (source : Fin 24)
  /-- SINTER_READ (R152). -/
  | sinterRead (bank : Fin 512) (upset : LineErr)
  /-- SINTER_COMBINE (R155). Operands: parity: a parity error in the queue or combine stage. -/
  | sinterCombine (bank : Fin 512) (parity : Bool)
  /-- SEQUENCER_RELEASE (R166). -/
  | sequencerRelease (slot : Fin 4)
  /-- SINTER_HOT_QUEUE (R168). Operands: run: the BCLK the queue has been full. -/
  | sinterHotQueue (bank : Fin 512) (run : BitVec 32)
  /-- TALLY_FOLD_COMPLETE (R172). -/
  | tallyFoldComplete (i : Fin 4)
  /-- TALLY_NOP (R172). -/
  | tallyNop (src : Src) (i : Fin 4)
  /-- TALLY_CLEAR (R172). -/
  | tallyClear (src : Src) (i : Fin 4)
  /-- TALLY_FOLD (R172). -/
  | tallyFold (src : Src) (i : Fin 4)
  /-- TALLY_CMD_RESERVED (R176). Operands: the value written. -/
  | tallyCmdReserved (src : Src) (raw : BitVec 64)
  /-- SNT_HOT_WRITE (R168). -/
  | sntHotWrite (src : Src) (v : BitVec 64)
  /-- PH_PUSH (R202). -/
  | phPush (rd rs1 : BitVec 5)
  /-- PH_STAT (R202). -/
  | phStat (rd rs1 : BitVec 5)
  /-- TOK_READ (R202). -/
  | tokRead (rd rs1 : BitVec 5)
  /-- PH_ABORT (R202). -/
  | phAbort (rd rs1 : BitVec 5)
  /-- SCH_PUSH (R203). Operands: the value written. -/
  | schPush (src : Src) (raw : BitVec 64)
  /-- RECORD_ADMIT (R192). -/
  | recordAdmit
  /-- ADMISSION_CHECK (R193). -/
  | admissionCheck (slot : Fin 4)
  /-- PHASE_WAITS_SATISFIED (R188). -/
  | phaseWaitsSatisfied (slot : Fin 4)
  /-- PHASE_START (R194). -/
  | phaseStart (slot : Fin 4)
  /-- PHASE_TOKEN_TIMEOUT (R188). -/
  | phaseTokenTimeout (slot : Fin 4)
  /-- INTERIOR_BOUNDARY (R201). -/
  | interiorBoundary (slot : Fin 4)
  /-- PHASE_FINISH (R195). -/
  | phaseFinish (slot : Fin 4)
  /-- PHASE_ABORT_COMPLETE (R196). -/
  | phaseAbortComplete (slot : Fin 4)
  /-- SCH_NOP (R197). -/
  | schNop (src : Src)
  /-- SCH_ABORT (R196). -/
  | schAbort (src : Src) (ticket : BitVec 32)
  /-- SCH_ABORT_SLOT (R196). -/
  | schAbortSlot (src : Src) (slot : Fin 4)
  /-- SCH_FLUSH (R197). -/
  | schFlush (src : Src)
  /-- SCH_QRESUME (R197). -/
  | schQresume (src : Src)
  /-- SCH_CMD_RESERVED (R205). Operands: the value written. -/
  | schCmdReserved (src : Src) (raw : BitVec 64)
  /-- LAY_SUBMIT (R227). Operands: the value written. -/
  | laySubmit (src : Src) (raw : BitVec 64)
  /-- TRANSFER_SLOT_ENTRY (R228). -/
  | transferSlotEntry
  /-- TRANSFER_WAITS_SATISFIED (R228). -/
  | transferWaitsSatisfied (slot : Fin 8)
  /-- TILE_BUFFER_GRANT (R229). -/
  | tileBufferGrant (slot : Fin 8)
  /-- TRANSFER_TOKEN_TIMEOUT (R226). -/
  | transferTokenTimeout (slot : Fin 8)
  /-- TRANSFER_COMPLETE (R226). -/
  | transferComplete (slot : Fin 8)
  /-- TRANSFER_ABORT_COMPLETE (R231). -/
  | transferAbortComplete (slot : Fin 8)
  /-- LAY_NOP (R231). -/
  | layNop (src : Src)
  /-- LAY_ABORT (R231). -/
  | layAbort (src : Src) (ticket : BitVec 32)
  /-- LAY_FLUSH (R231). -/
  | layFlush (src : Src)
  /-- LAY_CMD_RESERVED (R234). Operands: the value written. -/
  | layCmdReserved (src : Src) (raw : BitVec 64)
  /-- MEM_REQUEST_ACCEPT (R236). Operands: tag: the free tag given. -/
  | memRequestAccept (port : Fin 8) (tag : BitVec 13)
  /-- MEM_WRITE_BEAT (R239). Operands: port: with the TCM code errors of a move's bytes. -/
  | memWriteBeat (port : WriteBeat)
  /-- MEM_READ_BEAT (R238). -/
  | memReadBeat (port : Fin 8) (tag : BitVec 13) (data : BitVec 2048) (status : BitVec 2) (last : Bool)
  /-- MEM_WRITE_RESPONSE (R239). -/
  | memWriteResponse (port : Fin 8) (tag : BitVec 13) (status : BitVec 2)
  /-- MEM_TIMEOUT (R241). -/
  | memTimeout (tag : BitVec 13)
  /-- SIDE_PORT_BEAT (R244). Operands: upset: the code errors the beat meets. -/
  | sidePortBeat (bay : Fin 32) (upset : BeatErr)
  /-- STAGING_COMMIT (R70). -/
  | stagingCommit (bay : Fin 32)
  /-- ARBITRATION_DECISION (R246). Operands: pick: which of the winning requester's transfers. -/
  | arbitrationDecision (bay : Fin 32) (pick : Nat)
  /-- PREEMPTION (R247). Operands: the higher requester. -/
  | preemption (bay : Fin 32) (by_ : Fin 8)
  /-- BACKOFF_EXPIRY (R248). -/
  | backoffExpiry (bay : Fin 32) (req : Fin 8)
  /-- DATA (R276). Operands: bad: the beams a payload parity error hit; cut: the packet ends with BAD. -/
  | data (link : Fin 3) (hdr : Hdr) (beams : List (BitVec 4352)) (bad : BitVec 3) (cut : Bool)
  /-- JOIN (R263). Operands: hdr: with a payload parity error or none. -/
  | join (link : Fin 3) (hdr : Arrival) (m : Member)
  /-- PROPOSE (R262). Operands: hdr: with a payload parity error or none. -/
  | propose (link : Fin 3) (hdr : Arrival) (p : Proposal)
  /-- COMMIT (R262). Operands: hdr: with a payload parity error or none. -/
  | commit (link : Fin 3) (hdr : Arrival) (epoch : BitVec 32) (ver : BitVec 4) (table : List Member)
  /-- LEAVE (R265). Operands: hdr: with a payload parity error or none. -/
  | leave (link : Fin 3) (hdr : Arrival) (fid : BitVec 12) (lost : Bool)
  /-- REFUSE (R263). Operands: hdr: with a payload parity error or none. -/
  | refuse (link : Fin 3) (hdr : Arrival) (fid : BitVec 12) (code : BitVec 8)
  /-- NORM_UP (R280). Operands: hdr: with a payload parity error or none. -/
  | normUp (link : Fin 3) (hdr : Arrival) (value : BitVec 64) (invalid : Bool)
  /-- NORM_RESULT (R280). -/
  | normResult
  /-- NORM_DOWN (R280). Operands: hdr: with a payload parity error or none. -/
  | normDown (link : Fin 3) (hdr : Arrival) (value : BitVec 64) (clip : BitVec 32) (invalid : Bool)
  /-- BAR_UP (R281). Operands: hdr: with a payload parity error or none. -/
  | barUp (link : Fin 3) (hdr : Arrival) (barId : BitVec 16)
  /-- BAR_DOWN (R281). Operands: hdr: with a payload parity error or none. -/
  | barDown (link : Fin 3) (hdr : Arrival) (barId : BitVec 16)
  /-- ABORT (R273). Operands: hdr: with a payload parity error or none; status: with the SEQ it names. -/
  | abort (link : Fin 3) (hdr : Arrival) (status : AbortBody)
  /-- DIE_REPORT (R264). Operands: hdr: with a payload parity error or none. -/
  | dieReport (link : Fin 3) (hdr : Arrival) (epoch : BitVec 32) (table : List Member)
  /-- CROWN_COMMIT (R264). Operands: hdr: with a payload parity error or none. -/
  | crownCommit (link : Fin 3) (hdr : Arrival) (epoch : BitVec 32) (ver : BitVec 4) (ridges : List Member)
  /-- TAKE (R313). Operands: hdr: with a payload parity error or none. -/
  | take (link : Fin 3) (hdr : Arrival) (exch amt : BitVec 16)
  /-- TAKEN (R313). Operands: hdr: with a payload parity error or none. -/
  | taken (link : Fin 3) (hdr : Arrival) (exch amt effCap power : BitVec 16)
  /-- GIVE (R313). Operands: hdr: with a payload parity error or none. -/
  | give (link : Fin 3) (hdr : Arrival) (exch amt : BitVec 16)
  /-- GIVEN (R313). Operands: hdr: with a payload parity error or none. -/
  | given (link : Fin 3) (hdr : Arrival) (exch amt effCap power : BitVec 16)
  /-- RESERVED_PACKET (R257). Operands: p: as sampled; bad: the packet ends with BAD. -/
  | reservedPacket (link : Fin 3) (p : RawPacket) (bad : Bool)
  /-- LINK_CREDIT_RETURN (R254). -/
  | linkCreditReturn (link : Fin 3) (control : Bool)
  /-- BYPASS_FORWARD (R259). Operands: the packet whose flits pass. -/
  | bypassForward (link : Fin 3) (hdr : Hdr) (p : Payload)
  /-- JOIN_RETRY (R262). -/
  | joinRetry
  /-- JOIN_COMMIT_TIMEOUT (R260). -/
  | joinCommitTimeout
  /-- EPOCH_PROPOSE (R265). -/
  | epochPropose
  /-- COL_NOP (R272). -/
  | colNop (src : Src)
  /-- COL_SUBMIT (R272). -/
  | colSubmit (src : Src)
  /-- COL_ABORT (R274). -/
  | colAbort (src : Src) (ticket : BitVec 32)
  /-- COL_FLUSH (R274). -/
  | colFlush (src : Src)
  /-- COL_JOIN (R262). -/
  | colJoin (src : Src)
  /-- COL_LEAVE (R266). -/
  | colLeave (src : Src)
  /-- COL_CMD_RESERVED (R283). Operands: the value written. -/
  | colCmdReserved (src : Src) (raw : BitVec 64)
  /-- HIER_CFG_WRITE (R264). -/
  | hierCfgWrite (src : Src) (v : BitVec 64)
  /-- COLLECTIVE_START (R273). -/
  | collectiveStart
  /-- COLLECTIVE_PACKET_SEND (R279). Operands: ccw: the direction that sends; upset: the code errors of a line that is read for it. -/
  | collectivePacketSend (ccw : Bool) (upset : LineErr)
  /-- COLLECTIVE_COMPLETE (R271). -/
  | collectiveComplete
  /-- COLLECTIVE_TOKEN_TIMEOUT (R271). -/
  | collectiveTokenTimeout
  /-- PROGRESS_TIMEOUT (R274). -/
  | progressTimeout
  /-- GOVERNOR_EVALUATION (R288). Operands: act: Ep_ACT of each port summed over each of the 8 sub-periods. -/
  | governorEvaluation (act : List (List Nat))
  /-- PERF_ACK_FALL (R293). -/
  | perfAckFall (chatter : Bool)
  /-- PERF_ACK_RISE (R293). -/
  | perfAckRise (chatter : Bool)
  /-- PERF_ACK_FALL_TIMEOUT (R293). -/
  | perfAckFallTimeout
  /-- PERF_ACK_RISE_TIMEOUT (R293). -/
  | perfAckRiseTimeout
  /-- SENSOR_REFRESH (R303). Operands: the sensors' readings, none for a sensor out of range or failed. -/
  | sensorRefresh (t0 t1 t2 t3 : Option Int)
  /-- THERM_IN_ASSERT (R302). -/
  | thermInAssert (i : Fin 8) (chatter : Bool)
  /-- THERM_IN_RELEASE (R302). -/
  | thermInRelease (i : Fin 8) (chatter : Bool)
  /-- DROOP_ASSERT (R306). -/
  | droopAssert (chatter : Bool)
  /-- DROOP_RELEASE (R307). -/
  | droopRelease (chatter : Bool)
  /-- INPUT_STUCK_TIMEOUT (R311). Operands: 0 to 7 THERM_IN, 8 DROOP_N. -/
  | inputStuckTimeout (which : Fin 9)
  /-- QUENCH_ASSERT (R308). -/
  | quenchAssert (chatter : Bool)
  /-- QUENCH_RELEASE (R310). -/
  | quenchRelease (chatter : Bool)
  /-- QUENCH_LATCH (R308). -/
  | quenchLatch
  /-- INSTANCE_COLD (R304). -/
  | instanceCold
  /-- STAGGER_END (R304). -/
  | staggerEnd
  /-- RAMP_STEP (R304). -/
  | rampStep
  /-- HINT_EXPIRY (R299). -/
  | hintExpiry
  /-- TRIM_EVALUATION (R312). Operands: the path monitors' slacks. -/
  | trimEvaluation (slacks : List (BitVec 6))
  /-- PATH_MONITOR_ZERO (R312). Operands: reading: the monitor, and what it comes to read. -/
  | pathMonitorZero (reading : SlackReading)
  /-- CORE_INSTRUCTION (R317). Operands: TCM code errors: 0 none, 1 corrected, 2 or 3 uncorrectable. -/
  | coreInstruction (upset : BitVec 2)
  /-- CORE_EXCEPTION (R321). -/
  | coreException (cause : BitVec 8) (tval : BitVec 64)
  /-- CORE_INTERRUPT (R321). -/
  | coreInterrupt
  /-- MRET (R321). -/
  | mret
  /-- WFI (R317). -/
  | wfi
  /-- FENCE (R317). -/
  | fence
  /-- REGISTER_PATH_LOAD (R319). -/
  | registerPathLoad (rd rs1 : BitVec 5) (imm : BitVec 12) (rvc : Bool)
  /-- REGISTER_PATH_STORE (R319). -/
  | registerPathStore (rs1 rs2 : BitVec 5) (imm : BitVec 12) (rvc : Bool)
  /-- APERTURE_LOAD (R320). -/
  | apertureLoad (rd rs1 : BitVec 5) (imm : BitVec 12) (rvc : Bool) (tag : BitVec 13)
  /-- APERTURE_STORE (R320). -/
  | apertureStore (rs1 rs2 : BitVec 5) (imm : BitVec 12) (rvc : Bool) (tag : BitVec 13)
  /-- WATCHDOG_EXPIRY (R322). -/
  | watchdogExpiry
  /-- WDOG_KICK (R322). -/
  | wdogKick (src : Src) (v : BitVec 64)
  /-- MOVE_TCM_TO_TRF (R324). Operands: MOVE_CMD. -/
  | moveTcmToTrf (src : Src) (raw : BitVec 64)
  /-- MOVE_TRF_TO_TCM (R324). Operands: MOVE_CMD. -/
  | moveTrfToTcm (src : Src) (raw : BitVec 64)
  /-- MOVE_MEM_TO_TCM (R324). Operands: MOVE_CMD. -/
  | moveMemToTcm (src : Src) (raw : BitVec 64)
  /-- MOVE_TCM_TO_MEM (R324). Operands: MOVE_CMD. -/
  | moveTcmToMem (src : Src) (raw : BitVec 64)
  /-- MOVE_COMPLETE (R324). -/
  | moveComplete
  /-- HOST_CLAIM (R327). -/
  | hostClaim (src : Src)
  /-- HOST_RELEASE (R327). -/
  | hostRelease (src : Src)
  /-- REGISTER_WRITE (R15). Operands: off: byte offset in the register map; v: the value written, or none where HP_REQ_WRITE is low, a read. -/
  | registerWrite (src : Src) (off : BitVec 24) (v : Option (BitVec 64))
  /-- SHADOW_REGISTER_WRITE (R365). -/
  | shadowRegisterWrite (src : Src) (off : BitVec 24) (v : BitVec 64)
  /-- RING_CONFIG_WRITE (R330). -/
  | ringConfigWrite (src : Src) (r : Fin 4) (v : BitVec 64)
  /-- DOORBELL (R330). -/
  | doorbell (src : Src) (r : Fin 4) (v : BitVec 64)
  /-- WO_RECORDS (R332). Operands: the fetched work order and its objects; poison: a fetch returned ERROR or POISON. -/
  | woRecords (ring : Fin 4) (wo : BitVec 512) (objs : List (BitVec 2048)) (poison : Bool)
  /-- WO_DESCS (R332). -/
  | woDescs (ring : Fin 4) (wo : BitVec 512) (objs : List (BitVec 1024)) (poison : Bool)
  /-- WO_COLLECTIVES (R332). -/
  | woCollectives (ring : Fin 4) (wo : BitVec 512) (objs : List (BitVec 512)) (poison : Bool)
  /-- WO_FENCE (R332). -/
  | woFence (ring : Fin 4) (wo : BitVec 512)
  /-- WO_NOP (R332). -/
  | woNop (ring : Fin 4) (wo : BitVec 512)
  /-- WO_REFUSED (R332). Operands: status: that of the fetch, 0 OK, 1 POISON, else ERROR. -/
  | woRefused (ring : Fin 4) (wo : BitVec 512) (status : BitVec 2)
  /-- WO_COMPLETION (R333). Operands: the response of the completion write. -/
  | woCompletion (ok : Bool)
  /-- SET_ADDR (R336). Operands: pec: none without PEC, else whether it is right. -/
  | setAddr (addr : BlockWrite 24) (pec : Option Bool)
  /-- WRITE64 (R337). -/
  | write64 (v : BlockWrite 64) (pec : Option Bool)
  /-- READ64 (R337). Operands: pec: the controller clocks the PEC byte. -/
  | read64 (pec : Bool)
  /-- STATUS (R337). -/
  | status (pec : Bool)
  /-- MBOX_PUT (R340). -/
  | mboxPut (bytes : List (BitVec 8)) (pec : Option Bool)
  /-- MBOX_GET (R340). Operands: ends: with a PEC byte or none, with a STOP or a repeated START. -/
  | mboxGet (ends : ReadEnd)
  /-- VENT_RESERVED_COMMAND (R335). -/
  | ventReservedCommand (call : VentCall)
  /-- ALERT_RESPONSE (R339). -/
  | alertResponse (wins : Bool)
  /-- SMBUS_CLOCK_LOW_TIMEOUT (R335). -/
  | smbusClockLowTimeout
  /-- IN_DONE (R340). -/
  | inDone (src : Src)
  /-- OUT_POST (R340). -/
  | outPost (src : Src) (len : BitVec 6)
  /-- CFG_NOP (R363). -/
  | cfgNop (src : Src)
  /-- RAISE (R363). -/
  | raise (src : Src)
  /-- FORCE (R363). -/
  | force (src : Src)
  /-- CANCEL (R363). -/
  | cancel (src : Src)
  /-- SYNC (R363). -/
  | sync (src : Src)
  /-- CFG_RAISE_RESERVED (R363). Operands: the value written. -/
  | cfgRaiseReserved (src : Src) (raw : BitVec 64)
  /-- RAISE_APPLY (R364). -/
  | raiseApply
  /-- ERR_NOP (R369). -/
  | errNop (src : Src)
  /-- POP (R369). -/
  | pop (src : Src)
  /-- CLEAR (R369). -/
  | clear (src : Src)
  /-- ERR_CMD_RESERVED (R369). Operands: the value written. -/
  | errCmdReserved (src : Src) (raw : BitVec 64)
  /-- DBG_NOP (R384). -/
  | dbgNop (src : Src)
  /-- DATA_READ (R384). -/
  | dataRead (src : Src) (mort : BitVec 10) (ofs : BitVec 20)
  /-- RAW (R384). -/
  | raw (src : Src) (beam : BitVec 20)
  /-- DBG_CMD_RESERVED (R384). Operands: the value written. -/
  | dbgCmdReserved (src : Src) (raw : BitVec 64)
  /-- DEBUG_READ_COMPLETE (R384). -/
  | debugReadComplete (upset : LineErr)
  /-- DFT_MODE_ASSERT (R407). -/
  | dftModeAssert
  /-- DFT_MODE_DEASSERT (R407). -/
  | dftModeDeassert
  /-- BOND_TEST (R406). -/
  | bondTest (iface : BitVec 8) (sense : List (BitVec 8))
  /-- MBIST_RUN (R406). Operands: what the march test found. -/
  | mbistRun (sel : TestSel) (fails : List (BitVec 9 × BitVec 8 × BitVec 11 × BitVec 16))
  /-- MBIST_RESULT (R406). -/
  | mbistResult
  /-- MTA_READ (R407). -/
  | mtaRead (beam : BitVec 20)
  /-- MON_READ (R406). -/
  | monRead
  /-- PWR_TEST (R406). -/
  | pwrTest (result : List (BitVec 16))
  /-- BYPASS (R406). Operands: op: the code, the level of TRST_N, the bits shifted in. -/
  | tapBypass (op : BypassOp)
  /-- ROOTCLK_STOP (R343). -/
  | rootclkStop
  /-- RAIL_FALL_BEFORE_PWROK (R348). -/
  | railFallBeforePwrok
  /-- RESERVED_DRAIN_KIND (R145). -/
  | reservedDrainKind (port : Fin 16)
  /-- BUDGET_RESERVED_SUB (R314). Operands: hdr: with a payload parity error or none. -/
  | budgetReservedSub (link : Fin 3) (hdr : Arrival) (sub : BitVec 8)
  /-- PROPOSAL_UNANSWERED (R255). -/
  | proposalUnanswered
  deriving DecidableEq, Repr

end Sys2Proof
end

