-- ==== Sys2Proof/Decode.lean ====
section
/-!
DEFINITION. Decode.lean: the command a word of the table's bits spells. No row of the table gives bits: the commands
are register accesses, packets and events on pins, and they come to the block in its queue (assumption 38).
-/
namespace Sys2Proof

/-- The command that the low nbits bits of w spell: none, as the table gives no row bits (assumption 38). -/
def decodeTableWord (_nbits _w : Nat) : Option Instr := none

end Sys2Proof
end

