-- ==== Sys2Proof/Machine/Bits.lean ====
section
/-!
DEFINITION. Bits.lean: little-endian bytes and words (R10), saturating counts and the small list helpers the units
share.
-/
namespace Sys2Proof.Machine

/-- The bytes of a list as one number, the first byte lowest (R10). -/
def leNat : List Byte → Nat
  | [] => 0
  | b :: bs => b.toNat + 256 * leNat bs

/-- n bytes of a number, the lowest first (R10). -/
def leBytes : Nat → Nat → List Byte
  | 0, _ => []
  | n + 1, x => BitVec.ofNat 8 x :: leBytes n (x / 256)

/-- Bytes off to off + n - 1 of a record, as a number (R10). -/
def byteField {w : Nat} (x : BitVec w) (off n : Nat) : Nat := (x.extractLsb' (8 * off) (8 * n)).toNat

/-- Word i of 64 bits of a record. -/
def wordOf {w : Nat} (x : BitVec w) (i : Nat) : W64 := x.extractLsb' (64 * i) 64

/-- A record with bits [lo + w - 1 : lo] replaced. -/
def setField {n w : Nat} (x : BitVec n) (lo : Nat) (v : BitVec w) : BitVec n :=
  (x &&& ~~~((BitVec.allOnes w).setWidth n <<< lo)) ||| (v.setWidth n <<< lo)

/-- A record with word i of 64 bits replaced. -/
def setWord {w : Nat} (x : BitVec w) (i : Nat) (v : W64) : BitVec w := setField x (64 * i) v

/-- The bit that makes the number of ones of a word even with it. -/
def evenParity {w : Nat} (x : BitVec w) : Bool :=
  bitAt ([512, 256, 128, 64, 32, 16, 8, 4, 2, 1].foldl (fun y k => y ^^^ (y >>> k)) x) 0

/-- The parity bits of a beam on a channel of a port: bit g of each half-beam over its bytes 68g to 68g + 67, those of
half-beam 1 in bits [7:4] (R125). -/
def beamParity (b : Beam) : BitVec 8 :=
  (List.range 8).foldl (fun m g => if evenParity (b.extractLsb' (544 * g) 544) then m ||| ((1 : BitVec 8) <<< g) else m) 0

/-- Adds n to a count that saturates. -/
def satAdd {w : Nat} (x : BitVec w) (n : Nat) : BitVec w :=
  if x.toNat + n < 2 ^ w then BitVec.ofNat w (x.toNat + n) else BitVec.allOnes w

/-- A number as a word that saturates. -/
def satNat (w n : Nat) : BitVec w := if n < 2 ^ w then BitVec.ofNat w n else BitVec.allOnes w

/-- The number of true entries of a list. -/
def countTrue {α : Type} (l : List α) (p : α → Bool) : Nat := (l.filter p).length

/-- Element i of a vector replaced. -/
def vset {α : Type} {n : Nat} (v : Vector α n) (i : Fin n) (x : α) : Vector α n := v.set i.val x i.isLt

/-- Element i of a vector changed by f. -/
def vmod {α : Type} {n : Nat} (v : Vector α n) (i : Fin n) (f : α → α) : Vector α n := vset v i (f v[i])

/-- A list with its element i changed by f. -/
def lmod {α : Type} (l : List α) (i : Nat) (f : α → α) : List α :=
  l.zipIdx.map fun p => if p.2 = i then f p.1 else p.1

/-- A list with element a added if it is not there. -/
def insertNew {α : Type} [DecidableEq α] (l : List α) (a : α) : List α := if l.contains a then l else l ++ [a]

/-- Folds f over 0 to n - 1. -/
def foldUpTo {σ : Type} (n : Nat) (f : Nat → σ → σ) (s : σ) : σ := (List.range n).foldl (fun s i => f i s) s

/-- Folds f over a list, the state last. -/
def foldOver {α σ : Type} (l : List α) (f : α → σ → σ) (s : σ) : σ := l.foldl (fun s a => f a s) s

/-- The least element of a list by a key, the first among equals. -/
def leastBy {α : Type} (l : List α) (key : α → Nat) : Option α :=
  l.foldl (fun b a => match b with | none => some a | some c => if key a < key c then some a else some c) none

/-- Inserts a in a list sorted by `before`, after its equals. -/
def sortInsert {α : Type} (before : α → α → Bool) (a : α) : List α → List α
  | [] => [a]
  | b :: l => if before a b then a :: b :: l else b :: sortInsert before a l

/-- Stable insertion sort. -/
def sortBy {α : Type} (before : α → α → Bool) (l : List α) : List α := l.foldl (fun acc a => sortInsert before a acc) []

end Sys2Proof.Machine
end

