-- ==== Sys2Proof/Machine/SMap.lean ====
section
/-!
DEFINITION. SMap.lean: the sparse tables State uses for its memories and register arrays. Keys rise strictly and no
listed value equals what an unlisted key reads as, so that equal tables are equal data.
-/
namespace Sys2Proof

/-- What key k reads as, d where it is not listed. -/
def SMap.get {α : Type} (d : α) : SMap α → Nat → α
  | [], _ => d
  | (k, v) :: m, i => if k = i then v else SMap.get d m i

/-- Takes key i out of the table. -/
def SMap.erase {α : Type} (m : SMap α) (i : Nat) : SMap α := m.filter fun p => p.1 != i

/-- Lists key i with value v. -/
def SMap.put {α : Type} : SMap α → Nat → α → SMap α
  | [], i, v => [(i, v)]
  | (k, w) :: m, i, v =>
    if k = i then (i, v) :: m else if i < k then (i, v) :: (k, w) :: m else (k, w) :: SMap.put m i v

/-- Writes v at key i: a value equal to d leaves the table without the key. -/
def SMap.set {α : Type} [DecidableEq α] (d : α) (m : SMap α) (i : Nat) (v : α) : SMap α :=
  if v = d then m.erase i else m.put i v

/-- Changes the value at key i. -/
def SMap.modify {α : Type} [DecidableEq α] (d : α) (m : SMap α) (i : Nat) (f : α → α) : SMap α :=
  m.set d i (f (m.get d i))

/-- Takes the keys lo to lo + n - 1 out of the table. -/
def SMap.eraseRange {α : Type} (m : SMap α) (lo n : Nat) : SMap α :=
  m.filter fun p => !(lo ≤ p.1 && p.1 < lo + n)

/-- The keys of a table are all above b and rise strictly, and no value is d. -/
def SMap.wfFrom {α : Type} [DecidableEq α] (d : α) : Nat → SMap α → Bool
  | _, [] => true
  | b, (k, v) :: m => decide (b ≤ k) && decide (v ≠ d) && SMap.wfFrom d (k + 1) m

/-- The canonical form. -/
def SMap.wf {α : Type} [DecidableEq α] (d : α) (m : SMap α) : Bool := m.wfFrom d 0

end Sys2Proof
end

