-- ==== Sys2Proof/Config.lean ====
section
/-!
DEFINITION. Config.lean: what the spec leaves open. Each constant here has no body, so that no proof can use a value
of it.
-/
namespace Sys2Proof

/-- The outputs of the macro, by interface (R398). -/
inductive OutPin where
  | irq | host | spi | smbus | perf | tdo
  | memReq (port : Fin 8) | memData (port : Fin 8)
  | engReset (port : Fin 16) | engOps (port : Fin 16)
  | ring (link : Fin 3)
  deriving DecidableEq, Repr

end Sys2Proof

namespace Sys2Proof.Config

/-- The free value number k, w bits wide: what PERF_REQ and SMBALERT_N drive without VAON (R395), what a TRF line holds
before a purge has defined it (R98), and what assumption 7 lists beside these. -/
opaque freeBits (k w : Nat) : BitVec w

/-- What an output of w bits drives at BCLK t while the spec says that it may take any level, from the event with free
value number k on (R348, R395). Assumption 8. -/
opaque pinBits (k t : Nat) (pin : OutPin) (w : Nat) : BitVec w

/-- What lies behind the 60th binary place of 2 to the power x, in units of that place, for x strictly between 0 and 1
(R285): the spec states no rounding of this irrational number. Assumption 11. -/
opaque pow2Frac (x : Rat) : Rat

/-- The static-current factor at t degrees over 85 while TDBL is 0 (R285): a division the spec states no result of.
Assumption 11. -/
opaque doublingOpen (t : Int) : Rat

/-- The voltage factor at a voltage in mV while the nominal voltage is 0 (R285): a division the spec states no result
of. Assumption 11. -/
opaque nominalOpen (mv : Int) : Rat

/-- A limiter's value after a decrease with I equal to s (R287): a division of zero by zero. Assumption 11. -/
opaque limiterOpen (g : Nat) : Nat

/-- The 112 payload bytes of a control packet other than LEAVE, JOIN, REFUSE, BAR_UP, BAR_DOWN and BUDGET: the spec names
what each kind carries and places no bit of it (R256). Assumption 24. -/
opaque ctlBytes (p : Payload) : BitVec 896

end Sys2Proof.Config
end

