-- ==== Sys2Proof/Machine/State.lean ====
section
/-!
DEFINITION. State.lean: everything the spec gives the block to hold, as plain data, and its values at reset.
-/
namespace Sys2Proof.Machine

/-- Why a step can stop. No command of the table stops: each has an effect in every state, a command whose condition
does not hold leaving the state as it is (assumption 3). -/
inductive Fault where
  /-- No command raises it; the interface asks for a type. Safe. -/
  | none
  deriving DecidableEq, Repr

/-- Why a command can be refused by the model. -/
inductive Refusal where
  /-- The command has no meaning yet; raised by the dispatch alone, for a command not modelled. Safe. -/
  | notModelled (mnemonic : String)
  deriving DecidableEq, Repr

/-- The block states and their codes (R22). -/
inductive BlkState where
  | off | reset | boot | ready | run | pause | ember | fault | purge
  deriving DecidableEq, Repr

/-- The state of a mortise entry (R77). -/
inductive MortState where
  | invalid | empty | full | clearing | retired
  deriving DecidableEq, Repr

/-- The state of an engine port (R141). -/
inductive PortState where
  | absent | reset | training | agreed | failed | offline
  deriving DecidableEq, Repr

/-- The state of a phase slot (SCH_SLOT). -/
inductive SlotState where
  | free | check | wait | hold | issue | bound | drain | fold | abort
  deriving DecidableEq, Repr

/-- The state of a transfer slot (LAY_SLOT). -/
inductive LState where
  | free | wait | buffer | move | held | abort
  deriving DecidableEq, Repr

/-- The side of a stream (R102): A, B, or loop-back (R121). -/
inductive Side where
  | a | b | loop
  deriving DecidableEq, Repr

/-- The stored beam of a queued update (R152, R153): not yet read, taken from the predecessor's result, not needed,
held with the mark that its read was uncorrectable, or an uncorrectable beam taken from a predecessor (R160). -/
inductive Stored where
  | wait
  | forward
  | unneeded
  | lost
  | got (beam : Beam) (ue : Bool)
  deriving DecidableEq, Repr

/-- Who issued a memory request (R236, R320, R324). -/
inductive MemClient where
  | transfer (slot : Fin 8)
  | load
  | store
  | move
  | core
  deriving DecidableEq, Repr

/-- Whose beams a side-port transfer moves (R243). -/
inductive Client where
  | transfer (slot : Fin 8)
  | collective
  | colOut
  | move
  | scrub
  | clear (idx : BitVec 10)
  | debug
  deriving DecidableEq, Repr

/-- The role of the member (COL_STATUS.ROLE). -/
inductive Role where
  | none | rafter | ridge | crown
  deriving DecidableEq, Repr

/-- What the boot sequencer is doing (R351). -/
inductive BootPhase where
  | idle | discovery | retry | headers | table | load | undo | done | failed
  deriving DecidableEq, Repr

/-- The quench latch (GOV_QUENCH.STATE). -/
inductive QState where
  | clear | ramp | latched
  deriving DecidableEq, Repr

/-- CORE_STATUS.RUN (R321). -/
inductive CoreRun where
  | halted | running | wfi
  deriving DecidableEq, Repr

/-- What drives the main-domain outputs: the units, the isolation cells, which hold them low (R403), or nothing that the
spec defines, with VAON gone beside a rail or a rail out of its range while PWROK_MAIN is high (R348, R395); the free
value's number beside it. -/
inductive Drive where
  | normal
  | held
  | free (k : Nat)
  deriving DecidableEq, Repr

/-- One entry of the mortise table (R77): its registered words and its token and poison state. -/
structure Mortise where
  /-- first logical beam index (03 R77). -/
  base : BitVec 20 := 0
  /-- number of beams (03 R77). -/
  len : BitVec 21 := 0
  /-- format code (03 R77). -/
  fmt : BitVec 4 := 0
  /-- layout code (03 R77). -/
  layout : BitVec 3 := 0
  /-- index of the twin partner (03 R77). -/
  twin : BitVec 10 := 0
  /-- the entry is one half of a twin (03 R77). -/
  twinV : Bool := false
  /-- range cleared whenever the entry enters EMPTY (03 R77). -/
  clear : Bool := false
  /-- producer signals per EMPTY period (03 R77). -/
  pcount : BitVec 8 := 0
  /-- consumer releases per FULL period (03 R77). -/
  ccount : BitVec 8 := 0
  /-- producer signals still needed (03 R77). -/
  pleft : BitVec 8 := 0
  /-- consumer releases still needed (03 R77). -/
  cleft : BitVec 8 := 0
  /-- STATE (03 R77). -/
  st : MortState := .invalid
  /-- contents known to be wrong (03 R77 R90). -/
  poison : Bool := false
  /-- an unacknowledged uncorrectable error (03 R77 R92). -/
  uePend : Bool := false
  /-- offset of that error's beam in this entry (03 R77 R92). -/
  ueOffset : BitVec 20 := 0
  /-- serial number of the log entry written when POISON was last set (14 R371). -/
  poisonSeq : Option (BitVec 32) := none
  deriving DecidableEq, Repr

/-- One entry of the error log (R369). -/
structure LogEntry where
  /-- error code (14 R369). -/
  code : BitVec 8 := 0
  /-- class (14 R368). -/
  cls : BitVec 4 := 0
  /-- NESTED (14 R375). -/
  nested : Bool := false
  /-- MORTISE is meaningful (14 R369). -/
  mortV : Bool := false
  /-- unit, the code's range in the top four bits (14 R370). -/
  unit : BitVec 16 := 0
  /-- phase ID concerned (14 R369). -/
  phaseId : BitVec 8 := 0
  /-- PHASE_ID is meaningful (14 R369). -/
  pidV : Bool := false
  /-- mortise entry (14 R369). -/
  mortise : BitVec 10 := 0
  /-- BCLK stamp of the first occurrence (14 R369). -/
  stamp : BitVec 64 := 0
  /-- LOCATION (14 R370). -/
  loc : BitVec 64 := 0
  /-- occurrences, from 1 (14 R371). -/
  rep : BitVec 32 := 1
  /-- serial number (14 R372). -/
  seq : BitVec 32 := 0
  deriving DecidableEq, Repr

/-- A code raised by a unit, on its way to the log (R371). -/
structure Report where
  /-- error code (14 R371). -/
  code : BitVec 8 := 0
  /-- unit number within the code's range (14 R370). -/
  unit : BitVec 12 := 0
  /-- mortise entry concerned (14 R369). -/
  mort : Option (BitVec 10) := none
  /-- phase ID concerned (14 R369). -/
  pid : Option (BitVec 8) := none
  /-- LOCATION (14 R370). -/
  loc : BitVec 64 := 0
  /-- its unit reports it as nested (14 R375). -/
  nested : Bool := false
  /-- code 0x0E that set POISON (14 R371). -/
  setsPoison : Bool := false
  /-- a dropped write of this source: 0 firmware, 1 host, 2 vent (12 R328). -/
  drop : Option (Fin 3) := none
  deriving DecidableEq, Repr

/-- The error log (R369 to R375). -/
structure Log where
  /-- entries, oldest first (14 R369). -/
  entries : List LogEntry := []
  /-- ERR_STATUS.SEQ (14 R372). -/
  seq : BitVec 32 := 0
  /-- ERR_COUNT.MASKED (14 R373). -/
  masked : BitVec 32 := 0
  /-- ERR_COUNT.DISCARDED (14 R372). -/
  discarded : BitVec 32 := 0
  /-- SEQ of the entry that the dropped writes of each source add to (12 R328). -/
  drops : Vector (Option (BitVec 32)) 3 := Vector.replicate 3 none
  /-- codes raised in the BCLK of this step and not yet written; empty between steps (14 R372). -/
  raised : List Report := []
  deriving DecidableEq, Repr

/-- One copy of the configuration set (R362). -/
structure CfgSet where
  /-- SCRUB_CFG (03 R94; 13 R362). -/
  scrub : BitVec 64 := 0
  /-- WIN[n][w], key 4n + w (08 R224; 13 R362). -/
  win : SMap (BitVec 64) := []
  /-- ARB_CFG[b] (09 R245; 13 R362). -/
  arb : SMap (BitVec 64) := []
  /-- GOV_LIM[r] (11 R286; 13 R362). -/
  govLim : SMap (BitVec 64) := []
  /-- GOV_CAP (11 R295; 13 R362). -/
  govCap : BitVec 64 := 0
  /-- GOV_RAMP (11 R304; 13 R362). -/
  govRamp : BitVec 64 := 0
  /-- GOV_FLOOR (11 R290; 13 R362). -/
  govFloor : BitVec 64 := 0
  /-- GOV_OPT[n][w], key 2n + w (11 R291; 13 R362). -/
  govOpt : SMap (BitVec 64) := []
  /-- ERR_MASK[k] (14 R373; 13 R362). -/
  errMask : SMap (BitVec 64) := []
  deriving DecidableEq, Repr

/-- The two copies of the configuration set and the raise (R362 to R366). -/
structure Cfg where
  /-- shadow copy (13 R362). -/
  shadow : CfgSet := {}
  /-- active copy (13 R362). -/
  active : CfgSet := {}
  /-- CFG_STATUS.PENDING (13 R363). -/
  pending : Bool := false
  /-- CFG_STATUS.FORCED (13 R363). -/
  forced : Bool := false
  /-- CFG_STATUS.RAISES (13 R364). -/
  raises : BitVec 32 := 0
  /-- CFG_STATUS.CODE (13 R363). -/
  code : BitVec 8 := 0
  /-- CFG_STATUS.LOST (13 R363). -/
  lost : Bool := false
  /-- CFG_STATUS.BUSY (13 R363). -/
  busy : Bool := false
  /-- CFG_LAST.WAIT (13 R364). -/
  lastWait : BitVec 32 := 0
  /-- CFG_STAMP (13 R364). -/
  stamp : BitVec 64 := 0
  /-- BCLK stamp of the pending raise's command (13 R364). -/
  cmdAt : BitVec 64 := 0
  deriving DecidableEq, Repr

/-- The tile register file: banks, mortise table, scrub, purge (R63 to R100). -/
structure Trf where
  /-- beam contents by logical index; an unlisted beam is a zero beam (03 R63 R64). Reset DESIGN CHOICE, assumption 10. -/
  beams : SMap Beam := []
  /-- symbol errors standing in stored lines (03 R73 R75). -/
  errs : SMap LineErr := []
  /-- contents not defined since power was lost; a purge defines them (13 R346; 03 R98). Reset DEDUCED, assumption 10. -/
  lost : Bool := true
  /-- the mortise table (03 R77). -/
  mort : SMap Mortise := []
  /-- MCMD_W0 (03 R77). -/
  w0 : BitVec 64 := 0
  /-- MCMD_W1 (03 R77). -/
  w1 : BitVec 64 := 0
  /-- MCMD_STATUS.REFS (03 R80). -/
  refs : BitVec 12 := 0
  /-- MCMD_STATUS.CODE (03 R78). -/
  code : BitVec 8 := 0
  /-- MCMD_STATUS.LOST (03 R81). -/
  mlost : Bool := false
  /-- MCMD_STATUS.BUSY (03 R81). -/
  mbusy : Bool := false
  /-- CE_THRESH (03 R96). -/
  ceThresh : BitVec 32 := 0x100
  /-- ECC_TOTALS.CE_TOTAL (03 R74). -/
  ceTotal : BitVec 32 := 0
  /-- ECC_TOTALS.UE_TOTAL (03 R74). -/
  ueTotal : BitVec 32 := 0
  /-- TOK_TIMEOUT (03 R86). -/
  tokTimeout : BitVec 32 := 0x001B7740
  /-- UE_LAST (03 R90 (UE_LAST)). -/
  ueLast : BitVec 64 := 0
  /-- CE_BANK[n].COUNT (03 R96). -/
  ceBank : SMap (BitVec 32) := []
  /-- CE_BANK[n].LAST_SYM, unlisted 0xFF (03 R74). -/
  lastSym : SMap (BitVec 8) := []
  /-- code 0x01 logged and not rearmed (03 R96). -/
  ceLogged : SMap Bool := []
  /-- next line of each bay in the pass (03 R94). -/
  scrubPos : SMap Nat := []
  /-- SCRUB_STATUS.PASSES (03 R94). -/
  passes : BitVec 32 := 0
  /-- SCRUB_STATUS.LAST_PASS (03 R94). -/
  lastPass : BitVec 32 := 0
  /-- stamp at which the pass began (03 R94). -/
  passStart : BitVec 64 := 0
  /-- lines of a bank at which the pass corrected a symbol, key 140 x bank + symbol (03 R96). -/
  symHits : SMap Nat := []
  /-- next offset of each bay that a range clear of an entry has to write, key 32 x entry + bay (03 R97). -/
  clearAt : SMap Nat := []
  /-- PURGE_STATUS.BUSY (03 R98). -/
  purging : Bool := false
  /-- stamp at which the purge began (03 R98). -/
  purgeStart : BitVec 64 := 0
  /-- PURGE_STATUS.LAST_BCLK (03 R98). -/
  purgeLast : BitVec 32 := 0
  /-- PURGE_STATUS.FAILS (03 R98). -/
  purgeFails : BitVec 8 := 0
  /-- PURGE_STATUS.VERIFY_FAIL (03 R98). -/
  verifyFail : Bool := false
  deriving DecidableEq, Repr

/-- One outstanding gather read of the gather window (R119). -/
structure GRead where
  /-- number of the read (04 R119). -/
  id : Nat := 0
  /-- logical beam read (04 R119). -/
  beam : BitVec 20 := 0
  /-- gather source mortise (04 R118). -/
  mort : BitVec 10 := 0
  /-- phase whose entry started it (04 R119). -/
  ticket : BitVec 32 := 0
  /-- accepted at its bank (04 R119). -/
  done : Bool := false
  /-- beam read (04 R119). -/
  data : BitVec 4352 := 0
  /-- the read carries poison (04 R117). -/
  poison : Bool := false
  deriving DecidableEq, Repr

/-- The active route of a port side pair (R123, TRUSS_ROUTE). -/
structure Route where
  /-- a phase holds the port (04 R123). -/
  active : Bool := false
  /-- phase slot (04 R123). -/
  slot : BitVec 2 := 0
  /-- bent ID (04 R103). -/
  bent : BitVec 5 := 0
  /-- brace set (04 R123). -/
  brace : BitVec 6 := 0
  deriving DecidableEq, Repr

/-- The operand truss: brace sets, gather window, routes (R101 to R124). -/
structure Truss where
  /-- brace-set words, key 64n + w (04 R106). -/
  words : SMap (BitVec 64) := []
  /-- BS_VALID (04 R107). -/
  valid : BitVec 64 := 0
  /-- BS_STATUS.CODE (04 R108). -/
  code : BitVec 8 := 0
  /-- BS_STATUS.REFS (04 R108). -/
  refs : BitVec 8 := 0
  /-- BS_STATUS.LOST (04 R108). -/
  lost : Bool := false
  /-- BS_STATUS.BUSY (04 R108). -/
  busy : Bool := false
  /-- TRUSS_COUNT[n] (04 R113 R116 R119). -/
  count : SMap (BitVec 64) := []
  /-- the gather window (04 R119). -/
  reads : List GRead := []
  /-- number of the next gather read (the model's own) (04 R119). Reset DESIGN CHOICE, assumption 17. -/
  nextId : Nat := 0
  /-- TRUSS_ROUTE[p] (04 R123). -/
  route : SMap Route := []
  /-- LOOP_ROUTE (04 R121). -/
  loopRoute : Route := {}
  deriving DecidableEq, Repr

/-- A tile that a port has begun to issue and whose drain is not yet fully accepted (R129, R133, R134). -/
structure Tile where
  /-- tile sequence number of the port (05 R134). -/
  seq : Nat := 0
  /-- phase that issued it (05 R135). -/
  ticket : BitVec 32 := 0
  /-- its phase slot (05 R135). -/
  slot : Fin 4 := 0
  /-- tile number within its port's tiles of the phase (07 R186). -/
  j : Nat := 0
  /-- engine accumulator (05 R134). -/
  acc : Nat := 0
  /-- drain format (05 R126). -/
  dfmt : BitVec 4 := 0
  /-- drain orientation (05 R126). -/
  dmode : BitVec 2 := 0
  /-- step of its LAST issue (07 R183). -/
  lastStep : Nat := 0
  /-- LAST has been delivered (05 R129). -/
  issued : Bool := false
  /-- drain beams accepted (05 R133). -/
  got : List Nat := []
  /-- its accumulator is free although beams are still to come: an ABORT of an earlier phase was acknowledged (05 R147). -/
  freed : Bool := false
  deriving DecidableEq, Repr

/-- A drain beam accepted at a port (R136). -/
structure DrainBeam where
  /-- phase that issued its tile (05 R135). -/
  ticket : BitVec 32 := 0
  /-- its phase slot (05 R135). -/
  slot : Fin 4 := 0
  /-- tile number in the phase (07 R186). -/
  j : Nat := 0
  /-- step of the tile's LAST issue (07 R183). -/
  step : Nat := 0
  /-- false ROW, true COL (05 R126). -/
  orient : Bool := false
  /-- beam tag (05 R126). -/
  tag : Nat := 0
  /-- format code (05 R126). -/
  fmt : BitVec 4 := 0
  /-- beam (05 R136). -/
  data : BitVec 4352 := 0
  /-- carries poison (05 R140). -/
  poison : Bool := false
  deriving DecidableEq, Repr

/-- A record on a port's operand channel (R125, R126, R128). -/
structure OpRec where
  /-- 0 ISSUE, 1 AGREE, 2 ABORT (05 R125). -/
  kind : BitVec 2 := 0
  /-- A beam, or the record (05 R125). -/
  a : BitVec 4352 := 0
  /-- B beam (05 R125). -/
  b : BitVec 4352 := 0
  /-- Ep_OP_A_PAR (05 R125). -/
  apar : BitVec 8 := 0
  /-- Ep_OP_B_PAR (05 R125). -/
  bpar : BitVec 8 := 0
  /-- A format (05 R125). -/
  afmt : BitVec 4 := 0
  /-- B format (05 R125). -/
  bfmt : BitVec 4 := 0
  /-- A poison (05 R140). -/
  aPoison : Bool := false
  /-- B poison (05 R140). -/
  bPoison : Bool := false
  /-- A scale (05 R131). -/
  ascale : BitVec 32 := 0
  /-- B scale (05 R131). -/
  bscale : BitVec 32 := 0
  /-- Ep_OP_CTL (05 R126). -/
  ctl : BitVec 24 := 0
  deriving DecidableEq, Repr

/-- One engine port (R125 to R150). -/
structure Port where
  /-- PORT_STATUS.STATE (05 R141). -/
  st : PortState := .reset
  /-- AGREED_VER (05 R143). -/
  ver : BitVec 4 := 0
  /-- ENG_MAX_VER (05 R142). -/
  engMax : BitVec 4 := 0
  /-- filtered Ep_PRESENT (05 R141). -/
  present : Bool := false
  /-- filtered Ep_FAULT_N (05 R145). Reset DESIGN CHOICE, assumption 6. -/
  faultN : Bool := true
  /-- PORT_CAP record (05 R142). -/
  cap : BitVec 512 := 0
  /-- LAST_CODE (05 R150). -/
  lastCode : BitVec 8 := 0
  /-- operand credits held (05 R137). -/
  opCred : Nat := 0
  /-- drain credits the engine holds (05 R138). -/
  drCred : Nat := 0
  /-- drain buffer (05 R138). -/
  buf : List DrainBeam := []
  /-- next tile sequence number (05 R134). -/
  tileSeq : Nat := 0
  /-- poison bit per accumulator (05 R140). -/
  accPoison : BitVec 4 := 0
  /-- tiles not yet fully accepted, oldest first (05 R134). -/
  tiles : List Tile := []
  /-- phases to abort on the port, ABORT not yet acknowledged (05 R147). -/
  abortTickets : List (BitVec 32) := []
  /-- the ABORT record is sent and awaits its ACK (05 R147). -/
  abortSent : Bool := false
  /-- the capability record has arrived in this training (05 R142). -/
  capSeen : Bool := false
  /-- the 64 BCLK of a RETRAIN or ONLINE run (05 R141). -/
  holdRst : Bool := false
  /-- code 0x1F logged for Ep_PRESENT of this port, and no stable event since (05 R141). -/
  presChat : Bool := false
  /-- code 0x1F logged for Ep_FAULT_N of this port, and no stable event since (05 R141). -/
  faultChat : Bool := false
  /-- PORT_COUNT[p][n] (05 (PORT_COUNT)). -/
  count : SMap (BitVec 64) := []
  /-- last record driven on the operand channel (05 R125). -/
  out : Option OpRec := none
  deriving DecidableEq, Repr

/-- The sixteen engine ports and their common registers. -/
structure Ports where
  /-- the ports E0 to E15 (05 R125). -/
  port : Vector Port 16 := Vector.replicate 16 {}
  /-- PORT_TIMEOUTS (05 R145). -/
  timeouts : BitVec 64 := (0x0004000#22 ++ 0x000400#21 ++ 0x000400#21)
  /-- PORT_CMD_STATUS.CODE (05 (PORT_CMD_STATUS)). -/
  code : BitVec 8 := 0
  /-- PORT_CMD_STATUS.LOST (05 (PORT_CMD_STATUS)). -/
  lost : Bool := false
  /-- PORT_CMD_STATUS.BUSY (05 (PORT_CMD_STATUS)). -/
  busy : Bool := false
  deriving DecidableEq, Repr

/-- One update on its way to or in a sinter queue (R151, R158). -/
structure Update where
  /-- phase (06 R151). -/
  ticket : BitVec 32 := 0
  /-- its phase slot (06 R151). -/
  slot : Fin 4 := 0
  /-- destination beam (06 R158). -/
  dest : BitVec 20 := 0
  /-- window of the destination (06 R158). -/
  win : Nat := 0
  /-- incoming format (06 R156). -/
  efmt : BitVec 4 := 0
  /-- first incoming element used (06 R158). -/
  eofs : Nat := 0
  /-- incoming beam in destination order (06 R151). -/
  data : BitVec 4352 := 0
  /-- destination format (06 R156). -/
  dfmt : BitVec 4 := 0
  /-- destination mortise (06 R160). -/
  mort : BitVec 10 := 0
  /-- operation (06 R155). -/
  op : BitVec 4 := 0
  /-- weight (06 R164). -/
  w : BitVec 32 := 0
  /-- stochastic rounding (06 R155). -/
  sr : Bool := false
  /-- tally of an ADDSQ update of ORIENT 0 (06 R171). -/
  tally : Option (Fin 4) := none
  /-- carries poison (06 R160). -/
  poison : Bool := false
  /-- the stored beam: awaited, read, forwarded or not needed (06 R152 R153). -/
  stored : Stored := .wait
  deriving DecidableEq, Repr

/-- A beam held by the sequencer (R166). -/
structure SeqBeam where
  /-- ticket of its phase (06 R166). -/
  ticket : BitVec 32 := 0
  /-- sequence number (06 R166). -/
  num : Nat := 0
  /-- its updates (06 R166). -/
  ups : List Update := []
  deriving DecidableEq, Repr

/-- The 512 sinter units, the drain network and the sequencer (R151 to R176). -/
structure Sinter where
  /-- SNT_CTL.HOT_THRESH (06 R168). -/
  hotThresh : BitVec 32 := 0x1000
  /-- SNT_CLIP.FACTOR (06 R173). -/
  clip : BitVec 32 := 0x3F800000
  /-- SNT_CLIP.GEN (06 R174). -/
  clipGen : BitVec 16 := 0
  /-- SNT_TALLY_STATUS.CODE (06 R172). -/
  tallyCode : BitVec 8 := 0
  /-- NONFINITE[i] (06 R172). -/
  nonfinite : BitVec 4 := 0
  /-- BUSY[i] (06 R172). -/
  folding : BitVec 4 := 0
  /-- SNT_TALLY[i] (06 R172). -/
  tally : SMap (BitVec 64) := []
  /-- the last fold of tally i carried the poison mark (14 R378). -/
  tallyPoison : BitVec 4 := 0
  /-- partial tallies, key 512i + bank (06 R171). -/
  partials : SMap (BitVec 64) := []
  /-- partials marked poisoned (14 R378). -/
  partPoison : SMap Bool := []
  /-- SNT_HOT.BANK (06 R168). -/
  hotBank : BitVec 9 := 0
  /-- SNT_HOT.FULL_BCLK (06 R168). -/
  hotBclk : BitVec 32 := 0
  /-- SNT_COUNT[n] (06 (SNT_COUNT)). -/
  count : SMap (BitVec 64) := []
  /-- SNT_LFSR[b] (06 R53). -/
  lfsr : SMap (BitVec 32) := []
  /-- tally commands waiting for a fold to end, FOLD or CLEAR, oldest first (06 (SNT_TALLY_CMD)). -/
  tallyQ : List (Bool × Fin 4) := []
  /-- sinter queues (06 R152). -/
  queue : SMap (List Update) := []
  /-- updates of each source in the drain network: 0 to 15 ports, 16 to 19 loop-back of slots 0 to 3, 20 to 23 sequencer of slots 0 to 3 (06 R151). -/
  net : SMap (List Update) := []
  /-- lowest unreleased sequence number (06 R166). -/
  seqNext : Nat := 0
  /-- beams held by the sequencer (06 R166). -/
  seqBeams : List SeqBeam := []
  deriving DecidableEq, Repr

/-- One beam of a stream at the truss output stage (R113, R119). -/
structure SBeam where
  /-- beam (04 R113). -/
  data : BitVec 4352 := 0
  /-- carries poison (04 R117). -/
  poison : Bool := false
  /-- the gather read it waits for (04 R119). -/
  wait : Option Nat := none
  /-- the gather read whose beam it is (04 R119). -/
  read : Option Nat := none
  deriving DecidableEq, Repr

/-- An index beam in the gather unit (R118, R182). -/
structure IdxBeam where
  /-- first step it serves (07 R182). -/
  base : Nat := 0
  /-- the 128 entries (04 R118). -/
  data : BitVec 4352 := 0
  /-- carries poison (04 R117). -/
  poison : Bool := false
  /-- next entry to take (04 R118). -/
  next : Nat := 0
  deriving DecidableEq, Repr

/-- One stream of a running phase (R102, R118). -/
structure Stream where
  /-- A, B or loop-back (04 R102). -/
  side : Side := .a
  /-- stream number (04 R106). -/
  idx : Nat := 0
  /-- gather stream (04 R106). -/
  gather : Bool := false
  /-- offset added to the generator (04 R106). -/
  ofs : BitVec 20 := 0
  /-- next step to read, or next entry to take (07 R181). -/
  next : Nat := 0
  /-- first step of the next index beam to read (07 R182). -/
  idxNext : Nat := 0
  /-- index beams read ahead (04 R120). -/
  idxBeams : List IdxBeam := []
  /-- stamp from which its next operand or index read waits for its bank (03 R68). -/
  asked : BitVec 64 := 0
  /-- beams at the output stage (04 R113). -/
  fifo : List SBeam := []
  deriving DecidableEq, Repr

/-- One bent of a running phase (R103). -/
structure Bent where
  /-- bent ID (04 R103). -/
  id : Nat := 0
  /-- its ports (04 R103). -/
  ports : BitVec 16 := 0
  /-- its A stream (04 R103). -/
  asrc : Nat := 0
  /-- steps delivered, or entries taken (07 R181). -/
  steps : Nat := 0
  deriving DecidableEq, Repr

/-- One phase slot (R191 to R201). -/
structure PSlot where
  /-- SCH_SLOT.STATE (07 (SCH_SLOT)). -/
  st : SlotState := .free
  /-- ticket (07 R202). -/
  ticket : BitVec 32 := 0
  /-- the phase record (07 R177). -/
  rcd : BitVec 2048 := 0
  /-- SCH_SLOT_WAIT.WAIT_BCLK (07 R86 R188). -/
  waitBclk : BitVec 32 := 0
  /-- clip factor latched (06 R173). -/
  clip : BitVec 32 := 0
  /-- the brace-set words of the phase (unchanged while referenced) (04 R110). -/
  brace : BitVec 4096 := 0
  /-- its bents (04 R103). -/
  bents : List Bent := []
  /-- its streams (04 R102). -/
  streams : List Stream := []
  /-- drain index beams read (07 R184). -/
  didx : List IdxBeam := []
  /-- stamp from which each port's next drain index read waits for its bank (03 R68). -/
  didxAsked : SMap (BitVec 64) := []
  /-- entries left of the last loop-back admission (11 R289). -/
  lbLeft : Nat := 0
  /-- code 0x24 logged for the phase (06 R159). -/
  satLogged : Bool := false
  /-- code 0x25 logged for the phase (06 R168). -/
  hotLogged : Bool := false
  /-- its routes are loaded (04 R123). -/
  switched : Bool := false
  /-- code SCH_LAST reports for its abort (07 R196). -/
  abortCode : BitVec 8 := 0
  /-- its tally is folded (06 R172). -/
  folded : Bool := false
  /-- BCLK it has spent in ISSUE (11 R296). -/
  issueBclk : Nat := 0
  /-- dynamic energy attributed to it, in joules times 10^12 (11 R296). -/
  energy : Rat := 0
  /-- VENG events of its ports in the open sub-period (11 R296). -/
  veng : SMap Nat := []
  /-- VENG events of its ports in the closed sub-periods of the open period, newest first (11 R296). -/
  vsubs : List (SMap Nat) := []
  /-- its steps at the last evaluation (11 R296). -/
  stepMark : Nat := 0
  /-- number of its start among the phases' (the model's own) (07 R194). Reset DESIGN CHOICE, assumption 17. -/
  startNo : Nat := 0
  deriving DecidableEq, Repr

/-- A record in the phase queue (R191). -/
structure QRec where
  /-- ticket (07 R202). -/
  ticket : BitVec 32 := 0
  /-- record (07 R177). -/
  rcd : BitVec 2048 := 0
  deriving DecidableEq, Repr

/-- The schedule engine (R177 to R205). -/
structure Sched where
  /-- the phase queue (07 R191). -/
  queue : List QRec := []
  /-- the phase slots (07 R192). -/
  slot : Vector PSlot 4 := Vector.replicate 4 {}
  /-- next push ticket (07 R203). -/
  nextTicket : BitVec 32 := 0
  /-- SCH_CTL.HALT_ON_REFUSE (07 R197). -/
  haltRefuse : Bool := false
  /-- SCH_CTL.HALT_ON_ABORT (07 R197). -/
  haltAbort : Bool := false
  /-- SCH_STATUS.QHALT (07 R197). -/
  qhalt : Bool := false
  /-- SCH_STATUS.LAST_CODE (07 (SCH_STATUS)). -/
  lastCode : BitVec 8 := 0
  /-- SCH_CMD_STATUS.CODE (07 (SCH_CMD_STATUS)). -/
  cmdCode : BitVec 8 := 0
  /-- SCH_CMD_STATUS.LOST (07 (SCH_CMD_STATUS)). -/
  cmdLost : Bool := false
  /-- SCH_CMD_STATUS.BUSY (07 (SCH_CMD_STATUS)). -/
  cmdBusy : Bool := false
  /-- SCH_LAST (07 (SCH_LAST)). -/
  last : BitVec 64 := 0
  /-- SCH_EVENT (07 (SCH_EVENT)). -/
  event : BitVec 3 := 0
  /-- SCH_PBUF (07 R203). -/
  pbuf : BitVec 2048 := 0
  /-- SCH_PUSH_STATUS.TICKET (07 R203). -/
  pushTicket : BitVec 32 := 0
  /-- SCH_PUSH_STATUS.CODE (07 R203). -/
  pushCode : BitVec 8 := 0
  /-- SCH_PUSH_STATUS.LOST (07 R203). -/
  pushLost : Bool := false
  /-- SCH_PUSH_STATUS.BUSY (07 R203). -/
  pushBusy : Bool := false
  /-- SCH_COUNT[n] (07 (SCH_COUNT)). -/
  count : SMap (BitVec 64) := []
  /-- number of the next phase start (the model's own) (07 R194). Reset DESIGN CHOICE, assumption 17. -/
  starts : Nat := 0
  deriving DecidableEq, Repr

/-- A window entry selected by a descriptor's check (R224, R225). -/
structure WinSel where
  /-- first page (08 R224). -/
  base : BitVec 36 := 0
  /-- physical page of it (08 R224). -/
  pbase : BitVec 36 := 0
  /-- grants PSN (08 R232). -/
  psn : Bool := false
  deriving DecidableEq, Repr

/-- A descriptor in the layout queue (R227). -/
structure LRec where
  /-- ticket (08 R227). -/
  ticket : BitVec 32 := 0
  /-- descriptor (08 R206). -/
  desc : BitVec 1024 := 0
  /-- window of the main array (08 R225). -/
  main : Option WinSel := none
  /-- window of the scale array (08 R225). -/
  scale : Option WinSel := none
  deriving DecidableEq, Repr

/-- One transfer slot (R228). -/
structure LSlot where
  /-- LAY_SLOT.STATE (08 (LAY_SLOT)). -/
  st : LState := .free
  /-- ticket (08 R227). -/
  ticket : BitVec 32 := 0
  /-- descriptor (08 R206). -/
  desc : BitVec 1024 := 0
  /-- window of the main array (08 R225). -/
  main : Option WinSel := none
  /-- window of the scale array (08 R225). -/
  scale : Option WinSel := none
  /-- clip factor latched (06 R173). -/
  clip : BitVec 32 := 0
  /-- BCLK counted towards the token timeout (08 R226). -/
  waitBclk : BitVec 32 := 0
  /-- it holds a tile buffer (08 R229). -/
  buffered : Bool := false
  /-- LAY_SLOT.DONE (08 (LAY_SLOT)). -/
  done : Nat := 0
  /-- group in progress: a whole tile where a tile passes through a tile buffer, else up to 512 beams (08 R229 R230). -/
  group : Nat := 0
  /-- the group's reads are complete and its writes go on (08 R230). -/
  writing : Bool := false
  /-- beams of the group committed or read (08 R230). -/
  jobsDone : List Nat := []
  /-- memory granules read, of the group or, without a tile buffer, of the transfer: data, poison in bit 512, received in bit 513; the key is the descriptor address / 64, 2^46 higher in the scale array (08 R230 R232). -/
  rgran : SMap (BitVec 514) := []
  /-- granules requested, of the group or, without a tile buffer, of the transfer; keys as in rgran (08 R230). -/
  reqd : List Nat := []
  /-- beams the layout unit holds for the group: read from the source, or ready to write; poison in bit 4352; the second half of a twin at 2^20 more (08 R230). -/
  held : SMap MarkedBeam := []
  /-- granules still to write to memory: data, covered bits, poison in bit 1024; keys as in rgran (08 R216 R232). -/
  wgran : SMap (BitVec 1025) := []
  /-- out-of-bounds elements were met (08 (LAY_LAST)). -/
  oob : Bool := false
  /-- poisoned writes were dropped (0x45 logged) (08 R232). -/
  dropped : Bool := false
  /-- it is being aborted (08 R231). -/
  ending : Bool := false
  /-- code LAY_LAST reports for its abort (08 R231). -/
  abortCode : BitVec 8 := 0
  deriving DecidableEq, Repr

/-- The layout unit (R206 to R234). -/
structure Layout where
  /-- the descriptor queue (08 R228). -/
  queue : List LRec := []
  /-- the transfer slots (08 R228). -/
  slot : Vector LSlot 8 := Vector.replicate 8 {}
  /-- next ticket (08 R227). -/
  nextTicket : BitVec 32 := 0
  /-- LAY_STATUS.LAST_CODE (08 (LAY_STATUS)). -/
  lastCode : BitVec 8 := 0
  /-- LAY_DBUF (08 (LAY_DBUF)). -/
  dbuf : BitVec 1024 := 0
  /-- LAY_SUBMIT_STATUS.TICKET (08 (LAY_SUBMIT_STATUS)). -/
  subTicket : BitVec 32 := 0
  /-- LAY_SUBMIT_STATUS.CODE (08 (LAY_SUBMIT_STATUS)). -/
  subCode : BitVec 8 := 0
  /-- LAY_SUBMIT_STATUS.LOST (08 (LAY_SUBMIT_STATUS)). -/
  subLost : Bool := false
  /-- LAY_SUBMIT_STATUS.BUSY (08 (LAY_SUBMIT_STATUS)). -/
  subBusy : Bool := false
  /-- LAY_CMD_STATUS.CODE (08 (LAY_CMD_STATUS)). -/
  cmdCode : BitVec 8 := 0
  /-- LAY_CMD_STATUS.LOST (08 (LAY_CMD_STATUS)). -/
  cmdLost : Bool := false
  /-- LAY_CMD_STATUS.BUSY (08 (LAY_CMD_STATUS)). -/
  cmdBusy : Bool := false
  /-- LAY_LAST (08 (LAY_LAST)). -/
  last : BitVec 64 := 0
  /-- LAY_EVENT (08 (LAY_EVENT)). -/
  event : BitVec 3 := 0
  /-- LAY_COUNT[n] (08 (LAY_COUNT)). -/
  count : SMap (BitVec 64) := []
  deriving DecidableEq, Repr

/-- A memory transaction (R236, R237). -/
structure Txn where
  /-- tag (09 R237). -/
  tag : BitVec 13 := 0
  /-- port that accepted it (09 R236). -/
  port : Fin 8 := 0
  /-- who issued it (09 R236). -/
  client : MemClient := .core
  /-- write request (09 R235). -/
  write : Bool := false
  /-- physical address of its first byte (09 R235). -/
  paddr : BitVec 52 := 0
  /-- the client's key of its first granule (09 R236). -/
  gkey : Nat := 0
  /-- length in granules (09 R235). -/
  len : Nat := 0
  /-- read beats received (09 R238). -/
  beats : Nat := 0
  /-- quarantined (09 R241). -/
  quar : Bool := false
  deriving DecidableEq, Repr

/-- The data of an accepted write request that its port has still to send (R239). -/
structure WriteData where
  /-- tag of the request (09 R239). -/
  tag : BitVec 13 := 0
  /-- port that accepted it (09 R239). -/
  port : Fin 8 := 0
  /-- who issued it (09 R239). -/
  client : MemClient := .core
  /-- length in granules (09 R235). -/
  len : Nat := 0
  /-- beats sent (09 R239). -/
  beats : Nat := 0
  /-- granules to write: data, byte enables, poison in bit 576 (09 R239). -/
  wg : List (BitVec 577) := []
  deriving DecidableEq, Repr

/-- A request that a memory port presents (R236). -/
structure MemReq where
  /-- who presents it (09 R236). -/
  client : MemClient := .core
  /-- write request (09 R235). -/
  write : Bool := false
  /-- the client's key of its first granule (09 R236). -/
  gkey : Nat := 0
  /-- length in granules (09 R235). -/
  len : Nat := 0
  /-- physical address of its first byte (09 R235). -/
  paddr : BitVec 52 := 0
  /-- tag (09 R237). -/
  tag : BitVec 13 := 0
  /-- granules to write: data, byte enables, poison in bit 576 (09 R239). -/
  wg : List (BitVec 577) := []
  deriving DecidableEq, Repr

/-- What a memory port last drove (R235). Between its requests and beats the signals beside VALID keep these values,
zeros before the first: the spec says nothing of them while VALID is low (DESIGN CHOICE, assumption 161). -/
structure MemOut where
  /-- Mm_REQ_WRITE (09 R235). -/
  reqWrite : Bool := false
  /-- Mm_REQ_ADDR (09 R235). -/
  reqAddr : BitVec 46 := 0
  /-- Mm_REQ_LEN (09 R235). -/
  reqLen : BitVec 7 := 0
  /-- Mm_REQ_TAG (09 R235). -/
  reqTag : BitVec 13 := 0
  /-- Mm_WD_DATA (09 R235). -/
  wdData : BitVec 2048 := 0
  /-- Mm_WD_BE (09 R235). -/
  wdBe : BitVec 256 := 0
  /-- Mm_WD_POISON (09 R239). -/
  wdPoison : Bool := false
  /-- Mm_WD_LAST (09 R235). -/
  wdLast : Bool := false
  deriving DecidableEq, Repr

/-- The memory ports (R235 to R242). -/
structure Mem where
  /-- MEM_CFG.TIMEOUT (09 R241). -/
  timeout : BitVec 32 := 0x0036EE80
  /-- MEM_COUNT[n] (09 (MEM_COUNT)). -/
  count : SMap (BitVec 64) := []
  /-- transactions outstanding or quarantined, oldest first (09 R237). -/
  txns : List Txn := []
  /-- accepted write requests whose data is still to be sent, answered or not, oldest first (09 R239). -/
  wdata : List WriteData := []
  /-- request that each port presents and holds until it is accepted (09 R236). -/
  req : Vector (Option MemReq) 8 := Vector.replicate 8 none
  /-- last values driven on each port (09 R235). -/
  out : SMap MemOut := []
  deriving DecidableEq, Repr

/-- One beam of a side-port transfer (R244). -/
structure Job where
  /-- logical beam (09 R244). -/
  beam : BitVec 20 := 0
  /-- the client's own number of the beam (08 R230). -/
  key : Nat := 0
  /-- mortise named (03 R90). -/
  mort : BitVec 10 := 0
  deriving DecidableEq, Repr

/-- A beam in a staging buffer (R70, R244). -/
structure Staged where
  /-- destination (09 R244). -/
  job : Job := {}
  /-- beam (09 R244). -/
  data : BitVec 4352 := 0
  /-- carries poison (08 R232). -/
  poison : Bool := false
  /-- whose beam it is (09 R243). -/
  client : Client := .move
  deriving DecidableEq, Repr

/-- The transfer that holds a bay's path (R244). -/
structure Grant where
  /-- requester (09 R243). -/
  req : Fin 8 := 0
  /-- transfer, collective, move or debug read (09 R243). -/
  client : Client := .move
  /-- write transfer (09 R244). -/
  write : Bool := false
  /-- beams still to move (09 R244). -/
  jobs : List Job := []
  /-- beams staged so far (09 R244). -/
  staged : List Staged := []
  /-- the last beat is presented and has yet to complete (09 R246). -/
  lastUp : Bool := false
  deriving DecidableEq, Repr

/-- One bay's side-port path and arbiter (R243 to R249). -/
structure Bay where
  /-- transfer holding the path (09 R246). -/
  owner : Option Grant := none
  /-- staging buffers committing, oldest first (09 R244). -/
  bufs : List (List Staged) := []
  /-- its scrub interval has expired and the line is not yet read (03 R94). -/
  scrubDue : Bool := false
  /-- ARB_LOSS.LOSSES (09 R249). -/
  losses : SMap (BitVec 11) := []
  /-- ARB_LOSS.MAX (09 R249). -/
  maxLoss : SMap (BitVec 11) := []
  /-- ARB_STATUS.BACKOFF (09 R248). -/
  backoff : BitVec 8 := 0
  /-- code 0x56 logged and not rearmed (09 R249). -/
  logged : BitVec 8 := 0
  deriving DecidableEq, Repr

/-- The side-port arbiters (R243 to R252). -/
structure Arb where
  /-- the bays (09 R243). -/
  bay : Vector Bay 32 := Vector.replicate 32 {}
  /-- ARB_COUNT[n] (09 (ARB_COUNT)). -/
  count : SMap (BitVec 64) := []
  deriving DecidableEq, Repr

/-- A collective descriptor in the queue (R272). -/
structure CRec where
  /-- ticket (10 R272). -/
  ticket : BitVec 32 := 0
  /-- descriptor (10 R269). -/
  desc : BitVec 512 := 0
  /-- epoch of its scope at its check (10 R268). -/
  epoch : BitVec 32 := 0
  deriving DecidableEq, Repr

/-- One direction of a running data collective (R276). -/
structure CDir where
  /-- ring step of the next packet to send (10 R276). -/
  sendStep : Nat := 0
  /-- beams of that step already sent (10 R276). -/
  sendOfs : Nat := 0
  /-- beams received (10 R276). -/
  got : Nat := 0
  /-- beams to send on: poison in bit 4352, present in bit 4353; the key is 2^20 times the ring step plus the index in the vector (10 R276). -/
  fwd : SMap (BitVec 4354) := []
  deriving DecidableEq, Repr

/-- The running collective (R273). -/
structure CRun where
  /-- ticket (10 R273). -/
  ticket : BitVec 32 := 0
  /-- descriptor (10 R269). -/
  desc : BitVec 512 := 0
  /-- SEQ (10 R273). -/
  seq : BitVec 16 := 0
  /-- participants (10 R270). -/
  n : Nat := 1
  /-- chunk length C (10 R269). -/
  chunk : Nat := 0
  /-- this instance's place among the participants (10 R270). -/
  pos : Nat := 0
  /-- clockwise direction (10 R276). -/
  cw : CDir := {}
  /-- counter-clockwise direction (10 R276). -/
  ccw : CDir := {}
  /-- beams to write into MORT2, not yet committed (10 R279). -/
  writes : List Staged := []
  /-- own beams of MORT read and not yet sent or added, by index in the vector: poison in bit 4352, present in bit 4353 (10 R279). -/
  own : SMap (BitVec 4354) := []
  /-- stamp of its start (arrival at a barrier) (10 R281). -/
  startAt : BitVec 64 := 0
  /-- arrivals received at the ridge (10 R281). -/
  arrived : List (BitVec 12 × BitVec 64) := []
  /-- die reports received at the crown (10 R281). -/
  dies : List (BitVec 12 × BitVec 64) := []
  /-- norm partials received at the ridge (10 R280). -/
  partials : List (BitVec 12 × BitVec 64 × Bool) := []
  /-- die sums received at the crown (10 R280). -/
  dieSums : List (BitVec 12 × BitVec 64 × Bool) := []
  /-- AGATH: chunks of which a beam is committed (10 R267). -/
  wrote : List Nat := []
  /-- sums of squares of completed beams not yet in COL_TALLY, by index in the vector: poison in bit 64, present in bit 65 (10 R278). -/
  squares : SMap (BitVec 66) := []
  /-- the squares of its clockwise chunk are in COL_TALLY (10 R278). -/
  tallied : Bool := false
  /-- the die's sum or arrival has been sent to the crown (10 R280 R281). -/
  sentUp : Bool := false
  deriving DecidableEq, Repr

/-- One ring or uplink link (R254). -/
structure LinkSt where
  /-- data credits held for the output (10 R254). -/
  dataCr : Nat := 56
  /-- control credits held for the output (10 R254). -/
  ctlCr : Nat := 8
  /-- packets of the next SEQ waiting in the input buffer, with the stamps of their arrival (10 R273). -/
  wait : List (Hdr × Payload × BitVec 64) := []
  /-- packets that wait for the output, oldest first, each with the link whose input buffer holds it, none for the unit's own (10 R254). -/
  txq : List ((Hdr × Payload) × Option (Fin 3)) := []
  /-- its bypass closes once no packet waits for the output (10 R260). -/
  closing : Bool := false
  /-- the last data packet sent was the unit's own (10 R260). -/
  lastOwn : Bool := false
  /-- data flits the unit has taken from the input (10 R254). -/
  inData : Nat := 0
  /-- control flits the unit has taken from the input (10 R254). -/
  inCtl : Nat := 0
  /-- data credits a closed bypass has passed back to the sender (10 R259). -/
  backData : Nat := 0
  /-- control credits a closed bypass has passed back to the sender (10 R259). -/
  backCtl : Nat := 0
  /-- flits of the unit's driven packets that have not left the output, one leaving per BCLK (10 R254 R260). -/
  sending : Nat := 0
  /-- places in out of the packets that ended with BAD (10 R254 R260). -/
  cut : List Nat := []
  /-- packets driven on the output, oldest first (the model keeps them as a record) (10 R254). -/
  out : List (Hdr × Payload) := []
  deriving DecidableEq, Repr

/-- The exchange of the crown that a ridge relays (R313). -/
structure Relay where
  /-- fabric ID of the crown (11 R313). -/
  crown : BitVec 12 := 0
  /-- EXCH (11 R313). -/
  exch : BitVec 16 := 0
  /-- a GIVE has been passed to the latest member (11 R313). -/
  fwd : Bool := false
  deriving DecidableEq, Repr

/-- The collective unit (R254 to R283). -/
structure Col where
  /-- HIER_CFG (10 R264). -/
  hier : BitVec 14 := 0
  /-- COL_TIMEOUT.PROGRESS (10 R274). -/
  progress : BitVec 32 := 0x001B7740
  /-- ring epoch, 0 none (10 R265). -/
  epoch : BitVec 32 := 0
  /-- crown epoch, 0 none (10 R264). -/
  crownEpoch : BitVec 32 := 0
  /-- members of the ring epoch in rank order (10 R261). -/
  members : List Member := []
  /-- ridges of the crown epoch in crown order (10 R264). -/
  ridges : List Member := []
  /-- agreed ring version (10 R282). -/
  ver : BitVec 4 := 0
  /-- agreed crown version (10 R282). -/
  crownVer : BitVec 4 := 0
  /-- RIDGE_CONFLICT (10 R263). -/
  conflict : Bool := false
  /-- a COMMIT that included a version-1 member has been taken (10 R282). -/
  v1Seen : Bool := false
  /-- the collective queue (10 R272). -/
  queue : List CRec := []
  /-- BCLK the head's waits have been evaluated (10 R271). -/
  headWait : BitVec 32 := 0
  /-- the running collective (10 R273). -/
  run : Option CRun := none
  /-- next ticket (10 R272). -/
  nextTicket : BitVec 32 := 0
  /-- next SEQ in RING scope (10 R273). -/
  ringSeq : BitVec 16 := 0
  /-- next SEQ in UPLINK scope (10 R273). -/
  crownSeq : BitVec 16 := 0
  /-- COL_DBUF (10 R272). -/
  dbuf : BitVec 512 := 0
  /-- COL_CMD_STATUS.TICKET (10 R272). -/
  cmdTicket : BitVec 32 := 0
  /-- COL_CMD_STATUS.CODE (10 (COL_CMD_STATUS)). -/
  cmdCode : BitVec 8 := 0
  /-- COL_CMD_STATUS.LOST (10 (COL_CMD_STATUS)). -/
  cmdLost : Bool := false
  /-- COL_CMD_STATUS.BUSY (10 (COL_CMD_STATUS)). -/
  cmdBusy : Bool := false
  /-- COL_LAST (10 (COL_LAST)). -/
  last : BitVec 64 := 0
  /-- COL_SLACK (10 R281). -/
  slack : BitVec 48 := 0
  /-- COL_NORM (10 R280). -/
  norm : BitVec 64 := 0
  /-- COL_TALLY (10 R278). -/
  tally : BitVec 64 := 0
  /-- COL_TALLY is marked poisoned (14 R378). -/
  tallyPoison : Bool := false
  /-- COL_EVENT (10 (COL_EVENT)). -/
  event : BitVec 4 := 0
  /-- COL_COUNT[n] (10 (COL_COUNT)). -/
  count : SMap (BitVec 64) := []
  /-- COL_LATE[n] (10 R281). -/
  late : SMap (BitVec 64) := []
  /-- COL_CLATE[n] (10 R281). -/
  clate : SMap (BitVec 64) := []
  /-- a JOIN is sent and unanswered (10 R262). -/
  joining : Bool := false
  /-- code 0x6C logged for the unanswered JOIN (10 R262). -/
  joinLogged : Bool := false
  /-- the bypass opened for a proposal and no COMMIT has come (10 R260). -/
  admitting : Bool := false
  /-- JOINs pending at the ridge (10 R262). -/
  joins : List Member := []
  /-- planned LEAVEs pending at the ridge (10 R265). -/
  leaves : List (BitVec 12) := []
  /-- proposal in flight at the ridge (10 R262). -/
  proposal : Option Proposal := none
  /-- a LEAVE waits for its purge (10 R266). -/
  leaving : Bool := false
  /-- the crown's table of ridges (10 R264). -/
  dieTable : List Member := []
  /-- exchange number of the budget exchange in flight (11 R313). -/
  exch : BitVec 16 := 0
  /-- a budget exchange is in flight (11 R313). -/
  exchOn : Bool := false
  /-- fabric ID of the member that gives (11 R313). -/
  exchFrom : BitVec 12 := 0
  /-- fabric ID of the member that receives (11 R313). -/
  exchTo : BitVec 12 := 0
  /-- the exchange returns its remainder (11 R313). -/
  exchBack : Bool := false
  /-- the exchange runs between dies, from the crown (11 R313). -/
  exchUp : Bool := false
  /-- exchange of the crown that a ridge relays (11 R313). -/
  relay : Option Relay := none
  /-- number of its ring's exchange to which this instance gave and from which nothing has come back (11 R313). -/
  gaveTo : Option (BitVec 16) := none
  /-- the same of the exchange between dies (11 R313). -/
  gaveUp : Option (BitVec 16) := none
  /-- amount of the GIVE in flight (11 R313). -/
  exchAmt : BitVec 16 := 0
  /-- SEQ of each barrier between dies of this crown epoch, with the ring's earliest and latest member at it (11 R313). -/
  lates : List (BitVec 16 × BitVec 12 × BitVec 12) := []
  /-- the ridge of this ring is its own crown: UPLINK scope means the ring (10 R264). -/
  upRing : Bool := false
  /-- the ridge of this ring has started again without this member (14 R377). -/
  cutOff : Bool := false
  deriving DecidableEq, Repr

/-- One governed bent (R289, R290). -/
structure GovBent where
  /-- SHARE (11 R298). -/
  share : BitVec 7 := 0x40
  /-- least of the components updated at each evaluation (11 R290). -/
  target : BitVec 7 := 0x40
  /-- the component that gives it (11 R290). -/
  tsource : BitVec 4 := 0xF
  /-- ceiling of the throttle components after UPSLEW (11 R290). -/
  governed : BitVec 7 := 0x40
  /-- the component that bound it last (11 R290). -/
  gsource : BitVec 4 := 0xF
  /-- OPC component (11 R290). -/
  opc : BitVec 7 := 0x40
  /-- admission accumulator (11 R289). -/
  acc : Nat := 0
  deriving DecidableEq, Repr

/-- One limiter G[r][w], or the cap limiter K (R287, R297). -/
structure Limiter where
  /-- value (11 R286). -/
  g : BitVec 7 := 0x40
  /-- periods of hold left (11 R287). -/
  hold : Nat := 0
  /-- periods since the last increase (11 R287). -/
  wait : Nat := 0
  deriving DecidableEq, Repr

/-- A phase that has left its slot since the last evaluation (R296). -/
structure PastPhase where
  /-- its phase ID (11 R296). -/
  pid : BitVec 8 := 0
  /-- its demand entry is to be updated (11 R296). -/
  learns : Bool := false
  /-- its ports (11 R296). -/
  ports : BitVec 16 := 0
  /-- steps of its slowest bent (11 R296). -/
  steps : Nat := 0
  /-- those of the open period (11 R296). -/
  newSteps : Nat := 0
  /-- energy attributed to it at earlier evaluations (11 R296). -/
  energy : Rat := 0
  /-- VENG events of its ports in the sub-period it left in (11 R296). -/
  veng : SMap Nat := []
  /-- those of the sub-periods before, newest first (11 R296). -/
  vsubs : List (SMap Nat) := []
  /-- sub-periods of the period closed when it left (11 R296). -/
  closed : Nat := 0
  deriving DecidableEq, Repr

/-- Governor registers in force between a raise and the next evaluation (R364). -/
structure GovHeld where
  /-- GOV_CAP before the raise (13 R364). -/
  cap : BitVec 64 := 0
  /-- GOV_RAMP before the raise (13 R364). -/
  ramp : BitVec 64 := 0
  /-- GOV_FLOOR before the raise (13 R364). -/
  floor : BitVec 64 := 0
  deriving DecidableEq, Repr

/-- The power governor (R284 to R316). -/
structure Gov where
  /-- GOV_CTL (11 (GOV_CTL)). -/
  ctl : BitVec 64 := 0
  /-- GOV_CAP, GOV_RAMP and GOV_FLOOR before a raise that no evaluation has followed (13 R364). -/
  held : Option GovHeld := none
  /-- GOV_EXT.CEIL (11 (GOV_EXT)). -/
  ext : BitVec 7 := 0x40
  /-- GOV_MODEL (11 (GOV_MODEL)). -/
  model : BitVec 64 := 0
  /-- GOV_STATIC (11 (GOV_STATIC)). -/
  static : BitVec 64 := 0
  /-- GOV_TRIM, its RW fields (11 (GOV_TRIM)). -/
  trim : BitVec 64 := 0
  /-- GOV_TRIM.OFFSET (11 R312). -/
  offset : BitVec 5 := 0
  /-- evaluations in a row with the slack above GUARD_HI (11 R312). -/
  trimHigh : Nat := 0
  /-- GOV_SHIFT, its RW fields (11 (GOV_SHIFT)). -/
  shiftCfg : BitVec 64 := 0
  /-- GOV_SHIFT.SHIFT (11 R314). -/
  shift : BitVec 16 := 0
  /-- GOV_POWER (11 (GOV_POWER)). -/
  power : BitVec 64 := 0
  /-- readings T0 to T3, degrees C (11 R301). -/
  temp : SMap (Int) := []
  /-- VALID (11 R301). -/
  tempValid : BitVec 4 := 0
  /-- hottest valid reading (11 R301). -/
  tHot : Int := 0
  /-- GOV_EVENT (11 (GOV_EVENT)). -/
  event : BitVec 6 := 0
  /-- GOV_PROFILE[k][w], key 2k + w (11 R300). -/
  profile : SMap (BitVec 64) := []
  /-- GOV_Q[e] (11 R284). -/
  q : SMap (BitVec 24) := []
  /-- GOV_THERMIN[i] (11 R302). -/
  thermin : SMap (BitVec 64) := []
  /-- GOV_MON[i].SLACK, unlisted 0x3F (11 R312). -/
  slack : SMap (BitVec 6) := []
  /-- GOV_MON[i].MIN, unlisted 0x3F (11 R312). -/
  slackMin : SMap (BitVec 6) := []
  /-- GOV_EST[r][w].I, key 3r + w (11 R285). -/
  est : SMap (BitVec 20) := []
  /-- limiters G[r][w], index 3r + w (11 R286). -/
  lim : Vector Limiter 9 := Vector.replicate 9 {}
  /-- cap limiter K (11 R297). -/
  k : Limiter := {}
  /-- thermal limiter G_T (11 R303). -/
  gT : BitVec 7 := 0x40
  /-- a threshold episode is open (11 R303). -/
  hot71 : Bool := false
  /-- a junction episode is open (11 R303). -/
  hot72 : Bool := false
  /-- GOV_BENT[b] (11 R289). -/
  bent : Vector GovBent 17 := Vector.replicate 17 {}
  /-- GOV_RDUR[n] (11 R315). -/
  rdur : SMap (BitVec 64) := []
  /-- GOV_REVT[n] (11 R315). -/
  revt : SMap (BitVec 32) := []
  /-- reasons binding on some bent (11 R315). -/
  binding : BitVec 9 := 0
  /-- GOV_ACT[e] (11 R285). -/
  act : SMap (BitVec 64) := []
  /-- events of the open sub-period (11 R285). -/
  cur : SMap Nat := []
  /-- closed sub-periods of the open period, newest first (11 R285). -/
  subs : List (SMap Nat) := []
  /-- sub-periods of the closed periods, newest first (11 R285). -/
  hist : List (SMap Nat) := []
  /-- phases that have left their slots in the open period (11 R296). -/
  past : List PastPhase := []
  /-- GOV_POOL[r] (11 R313). -/
  pool : SMap (BitVec 64) := []
  /-- GOV_DEMAND[id] (11 R296). -/
  demand : SMap (BitVec 17) := []
  /-- PERF_BUSY (11 R293). -/
  perfBusy : Bool := false
  /-- PERF_ACK has fallen in this handshake (11 R293). -/
  perfFell : Bool := false
  /-- PERF_ACK did not rise in time (11 R293). -/
  perfLate : Bool := false
  /-- MODEL_OP (11 R293). -/
  modelOp : BitVec 4 := 0
  /-- entry left by the handshake in progress (11 R293). -/
  oldOp : BitVec 4 := 0
  /-- COLD (11 R304). -/
  cold : Bool := true
  /-- STAGGER (11 R304). -/
  stagger : Bool := false
  /-- RAMPING (11 R304). -/
  ramping : Bool := false
  /-- BCLK since the ramp began (11 R304). -/
  rampT : Nat := 0
  /-- BCLK since the quench ramp-down began (11 R308). -/
  qT : Nat := 0
  /-- records whose HEAVY hint has expired (11 R299). -/
  hintDead : List (BitVec 32) := []
  deriving DecidableEq, Repr

/-- A posted firmware store not yet performed (R319, R320). -/
structure PostedStore where
  /-- through the memory aperture (12 R320). -/
  aperture : Bool := false
  /-- core tag of an aperture store (12 R320). -/
  tag : BitVec 13 := 0
  deriving DecidableEq, Repr

/-- The bulk move in progress (R324). -/
structure MoveJob where
  /-- KIND (12 R324). -/
  kind : BitVec 2 := 0
  /-- beams or granules (12 R324). -/
  count : Nat := 0
  /-- TCM address (12 R324). -/
  tcm : BitVec 18 := 0
  /-- mortise (12 R324). -/
  mort : BitVec 10 := 0
  /-- beam offset (12 R324). -/
  ofs : BitVec 20 := 0
  /-- descriptor address (12 R324). -/
  daddr : BitVec 52 := 0
  /-- physical address (12 R324). -/
  paddr : BitVec 52 := 0
  /-- its memory request is accepted (12 R324). -/
  started : Bool := false
  /-- beams not yet moved and committed (12 R324). -/
  left : List Nat := []
  /-- poisoned or failed data received (12 R324). -/
  poison : Bool := false
  deriving DecidableEq, Repr

/-- One work-order ring (R330). -/
structure Ring where
  /-- LOG2 (12 R330). -/
  log2 : BitVec 4 := 0
  /-- BASE (12 R330). -/
  base : BitVec 52 := 0
  /-- HEAD (12 R330). -/
  head : BitVec 32 := 0
  /-- TAIL (12 R330). -/
  tail : BitVec 32 := 0
  deriving DecidableEq, Repr

/-- The work order the firmware is serving (R332). -/
structure WoRun where
  /-- ring (12 R332). -/
  ring : Fin 4 := 0
  /-- work order (12 R331). -/
  wo : BitVec 512 := 0
  /-- objects accepted (12 R333). -/
  accepted : Nat := 0
  /-- objects fetched (12 R332). -/
  fetched : Nat := 0
  /-- ticket of the first accepted object (12 R333). -/
  first : BitVec 32 := 0
  /-- completion code (12 R333). -/
  code : BitVec 8 := 0
  /-- ready for its completion record (12 R332). -/
  done : Bool := false
  deriving DecidableEq, Repr

/-- The control core, host port, work-order rings and interrupts (R317 to R334). -/
structure Core where
  /-- integer registers x1 to x31, each 0 (12 R317). Reset DESIGN CHOICE, assumption 5. -/
  x : SMap (BitVec 64) := []
  /-- program counter, RESET_PC from BOOT (12 R317 R323). Reset DESIGN CHOICE, assumption 5. -/
  pc : BitVec 64 := 0
  /-- mstatus: MIE bit 3, MPIE bit 7, MPP reads 3 (12 R317). Reset PRESUMED, assumption 16. -/
  mstatus : BitVec 64 := 0x1800
  /-- mie (12 R317). Reset PRESUMED, assumption 16. -/
  mie : BitVec 64 := 0
  /-- mtvec, direct mode only (12 R317). Reset PRESUMED, assumption 16. -/
  mtvec : BitVec 64 := 0
  /-- mscratch (12 R317). Reset PRESUMED, assumption 16. -/
  mscratch : BitVec 64 := 0
  /-- mepc (12 R317). Reset PRESUMED, assumption 16. -/
  mepc : BitVec 64 := 0
  /-- mcause (12 R317). Reset PRESUMED, assumption 16. -/
  mcause : BitVec 64 := 0
  /-- mtval (12 R317). Reset PRESUMED, assumption 16. -/
  mtval : BitVec 64 := 0
  /-- mcycle, counts CCLK (12 R317). Reset PRESUMED, assumption 16. -/
  mcycle : BitVec 64 := 0
  /-- minstret (12 R317). Reset PRESUMED, assumption 16. -/
  minstret : BitVec 64 := 0
  /-- LR reservation (12 R318). -/
  resv : Option Nat := none
  /-- the TCM; BOOT clears it (12 R318 R323). -/
  tcm : SMap (BitVec 8) := []
  /-- CORE_STATUS.RUN (12 (CORE_STATUS)). -/
  run : CoreRun := .halted
  /-- CORE_STATUS.NEST (12 R321). -/
  nest : Bool := false
  /-- CORE_STATUS.LAST_PC (12 (CORE_STATUS)). -/
  lastPc : BitVec 32 := 0
  /-- CORE_STATUS.LAST_CAUSE (12 (CORE_STATUS)). -/
  lastCause : BitVec 8 := 0
  /-- CORE_STATUS.TCM_CE (12 R323). -/
  tcmCe : BitVec 12 := 0
  /-- posted stores not yet completed (12 R319 R320). -/
  posted : List PostedStore := []
  /-- posted aperture stores that failed, each a fault taken at a load or FENCE to come (12 R320). -/
  postFault : Nat := 0
  /-- destination register and tag of the aperture load in progress (12 R320). -/
  apLoad : Option (BitVec 5 × BitVec 13) := none
  /-- core address of the aperture load in progress (12 R320). Reset DESIGN CHOICE, assumption 5. -/
  apAddr : BitVec 64 := 0
  /-- length of that load instruction (12 R320). Reset DESIGN CHOICE, assumption 5. -/
  apLen : Nat := 4
  /-- CORE_WDOG.PERIOD (12 R322). -/
  period : BitVec 32 := 0
  /-- watchdog count (12 R322). -/
  wdog : Nat := 0
  /-- the count has reached PERIOD since the last KICK (12 R322). -/
  wdogOut : Bool := false
  /-- HOST_OWN.OWNED (12 R327). -/
  owned : Bool := false
  /-- HOST_OWN.OWNER_ID (12 R327). -/
  ownerId : BitVec 8 := 0
  /-- HOST_CMD_STATUS.CODE (12 R329). -/
  cmdCode : BitVec 8 := 0
  /-- HOST_CMD_STATUS.LOST (12 R329). -/
  cmdLost : Bool := false
  /-- HOST_CMD_STATUS.BUSY (12 R329). -/
  cmdBusy : Bool := false
  /-- MOVE_ADDR (12 R324). -/
  moveAddr : BitVec 52 := 0
  /-- MOVE_STATUS.CODE (12 R324). -/
  moveCode : BitVec 8 := 0
  /-- MOVE_STATUS.POISON (12 R324). -/
  movePoison : Bool := false
  /-- MOVE_STATUS.LOST (12 R324). -/
  moveLost : Bool := false
  /-- move in progress (MOVE_STATUS.BUSY) (12 R324). -/
  move : Option MoveJob := none
  /-- IRQ_ROUTE (12 R334). -/
  irqRoute : BitVec 64 := 0
  /-- IRQ_STATUS source 5 (12 R334). -/
  irqErr : Bool := false
  /-- IRQ_STATUS.STATE (12 R334). -/
  irqState : Bool := false
  /-- IRQ_STATUS.DOORBELL (12 R334). -/
  irqBell : Bool := false
  /-- CORE_IRQ_EN (12 R334). -/
  irqEn : BitVec 9 := 0x100
  /-- WO_RING[r] (12 R330). -/
  ring : Vector Ring 4 := Vector.replicate 4 {}
  /-- WO_EVENT (12 R333). -/
  woEvent : BitVec 4 := 0
  /-- work order being served (12 R332). -/
  wo : Option WoRun := none
  /-- ring to visit next (12 R332). -/
  rrNext : Fin 4 := 0
  /-- HEAD of each ring at an accepted kill, its work orders up to there completing with 0xA0 (14 R381). -/
  killHeads : List (BitVec 32) := []
  deriving DecidableEq, Repr

/-- Debug reads and the test controller (R384, R405 to R407). -/
structure Dbg where
  /-- DBG_STATUS.CODE (14 R384). -/
  code : BitVec 8 := 0
  /-- DBG_STATUS.UE (14 R384). -/
  ue : Bool := false
  /-- DBG_STATUS.CE (14 R384). -/
  ce : Bool := false
  /-- DBG_STATUS.LOST (14 R384). -/
  lost : Bool := false
  /-- read in progress: RAW, mortise, logical beam (14 R384). -/
  req : Option (Bool × BitVec 10 × BitVec 20) := none
  /-- DBG_DATA (14 R384). -/
  data : BitVec 4480 := 0
  /-- DFT_STATUS.MTA_READS (15 (DFT_STATUS)). -/
  mtaReads : BitVec 32 := 0
  /-- DFT_STATUS.MTA_REFUSED (15 (DFT_STATUS)). -/
  mtaRefused : BitVec 16 := 0
  /-- TAP instruction register (15 R406). Reset DESIGN CHOICE, assumption 6. -/
  ir : BitVec 4 := 0xF
  /-- failure list of the last march test: bank, mat, line, symbol (15 R406). -/
  mbist : List (BitVec 9 × BitVec 8 × BitVec 11 × BitVec 16) := []
  /-- data last shifted out on TDO (15 R406). -/
  shifted : List (BitVec 8) := []
  /-- the bypass register (15 R406). Reset DESIGN CHOICE, assumption 6. -/
  bypass : Bool := false
  /-- bits last shifted out of the bypass register (15 R406). -/
  tdo : List (Bool) := []
  /-- TRST_N (15 R405). Reset DESIGN CHOICE, assumption 6. -/
  trstN : Bool := true
  deriving DecidableEq, Repr

/-- The boot sequencer's own progress (R351 to R360). -/
structure BootSeq where
  /-- what the sequencer is doing (13 R351). -/
  phase : BootPhase := .idle
  /-- failed discovery attempts (13 R353). -/
  attempts : Nat := 0
  /-- flash density found (13 R353). -/
  density : Nat := 0
  /-- instruction of the flash reads that discovery chose (13 R353). -/
  rdCmd : BitVec 8 := 0
  /-- its mode clocks, driven as zero (13 R353). -/
  rdMode : BitVec 3 := 0
  /-- its dummy clocks (13 R353). -/
  rdWait : BitVec 5 := 0
  /-- slots still to try, the current first (13 R359). -/
  slots : List (Fin 2) := []
  /-- header of slot 0 (13 R354). -/
  hdr0 : BitVec 512 := 0
  /-- header of slot 1 (13 R354). -/
  hdr1 : BitVec 512 := 0
  /-- header of the image being loaded (13 R354). -/
  hdr : BitVec 512 := 0
  /-- section table of the image being loaded (13 R355). -/
  table : List (BitVec 128) := []
  /-- section being received (13 R357). -/
  sect : Nat := 0
  /-- bytes of it received (13 R357). -/
  ofs : Nat := 0
  /-- bytes of a REGS entry not yet complete (13 R356). -/
  part : List (BitVec 8) := []
  /-- running ICRC (13 R354). -/
  crc : BitVec 32 := 0xFFFFFFFF
  /-- host-stream bytes received, oldest first (13 R360). -/
  stream : List (BitVec 8) := []
  /-- the load has succeeded (13 R351). -/
  loaded : Bool := false
  /-- no slot remains, or discovery or the stream failed (13 R351). -/
  failed : Bool := false
  /-- a section of the slot has begun to load (13 R358). -/
  begun : Bool := false
  deriving DecidableEq, Repr

/-- The always-on domain: pins, block status, boot status, quench latch, vent port (R22, R310, R335 to R340, R344 to
R349). -/
structure Aon where
  /-- VAON present (01 R23). Reset DESIGN CHOICE, assumption 6. -/
  vaon : Bool := true
  /-- ROOTCLK runs (13 R343). Reset DESIGN CHOICE, assumption 6. -/
  rootclk : Bool := true
  /-- CLK_SE level (15 R401). Reset DESIGN CHOICE, assumption 6. -/
  clkSe : Bool := false
  /-- filtered ARST_N (13 R345). Reset DESIGN CHOICE, assumption 6. -/
  arstN : Bool := false
  /-- filtered MRST_N (13 R345). Reset DESIGN CHOICE, assumption 6. -/
  mrstN : Bool := false
  /-- filtered PWROK_MAIN (BLK_STATUS.MAIN_PWR) (13 R345). -/
  pwrok : Bool := false
  /-- DFT_MODE (15 R407). Reset DESIGN CHOICE, assumption 6. -/
  dft : Bool := false
  /-- how the main-domain outputs are driven (15 R395 R403). -/
  drive : Drive := .held
  /-- what temperature sensors 0 to 3 and path monitors 0 to 15, numbered from 4, read: known in bit 8 (15 R397 R407). Reset DESIGN CHOICE, assumption 150. -/
  sensed : SMap (BitVec 9) := []
  /-- FABRIC_ID strap, sampled when ARST_N passes its filter (13 R349). Reset DESIGN CHOICE, assumption 6. -/
  fabricId : BitVec 12 := 0
  /-- BOOT_SRC strap (13 R349). Reset DESIGN CHOICE, assumption 6. -/
  bootSrc : BitVec 2 := 0
  /-- RIDGE_EN strap (13 R349). Reset DESIGN CHOICE, assumption 6. -/
  ridgeEn : Bool := false
  /-- BLK_STATUS.STATE (01 R22). -/
  st : BlkState := .reset
  /-- BLK_STATUS.PREV (13 (BLK_STATUS)). -/
  prev : BlkState := .off
  /-- BLK_STATUS.CHANGES (13 (BLK_STATUS)). -/
  changes : BitVec 32 := 0
  /-- PURGE entered by a job kill, the TRF purge not yet begun (14 R381). -/
  killed : Bool := false
  /-- a fatal error was raised in this step; false between steps (01 R24). -/
  fatalDue : Bool := false
  /-- a fatal error raised during PURGE or BOOT (01 R24). -/
  pendFatal : Bool := false
  /-- CLK_STATUS.RO_MHZ (13 R344). -/
  roMhz : BitVec 16 := 0
  /-- CLK_STATUS.MON_FAULT (13 R344). -/
  monFault : Bool := false
  /-- measurements in a row outside the band (13 R344). -/
  badMeas : Nat := 0
  /-- CLK_SE has changed in this RESET (15 R401). -/
  seQuiet : Bool := false
  /-- CLK_STATUS.PWROK_CHATTER (13 R345). -/
  pwrokChat : Bool := false
  /-- CLK_STATUS.MRST_CHATTER (13 R345). -/
  mrstChat : Bool := false
  /-- code 0x99 to be logged (13 R345). -/
  chatLog : Bool := false
  /-- BOOT_STATUS.SEQ (13 R361). -/
  bSeq : BitVec 32 := 0
  /-- BOOT_STATUS.CODE1 (13 R357). -/
  bCode1 : BitVec 8 := 0
  /-- BOOT_STATUS.CODE0 (13 R357). -/
  bCode0 : BitVec 8 := 0
  /-- BOOT_STATUS.STEP (13 R361). -/
  bStep : BitVec 4 := 0
  /-- BOOT_STATUS.DEBUG_UNLOCK (13 R354). -/
  bUnlock : Bool := false
  /-- BOOT_STATUS.QUAD (13 R353). -/
  bQuad : Bool := false
  /-- BOOT_STATUS.FALLBACK (13 R359). -/
  bFallback : Bool := false
  /-- BOOT_STATUS.LOADED (13 R361). -/
  bLoaded : Bool := false
  /-- BOOT_STATUS.SLOT (13 R361). -/
  bSlot : BitVec 2 := 3
  /-- BOOT_TIME.BOOTS (13 (BOOT_TIME)). -/
  boots : BitVec 32 := 0
  /-- BOOT_TIME.LAST (13 (BOOT_TIME)). -/
  bootLast : BitVec 32 := 0
  /-- BOOT_IMAGE_ID (13 R361). -/
  imageId : BitVec 64 := 0
  /-- the boot sequencer (13 R351). -/
  seqr : BootSeq := {}
  /-- GOV_QUENCH.STATE: the quench latch (11 R308 R310). -/
  qState : QState := .clear
  /-- GOV_QUENCH.LATCHES (11 (GOV_QUENCH)). -/
  qLatches : BitVec 8 := 0
  /-- GOV_QUENCH.QUIET (11 R310). -/
  qQuiet : BitVec 21 := 0
  /-- GOV_QUENCH.CHATTER (11 R311). -/
  qChat : Bool := false
  /-- filtered QUENCH_N (11 R311). Reset DESIGN CHOICE, assumption 6. -/
  quenchN : Bool := true
  /-- code 0x78 to be logged when the block next reaches EMBER (11 R308). -/
  qLogDue : Bool := false
  /-- filtered DROOP_N (11 R311). Reset DESIGN CHOICE, assumption 6. -/
  droopN : Bool := true
  /-- filtered THERM_IN (11 R302). Reset DESIGN CHOICE, assumption 6. -/
  thermIn : BitVec 8 := 0
  /-- filtered PERF_ACK (11 R311). -/
  perfAck : Bool := false
  /-- chattering episodes open: 0 DROOP_N, 1 QUENCH_N, 2 PERF_ACK, 3 + i THERM_IN[i] (11 R311). -/
  inChat : SMap Bool := []
  /-- PERF_REQ (11 R292). -/
  perfReq : BitVec 4 := 0
  /-- the CW scarf bypass is closed (10 R259). -/
  bypCw : Bool := true
  /-- the CCW scarf bypass is closed (10 R259). -/
  bypCcw : Bool := true
  /-- links CW, CCW and UPL (10 R254). -/
  link : Vector LinkSt 3 := Vector.replicate 3 {}
  /-- VADDR (12 R336). -/
  vaddr : BitVec 24 := 0
  /-- VENT_STATUS.PEC_ERRS (12 (VENT_STATUS)). -/
  pecErrs : BitVec 8 := 0
  /-- VENT_STATUS.LAST (12 R337). -/
  ventLast : BitVec 8 := 0
  /-- VENT_CFG.PEC_REQ (12 R337). -/
  pecReq : Bool := false
  /-- VENT_ALERT (12 R339). -/
  alert : BitVec 7 := 0
  /-- VENT_ALERT_EN (12 R339). -/
  alertEn : BitVec 7 := 0x0C
  /-- SMBALERT_N asserted (12 R339). -/
  smbalert : Bool := false
  /-- MBOX_CTL.OUT_LEN (12 R340). -/
  outLen : BitVec 6 := 0
  /-- MBOX_CTL.OUT_FULL (12 R340). -/
  outFull : Bool := false
  /-- MBOX_CTL.IN_FULL (12 R340). -/
  inFull : Bool := false
  /-- MBOX_CTL.IN_LEN (12 R340). -/
  inLen : BitVec 6 := 0
  /-- MBOX_IN (12 R340). -/
  mboxIn : BitVec 256 := 0
  /-- MBOX_OUT (12 R340). -/
  mboxOut : BitVec 256 := 0
  /-- bytes last returned to the SMBus controller (12 R336). -/
  ventOut : List (BitVec 8) := []
  /-- last host-port response: status in [65:64], data (12 R325). -/
  hpRsp : BitVec 66 := 0
  deriving DecidableEq, Repr

/-- The counts that run with the clocks (R12, R21). -/
structure Time where
  /-- the BCLK stamp (00 R12). -/
  bclk : BitVec 64 := 0
  /-- BCLK of the always-on branch since ARST_N (01 R21). -/
  root : Nat := 0
  /-- BCLK since the last BOOT entry (13 (BOOT_TIME)). -/
  bootBclk : Nat := 0
  /-- free values taken (the model's own field, not the spec's) (model's own). Reset DESIGN CHOICE, assumption 7. -/
  free : Nat := 0
  deriving DecidableEq, Repr

/-- Everything the block holds. -/
structure State where
  /-- The error log. -/
  log : Log := {}
  /-- The configuration sets. -/
  cfg : Cfg := {}
  /-- The tile register file. -/
  trf : Trf := {}
  /-- The operand truss. -/
  truss : Truss := {}
  /-- The engine ports. -/
  ports : Ports := {}
  /-- The sinter units and the drain network. -/
  sinter : Sinter := {}
  /-- The schedule engine. -/
  sched : Sched := {}
  /-- The layout unit. -/
  layout : Layout := {}
  /-- The memory ports. -/
  mem : Mem := {}
  /-- The side-port arbiters. -/
  arb : Arb := {}
  /-- The collective unit. -/
  col : Col := {}
  /-- The governor. -/
  gov : Gov := {}
  /-- The control core, host port, rings and interrupts. -/
  core : Core := {}
  /-- Debug reads and the test controller. -/
  dbg : Dbg := {}
  /-- The always-on domain. -/
  aon : Aon := {}
  /-- The counts that run with the clocks, and the model's free-value counter. -/
  time : Time := {}
  /-- The commands waiting, first in, first out. -/
  pending : List Instr := []
  deriving DecidableEq, Repr

/-- The block right after reset: VAON is present, ARST_N is low, the state is RESET (R23, assumption 6); every
register holds its reset value and no command waits. -/
def State.reset : State := {}

end Sys2Proof.Machine
end

