-- ==== Sys2Proof/Machine/Ecc.lean ====
section
/-!
DEFINITION. Ecc.lean: the Reed-Solomon code RS(140,136) over GF(2^16) that protects every line (R73, R74). A stored
line is its beam's two codewords with the symbol errors of `LineErr` laid over them.
-/
namespace Sys2Proof.Machine

/-- Multiplication by α: one shift, reduced by x^16 + x^12 + x^3 + x + 1 (R73). -/
def gfShift (a : Nat) : Nat := if 32768 ≤ a then (2 * a) ^^^ 0x1100B else 2 * a

/-- Multiplication in GF(2^16), the multiplier's bits from the top; fuel 16. -/
def gfMulGo : Nat → Nat → Nat → Nat → Nat
  | 0, _, _, acc => acc
  | n + 1, a, b, acc => gfMulGo n a b (gfShift acc ^^^ (if b.testBit n then a else 0))

/-- Multiplication in GF(2^16) (R73). -/
def gfMul (a b : Nat) : Nat := gfMulGo 16 a b 0

/-- α to the power n (R73). -/
def gfPow : Nat → Nat
  | 0 => 1
  | n + 1 => gfShift (gfPow n)

/-- a to the power n. -/
def gfExp (a : Nat) : Nat → Nat
  | 0 => 1
  | n + 1 => gfMul a (gfExp a n)

/-- The inverse in GF(2^16): a to the power 2^16 - 2, by squaring. -/
def gfInv (a : Nat) : Nat :=
  ((List.range 15).foldl (fun (p : Nat × Nat) _ =>
    let sq := gfMul p.1 p.1
    (sq, gfMul p.2 sq)) (a, 1)).2

/-- The power of x of a symbol: data symbol j stands at j + 4, parity symbol 136 + i at i (R73). -/
def symPower (m : Nat) : Nat := if m < 136 then m + 4 else m - 136

/-- The symbol at a power of x. -/
def powerSym (p : Nat) : Nat := if p < 4 then p + 136 else p - 4

/-- Syndrome k of an error pattern: the sum of e · α^(k·p) (R73). -/
def syndrome (k : Nat) (es : List (Nat × BitVec 16)) : Nat :=
  es.foldl (fun acc e => acc ^^^ gfMul e.2.toNat (gfExp (gfPow (symPower e.1)) k)) 0

/-- What the decoder makes of one codeword. -/
inductive CwOut where
  | clean
  | corrected (fix : List (Nat × BitVec 16))
  | ue
  deriving DecidableEq, Repr

/-- The powers p below 140 at which x = α^p solves x² + a·x + b = 0. -/
def gfRoots (a b : Nat) : List Nat :=
  ((List.range 140).foldl (fun (acc : List Nat × Nat) p =>
    let x := acc.2
    (if (gfMul x x ^^^ gfMul a x ^^^ b) = 0 then acc.1 ++ [p] else acc.1, gfShift x)) ([], 1)).1

/-- Decodes a codeword from its syndromes: no error, one or two symbols located and corrected, or an uncorrectable
pattern (R74). -/
def decodeSyndromes (s0 s1 s2 s3 : Nat) : CwOut :=
  if s0 = 0 ∧ s1 = 0 ∧ s2 = 0 ∧ s3 = 0 then .clean
  else
    let det := gfMul s0 s2 ^^^ gfMul s1 s1
    if det = 0 then
      if s0 = 0 then .ue
      else
        let x := gfMul s1 (gfInv s0)
        match (List.range 140).find? fun p => gfPow p = x with
        | some p =>
          if gfMul s1 x = s2 ∧ gfMul s2 x = s3 then .corrected [(powerSym p, BitVec.ofNat 16 s0)] else .ue
        | none => .ue
    else
      let inv := gfInv det
      let a := gfMul inv (gfMul s0 s3 ^^^ gfMul s1 s2)
      let b := gfMul inv (gfMul s1 s3 ^^^ gfMul s2 s2)
      match gfRoots a b with
      | [p, q] =>
        let x := gfPow p
        let y := gfPow q
        let e2 := gfMul (gfMul s0 x ^^^ s1) (gfInv (x ^^^ y))
        let e1 := s0 ^^^ e2
        if e1 = 0 ∨ e2 = 0 then .ue
        else .corrected [(powerSym p, BitVec.ofNat 16 e1), (powerSym q, BitVec.ofNat 16 e2)]
      | _ => .ue

/-- Decodes a codeword that carries the given symbol errors; the code is linear, so the data does not matter
(R73, R74). -/
def decodeCw : List (Nat × BitVec 16) → CwOut
  | [] => .clean
  | es => decodeSyndromes (syndrome 0 es) (syndrome 1 es) (syndrome 2 es) (syndrome 3 es)

/-- Lays one symbol difference over an error pattern, kept sorted and without zeros. -/
def mergeSym (e : Nat × BitVec 16) : List (Nat × BitVec 16) → List (Nat × BitVec 16)
  | [] => if e.2 = 0 then [] else [e]
  | f :: l =>
    if f.1 = e.1 then (if f.2 ^^^ e.2 = 0 then l else (f.1, f.2 ^^^ e.2) :: l)
    else if e.1 < f.1 then (if e.2 = 0 then f :: l else e :: f :: l)
    else f :: mergeSym e l

/-- Lays one error pattern over another. -/
def mergeSyms (a b : List (Nat × BitVec 16)) : List (Nat × BitVec 16) := a.foldl (fun acc e => mergeSym e acc) b

/-- New symbol errors struck a line. -/
def mergeErr (a b : LineErr) : LineErr := { cw0 := mergeSyms a.cw0 b.cw0, cw1 := mergeSyms a.cw1 b.cw1 }

/-- The bytes of codeword c's symbols with their errors, in the beam: parity symbols carry no beam byte (R73). -/
def flipCw (c : Nat) (es : List (Nat × BitVec 16)) (b : Beam) : Beam :=
  es.foldl (fun b e => if e.1 < 136 then b ^^^ (e.2.setWidth 4352).shiftLeft (2176 * c + 16 * e.1) else b) b

/-- What a codeword's errors leave of them after the decoder: an uncorrectable codeword is delivered as read (R74). -/
def residue (es : List (Nat × BitVec 16)) : CwOut → List (Nat × BitVec 16)
  | .corrected fix => mergeSyms fix es
  | _ => es

/-- One line as read: the beam delivered, what each codeword's decoding found. -/
structure LineRead where
  /-- The beam delivered. -/
  beam : Beam
  /-- Codeword 0. -/
  c0 : CwOut
  /-- Codeword 1. -/
  c1 : CwOut
  deriving DecidableEq, Repr

/-- Reads a line (R74). -/
def readLine (b : Beam) (e : LineErr) : LineRead :=
  let c0 := decodeCw e.cw0
  let c1 := decodeCw e.cw1
  { beam := flipCw 1 (residue e.cw1 c1) (flipCw 0 (residue e.cw0 c0) b), c0 := c0, c1 := c1 }

/-- The read is uncorrectable (R74). -/
def LineRead.ue (r : LineRead) : Bool := r.c0 == .ue || r.c1 == .ue

/-- The symbol positions a codeword's decoding corrected. -/
def CwOut.syms : CwOut → List Nat
  | .corrected fix => fix.map (·.1)
  | _ => []

/-- The symbol positions corrected in a read, codewords 0 and 1 alike (R74). -/
def LineRead.syms (r : LineRead) : List Nat := r.c1.syms.foldl insertNew r.c0.syms

/-- The read counts a correctable error (R74). -/
def LineRead.ce (r : LineRead) : Bool := !r.ue && !r.syms.isEmpty

/-- The lowest symbol position corrected. -/
def LineRead.lowSym (r : LineRead) : Nat := r.syms.foldl Nat.min 0xFF

/-- One step of the parity division: the remainder register takes the next data symbol (R73). The generator is
x^4 + g3 x^3 + g2 x^2 + g1 x + g0. -/
def parityStep (g : List Nat) (r : List Nat) (d : Nat) : List Nat :=
  let fb := d ^^^ r.getD 3 0
  (List.range 4).map fun i => (if i = 0 then 0 else r.getD (i - 1) 0) ^^^ gfMul fb (g.getD i 0)

/-- Multiplies a polynomial (lowest coefficient first) by x + a. -/
def polyMulRoot (p : List Nat) (a : Nat) : List Nat :=
  (List.range (p.length + 1)).map fun i =>
    (if i = 0 then 0 else p.getD (i - 1) 0) ^^^ gfMul a (p.getD i 0)

/-- The coefficients g0 to g4 of the generator (x - α^0)(x - α^1)(x - α^2)(x - α^3) (R73). -/
def generator : List Nat := [gfPow 0, gfPow 1, gfPow 2, gfPow 3].foldl polyMulRoot [1]

/-- Data symbol j of codeword c (R73). -/
def dataSym (b : Beam) (c j : Nat) : BitVec 16 := b.extractLsb' (2176 * c + 16 * j) 16

/-- The four parity symbols of codeword c (R73). -/
def paritySyms (b : Beam) (c : Nat) : List Nat :=
  (List.range 136).foldl (fun r k => parityStep generator r (dataSym b c (135 - k)).toNat) [0, 0, 0, 0]

/-- The 280 stored bytes of codeword c, symbol m in bits [16m + 15 : 16m] (R384). -/
def storedCw (b : Beam) (c : Nat) (es : List (Nat × BitVec 16)) : BitVec 2240 :=
  let clean : BitVec 2240 :=
    ((List.range 4).foldl (fun acc i => acc ||| (BitVec.ofNat 2240 ((paritySyms b c).getD i 0) <<< (2176 + 16 * i)))
      ((b.extractLsb' (2176 * c) 2176).setWidth 2240))
  es.foldl (fun acc e => acc ^^^ (e.2.setWidth 2240).shiftLeft (16 * e.1)) clean

/-- The 560 stored bytes of a line: codeword 0 in the low 280 (R384). -/
def storedLine (b : Beam) (e : LineErr) : BitVec 4480 := storedCw b 1 e.cw1 ++ storedCw b 0 e.cw0

/-- A list of symbol errors is as the table keeps it: symbols below 140, rising, each with a difference. -/
def symsWf (es : List (Nat × BitVec 16)) : Bool :=
  es.all (fun e => decide (e.1 < 140) && e.2 != 0) &&
    (es.zip es.tail).all fun p => decide (p.1.1 < p.2.1)

end Sys2Proof.Machine
end

