-- ==== Sys2Proof/Machine/Flits.lean ====
section
/-!
DEFINITION. Flits.lean: ring packets bit by bit: the header word, the payload, the flits and their parity (R254, R256).
-/
namespace Sys2Proof

/-- The header's 128 bits (R256). -/
def Hdr.word (h : Hdr) : BitVec 128 :=
  (0 : BitVec 11) ++ field h.step 4 8 ++ h.hops ++ h.beam ++ h.nbeam ++ h.poison ++ h.fmt ++ h.op ++ h.epoch ++ h.seq ++
    h.dest ++ h.src ++ h.ver ++ field h.step 0 4 ++ h.dirn ++ h.kind

/-- The header that 128 bits hold; none where its zero bits or DIRN are not as the table has them: it is malformed
(R256, R257). -/
def Hdr.ofWord (w : BitVec 128) : Option Hdr :=
  if field w 117 11 == 0 && (field w 4 3).toNat ≤ 2 then
    some { kind := field w 0 4, dirn := field w 4 3, step := field w 109 8 ++ field w 7 4, ver := field w 11 4,
           src := field w 15 12, dest := field w 27 12, seq := field w 39 16, epoch := field w 55 16, op := field w 71 4,
           fmt := field w 75 4, poison := field w 79 3, nbeam := field w 82 2, beam := field w 84 20,
           hops := field w 104 5 }
  else none

/-- The KIND of what a packet carries (R256); none for what a reserved kind carries. -/
def Payload.kind : Payload → Option (BitVec 4)
  | .data _ => some 0
  | .join _ => some 1
  | .propose _ => some 2
  | .commit _ _ _ => some 3
  | .leave _ => some 4
  | .refuse _ => some 5
  | .normUp _ _ => some 6
  | .normDown _ _ _ => some 7
  | .barUp _ => some 8
  | .barDown _ => some 9
  | .abort _ => some 0xA
  | .dieReport _ _ => some 0xB
  | .crownCommit _ _ _ => some 0xC
  | .budget _ _ _ _ _ => some 0xD
  | .raw _ => none

/-- The payload as a number, its first byte lowest: the beams back to back; LOST in bit 0 of a LEAVE; the one field of a
JOIN, a REFUSE and a BAR packet, which follows the header directly (R256); the fields of BUDGET in their bytes (R314);
the 112 bytes of the other control packets, in which the spec leaves the places of the fields open (R256; assumption 24). -/
def Payload.bits : Payload → Nat
  | .data beams => beams.zipIdx.foldl (fun n p => n + p.1.toNat * 2 ^ (4352 * p.2)) 0
  | .raw _ => 0
  | .leave lost => (BitVec.ofBool lost).toNat
  | .join m => m.ver.toNat
  | .refuse code => code.toNat
  | .barUp b => b.toNat
  | .barDown b => b.toNat
  | .budget sub exch amt eff power => (exch ++ power ++ eff ++ amt ++ (0 : BitVec 8) ++ sub).toNat
  | p => (Config.ctlBytes p).toNat

end Sys2Proof

namespace Sys2Proof.Machine

/-- A packet: its header and what it carries. -/
abbrev Packet := Hdr × Payload

/-- The flits of a packet (R256, R258). -/
def flitsOf (p : Packet) : Nat :=
  match p.2 with
  | .raw fs => max 1 fs.length
  | _ => if p.1.kind == 0 then (16 + 544 * p.1.nbeam.toNat + 127) / 128 else 1

/-- The flits as X_OUT_DATA carries them, zero behind the payload (R254, R256). -/
def packetFlits (p : Packet) : List (BitVec 1024) :=
  match p.2 with
  | .raw fs => fs
  | d => (List.range (flitsOf p)).map fun i =>
      BitVec.ofNat 1024 ((p.1.word.toNat + d.bits * 2 ^ 128) / 2 ^ (1024 * i))

/-- X_OUT_PAR of a flit: bit g over its bytes 16g to 16g + 15 (R254). -/
def flitParity (f : BitVec 1024) : BitVec 8 :=
  (List.range 8).foldl (fun m g => if evenParity (f.extractLsb' (128 * g) 128) then m ||| ((1 : BitVec 8) <<< g) else m) 0

/-- A packet of the control class: every kind but DATA (R254, R256). -/
def isControl (p : Packet) : Bool := p.1.kind != 0

/-! ### Input buffers and credits (R254, R259, R273) -/

/-- The flits of a list of packets. -/
def flitSum (l : List Packet) : Nat := (l.map flitsOf).sum

/-- The packets of a class that a link's input buffer holds: those that wait for a collective, and those on their way
to an output that has no credit for them. -/
def heldPackets (s : State) (l : Fin 3) (control : Bool) : List Packet :=
  ((s.aon.link[l].wait.map fun w => (w.1, w.2.1)) ++
    s.aon.link.toList.flatMap fun k => (k.txq.filter (·.2 == some l)).map Prod.fst).filter (isControl · == control)

/-- The input buffer has room for a packet: 56 flits of data, 8 of control (R254). -/
def hasRoom (s : State) (l : Fin 3) (p : Packet) : Bool :=
  flitsOf p + flitSum (heldPackets s l (isControl p)) ≤ if isControl p then 8 else 56

/-- The credits of a class returned to a link's sender since the link's reset: one for each flit that has left the input
buffer, and those a closed bypass passed back (X_IN_CREDIT, X_IN_CCREDIT; R254, R259). -/
def creditsBack (s : State) (l : Fin 3) (control : Bool) : Nat :=
  let k := s.aon.link[l]
  if control then k.backCtl + (k.inCtl - flitSum (heldPackets s l true))
  else k.backData + (k.inData - flitSum (heldPackets s l false))

/-- The packets of a record of an output, the newest first, of which the last n flits have not left: those not begun are
lost, the one part-way is cut short, marked by true. -/
def cutGo : Nat → List Packet → List Packet × Bool
  | 0, ps => (ps, false)
  | _, [] => ([], false)
  | n, p :: ps => if flitsOf p ≤ n then cutGo (n - flitsOf p) ps else (p :: ps, true)

/-- An output stops abruptly: a packet part-way is ended with EOP and BAD, those not begun are lost (R260), but a passing
one that an input buffer still holds, which stays with its credits (R346; assumption 138). -/
def LinkSt.cutShort (k : LinkSt) : LinkSt :=
  let c := cutGo k.sending k.out.reverse
  { k with out := c.1.reverse, sending := 0, txq := k.txq.filter (·.2.isSome), closing := false
           cut := if c.2 then k.cut ++ [c.1.length - 1] else k.cut }

end Sys2Proof.Machine
end

