-- ==== Sys2Proof/Machine/Ops.lean ====
section
/-!
DEFINITION. Ops.lean: the operations every unit shares: changing one unit's state, free values, the error log, alerts,
the block state and its transitions.
-/
namespace Sys2Proof.Machine

/-! ### One unit's state -/

/-- Changes the log. -/
def State.onLog (s : State) (f : Log → Log) : State := { s with log := f s.log }
/-- Changes the configuration sets. -/
def State.onCfg (s : State) (f : Cfg → Cfg) : State := { s with cfg := f s.cfg }
/-- Changes the tile register file. -/
def State.onTrf (s : State) (f : Trf → Trf) : State := { s with trf := f s.trf }
/-- Changes the truss. -/
def State.onTruss (s : State) (f : Truss → Truss) : State := { s with truss := f s.truss }
/-- Changes the engine ports. -/
def State.onPorts (s : State) (f : Ports → Ports) : State := { s with ports := f s.ports }
/-- Changes one engine port. -/
def State.onPort (s : State) (p : Fin 16) (f : Port → Port) : State :=
  { s with ports := { s.ports with port := vmod s.ports.port p f } }
/-- Changes the sinter units. -/
def State.onSinter (s : State) (f : Sinter → Sinter) : State := { s with sinter := f s.sinter }
/-- Changes the schedule engine. -/
def State.onSched (s : State) (f : Sched → Sched) : State := { s with sched := f s.sched }
/-- Changes one phase slot. -/
def State.onSlot (s : State) (i : Fin 4) (f : PSlot → PSlot) : State :=
  { s with sched := { s.sched with slot := vmod s.sched.slot i f } }
/-- Changes the layout unit. -/
def State.onLayout (s : State) (f : Layout → Layout) : State := { s with layout := f s.layout }
/-- Changes one transfer slot. -/
def State.onLSlot (s : State) (i : Fin 8) (f : LSlot → LSlot) : State :=
  { s with layout := { s.layout with slot := vmod s.layout.slot i f } }
/-- Changes the memory ports. -/
def State.onMem (s : State) (f : Mem → Mem) : State := { s with mem := f s.mem }
/-- Changes the side-port arbiters. -/
def State.onArb (s : State) (f : Arb → Arb) : State := { s with arb := f s.arb }
/-- Changes one bay. -/
def State.onBay (s : State) (b : Fin 32) (f : Bay → Bay) : State :=
  { s with arb := { s.arb with bay := vmod s.arb.bay b f } }
/-- Changes the collective unit. -/
def State.onCol (s : State) (f : Col → Col) : State := { s with col := f s.col }
/-- Changes the governor. -/
def State.onGov (s : State) (f : Gov → Gov) : State := { s with gov := f s.gov }
/-- Changes the control core and host port. -/
def State.onCore (s : State) (f : Core → Core) : State := { s with core := f s.core }
/-- Changes the debug unit. -/
def State.onDbg (s : State) (f : Dbg → Dbg) : State := { s with dbg := f s.dbg }
/-- Changes the always-on domain. -/
def State.onAon (s : State) (f : Aon → Aon) : State := { s with aon := f s.aon }
/-- Changes the boot sequencer. -/
def State.onSeqr (s : State) (f : BootSeq → BootSeq) : State :=
  { s with aon := { s.aon with seqr := f s.aon.seqr } }
/-- Changes one link. -/
def State.onLink (s : State) (l : Fin 3) (f : LinkSt → LinkSt) : State :=
  { s with aon := { s.aon with link := vmod s.aon.link l f } }

/-- The BCLK stamp (R12). -/
def State.now (s : State) : BitVec 64 := s.time.bclk

/-- A free value of w bits, and the state with the next number (assumption 7). -/
def takeFree (w : Nat) (s : State) : BitVec w × State :=
  (Config.freeBits s.time.free w, { s with time := { s.time with free := s.time.free + 1 } })

/-- Adds n to counter i of a register array; the counters saturate. -/
def bump (m : SMap W64) (i n : Nat) : SMap W64 := m.modify 0 i (satAdd · n)

/-- Counts n of governor event e (R284): the accumulated count and the open sub-period's. -/
def govEvent (e n : Nat) (s : State) : State :=
  s.onGov fun g => { g with act := g.act.modify 0 e (satAdd · n), cur := g.cur.modify 0 e (· + n) }

/-! ### Error codes (R368) -/

/-- The class of a code (R368); 15 for a code that is never logged. -/
def classOf (c : BitVec 8) : BitVec 4 :=
  let n := c.toNat
  if n = 0x01 || n = 0x0D then 0
  else if (0x02 ≤ n && n ≤ 0x05) || n = 0x16 || n = 0x1C || n = 0x26 || n = 0x62 then 1
  else if n = 0x0E || n = 0x45 || n = 0x51 || n = 0x53 then 2
  else if [0x06, 0x0C, 0x73, 0x82, 0x83, 0x89, 0x91, 0x97, 0x98].contains n then 3
  else if [0x31, 0x37, 0x49, 0x4A, 0x64, 0x65].contains n then 4
  else if [0x18, 0x1A, 0x1B, 0x1D].contains n then 5
  else if n = 0x32 then 7
  else if [0x23, 0x24, 0x66].contains n then 8
  else if [0x25, 0x54, 0x55, 0x56, 0x57, 0x61, 0x63, 0x71, 0x72, 0x74, 0x75, 0x76, 0x78, 0x7A, 0x7B, 0x7C, 0x81,
    0x84, 0x87, 0xA0].contains n then 9
  else if [0x1F, 0x77, 0x99].contains n then 10
  else if [0x6B, 0x6C, 0x6D].contains n then 11
  else if 0x92 ≤ n && n ≤ 0x96 then 12
  else if (0x07 ≤ n && n ≤ 0x0B) || (0x10 ≤ n && n ≤ 0x15)
    || [0x19, 0x1E, 0x21, 0x22, 0x27, 0x30, 0x33, 0x34, 0x35, 0x36, 0x38, 0x39, 0x40, 0x41, 0x42, 0x43, 0x44, 0x46,
      0x47, 0x48, 0x4B, 0x52, 0x67, 0x68, 0x69, 0x6A, 0x6E, 0x79, 0x85, 0x86, 0x88, 0x8A, 0x8B, 0x8C, 0x9A, 0x9B, 0x9C,
      0xA1].contains n then 6
  else 15

/-- Class 3 (R368). -/
def isFatalCode (c : BitVec 8) : Bool := classOf c == 3

/-- The code is masked by the active ERR_MASK; the bits of Fatal codes read zero (R373). -/
def isMasked (s : State) (c : BitVec 8) : Bool :=
  !isFatalCode c && bitAt (s.cfg.active.errMask.get 0 (c.toNat / 64)) (c.toNat % 64)

/-! ### Alerts (R339) -/

/-- Sets bits of VENT_ALERT; SMBALERT_N is asserted when a further enabled bit sets (R339). -/
def alertSet (bits : BitVec 7) (s : State) : State :=
  s.onAon fun a =>
    let rising := bits &&& ~~~a.alert &&& a.alertEn
    { a with alert := a.alert ||| bits, smbalert := a.smbalert || rising != 0 }

/-- Releases SMBALERT_N when no enabled bit of VENT_ALERT is left (R339). -/
def alertSettle (s : State) : State :=
  s.onAon fun a => { a with smbalert := a.smbalert && (a.alert &&& a.alertEn) != 0 }

/-! ### The log (R369 to R375) -/

/-- UNIT of a report: the code's range above the unit's number (R369). -/
def Report.unit16 (r : Report) : BitVec 16 := field r.code 4 4 ++ r.unit

/-- An entry has the key of a report: CODE, UNIT, MORTISE and LOCATION (R371). -/
def LogEntry.matches (e : LogEntry) (r : Report) : Bool :=
  e.code == r.code && e.unit == r.unit16 && e.mortV == r.mort.isSome && e.mortise == r.mort.getD 0 && e.loc == r.loc

/-- An entry of class Uncorrectable or Fatal (R375). -/
def LogEntry.isOpen (e : LogEntry) : Bool := e.cls == 1 || e.cls == 3

/-- A unit raises a code: it goes to the log at the end of the BCLK (R371, R372). A Fatal code in FAULT is nested
(R380). -/
def report (r : Report) (s : State) : State :=
  s.onLog fun l =>
    { l with raised := l.raised ++ [{ r with nested := r.nested || (isFatalCode r.code && s.aon.st == .fault) }] }

/-- A unit raises a Fatal code (R24, R368). -/
def fatal (r : Report) (s : State) : State := (report r s).onAon fun a => { a with fatalDue := true }

/-- The entry a report writes (R369, R375). -/
def entryOf (s : State) (r : Report) : LogEntry :=
  { code := r.code, cls := classOf r.code, unit := r.unit16, mortV := r.mort.isSome, mortise := r.mort.getD 0,
    phaseId := r.pid.getD 0, pidV := r.pid.isSome, stamp := s.now, loc := r.loc, rep := 1, seq := s.log.seq,
    nested := r.nested || r.code == 0x06 || r.code == 0x82 || s.log.entries.any LogEntry.isOpen }

/-- Counts an entry written or discarded in ERR_STATUS.SEQ (R372). -/
def Log.advance (l : Log) : Log := { l with seq := l.seq + 1 }

/-- Adds one to REPEAT of the entries p picks (R371). -/
def Log.repeatOf (l : Log) (p : LogEntry → Bool) : Log :=
  { l with entries := l.entries.map fun e => if p e then { e with rep := satAdd e.rep 1 } else e }

/-- Discards a new entry (R372). -/
def Log.discard (l : Log) : Log := { l.advance with discarded := satAdd l.discarded 1 }

/-- The newest entry whose class is not Fatal, Uncorrectable or Poison taken out (R372); none when there is none. -/
def dropNewestMinor (es : List LogEntry) : Option (List LogEntry) :=
  match es.reverse.findIdx? fun e => !(e.cls == 1 || e.cls == 2 || e.cls == 3) with
  | none => none
  | some i => some (es.eraseIdx (es.length - 1 - i))

/-- What a new entry signals: interrupt source 5, and VENT_ALERT.ERR for class Uncorrectable or Fatal (R374). -/
def signalNew (e : LogEntry) (s : State) : State :=
  let s := s.onCore fun c => { c with irqErr := true }
  if e.isOpen then alertSet 0x20 s else s

/-- The entry that the drops of a source add to until a write of it succeeds (R328). -/
def noteDrop (r : Report) (seq : BitVec 32) (s : State) : State :=
  match r.drop with
  | some k => s.onLog fun l => { l with drops := vset l.drops k (some seq) }
  | none => s

/-- A drop of a source whose episode is open, and the entry of that episode (R328). -/
def openDrop (s : State) (r : Report) : Option (BitVec 32) := r.drop.bind fun k => s.log.drops[k]

/-- A new entry that set POISON becomes the one later poisoned writes repeat (R371). -/
def notePoisonEntry (r : Report) (seq : BitVec 32) (s : State) : State :=
  match r.setsPoison, r.mort with
  | true, some m =>
    let mark (t : SMap Mortise) (k : BitVec 10) := t.modify {} k.toNat fun e => { e with poisonSeq := some seq }
    s.onTrf fun t =>
      let e := t.mort.get {} m.toNat
      { t with mort := if e.twinV then mark (mark t.mort m) e.twin else mark t.mort m }
  | _, _ => s

/-- Writes a new entry, the room being there or a Fatal entry replacing a minor one (R372). -/
def writeNew (r : Report) (s : State) : State :=
  let e := entryOf s r
  if s.log.entries.length < 64 then
    signalNew e (noteDrop r s.log.seq
      (notePoisonEntry r s.log.seq (s.onLog fun l => { l.advance with entries := l.entries ++ [e] })))
  else if isFatalCode r.code then
    match dropNewestMinor s.log.entries with
    | some es =>
      signalNew e (s.onLog fun l =>
        { l.advance with entries := es ++ [e], discarded := satAdd l.discarded 1 })
    | none => s.onLog Log.discard
  else s.onLog Log.discard

/-- The entry that later poisoned writes into a mortise repeat (R371). -/
def poisonEntrySeq (s : State) (r : Report) : Option (BitVec 32) :=
  match r.mort with
  | some m => (s.trf.mort.get {} m.toNat).poisonSeq
  | none => none

/-- One report meets the log; the number is the new entries of this BCLK so far (R328, R371 to R373). A drop of an open
episode adds to that episode's entry, and writes nothing where the entry has been taken out. -/
def logOne (r : Report) (p : State × Nat) : State × Nat :=
  let s := p.1
  if isMasked s r.code then (s.onLog fun l => { l with masked := satAdd l.masked 1 }, p.2)
  else if r.code == 0x0E && !r.setsPoison then
    match poisonEntrySeq s r with
    | some q => (s.onLog fun l => l.repeatOf fun e => e.code == 0x0E && e.seq == q, p.2)
    | none => (s, p.2)
  else
    match openDrop s r, if r.code == 0x0E then none else s.log.entries.find? (·.matches r) with
    | some q, _ => (s.onLog fun l => l.repeatOf fun e => e.code == r.code && e.seq == q, p.2)
    | none, some f => (noteDrop r f.seq (s.onLog fun l => l.repeatOf (·.matches r)), p.2)
    | none, none => if p.2 < 4 then (writeNew r s, p.2 + 1) else (s.onLog Log.discard, p.2)

/-- Fatal first, then by ascending code (R372). -/
def Report.before (a b : Report) : Bool :=
  if isFatalCode a.code == isFatalCode b.code then a.code.toNat < b.code.toNat else isFatalCode a.code

/-- Writes the codes raised in the BCLK that ends (R372). -/
def flushLog (s : State) : State :=
  (foldOver (sortBy Report.before s.log.raised) logOne (s.onLog fun l => { l with raised := [] }, 0)).1

/-! ### The block state (R22 to R24) -/

/-- The code of a block state (R22). -/
def BlkState.code : BlkState → BitVec 4
  | .off => 0 | .reset => 1 | .boot => 2 | .ready => 3 | .run => 4 | .pause => 5 | .ember => 6 | .fault => 7
  | .purge => 8

/-- Requester r is admitted in a block state (R243). -/
def admittedIn (b : BlkState) (r : Fin 8) : Bool :=
  match b with
  | .ready | .run | .pause => true
  | .ember => r.val = 1 || r.val = 6 || r.val = 7
  | _ => false

/-- Requester r is admitted in the present block state (R243). -/
def reqAdmitted (s : State) (r : Fin 8) : Bool := admittedIn s.aon.st r

/-- A change of state stops the owners it no longer admits: what they staged is emptied, and it is no loss (R243). -/
def stopUnadmitted (s : State) : State :=
  s.onArb fun a => { a with bay := a.bay.map fun y =>
    match y.owner with
    | some g => if admittedIn s.aon.st g.req then y else { y with owner := none }
    | none => y }

/-- Enters a block state: PREV and CHANGES follow (BLK_STATUS), interrupt source 7 and VENT_ALERT.STATE are raised
(R334, VENT_ALERT), and VENT_ALERT.FAULT on FAULT. The retries of a JOIN end outside READY, RUN and PAUSE (R262). -/
def setState (b : BlkState) (s : State) : State :=
  if s.aon.st = b then s
  else
    let s := stopUnadmitted (s.onAon fun a => { a with st := b, prev := a.st, changes := satAdd a.changes 1 })
    let s := s.onCore fun c => { c with irqState := true }
    let s := s.onCol fun c => { c with joining := c.joining && [BlkState.ready, .run, .pause].contains b }
    alertSet (if b = .fault then 0x06 else 0x02) s

/-- The block enters EMBER; a quench latched at a reset is logged with code 0x78, of the input QUENCH_N, number 9, and
GOV_EVENT.QUENCH is set now (R23, R308, R370). -/
def enterEmber (s : State) : State :=
  let s := setState .ember s
  if s.aon.qLogDue then
    (report { code := 0x78, unit := 9 } (s.onAon fun a => { a with qLogDue := false })).onGov fun g => { g with event := g.event ||| 2 }
  else s

/-- The main domain is clocked and out of reset (R344). -/
def mainOn (s : State) : Bool := s.aon.st != .off && s.aon.st != .reset && s.aon.rootclk

/-- The always-on domain runs: VAON, ROOTCLK and ARST_N high (R343, R344). -/
def aonOn (s : State) : Bool := s.aon.vaon && s.aon.rootclk && s.aon.arstN

/-- The block is in READY, RUN, PAUSE or EMBER. -/
def isLive (s : State) : Bool := [BlkState.ready, .run, .pause, .ember].contains s.aon.st

/-- Units of the main domain do their work: not in OFF, RESET or FAULT (R376). -/
def unitsOn (s : State) : Bool := mainOn s && s.aon.st != .fault

/-- The LEAVE with LOST set that a bypass sends to a ridge for its absent instance (R256, R260). -/
def leaveTo (ridge : BitVec 12) (s : State) : Hdr × Payload :=
  ({ kind := 4, src := s.aon.fabricId, dest := ridge }, .leave true)

/-- The LEAVE with LOST set to the ridge of this instance's ring. -/
def lostLeave (s : State) : Hdr × Payload := leaveTo (((s.col.members.head?).map Member.fid).getD 0) s

/-- What the unit has for its outputs is lost, and a packet being sent is cut short (R260). The UPL goes quiet (R259).
The input buffers stay (R346). -/
def cutOutputs (s : State) : State := s.onAon fun a => { a with link := a.link.map LinkSt.cutShort }

/-- The bypass closes in both directions and, at the next packet boundary of each that had been open, sends a LEAVE with
LOST set to the ridge (R260). -/
def tellLost (p : Hdr × Payload) (s : State) : State :=
  let tell (closed : Bool) (dirn : BitVec 3) (l : LinkSt) : LinkSt :=
    if closed then l else { l with out := l.out ++ [({ p.1 with dirn := dirn }, p.2)] }
  let a := s.aon
  ((s.onLink 0 (tell a.bypCw 0)).onLink 1 (tell a.bypCcw 1)).onAon fun a => { a with bypCw := true, bypCcw := true }

/-- The scarf bypass closes abruptly (R259, R260). -/
def closeBypass (s : State) : State := tellLost (lostLeave s) (cutOutputs s)

/-- A pending raise is discarded at FAULT, with code 0x9A (R366, R367). -/
def discardRaise (s : State) : State :=
  if s.cfg.pending then
    report { code := 0x9A } (s.onCfg fun c => { c with pending := false, forced := false, code := 0x9A })
  else s

/-- BOOT ends: BOOT_TIME.LAST holds its length in ACLK, 16 BCLK each (BOOT_TIME, R21). -/
def noteBootTime (s : State) : State :=
  if s.aon.st == .boot then s.onAon fun a => { a with bootLast := satNat 32 (s.time.bootBclk / 16) } else s

/-- The chattering of MRST_N or PWROK_MAIN is logged when the block reaches READY, EMBER or FAULT (R345). -/
def logChatter (s : State) : State :=
  if s.aon.chatLog then report { code := 0x99 } (s.onAon fun a => { a with chatLog := false }) else s

/-- A main reset: every port is in RESET; the levels of Ep_PRESENT and Ep_FAULT_N stay (R141). -/
def portsReset (s : State) : State :=
  s.onPorts fun t => { ({} : Ports) with port := t.port.map fun q => { present := q.present, faultN := q.faultN } }

/-- The debug unit after a main reset: the test controller, in the always-on domain, stays as it is (R405). -/
def tapKept (s : State) : Dbg :=
  { ({} : Dbg) with ir := s.dbg.ir, mbist := s.dbg.mbist, shifted := s.dbg.shifted, bypass := s.dbg.bypass
                    tdo := s.dbg.tdo, trstN := s.dbg.trstN }

/-- What a failed load set is undone: the TCM is cleared and the main-domain registers return to their reset values;
the log, the purge, the mortise table and the test controller are unaffected, and the path monitors read what they read
(R358, R361; assumption 36). -/
def undoLoad (s : State) : State :=
  let t := s.trf
  { s with
    cfg := { s.cfg with shadow := {}, active := {} }
    trf := { ({} : Trf) with
             beams := t.beams, errs := t.errs, lost := t.lost, mort := t.mort, purging := t.purging
             purgeStart := t.purgeStart, purgeLast := t.purgeLast, purgeFails := t.purgeFails, verifyFail := t.verifyFail }
    truss := {}, ports := (portsReset s).ports, sinter := {}, sched := {}, layout := {}, mem := {}, arb := {}
    col := {}, gov := { ({} : Gov) with slack := s.gov.slack }, core := {}
    dbg := tapKept s }

/-- A BOOT that ends in FAULT has failed: LOADED is clear, STEP reads FAILED, and nothing of an image stays in the
always-on registers (R361; assumption 86). -/
def failBoot (s : State) : State :=
  if s.aon.st == .boot then
    s.onAon fun a =>
      { a with bSeq := 0, bUnlock := false, bLoaded := false, bSlot := 3, imageId := 0, bStep := 6
               seqr := { a.seqr with phase := .failed, failed := true, loaded := false, slots := [] } }
  else s

/-- Enters FAULT: the core halts (R321), a pending raise is discarded (R366), the bypass closes (R377). -/
def enterFault (s : State) : State :=
  let s := logChatter (setState .fault (noteBootTime (failBoot s)))
  let s := s.onCore fun c => { c with run := .halted }
  let s := s.onAon fun a => { a with pendFatal := false, killed := false }
  closeBypass (discardRaise s)

/-- BOOT ends in FAULT: what was loaded is undone first (R98, R361). -/
def bootFault (s : State) : State := enterFault (undoLoad s)

/-- Acts on a fatal error of this step (R23, R24): during PURGE, and during BOOT while its purge runs, FAULT waits
for the purge. -/
def takeFatal (s : State) : State :=
  if s.aon.fatalDue then
    let s := s.onAon fun a => { a with fatalDue := false }
    match s.aon.st with
    | .off | .reset | .fault => s
    | .purge => s.onAon fun a => { a with pendFatal := true }
    | .boot => if s.trf.purging then s.onAon fun a => { a with pendFatal := true } else enterFault s
    | _ => enterFault s
  else s

/-- Any slot holds a phase. -/
def anyPhase (s : State) : Bool := s.sched.slot.toList.any (·.st != .free)

/-- No update is on its way to a bank: the port buffers, the drain network, the sinter queues and the sequencer are
empty (R23). -/
def drainsDone (s : State) : Bool :=
  s.ports.port.toList.all (·.buf.isEmpty) && s.sinter.net.isEmpty && s.sinter.queue.isEmpty && s.sinter.seqBeams.isEmpty

/-- The transitions that follow from what the units hold: READY to RUN and RUN to READY (R23). -/
def followState (s : State) : State :=
  match s.aon.st with
  | .ready => if anyPhase s then setState .run s else s
  | .run => if s.sched.queue.isEmpty && !anyPhase s && drainsDone s then setState .ready s else s
  | _ => s

/-! ### Interrupts (R334) -/

/-- The nine interrupt sources (R334). -/
def irqSources (s : State) : BitVec 9 :=
  flagBits 1 s.core.irqBell ++ flagBits 1 s.core.irqState ++ flagBits 1 s.aon.inFull ++ flagBits 1 s.core.irqErr ++
    flagBits 1 (s.core.woEvent != 0) ++ flagBits 1 (s.gov.event != 0) ++ flagBits 1 (s.col.event != 0) ++
    flagBits 1 (s.layout.event != 0) ++ flagBits 1 (s.sched.event != 0)

/-- A level that the spec leaves open, now. -/
def anyLevel (s : State) (k : Nat) (pin : OutPin) (w : Nat) : BitVec w := Config.pinBits k s.time.root pin w

/-- The level of a main-domain output of w bits: what its unit gives; low while the isolation cells hold it, which a fallen
rail does not change in RESET, VAON being there; else any (R348, R395, R403). -/
def outLevel {w : Nat} (pin : OutPin) (s : State) (v : BitVec w) : BitVec w :=
  match s.aon.drive with
  | .normal => v
  | .held => 0
  | .free k => if s.aon.st == .reset then 0 else anyLevel s k pin w

/-- The level of an output half of a ring link, which the scarf bypass drives in RESET, no isolation cell holding it (R348,
R395, R403). -/
def linkLevel {w : Nat} (pin : OutPin) (s : State) (v : BitVec w) : BitVec w :=
  match s.aon.drive with
  | .free k => anyLevel s k pin w
  | _ => v

/-- The level of an always-on output: any where VAON is gone beside a rail (R395, R399). -/
def aonLevel {w : Nat} (pin : OutPin) (s : State) (v : BitVec w) : BitVec w :=
  if s.aon.st == .off then outLevel pin s v else v

/-- What the interrupt unit gives to IRQ[3:0] (R334). -/
def irqLevels (s : State) : BitVec 4 :=
  (List.range 8).foldl (fun acc i =>
    if bitAt (irqSources s) i && bitAt s.core.irqRoute (4 * i + 3) then
      acc ||| ((1 : BitVec 4) <<< (field s.core.irqRoute (4 * i) 2).toNat)
    else acc) 0

/-- The lines IRQ[3:0]: low in OFF and RESET, driven in every other state; any level only in OFF beside rails still present,
or outside RESET once a rail has fallen early (R334, R348, R395, R403). -/
def irqLines (s : State) : BitVec 4 := outLevel .irq s (irqLevels s)

/-- mip.MEIP: a source that CORE_IRQ_EN selects is pending (R334). -/
def meip (s : State) : Bool := (irqSources s &&& s.core.irqEn) != 0

/-- WFI ends when mip & mie has a bit set (R317). -/
def wakeCore (s : State) : State :=
  if s.core.run == .wfi && meip s && bitAt s.core.mie 11 then s.onCore fun c => { c with run := .running } else s

/-- What every command ends with: transitions by R24's order, the log, the interrupt that ends WFI. -/
def settle (s : State) : State := wakeCore (flushLog (followState (takeFatal s)))

/-- The outcome of a command: the next state. -/
def done (s : State) : Host.Outcome State Fault Refusal := .next (settle s)

/-- An event whose condition does not hold does not take place (assumption 3). -/
def onlyIf (c : Bool) (f : State → State) (s : State) : State := if c then f s else s

end Sys2Proof.Machine
end

