-- ==== Sys2Proof/Machine/Trf.lean ====
section
/-!
DEFINITION. Trf.lean: the banks of the tile register file: the hash, reading and writing a line, what an uncorrectable
read does to its mortise, and poison (R63 to R93).
-/
namespace Sys2Proof.Machine

/-! ### The hash (R64, R65) -/

/-- The bank of a logical beam (R64). -/
def bankOf (b : BitVec 20) : BitVec 9 := field b 0 9 ^^^ field b 9 9

/-- The line of a logical beam (R64). -/
def lineOf (b : BitVec 20) : BitVec 11 := field b 9 11

/-- The bay of a logical beam (R64). -/
def bayOf (b : BitVec 20) : BitVec 5 := field (bankOf b) 4 5

/-- The beam at a bank and line (R65). -/
def beamAt (bank : BitVec 9) (line : BitVec 11) : BitVec 20 := line ++ (bank ^^^ field line 0 9)

/-- The bank number of a beam, as an index. -/
def bankIx (b : BitVec 20) : Nat := (bankOf b).toNat

/-- The bay of a beam, as an index. -/
def bayIx (b : BitVec 20) : Fin 32 := (bayOf b).toFin

/-! ### Mortises (R77) -/

/-- Entry i of the mortise table. -/
def mortAt (s : State) (i : BitVec 10) : Mortise := s.trf.mort.get {} i.toNat

/-- Writes entry i of the mortise table. -/
def setMort (i : BitVec 10) (e : Mortise) (s : State) : State :=
  s.onTrf fun t => { t with mort := t.mort.set {} i.toNat e }

/-- Changes entry i of the mortise table. -/
def modMort (i : BitVec 10) (f : Mortise → Mortise) (s : State) : State := setMort i (f (mortAt s i)) s

/-- The entry and, for a twin, its partner (R84). -/
def pairOf (s : State) (i : BitVec 10) : List (BitVec 10) :=
  if (mortAt s i).twinV then [i, (mortAt s i).twin] else [i]

/-- Changes an entry and its twin. -/
def modPair (i : BitVec 10) (f : Mortise → Mortise) (s : State) : State := foldOver (pairOf s i) (modMort · f) s

/-- The entry is registered: neither INVALID nor RETIRED. -/
def Mortise.valid (e : Mortise) : Bool := e.st != .invalid && e.st != .retired

/-- A beam lies in an entry's range. -/
def Mortise.holds (e : Mortise) (b : BitVec 20) : Bool :=
  e.base.toNat ≤ b.toNat && b.toNat < e.base.toNat + e.len.toNat

/-- The valid entry in whose range a beam lies. -/
def mortOfBeam (s : State) (b : BitVec 20) : Option (BitVec 10) :=
  match s.trf.mort.find? fun p => p.2.valid && p.2.holds b with
  | some p => some (BitVec.ofNat 10 p.1)
  | none => none

/-- Beam `ofs` of an entry. -/
def Mortise.beamAt (e : Mortise) (ofs : Nat) : BitVec 20 := BitVec.ofNat 20 (e.base.toNat + ofs)

/-! ### Poison (R90, R92) -/

/-- Either half of the pair is poisoned (R90). -/
def isPoisoned (s : State) (i : BitVec 10) : Bool := (pairOf s i).any fun j => (mortAt s j).poison

/-- Sets POISON on an entry and its twin; the entry that later poisoned writes repeat is not yet known (R371). -/
def setPoison (i : BitVec 10) (s : State) : State :=
  modPair i (fun e => if e.poison then e else { e with poison := true, poisonSeq := none }) s

/-- A beam that carries poison is written into a mortise: code 0x0E when it sets POISON, else a repeat (R90,
R371). -/
def poisonWrite (i : BitVec 10) (b : BitVec 20) (pid : Option (BitVec 8)) (s : State) : State :=
  let sets := !isPoisoned s i
  report
    { code := 0x0E, unit := (bankOf b).setWidth 12, mort := some i, pid := pid, loc := b.setWidth 64,
      setsPoison := sets }
    (setPoison i s)

/-! ### Reading a line (R74) -/

/-- The beam stored at a logical index. -/
def storedBeam (s : State) (b : BitVec 20) : Beam := s.trf.beams.get 0 b.toNat

/-- The symbol errors standing in a line. -/
def lineErr (s : State) (b : BitVec 20) : LineErr := s.trf.errs.get {} b.toNat

/-- Symbol errors strike a line: an operand of the read that finds them (assumption 9). -/
def strike (b : BitVec 20) (u : LineErr) (s : State) : State :=
  if u = {} then s else s.onTrf fun t => { t with errs := t.errs.set {} b.toNat (mergeErr u (lineErr s b)) }

/-- The staged beam is a scrub's write-back of line b. -/
def Staged.rewrites (b : BitVec 20) (t : Staged) : Bool := t.client == .scrub && t.job.beam == b

/-- A write to a line cancels the scrub write-back of it that is staged in its bay (R94). -/
def cancelScrub (b : BitVec 20) (s : State) : State :=
  s.onBay (bayIx b) fun y =>
    { y with bufs := (y.bufs.map fun l => l.filter fun t => !t.rewrites b).filter fun l => !l.isEmpty }

/-- Writes a line: its symbol errors are gone, and a scrub write-back of it is cancelled (R69, R91, R94). -/
def writeLine (b : BitVec 20) (v : Beam) (s : State) : State :=
  (govEvent 15 1 (cancelScrub b s)).onTrf fun t =>
    { t with beams := t.beams.set 0 b.toNat v, errs := t.errs.erase b.toNat }

/-- LOCATION of an error-correction code: which codewords failed, the symbol position, the beam (R370). -/
def eccLoc (cw0 cw1 : Bool) (sym : Nat) (b : BitVec 20) : BitVec 64 :=
  (0 : BitVec 22) ++ flagBits 1 cw1 ++ flagBits 1 cw0 ++ BitVec.ofNat 8 sym ++ (0 : BitVec 12) ++ b

/-- A read counts a correctable error: the totals, the bank's count, its symbol, code 0x01 at the threshold (R74,
R96). -/
def countCe (b : BitVec 20) (sym : Nat) (s : State) : State :=
  let k := bankIx b
  let n := satAdd (s.trf.ceBank.get 0 k) 1
  let due := s.trf.ceThresh.toNat ≤ n.toNat && !s.trf.ceLogged.get false k
  let s := s.onTrf fun t =>
    { t with ceTotal := satAdd t.ceTotal 1, ceBank := t.ceBank.set 0 k n,
             lastSym := t.lastSym.set 0xFF k (BitVec.ofNat 8 sym),
             ceLogged := if due then t.ceLogged.set false k true else t.ceLogged }
  if due then report { code := 0x01, unit := (bankOf b).setWidth 12, loc := eccLoc false false sym b } s else s

/-- The beam whose uncorrectable read set UE_PEND in the pair (R92). -/
def uePendBeam (s : State) (i : BitVec 10) : Option (BitVec 20) :=
  match (pairOf s i).find? fun j => (mortAt s j).uePend with
  | some j => some ((mortAt s j).beamAt (mortAt s j).ueOffset.toNat)
  | none => none

/-- An uncorrectable read of a beam of a mortise: poison, UE_PEND, and code 0x06 for a second beam (R90, R92). -/
def ueInMort (r : Report) (i : BitVec 10) (b : BitVec 20) (s : State) : State :=
  let s := setPoison i s
  let r := { r with mort := some i }
  match uePendBeam s i with
  | none =>
    report r (modMort i (fun e =>
      { e with uePend := true, ueOffset := BitVec.ofNat 20 (b.toNat - e.base.toNat) }) s)
  | some c => if c = b then report r s else fatal { r with code := 0x06, nested := true } s

/-- An uncorrectable read: UE_TOTAL, UE_LAST, the log and the mortise (R74, R90 to R93). -/
def countUe (code : BitVec 8) (mort : Option (BitVec 10)) (pid : Option (BitVec 8)) (b : BitVec 20) (r : LineRead)
    (s : State) : State :=
  let u0 := r.c0 == .ue
  let u1 := r.c1 == .ue
  let s := s.onTrf fun t =>
    { t with ueTotal := satAdd t.ueTotal 1,
             ueLast := (0 : BitVec 16) ++ code ++ flagBits 1 mort.isSome ++ mort.getD 0 ++ flagBits 1 u1 ++
               flagBits 1 u0 ++ (0 : BitVec 7) ++ b }
  let rep : Report := { code := code, unit := (bankOf b).setWidth 12, pid := pid, loc := eccLoc u0 u1 0xFF b }
  match mort with
  | some i => ueInMort rep i b s
  | none => report rep s

/-- What a read of a bank delivers. -/
structure BankRead where
  /-- The beam. -/
  beam : Beam
  /-- It carries the poison indication (R90). -/
  poison : Bool
  /-- The read was uncorrectable. -/
  ue : Bool
  /-- The read was corrected. -/
  ce : Bool
  deriving DecidableEq, Repr

/-- Reads a beam of a mortise on some port: `code` is what an uncorrectable read logs (R74, R90). -/
def bankRead (code : BitVec 8) (i : BitVec 10) (pid : Option (BitVec 8)) (b : BitVec 20) (u : LineErr) (s : State) :
    BankRead × State :=
  let s := govEvent 14 1 (strike b u s)
  let r := readLine (storedBeam s b) (lineErr s b)
  let s := if r.ue then countUe code (some i) pid b r s else if r.ce then countCe b r.lowSym s else s
  ({ beam := r.beam, poison := isPoisoned s i, ue := r.ue, ce := r.ce }, s)

/-- Writes a beam of a mortise: poison that arrives with it marks the mortise (R90). -/
def mortWrite (i : BitVec 10) (b : BitVec 20) (v : Beam) (poison : Bool) (pid : Option (BitVec 8)) (s : State) : State :=
  let s := writeLine b v s
  if poison then poisonWrite i b pid s else s

end Sys2Proof.Machine
end

