-- ==== Sys2Proof/Machine/SidePort.lean ====
section
/-!
DEFINITION. SidePort.lean: what every side-port transfer shares: who may request in which state, input numbers,
back-off and losses (R243 to R249).
-/
namespace Sys2Proof.Machine

/-- The active ARB_CFG of a bay (R245). -/
def arbCfg (s : State) (b : Fin 32) : W64 := s.cfg.active.arb.get 0 b.val

/-- The input number of requester r in a bay (R245). -/
def inputNum (s : State) (b : Fin 32) (r : Fin 8) : Nat := (field (arbCfg s b) (3 * r.val) 3).toNat

/-- The burst limit of a bay; 0 acts as 1 (R245). -/
def burstOf (s : State) (b : Fin 32) : Nat := max 1 (field (arbCfg s b) 32 7).toNat

/-- Requester r of a bay is in back-off (R248). -/
def inBackoff (s : State) (b : Fin 32) (r : Fin 8) : Bool := bitAt s.arb.bay[b].backoff r.val

/-- A bit of eight set or cleared. -/
def putBit8 (x : BitVec 8) (r : Fin 8) (v : Bool) : BitVec 8 :=
  let m := (1 : BitVec 8) <<< r.val
  if v then x ||| m else x &&& ~~~m

/-- A transfer of requester r completes in a bay: its losses return to zero and code 0x56 is rearmed (R248, R249). -/
def transferDone (b : Fin 32) (r : Fin 8) (s : State) : State :=
  (s.onBay b fun y => { y with losses := y.losses.erase r.val, logged := putBit8 y.logged r false }).onArb fun a =>
    { a with count := bump a.count 0 1 }

/-- Beats moved on side-port paths (ARB_COUNT). -/
def countBeats (n : Nat) (s : State) : State := govEvent 10 n (s.onArb fun a => { a with count := bump a.count 2 n })

/-- Requester r of a bay loses: its consecutive losses and their maximum count, it backs off, and the 1,024th in a row
is logged (R248, R249). -/
def loseReq (b : Fin 32) (r : Fin 8) (s : State) : State :=
  let y := s.arb.bay[b]
  let n := satAdd (y.losses.get 0 r.val) 1
  let due := 1024 ≤ n.toNat && !bitAt y.logged r.val
  let s := s.onBay b fun y =>
    { y with losses := y.losses.set 0 r.val n
             maxLoss := if (y.maxLoss.get 0 r.val).toNat < n.toNat then y.maxLoss.set 0 r.val n else y.maxLoss
             backoff := putBit8 y.backoff r true
             logged := if due then putBit8 y.logged r true else y.logged }
  if due then
    report { code := 0x56, unit := BitVec.ofNat 12 b.val, loc := BitVec.ofNat 64 r.val } s
  else s

/-- The keys of a client's beams that are staged or committing in a bay (R244). -/
def Bay.keys (y : Bay) (c : Client) : List Nat :=
  (y.owner.toList.filter (·.client == c)).flatMap (fun g => g.jobs.map Job.key ++ g.staged.map fun t => t.job.key) ++
    y.bufs.flatMap fun b => (b.filter (·.client == c)).map fun t => t.job.key

/-- The keys of a client's beams that are staged or committing in some bay (R244). -/
def flyingKeys (s : State) (c : Client) : List Nat := (s.arb.bay.toList.map fun y => y.keys c).flatten

end Sys2Proof.Machine
end

