-- ==== Sys2Proof/Machine/SideReads.lean ====
section
/-!
DEFINITION. SideReads.lean: what requesters 6 and 7 have to move: range clears (R97), patrol scrub (R94 to R96) and
debug reads (R384).
-/
namespace Sys2Proof.Machine

/-- What one client asks of a bay. -/
structure Ask where
  /-- The client. -/
  client : Client
  /-- It writes. -/
  write : Bool
  /-- Its beams in the bay, in order. -/
  jobs : List Job
  deriving DecidableEq, Repr

/-! ### Range clear (R97) -/

/-- The first k offsets of an entry at or after n whose beams lie in a bay; the fuel bounds the search, of which 512
beams in a row hold 16 of each bay (R64). -/
def bayOffsets (e : Mortise) (b : Fin 32) : Nat → Nat → Nat → List Nat
  | 0, _, _ => []
  | fuel + 1, n, k =>
    if k = 0 || e.len.toNat ≤ n then []
    else if bayIx (e.beamAt n) = b then n :: bayOffsets e b fuel (n + 1) (k - 1)
    else bayOffsets e b fuel (n + 1) k

/-- The key of an entry and a bay in clearAt. -/
def clearKey (i : Nat) (b : Fin 32) : Nat := 32 * i + b.val

/-- The next offset of an entry that a range clear has to write in a bay. -/
def clearNext (s : State) (i : Nat) (b : Fin 32) : Nat := s.trf.clearAt.get 0 (clearKey i b)

/-- What the range clear of an entry asks of a bay: the beams behind those it has in flight there, up to the burst
limit (R97). -/
def askClear (s : State) (b : Fin 32) (i : Nat) (e : Mortise) : Ask :=
  let c : Client := .clear (BitVec.ofNat 10 i)
  let from_ := (s.arb.bay[b].keys c).foldl (fun m k => max m (k + 1)) (clearNext s i b)
  { client := c, write := true,
    jobs := (bayOffsets e b 4096 from_ (burstOf s b)).map fun o =>
      { beam := e.beamAt o, key := o, mort := BitVec.ofNat 10 i } }

/-- What the range clears ask of a bay, in the order of their entries. -/
def askClears (s : State) (b : Fin 32) : List Ask :=
  ((s.trf.mort.filter fun p => p.2.st == .clearing).map fun p => askClear s b p.1 p.2).filter fun a => !a.jobs.isEmpty

/-- A range clear uses the scrub input of a bay (R95, R97). -/
def clearUses (s : State) (b : Fin 32) : Bool := !(askClears s b).isEmpty

/-- Every beam of an entry's range clear is committed (R97). -/
def clearOver (s : State) (i : BitVec 10) : Bool :=
  (List.finRange 32).all fun b => (bayOffsets (mortAt s i) b 4096 (clearNext s i.toNat b) 1).isEmpty

/-- A zero beam of a range clear is committed (R97). -/
def clearCommitted (i : BitVec 10) (beam : BitVec 20) (ofs : Nat) (s : State) : State :=
  if (mortAt s i).st == .clearing then
    s.onTrf fun t => { t with clearAt := t.clearAt.set 0 (clearKey i.toNat (bayIx beam)) (ofs + 1) }
  else s

/-- The range clear of an entry is over or given up: its progress is forgotten. -/
def clearForget (i : BitVec 10) (s : State) : State :=
  s.onTrf fun t => { t with clearAt := t.clearAt.eraseRange (32 * i.toNat) 32 }

/-! ### Patrol scrub (R94 to R96) -/

/-- SCRUB_CFG.INTERVAL of the active set is not 0. -/
def scrubOn (s : State) : Bool := field s.cfg.active.scrub 0 16 != 0

/-- The beam at position n of a bay's pass: line n / 16, bank-in-bay n % 16 (R94). -/
def scrubBeam (bay : Fin 32) (n : Nat) : BitVec 20 :=
  beamAt (BitVec.ofNat 9 (16 * bay.val + n % 16)) (BitVec.ofNat 11 (n / 16))

/-- A beam lies in a RETIRED entry (R94, R99). -/
def isRetired (s : State) (b : BitVec 20) : Bool := s.trf.mort.any fun p => p.2.st == .retired && p.2.holds b

/-- The next position at or after n whose line is not RETIRED; 32,768 when the bay has finished. -/
def scrubNext (s : State) (bay : Fin 32) : Nat → Nat → Nat
  | 0, _ => 32768
  | fuel + 1, n => if 32768 ≤ n then 32768 else if isRetired s (scrubBeam bay n) then scrubNext s bay fuel (n + 1) else n

/-- The position of a bay in the pass, RETIRED lines skipped. -/
def scrubAt (s : State) (bay : Fin 32) : Nat := scrubNext s bay 32769 (s.trf.scrubPos.get 0 bay.val)

/-- Patrol scrub runs: in READY, RUN, PAUSE and EMBER, with an interval (R94, R95). -/
def scrubActive (s : State) : Bool := isLive s && scrubOn s

/-- What scrub asks of a bay: the line whose interval has expired, unless a range clear uses the input (R94, R95). -/
def askScrub (s : State) (b : Fin 32) : Ask :=
  { client := .scrub, write := false,
    jobs := if scrubActive s && s.arb.bay[b].scrubDue && !clearUses s b && scrubAt s b < 32768 then
        [{ beam := scrubBeam b (scrubAt s b), key := scrubAt s b, mort := 0 }]
      else [] }

/-- The pass counts the symbols a read corrected in its bank, for code 0x0D (R96). -/
def noteSyms (k : Nat) (syms : List Nat) (s : State) : State :=
  s.onTrf fun t => { t with symHits := syms.foldl (fun m y => m.modify 0 (140 * k + y) (· + 1)) t.symHits }

/-- Scrub reads one line: an uncorrectable read is code 0x04, and a corrected beam is to be written back (R93,
R94). -/
def scrubLine (b : BitVec 20) (u : LineErr) (s : State) : Option Beam × State :=
  let s := govEvent 14 1 (strike b u s)
  let r := readLine (storedBeam s b) (lineErr s b)
  let s := noteSyms (bankIx b) r.syms s
  if r.ue then (none, countUe 0x04 (mortOfBeam s b) none b r s)
  else if r.ce then (some r.beam, countCe b r.lowSym s)
  else (none, s)

/-- A bay's scrub read is done: its position moves on, and a corrected beam is staged as a one-beam commit (R94,
R244). -/
def scrubBeat (bay : Fin 32) (j : Job) (upset : LineErr) (s : State) : State :=
  let r := scrubLine j.beam upset s
  let s := r.2.onTrf fun t => { t with scrubPos := t.scrubPos.set 0 bay.val (j.key + 1) }
  s.onBay bay fun y =>
    { y with scrubDue := false
             bufs := match r.1 with
               | some v => y.bufs ++ [[{ job := j, data := v, poison := false, client := .scrub }]]
               | none => y.bufs }

/-- All bays start a pass from line 0 (R94, R95). -/
def scrubRestart (s : State) : State :=
  (s.onTrf fun t => { t with scrubPos := [], symHits := [], passStart := s.now }).onArb fun a =>
    { a with bay := a.bay.map fun y => { y with scrubDue := false } }

/-! ### Debug reads (R384) -/

/-- What the debug read in progress asks of a bay (R243). -/
def askDebug (s : State) (b : Fin 32) : Ask :=
  { client := .debug, write := false,
    jobs := match s.dbg.req with
      | some (_, mort, beam) => if bayIx beam = b then [{ beam := beam, key := 0, mort := mort }] else []
      | none => [] }

/-- A DATA read: a side-port read in every respect; an uncorrectable one is code 0x03 (R74, R90, R384). -/
def dbgFinishData (mort : BitVec 10) (b : BitVec 20) (upset : LineErr) (s : State) : State :=
  let r := bankRead 0x03 mort none b upset s
  r.2.onDbg fun d => { d with req := none, ue := r.1.ue, ce := r.1.ce, data := r.1.beam.setWidth 4480 }

/-- A RAW read: the 560 stored bytes; it counts, logs and poisons nothing (R384). -/
def dbgFinishRaw (b : BitVec 20) (upset : LineErr) (s : State) : State :=
  let s := strike b upset s
  s.onDbg fun d => { d with req := none, data := storedLine (storedBeam s b) (lineErr s b) }

/-- The beat of the debug read: DBG_DATA and DBG_STATUS report its result (R384). -/
def debugBeat (upset : LineErr) (s : State) : State :=
  match s.dbg.req with
  | some (isRaw, mort, b) => if isRaw then dbgFinishRaw b upset s else dbgFinishData mort b upset s
  | none => s

end Sys2Proof.Machine
end

