-- ==== Sys2Proof/Machine/ColGeom.lean ====
section
/-!
DEFINITION. ColGeom.lean: the fields of a collective descriptor (R269), the chunks and steps of a running data collective
(R276), and the beams of its own that it needs next (R279).
-/
namespace Sys2Proof.Machine

/-- A collective descriptor: 64 bytes, little-endian (R269). -/
abbrev CDesc := BitVec 512

/-! ### Fields of a descriptor (R269) -/

/-- OP: 1 RSCAT, 2 AGATH, 3 ALLREDUCE, 4 NORM, 5 BARRIER. -/
def CDesc.op (d : CDesc) : Nat := byteField d 0 1
/-- FORMAT. -/
def CDesc.fmt (d : CDesc) : BitVec 4 := field d 8 4
/-- FLAGS.IRQ. -/
def CDesc.irq (d : CDesc) : Bool := bitAt d 22
/-- FLAGS.UNGUARDED. -/
def CDesc.unguarded (d : CDesc) : Bool := bitAt d 21
/-- FLAGS.NSRC. -/
def CDesc.nsrc (d : CDesc) : Bool := bitAt d 20
/-- FLAGS.TALLY. -/
def CDesc.tally (d : CDesc) : Bool := bitAt d 19
/-- FLAGS.DIR: 0 CW, 1 CCW, 2 BOTH. -/
def CDesc.dir (d : CDesc) : Nat := (field d 17 2).toNat
/-- FLAGS.SCOPE: UPLINK. -/
def CDesc.uplink (d : CDesc) : Bool := bitAt d 16
/-- TIDX. -/
def CDesc.tidx (d : CDesc) : Nat := (field d 24 2).toNat
/-- The source mortise. -/
def CDesc.mort (d : CDesc) : BitVec 10 := field d 32 10
/-- The destination mortise. -/
def CDesc.mort2 (d : CDesc) : BitVec 10 := field d 48 10
/-- BEAM_OFS. -/
def CDesc.ofs (d : CDesc) : Nat := (field d 64 20).toNat
/-- BEAM_OFS2. -/
def CDesc.ofs2 (d : CDesc) : Nat := (field d 96 20).toNat
/-- COUNT. -/
def CDesc.count (d : CDesc) : Nat := byteField d 0x10 4
/-- MAX_NORM. -/
def CDesc.maxNorm (d : CDesc) : BitVec 32 := field d 160 32
/-- TOK[0] to TOK[3]. -/
def CDesc.toks (d : CDesc) : List (BitVec 16) := (List.range 4).map fun k => d.extractLsb' (192 + 16 * k) 16
/-- BAR_ID. -/
def CDesc.barId (d : CDesc) : BitVec 16 := field d 256 16
/-- A data operation. -/
def CDesc.isData (d : CDesc) : Bool := 1 ≤ d.op && d.op ≤ 3
/-- The directions of the ring that a data operation uses. -/
def CDesc.uses (d : CDesc) (ccw : Bool) : Bool := d.dir = 2 || (d.dir = 1) = ccw
/-- The first beam of a direction's vector (R276). -/
def CDesc.half (d : CDesc) (ccw : Bool) : Nat := if d.dir = 2 && ccw then d.count / 2 else 0
/-- The parts a vector is cut into for n participants: n, or 2n for BOTH (R269). -/
def CDesc.parts (d : CDesc) (n : Nat) : Nat := if d.dir = 2 then 2 * n else n

/-! ### Chunks (R276) -/

/-- A direction of the running collective. -/
def CRun.side (r : CRun) (ccw : Bool) : CDir := if ccw then r.ccw else r.cw

/-- Changes a direction of the running collective. -/
def CRun.onSide (r : CRun) (ccw : Bool) (f : CDir → CDir) : CRun :=
  if ccw then { r with ccw := f r.ccw } else { r with cw := f r.cw }

/-- A position k places on in a direction, modulo the participants. -/
def CRun.step (r : CRun) (ccw : Bool) (from_ : Nat) (k : Int) : Nat :=
  (((from_ : Int) + if ccw then -k else k) % (r.n : Int)).toNat

/-- The ring step lies in an all-gather: every step of AGATH, the second half of ALLREDUCE (R276). -/
def CRun.gathers (r : CRun) (t : Nat) : Bool := CDesc.op r.desc = 2 || (CDesc.op r.desc = 3 && r.n ≤ t + 1)

/-- The ring steps of the collective; one step without packets when it has one participant. -/
def CRun.steps (r : CRun) : Nat :=
  if r.n = 1 then 1 else if CDesc.op r.desc = 3 then 2 * (r.n - 1) else r.n - 1

/-- The chunk that the participant at a position sends at ring step t (R276). -/
def CRun.chunkOf (r : CRun) (ccw : Bool) (pos t : Nat) : Nat :=
  if CDesc.op r.desc = 2 then r.step ccw pos (-t)
  else if r.gathers t then r.step ccw pos (-((t : Int) - (r.n - 1)))
  else r.step ccw pos (-(t + 1))

/-- The place of beam v of the vector in what this member holds or receives as its chunk: the CW chunk first (R269,
R276). -/
def CRun.inner (r : CRun) (ccw : Bool) (v : Nat) : Nat :=
  (v - CDesc.half r.desc ccw) % r.chunk + if CDesc.dir r.desc = 2 && ccw then r.chunk else 0

/-- The beam of MORT that holds this member's beam v of the vector (R269). -/
def CRun.source (r : CRun) (ccw : Bool) (v : Nat) : Nat :=
  CDesc.ofs r.desc + if CDesc.op r.desc = 2 then r.inner ccw v else v

/-- The beam of MORT2 that receives beam v of the vector (R269, R276). -/
def CRun.target (r : CRun) (ccw : Bool) (v : Nat) : Nat :=
  CDesc.ofs2 r.desc + if CDesc.op r.desc = 1 then r.inner ccw v else v

/-- The beams of the next packet: up to 3, fewer at the end of a chunk (R258). -/
def CRun.batch (r : CRun) (ccw : Bool) : Nat := min 3 (r.chunk - (r.side ccw).sendOfs)

/-- The first beam of the next packet, by its place in the vector. -/
def CRun.nextBeam (r : CRun) (ccw : Bool) : Nat :=
  CDesc.half r.desc ccw + r.chunkOf ccw r.pos (r.side ccw).sendStep * r.chunk + (r.side ccw).sendOfs

/-! ### Its own beams (R279) -/

/-- This member's beam v of the vector is at hand: read, and not yet sent or added. -/
def CRun.holds (r : CRun) (v : Nat) : Bool := r.own.get 0 v != 0

/-- The place in the vector of the i-th beam that a direction has still to send in its first step; none past its chunk. -/
def CRun.toSend (r : CRun) (ccw : Bool) (i : Nat) : Option Nat :=
  let c := r.side ccw
  if c.sendStep = 0 && c.sendOfs + i < r.chunk then some (r.nextBeam ccw + i) else none

/-- The place in the vector of the i-th beam that a direction has still to receive, when this member adds its own to it:
the beams of the steps come in their order. -/
def CRun.toAdd (r : CRun) (ccw : Bool) (i : Nat) : Option Nat :=
  let k := (r.side ccw).got + i
  let t := k / max 1 r.chunk
  if r.n ≤ 1 || r.steps ≤ t || r.gathers t then none
  else some (CDesc.half r.desc ccw + r.chunkOf ccw (r.step ccw r.pos (-1)) t * r.chunk + k % max 1 r.chunk)

/-- The beams of its own that a direction needs next and does not hold, at most as many as a burst (R244, R279; that the
unit reads so far ahead and no further is a DESIGN CHOICE, assumption 112). -/
def CRun.lacks (r : CRun) (ccw : Bool) (burst : Nat) : List Nat :=
  if !CDesc.uses r.desc ccw then []
  else ((List.range burst).filterMap (r.toSend ccw) ++ (List.range burst).filterMap (r.toAdd ccw)).filter (!r.holds ·)

/-- The side-port read of this member's beam v of the vector. -/
def CRun.ownJob (r : CRun) (s : State) (ccw : Bool) (v : Nat) : Job :=
  { beam := (mortAt s (CDesc.mort r.desc)).beamAt (r.source ccw v), key := v, mort := CDesc.mort r.desc }

/-- What the running collective asks of a bay on requester 3: the beams of its own that it needs next (R243, R279). -/
def askOut (s : State) (b : Fin 32) : Ask :=
  { client := .colOut, write := false,
    jobs := s.col.run.toList.flatMap fun r =>
      if CDesc.isData r.desc then
        (([false, true].flatMap fun ccw => (r.lacks ccw (burstOf s b)).map (r.ownJob s ccw)).filter fun j =>
          bayIx j.beam = b && !(flyingKeys s .colOut).contains j.key)
      else [] }

/-- A beam of its own has been read for the running collective. -/
def ownRead (v : Nat) (b : MarkedBeam) (s : State) : State :=
  s.onCol fun c => { c with run := c.run.map fun r => { r with own := r.own.set 0 v ((1 : BitVec 1) ++ b) } }

end Sys2Proof.Machine
end

