-- ==== Sys2Proof/Machine/CoreOps.lean ====
section
/-!
DEFINITION. CoreOps.lean: the control core's registers and TCM, taking a trap and returning from one (R317 to R323),
and how the answers of the memory aperture reach it (R320).
-/
namespace Sys2Proof.Machine

/-! ### Registers and TCM -/

/-- Integer register r; x0 reads zero. -/
def getX (s : State) (r : BitVec 5) : W64 := if r = 0 then 0 else s.core.x.get 0 r.toNat

/-- Writes integer register r; x0 discards writes. -/
def setX (r : BitVec 5) (v : W64) (s : State) : State :=
  if r = 0 then s else s.onCore fun c => { c with x := c.x.set 0 r.toNat v }

/-- The core executes: the main domain runs, the core is not halted and waits for nothing. -/
def coreReady (s : State) : Bool := mainOn s && s.core.run == .running && s.core.apLoad.isNone

/-- Bytes of the TCM (R318). -/
def tcmSize : Nat := 262144

/-- n bytes of the TCM at an address, as a number (R10). -/
def tcmRead (s : State) (a n : Nat) : Nat := leNat ((List.range n).map fun i => s.core.tcm.get 0 (a + i))

/-- Writes n bytes of the TCM at an address (R10). -/
def tcmWrite (a n v : Nat) (s : State) : State :=
  s.onCore fun c => { c with tcm := (leBytes n v).zipIdx.foldl (fun m p => m.set 0 (a + p.2) p.1) c.tcm }

/-- A write of n bytes of the TCM by a move ends an LR reservation there (R317; assumption 15). -/
def breakResv (a n : Nat) (s : State) : State :=
  s.onCore fun c => { c with resv := c.resv.filter fun r => !(r < a + n && a < r + 8) }

/-- Instructions retired, and the pc moves on. -/
def retire (len : Nat) (s : State) : State :=
  s.onCore fun c => { c with pc := c.pc + BitVec.ofNat 64 len, minstret := c.minstret + 1 }

/-- mip: MEIP at bit 11 (R317, R334). -/
def mipOf (s : State) : W64 := if meip s then 0x800 else 0

/-! ### Traps (R321) -/

/-- Enters the trap handler: mepc, mcause and mtval are written, MIE moves to MPIE and clears, the pc goes to mtvec
(direct mode), CORE_STATUS records the trap and NEST is set (R317, R321; the rest PRESUMED, assumption 15). -/
def enterTrap (cause tval : W64) (s : State) : State :=
  s.onCore fun c =>
    { c with mepc := c.pc, mcause := cause, mtval := tval
             mstatus := if bitAt c.mstatus 3 then 0x1880 else 0x1800
             pc := c.mtvec, nest := true, run := .running
             lastPc := c.pc.setWidth 32, lastCause := flagBits 1 (bitAt cause 63) ++ field cause 0 7 }

/-- Takes an exception: code 0x81 with mcause, and the Fatal code 0x82 when NEST is set (R321). -/
def takeException (cause : Nat) (tval : W64) (s : State) : State :=
  let c : W64 := BitVec.ofNat 64 cause
  let nested := s.core.nest
  let s := enterTrap c tval (report { code := 0x81, loc := c } s)
  if nested then fatal { code := 0x82, loc := c, nested := true } s else s

/-- The cause of the machine external interrupt. -/
def irqCause : W64 := 0x800000000000000B

/-- Returns from a trap: the pc from mepc, MIE from MPIE, NEST cleared (R321; assumption 15). -/
def leaveTrap (s : State) : State :=
  s.onCore fun c =>
    { c with pc := c.mepc, nest := false, minstret := c.minstret + 1
             mstatus := if bitAt c.mstatus 7 then 0x1888 else 0x1880 }

/-- The core meets a corrected TCM error (R323). -/
def countTcmCe (s : State) : State := s.onCore fun c => { c with tcmCe := satAdd c.tcmCe 1 }

/-- An uncorrectable TCM read (R323). -/
def tcmFatal (s : State) : State := fatal { code := 0x89 } s

/-- A read of the TCM meets code errors: 0 none, 1 corrected, 2 or 3 uncorrectable (R323). -/
def tcmUpset (u : BitVec 2) (s : State) : State := if u == 0 then s else if u == 1 then countTcmCe s else tcmFatal s

/-! ### The memory aperture (R320) -/

/-- An access through the aperture failed (R320). -/
def logAperture (s : State) : State := report { code := 0x84 } s

/-- The data of the aperture load arrives: one granule, poisoned or failed in bit 512 (R320). -/
def finishLoad (g : BitVec 513) (s : State) : State :=
  match s.core.apLoad with
  | none => s
  | some (rd, _) =>
    let s := s.onCore fun c => { c with apLoad := none }
    if bitAt g 512 then takeException 5 s.core.apAddr (logAperture s)
    else retire s.core.apLen (setX rd (g.extractLsb' (8 * (s.core.apAddr.toNat % 64)) 64) s)

/-- A posted aperture store is answered; each that failed faults at a load or FENCE to come (R320). -/
def finishStore (tag : BitVec 13) (bad : Bool) (s : State) : State :=
  let s := s.onCore fun c =>
    { c with posted := c.posted.filter fun p => p.tag != tag, postFault := if bad then c.postFault + 1 else c.postFault }
  if bad then logAperture s else s

/-- Takes a fault that a posted store left, at a load or FENCE (R320): a store access fault; the spec gives no mtval
(assumption 15). -/
def takePostFault (s : State) : State :=
  let r := takeFree 64 (s.onCore fun c => { c with postFault := c.postFault - 1 })
  takeException 7 r.1 r.2

/-! ### Bulk moves (R324) -/

/-- Changes the move in progress. -/
def onMove (f : MoveJob → MoveJob) (s : State) : State := s.onCore fun c => { c with move := c.move.map f }

/-- Granule i of a memory move reaches the TCM as received; poison in bit 512 (R324). -/
def moveGranule (i : Nat) (g : BitVec 513) (s : State) : State :=
  match s.core.move with
  | some m =>
    onMove (fun m => { m with poison := m.poison || bitAt g 512 })
      (breakResv (m.tcm.toNat + 64 * i) 64 (tcmWrite (m.tcm.toNat + 64 * i) 64 (g.extractLsb' 0 512).toNat s))
  | none => s

/-- Granule i that a move writes to memory (R324). -/
def moveData (s : State) (m : MoveJob) (i : Nat) : BitVec 512 := BitVec.ofNat 512 (tcmRead s (m.tcm.toNat + 64 * i) 64)

/-- Where beam i of a move stands in the TCM: beams are packed, 544 bytes each (R28, R324; assumption 29). -/
def moveBeamAt (m : MoveJob) (i : Nat) : Nat := m.tcm.toNat + 544 * i

/-- Beam i of a move from the TCM. -/
def moveBeam (s : State) (m : MoveJob) (i : Nat) : Beam := BitVec.ofNat 4352 (tcmRead s (moveBeamAt m i) 544)

/-- A beam a move read reaches the TCM as received (R324). -/
def moveBeamIn (i : Nat) (b : MarkedBeam) (s : State) : State :=
  match s.core.move with
  | some m =>
    onMove (fun m => { m with poison := m.poison || bitAt b 4352, left := m.left.filter (· != i) })
      (breakResv (moveBeamAt m i) 544 (tcmWrite (moveBeamAt m i) 544 (b.extractLsb' 0 4352).toNat s))
  | none => s

end Sys2Proof.Machine
end

