-- ==== Sys2Proof/Machine/Access.lean ====
section
/-!
DEFINITION. Access.lean: the checks every register access passes (R13, R15, R22, R326 to R328, R338) and how it is
answered. What a register reads and does when written stands with its unit; Regs.lean joins the units' maps.
-/
namespace Sys2Proof.Machine

/-- The owner class of a register (R15). -/
inductive Owner where
  | host | vent | both
  deriving DecidableEq, Repr

/-- What the map gives a register: its owner class, the bits of its fields marked RW, SH or image, and the bits of
its other fields; a bit in neither is reserved (R13, R356). -/
structure RegInfo where
  /-- Owner class. -/
  owner : Owner
  /-- Bits of fields marked RW, SH or image. -/
  rw : W64 := 0
  /-- Bits of fields marked RO, W1C or WO. -/
  other : W64 := 0
  /-- The register is a shadow copy of the configuration set (R14). -/
  sh : Bool := false
  deriving DecidableEq, Repr

/-- How an access is answered. -/
inductive Answer where
  | ok | dropped | refused
  deriving DecidableEq, Repr

/-- Answers an access: HP_RSP_STATUS and data on the host port (R325), the status code on the vent port (R337). -/
def answer (src : Src) (a : Answer) (v : W64) (s : State) : State :=
  match src with
  | .host _ =>
    s.onAon fun n => { n with hpRsp := (match a with | .ok => 0#2 | .dropped => 1#2 | .refused => 2#2) ++ v }
  | .vent => s.onAon fun n => { n with ventLast := match a with | .ok => 0 | .dropped => 1 | .refused => 2 }
  | .firmware => s

/-- Registers of the always-on domain that the vent port answers while the main domain is off (R338). -/
def isAonReg (off : Nat) : Bool :=
  off = 0 || (0x10000 ≤ off && off < 0x10030) || off = 0xA0058 || (0xC0000 ≤ off && off < 0xD0000)

/-- What the access checks say. -/
inductive Verdict where
  | allow | drop | refuse | silent
  deriving DecidableEq, Repr

/-- The state check (R22, R326, R338). -/
def stateVerdict (src : Src) (off : Nat) (s : State) : Verdict :=
  match src with
  | .host _ =>
    if !mainOn s then .silent
    else if s.aon.st == .boot && !(off = 0 || (0x10000 ≤ off && off < 0x20000)) then .refuse
    else .allow
  | .vent => if !aonOn s then .silent else if mainOn s || isAonReg off then .allow else .refuse
  | .firmware => if mainOn s && s.core.run != .halted then .allow else .silent

/-- The ownership check of a host write (R327). -/
def ownershipDrops (src : Src) (off : Nat) (s : State) : Bool :=
  match src with
  | .host id =>
    s.core.owned && id != s.core.ownerId && off != 0xB0008 && !(0xC0000 ≤ off && off < 0xD0000)
  | _ => false

/-- The owner-class check of a write (R15, R319). -/
def ownerDrops (src : Src) (o : Owner) : Bool :=
  match src, o with
  | .vent, .host => true
  | .host _, .vent => true
  | .firmware, .vent => true
  | _, _ => false

/-- The checks of a write in order (R326). -/
def writeVerdict (src : Src) (off : Nat) (o : Owner) (s : State) : Verdict :=
  match stateVerdict src off s with
  | .allow => if ownerDrops src o || ownershipDrops src off s then .drop else .allow
  | v => v

/-- The number of the initiator in UNIT for codes 0x80 to 0x8F (R370). -/
def srcUnit : Src → BitVec 12
  | .firmware => 0 | .host _ => 1 | .vent => 2

/-- HP_REQ_ID of a host write (R370). -/
def srcId : Src → BitVec 64
  | .host id => id.setWidth 64
  | _ => 0

/-- The source of a write in the log's episodes of dropped writes (R328). -/
def srcNum : Src → Fin 3
  | .firmware => 0 | .host _ => 1 | .vent => 2

/-- Logs a dropped write: 0x85 for the host and the firmware, 0x86 for the vent port; one entry for all drops of a source
until a write of it succeeds, and none while the log is in reset (R328, R346). -/
def logDrop (src : Src) (s : State) : State :=
  if mainOn s then
    report { code := if src = .vent then 0x86 else 0x85, unit := srcUnit src, loc := srcId src, drop := some (srcNum src) } s
  else s

/-- A write of a source succeeds: the next one dropped is logged again (R328). -/
def endDrops (src : Src) (s : State) : State := s.onLog fun l => { l with drops := vset l.drops (srcNum src) none }

/-- A write has passed its checks: it is answered OK, and its source's episode of dropped writes is over; HOST_OWN judges
its own claims and releases (R327, R328). -/
def accept (src : Src) (off : Nat) (s : State) : State :=
  answer src .ok 0 (if off = 0xB0008 then s else endDrops src s)

/-- A write to the register at an offset: the checks, the answer, and its effect. -/
def writeReg (src : Src) (off : Nat) (o : Owner) (act : State → State) (s : State) : State :=
  match writeVerdict src off o s with
  | .silent => s
  | .refuse => answer src .refused 0 s
  | .drop => logDrop src (answer src .dropped 0 s)
  | .allow => act (accept src off s)

/-- A write that its register may still turn away once the checks have let it through: turned away it is answered
DROPPED or REFUSED by `turn`, and the source's episode of dropped writes goes on, no write having succeeded (R328). -/
def writeUnless (src : Src) (off : Nat) (o : Owner) (late : Bool) (turn act : State → State) (s : State) : State :=
  if writeVerdict src off o s == .allow && late then turn s else writeReg src off o act s

/-- A write that its register's unit drops once the checks have let it through: `act` notes the drop (LOST, a report),
the write is answered OK, and the source's episode of dropped writes goes on, no write having succeeded (R328). -/
def writeDropping (src : Src) (off : Nat) (o : Owner) (drops : Bool) (act : State → State) (s : State) : State :=
  writeUnless src off o drops (fun s => act (answer src .ok 0 s)) act s

/-- A read of the register at an offset that the state check lets through: its value is answered; a refused read
answers zero. -/
def readReg (src : Src) (off : Nat) (value : State → W64) (s : State) : State :=
  match stateVerdict src off s with
  | .allow => answer src .ok (value s) s
  | .refuse => answer src .refused 0 s
  | _ => s

/-- A command register that the unit accepts only while it is not BUSY: the command takes its effect, and `mark` sets
BUSY for the rest of the CCLK (assumption 12); while BUSY a command is dropped, which `lost` notes (R81 and its kind). -/
def unlessBusy (busy : Bool) (lost mark : State → State) (act : State → State) (s : State) : State :=
  if busy then lost s else mark (act s)

end Sys2Proof.Machine
end

