-- ==== Sys2Proof/Machine/Formats.lean ====
section
/-!
DEFINITION. Formats.lean: beams and element formats (R28 to R49): where elements, masks and scales stand, what an
element's bits mean, and rounding, over exact values.
-/
namespace Sys2Proof.Machine

/-! ### Exact values -/

/-- An exact value: a signed dyadic number mant · 2^exp, an infinity, or NaN. -/
inductive FVal where
  | fin (neg : Bool) (mant : Nat) (exp : Int)
  | inf (neg : Bool)
  | nan
  deriving DecidableEq, Repr

/-- A signed zero. -/
def FVal.zero (neg : Bool) : FVal := .fin neg 0 0

/-- The value is a number other than zero. -/
def FVal.nonzero : FVal → Bool
  | .fin _ m _ => m != 0
  | _ => false

/-- The signed integer of mant · 2^(exp - e), for e at most exp. -/
def scaledInt (neg : Bool) (mant : Nat) (exp e : Int) : Int :=
  let v : Int := (mant : Int) * 2 ^ (exp - e).toNat
  if neg then -v else v

/-- The exact sum; an exact zero sum of operands of opposite sign is +0 (R47), infinities as in IEEE 754 (R159). -/
def FVal.add : FVal → FVal → FVal
  | .nan, _ => .nan
  | _, .nan => .nan
  | .inf a, .inf b => if a = b then .inf a else .nan
  | .inf a, _ => .inf a
  | _, .inf b => .inf b
  | .fin n1 m1 e1, .fin n2 m2 e2 =>
    let e := min e1 e2
    let v := scaledInt n1 m1 e1 e + scaledInt n2 m2 e2 e
    if v = 0 then .fin (n1 && n2) 0 0 else .fin (decide (v < 0)) v.natAbs e

/-- The exact product. -/
def FVal.mul : FVal → FVal → FVal
  | .nan, _ => .nan
  | _, .nan => .nan
  | .inf a, .inf b => .inf (a != b)
  | .inf a, .fin n m _ => if m = 0 then .nan else .inf (a != n)
  | .fin n m _, .inf b => if m = 0 then .nan else .inf (n != b)
  | .fin n1 m1 e1, .fin n2 m2 e2 => .fin (n1 != n2) (m1 * m2) (e1 + e2)

/-- a is below b, -0 below +0. -/
def FVal.below : FVal → FVal → Bool
  | .inf a, .inf b => a && !b
  | .inf a, _ => a
  | _, .inf b => !b
  | .fin n1 m1 e1, .fin n2 m2 e2 =>
    let e := min e1 e2
    let v1 := scaledInt n1 m1 e1 e
    let v2 := scaledInt n2 m2 e2 e
    if v1 = 0 && v2 = 0 then n1 && !n2 else decide (v1 < v2)
  | _, _ => false

/-- The larger; NaN when either is NaN (R159). -/
def FVal.max (a b : FVal) : FVal :=
  match a, b with
  | .nan, _ => .nan
  | _, .nan => .nan
  | a, b => if a.below b then b else a

/-- The smaller; NaN when either is NaN (R159). -/
def FVal.min (a b : FVal) : FVal :=
  match a, b with
  | .nan, _ => .nan
  | _, .nan => .nan
  | a, b => if b.below a then b else a

/-- floor(log2 |v|) of a number other than zero. -/
def flog2 (mant : Nat) (exp : Int) : Int := (Nat.log2 mant : Int) + exp

/-- The value times 2^k. -/
def FVal.scale (v : FVal) (k : Int) : FVal :=
  match v with
  | .fin n m e => .fin n m (e + k)
  | v => v

/-! ### Floating formats (R45) -/

/-- Which special encodings a floating format has. -/
inductive Specials where
  | ieee
  | nanOnly
  | none
  deriving DecidableEq, Repr

/-- A floating format: exponent and mantissa bits, bias, specials (R45). -/
structure FF where
  /-- Exponent bits. -/
  eb : Nat
  /-- Mantissa bits. -/
  mb : Nat
  /-- Bias. -/
  bias : Nat
  /-- Specials. -/
  sp : Specials
  deriving DecidableEq, Repr

/-- FP32. -/
def ffFP32 : FF := ⟨8, 23, 127, .ieee⟩
/-- BF16. -/
def ffBF16 : FF := ⟨8, 7, 127, .ieee⟩
/-- FP16, and the elements of S16. -/
def ffFP16 : FF := ⟨5, 10, 15, .ieee⟩
/-- binary64. -/
def ffF64 : FF := ⟨11, 52, 1023, .ieee⟩
/-- E4M3. -/
def ffE4M3 : FF := ⟨4, 3, 7, .nanOnly⟩
/-- E5M2. -/
def ffE5M2 : FF := ⟨5, 2, 15, .ieee⟩
/-- E3M2. -/
def ffE3M2 : FF := ⟨3, 2, 3, .none⟩
/-- E2M3. -/
def ffE2M3 : FF := ⟨2, 3, 1, .none⟩
/-- E2M1. -/
def ffE2M1 : FF := ⟨2, 1, 1, .none⟩

/-- The sign bit's weight. -/
def FF.signBit (f : FF) : Nat := 2 ^ (f.eb + f.mb)

/-- The magnitude bits of the largest finite value (R45). -/
def FF.maxMag (f : FF) : Nat :=
  match f.sp with
  | .ieee => (2 ^ f.eb - 1) * 2 ^ f.mb - 1
  | .nanOnly => f.signBit - 2
  | .none => f.signBit - 1

/-- The canonical NaN (R45). -/
def FF.nanBits (f : FF) : Nat :=
  match f.sp with
  | .ieee => (2 ^ f.eb - 1) * 2 ^ f.mb + 2 ^ (f.mb - 1)
  | _ => f.signBit - 1

/-- What an element's bits mean (R45). -/
def FF.decode (f : FF) (x : Nat) : FVal :=
  let neg := f.signBit ≤ x % (2 * f.signBit)
  let mag := x % f.signBit
  let e := mag / 2 ^ f.mb
  let m := mag % 2 ^ f.mb
  if f.sp = .ieee ∧ e = 2 ^ f.eb - 1 then (if m = 0 then .inf neg else .nan)
  else if f.sp = .nanOnly ∧ mag = f.signBit - 1 then .nan
  else if e = 0 then .fin neg m (1 - (f.bias : Int) - f.mb)
  else .fin neg (2 ^ f.mb + m) ((e : Int) - f.bias - f.mb)

/-- How a discarded fraction rounds: nearest even, or up with a 16-bit draw (R51, R52). -/
inductive Rounding where
  | nearest
  | stochastic (draw : Nat)
  deriving DecidableEq, Repr

/-- Drops the low n bits of a magnitude and rounds it (R51, R52). -/
def roundShift (mode : Rounding) (m n : Nat) : Nat :=
  let q := m / 2 ^ n
  let rem := m % 2 ^ n
  if rem = 0 then q
  else
    match mode with
    | .nearest => if 2 ^ n < 2 * rem ∨ (2 * rem = 2 ^ n ∧ q % 2 = 1) then q + 1 else q
    | .stochastic r => if 65536 ≤ rem * 65536 / 2 ^ n + r then q + 1 else q

/-- A magnitude times 2^exp rounded to a multiple of 2^u. -/
def roundTo (mode : Rounding) (m : Nat) (exp u : Int) : Nat :=
  if u ≤ exp then m * 2 ^ (exp - u).toNat else roundShift mode m (u - exp).toNat

/-- The magnitude bits of a rounded number; they run on past the largest finite value. -/
def FF.magBits (f : FF) (mode : Rounding) (m : Nat) (exp : Int) : Nat :=
  if m = 0 then 0
  else
    let emin : Int := 1 - f.bias
    let e := max (flog2 m exp) emin
    let q := roundTo mode m exp (e - f.mb)
    if q < 2 ^ f.mb then q else (e - emin).toNat * 2 ^ f.mb + q

/-- A value's bits: beyond the largest finite value ±∞, or with `sat` the largest magnitude; NaN canonical (R47,
R48). -/
def FF.encode (f : FF) (mode : Rounding) (sat : Bool) : FVal → Nat
  | .nan => f.nanBits
  | .inf neg => (if neg then f.signBit else 0) + (if sat then f.maxMag else f.maxMag + 1)
  | .fin neg m exp =>
    let mag := f.magBits mode m exp
    (if neg then f.signBit else 0) + (if f.maxMag < mag then (if sat then f.maxMag else f.maxMag + 1) else mag)

/-- The value after one rounding into a format. -/
def FF.round (f : FF) (mode : Rounding) (v : FVal) : FVal := f.decode (f.encode mode false v)

/-! ### binary64 arithmetic, nearest even (R171, R172, R280) -/

/-- A binary64 sum. -/
def f64Add (a b : W64) : W64 :=
  BitVec.ofNat 64 (ffF64.encode .nearest false ((ffF64.decode a.toNat).add (ffF64.decode b.toNat)))

/-- The binary64 of an exact value. -/
def f64Of (v : FVal) : W64 := BitVec.ofNat 64 (ffF64.encode .nearest false v)

/-- A binary64 is infinite or NaN. -/
def f64NonFinite (a : W64) : Bool := field a 52 11 == 0x7FF

/-- Pairs neighbours of a list by f. -/
def pairUp (f : W64 → W64 → W64) : List W64 → List W64
  | a :: b :: l => f a b :: pairUp f l
  | l => l

/-- The sum of a list as a balanced binary tree; n levels (R171, R172). -/
def treeSum : Nat → List W64 → W64
  | 0, l => l.headD 0
  | n + 1, l => treeSum n (pairUp f64Add l)

/-! ### Where elements stand (R30, R33, R41) -/

/-- A format code that is not reserved (R30). -/
def fmtOk (f : BitVec 4) : Bool := f.toNat < 0xE

/-- The MX formats (R41). -/
def isMX (f : BitVec 4) : Bool := 8 ≤ f.toNat && f.toNat < 0xE

/-- The formats with a mask (R33). -/
def isMasked4 (f : BitVec 4) : Bool := f.toNat < 8 && f != 3

/-- The formats whose mask bits cover two elements (R37). -/
def isPairMasked (f : BitVec 4) : Bool := f == 4 || f == 5 || f == 6

/-- Elements of a beam (R30). -/
def elemCount (f : BitVec 4) : Nat :=
  match f.toNat with
  | 0x0 | 0x7 => 128
  | 0x1 | 0x2 | 0x3 => 256
  | 0xA | 0xB => 640
  | 0xC => 1024
  | _ => 512

/-- Bits of an element (R30). -/
def elemWidth (f : BitVec 4) : Nat :=
  match f.toNat with
  | 0x0 | 0x7 => 32
  | 0x1 | 0x2 | 0x3 => 16
  | 0xA | 0xB => 6
  | 0xC => 4
  | _ => 8

/-- The first bit of element n (R30, R42). -/
def elemPos (f : BitVec 4) (n : Nat) : Nat :=
  match f.toNat with
  | 0x8 | 0x9 | 0xD => 8 * (33 * (n / 32) + 1 + n % 32)
  | 0xA | 0xB => 8 * (25 * (n / 32) + 1) + 6 * (n % 32)
  | 0xC => 8 * (17 * (n / 32) + 1) + 4 * (n % 32)
  | _ => elemWidth f * n

/-- Element n's bits. -/
def elemBits (f : BitVec 4) (b : Beam) (n : Nat) : Nat := (b.extractLsb' (elemPos f n) (elemWidth f)).toNat

/-- A beam with element n replaced. -/
def setElem (f : BitVec 4) (b : Beam) (n v : Nat) : Beam := setField b (elemPos f n) (BitVec.ofNat (elemWidth f) v)

/-- The mask bit number of element n (R33). -/
def maskIx (f : BitVec 4) (n : Nat) : Nat := if isPairMasked f then n / 2 else n

/-- Element n is valid: every element is in S16 and the MX formats (R35). -/
def elemValid (f : BitVec 4) (b : Beam) (n : Nat) : Bool :=
  if isMasked4 f then bitAt b (4096 + maskIx f n) else true

/-- Sets element n's mask bit, in a masked format. -/
def setValid (f : BitVec 4) (b : Beam) (n : Nat) : Beam :=
  if isMasked4 f then setField b (4096 + maskIx f n) (1 : BitVec 1) else b

/-- The first bit of block scale j, in S16 and the MX formats (R33, R41). -/
def scalePos (f : BitVec 4) (j : Nat) : Nat :=
  match f.toNat with
  | 0x8 | 0x9 | 0xD => 8 * (33 * j)
  | 0xA | 0xB => 8 * (25 * j)
  | 0xC => 8 * (17 * j)
  | _ => 8 * (512 + j)

/-- Block scale j. -/
def scaleOf (f : BitVec 4) (b : Beam) (j : Nat) : Nat := (b.extractLsb' (scalePos f j) 8).toNat

/-- A beam with block scale j replaced. -/
def setScale (f : BitVec 4) (b : Beam) (j v : Nat) : Beam := setField b (scalePos f j) (BitVec.ofNat 8 v)

/-- The format has block scales. -/
def hasScales (f : BitVec 4) : Bool := f == 3 || isMX f

/-- Bytes of a beam that a format leaves free to hold anything but zero end here: peg bytes marked zero and pads lie
above (R33, R41). -/
def usedBytes (f : BitVec 4) : Nat :=
  match f.toNat with
  | 0x0 | 0x7 => 528
  | 0x3 => 520
  | 0x8 | 0x9 | 0xD => 528
  | 0xA | 0xB => 500
  | _ => 544

/-- A beam with the bytes that read zero cleared (R34). -/
def zeroTail (f : BitVec 4) (b : Beam) : Beam := (b.extractLsb' 0 (8 * usedBytes f)).setWidth 4352

/-- The floating format of a format's elements; INT8, INT32 and MXINT8 have none. -/
def ffOf (f : BitVec 4) : Option FF :=
  match f.toNat with
  | 0x0 => some ffFP32
  | 0x1 => some ffBF16
  | 0x2 | 0x3 => some ffFP16
  | 0x4 | 0x8 => some ffE4M3
  | 0x5 | 0x9 => some ffE5M2
  | 0xA => some ffE3M2
  | 0xB => some ffE2M3
  | 0xC => some ffE2M1
  | _ => none

/-- The value of element n of FP32, BF16, FP16 or S16 (R39). -/
def elemVal (f : BitVec 4) (b : Beam) (n : Nat) : FVal :=
  match ffOf f with
  | some g =>
    let v := g.decode (elemBits f b n)
    if f == 3 then
      (if scaleOf f b (n / 32) = 0xFF then .nan else v.scale ((scaleOf f b (n / 32) : Int) - 127))
    else v
  | none => .nan

/-- A signed element of INT32. -/
def intElem (b : Beam) (n : Nat) : Int := (b.extractLsb' (32 * n) 32).toInt

/-! ### Scales (R40, R49) -/

/-- The largest floor(log2) among the finite non-zero values of a block; none when there is none. -/
def topLog (vs : List FVal) : Option Int :=
  vs.foldl (fun acc v =>
    match v with
    | .fin _ m e =>
      if m = 0 then acc else some (match acc with | none => flog2 m e | some a => max a (flog2 m e))
    | _ => acc) none

/-- Clamps a scale to 0 to 254. -/
def clampScale (s : Int) : Nat := min 254 s.toNat

/-- The scale of R40 for a block of values. A block without a finite magnitude other than zero takes scale 0: R40 says so
of a block that is all zero or masked, and nothing of one that holds an infinity or a NaN beside them under WRITE, SCALE,
a collective sum or scale on read (R161 covers accumulation; DESIGN CHOICE, assumption 110). -/
def s16Scale (vs : List FVal) : Nat :=
  match topLog vs with
  | none => 0
  | some l => clampScale (l - 14 + 127)

/-- A value's binary16 bits at a block scale (R48). -/
def s16Elem (mode : Rounding) (s : Nat) (v : FVal) : Nat :=
  ffFP16.encode mode false (v.scale (127 - (s : Int)))

/-- The exponent of an MX element format's largest normal value (R49). -/
def mxEmax (f : BitVec 4) : Int :=
  match f.toNat with
  | 0x8 => 8 | 0x9 => 15 | 0xA => 4 | 0xB => 2 | 0xC => 2 | _ => 0

/-- An MX element at a block scale, saturating (R44, R49). -/
def mxElem (f : BitVec 4) (s : Nat) (v : FVal) : Nat :=
  let x := v.scale (127 - (s : Int))
  match ffOf f with
  | some g => g.encode .nearest true x
  | none =>
    match x with
    | .fin neg m e =>
      let q := min 127 (roundTo .nearest m e (-6))
      if neg then (256 - q) % 256 else q
    | _ => 0

/-- The scale and elements of an MX block (R49). -/
def mxBlock (f : BitVec 4) (vs : List FVal) : Nat × List Nat :=
  if vs.any fun v => match v with | .fin _ _ _ => false | _ => true then (0xFF, vs.map fun _ => 0)
  else
    match topLog vs with
    | none => (0, vs.map (mxElem f 0))
    | some l => let s := clampScale (l - mxEmax f + 127); (s, vs.map (mxElem f s))

/-! ### Fill beams (R38, R116) -/

/-- A beam of a format in which every element is the fill value, every mask bit clear, every scale 0x7F (R116). -/
def fillBeam (f : BitVec 4) (fill : BitVec 32) : Beam :=
  let b := (List.range (elemCount f)).foldl (fun b n => setElem f b n (fill.toNat % 2 ^ elemWidth f)) (0 : Beam)
  if hasScales f then (List.range (elemCount f / 32)).foldl (fun b j => setScale f b j 0x7F) b else b

/-! ### Scale on read (R173) -/

/-- The formats scale on read takes. -/
def scalable (f : BitVec 4) : Bool := f.toNat < 4

/-- A clip factor that may scale: finite and not zero (R173). -/
def clipOk (c : BitVec 32) : Bool :=
  match ffFP32.decode c.toNat with
  | .fin _ m _ => m != 0
  | _ => false

/-- An S16 block scaled by the factor, with a scale of its own (R173). -/
def scaleS16Block (c : FVal) (b : Beam) (j : Nat) : Beam :=
  let vs := (List.range 32).map fun k => (elemVal 3 b (32 * j + k)).mul c
  let s := s16Scale vs
  setScale 3 ((vs.zipIdx).foldl (fun acc p => setElem 3 acc (32 * j + p.2) (s16Elem .nearest s p.1)) b) j s

/-- A beam scaled on read (R173). -/
def scaleBeam (f : BitVec 4) (c : BitVec 32) (b : Beam) : Beam :=
  if c = 0x3F800000 then b
  else if f == 3 then (List.range 8).foldl (fun acc j => scaleS16Block (ffFP32.decode c.toNat) acc j) b
  else
    match ffOf f with
    | some g =>
      (List.range (elemCount f)).foldl (fun acc n =>
        setElem f acc n (g.encode .nearest false ((elemVal f b n).mul (ffFP32.decode c.toNat)))) b
    | none => b

end Sys2Proof.Machine
end

