-- ==== Sys2Proof/Machine/Record.lean ====
section
/-!
DEFINITION. Record.lean: the phase record's fields (R177 to R180), its loops and generators (R181, R182), and the
record check (R191).
-/
namespace Sys2Proof.Machine

/-- A phase record: 256 bytes, little-endian (R177). -/
abbrev Rec := BitVec 2048

/-! ### Fields (R177, R178) -/

/-- FORMAT. -/
def Rec.format (r : Rec) : Nat := byteField r 0x00 1
/-- PHASE_ID. -/
def Rec.phaseId (r : Rec) : BitVec 8 := field r 8 8
/-- FLAGS. -/
def Rec.flags (r : Rec) : BitVec 16 := field r 16 16
/-- PORTS; 0 for a loop-back phase. -/
def Rec.ports (r : Rec) : BitVec 16 := field r 32 16
/-- A loop-back phase: no port. -/
def Rec.isLoop (r : Rec) : Bool := r.ports == 0
/-- BRACE_SET. -/
def Rec.brace (r : Rec) : BitVec 6 := field r 48 6
/-- OP_POINT. -/
def Rec.opPoint (r : Rec) : BitVec 4 := field r 56 4
/-- HINT. -/
def Rec.hint (r : Rec) : BitVec 8 := field r 64 8
/-- LEVELS. -/
def Rec.levels (r : Rec) : Nat := (field r 72 3).toNat
/-- LB_WIDTH. -/
def Rec.lbWidth (r : Rec) : Nat := byteField r 0x0A 1
/-- The sinter operation code. -/
def Rec.sop (r : Rec) : BitVec 4 := field r 88 4
/-- The tally index. -/
def Rec.tally (r : Rec) : BitVec 2 := field r 92 2
/-- SEED. -/
def Rec.seed (r : Rec) : BitVec 32 := field r 96 32
/-- WEIGHT. -/
def Rec.weight (r : Rec) : BitVec 32 := field r 128 32
/-- K_DEPTH. -/
def Rec.kDepth (r : Rec) : Nat := byteField r 0x14 4
/-- DFMT. -/
def Rec.dfmt (r : Rec) : BitVec 4 := field r 192 4
/-- DMODE: 0 ROW, 1 COL, 2 BOTH. -/
def Rec.dmode (r : Rec) : BitVec 2 := field r 196 2
/-- DSPAN. -/
def Rec.dspan (r : Rec) : Nat := byteField r 0x19 1
/-- SPLIT. -/
def Rec.split (r : Rec) : Nat := byteField r 0x1A 2
/-- FLAGS.IRQ. -/
def Rec.irq (r : Rec) : Bool := bitAt r.flags 7
/-- FLAGS.DIDX. -/
def Rec.didx (r : Rec) : Bool := bitAt r.flags 6
/-- FLAGS.SOR_B. -/
def Rec.sorB (r : Rec) : Bool := bitAt r.flags 4
/-- FLAGS.SOR_A. -/
def Rec.sorA (r : Rec) : Bool := bitAt r.flags 3
/-- FLAGS.ORDER: SEQUENCE. -/
def Rec.seqMode (r : Rec) : Bool := bitAt r.flags 2
/-- FLAGS.RMODE: SR. -/
def Rec.sr (r : Rec) : Bool := bitAt r.flags 1
/-- FLAGS.UNGUARDED. -/
def Rec.unguarded (r : Rec) : Bool := bitAt r.flags 0
/-- FILL_A. -/
def Rec.fillA (r : Rec) : BitVec 32 := field r 512 32
/-- FILL_B. -/
def Rec.fillB (r : Rec) : BitVec 32 := field r 544 32
/-- SCALE_A. -/
def Rec.scaleA (r : Rec) : BitVec 32 := field r 576 32
/-- SCALE_B. -/
def Rec.scaleB (r : Rec) : BitVec 32 := field r 608 32
/-- COUNT[l]. -/
def Rec.count (r : Rec) (l : Nat) : Nat := byteField r (0x50 + 4 * l) 4
/-- OFS of DOFS[p]. -/
def Rec.dofs (r : Rec) (p : Nat) : Nat := (r.extractLsb' (8 * (0xD0 + 3 * p)) 20).toNat
/-- SUB of DOFS[p]. -/
def Rec.dsub (r : Rec) (p : Nat) : Nat := (r.extractLsb' (8 * (0xD0 + 3 * p) + 20) 4).toNat

/-- The six mortise references (R179). -/
inductive MRef where
  | a | b | idx | src | d | didx
  deriving DecidableEq, Repr

/-- Where a mortise reference stands. -/
def MRef.num : MRef → Nat
  | .a => 0 | .b => 1 | .idx => 2 | .src => 3 | .d => 4 | .didx => 5

/-- The 16 bits of a mortise reference. -/
def Rec.mref (r : Rec) (m : MRef) : BitVec 16 := r.extractLsb' (8 * (0x20 + 2 * m.num)) 16
/-- V of a mortise reference (R179). -/
def Rec.mV (r : Rec) (m : MRef) : Bool := bitAt (r.mref m) 15
/-- INDEX of a mortise reference (R179). -/
def Rec.mIx (r : Rec) (m : MRef) : BitVec 10 := field (r.mref m) 0 10

/-- Token slot k (R179). -/
def Rec.tok (r : Rec) (k : Nat) : BitVec 16 := r.extractLsb' (8 * (0x30 + 2 * k)) 16
/-- KIND of a token slot: 0 NONE, 1 WAIT_FULL, 2 WAIT_EMPTY, 3 SIGNAL, 4 RELEASE (R179). -/
def tokKind (t : BitVec 16) : Nat := (field t 10 3).toNat
/-- INDEX of a token slot (R179). -/
def tokIx (t : BitVec 16) : BitVec 10 := field t 0 10
/-- PAIR of a token slot (R179). -/
def tokPair (t : BitVec 16) : Bool := bitAt t 13

/-- The four generators (R180). -/
inductive Gen where
  | a | b | idx | d
  deriving DecidableEq, Repr

/-- Where a generator's bytes begin (R177). -/
def Gen.off : Gen → Nat
  | .a => 0x70 | .b => 0x88 | .idx => 0xA0 | .d => 0xB8

/-- BASE of a generator (R180). -/
def Rec.gBase (r : Rec) (g : Gen) : Nat := (r.extractLsb' (8 * g.off) 20).toNat
/-- STRIDE[l] of a generator, signed (R180). -/
def Rec.gStride (r : Rec) (g : Gen) (l : Nat) : Int := (r.extractLsb' (8 * (g.off + 4 + 3 * l)) 24).toInt

/-! ### Loops and generators (R181) -/

/-- The product of COUNT[0] to COUNT[n - 1]. -/
def Rec.countProd (r : Rec) (n : Nat) : Nat := (List.range n).foldl (fun acc l => acc * r.count l) 1

/-- STEPS (R181). -/
def Rec.steps (r : Rec) : Nat := r.countProd r.levels

/-- Loop index l at step s (R181). -/
def Rec.loopIx (r : Rec) (l s : Nat) : Nat := s / r.countProd l % r.count l

/-- The value of a generator at a step (R181). -/
def Rec.gen (r : Rec) (g : Gen) (s : Nat) : Nat :=
  ((List.range r.levels).foldl (fun (acc : Int) l => acc + r.gStride g l * r.loopIx l s) (r.gBase g : Int) %
    (2 ^ 20 : Int)).toNat

/-- Adds offsets to a logical beam index, modulo 2^20. -/
def addBeam (a b : Nat) : Nat := (a + b) % 2 ^ 20

/-- Tiles of each port (R186). -/
def Rec.tiles (r : Rec) : Nat := if r.kDepth = 0 then 0 else r.steps / r.kDepth

/-! ### Which mortises a record names (R80, R191) -/

/-- The mortises of the references with V set. -/
def Rec.refs (r : Rec) : List (BitVec 10) :=
  ([MRef.a, .b, .idx, .src, .d, .didx].filter r.mV).map r.mIx

/-- The mortises of the token slots. -/
def Rec.tokMorts (r : Rec) : List (BitVec 10) :=
  ((List.range 8).map r.tok).filterMap fun t => if tokKind t = 0 then none else some (tokIx t)

/-- Every mortise a record names. -/
def Rec.names (r : Rec) : List (BitVec 10) := r.refs ++ r.tokMorts

/-- The mortises the phase reads: those of the references with V set, one that no stream or drain of it comes to read
too, which R187 leaves open (DESIGN CHOICE, assumption 132). -/
def Rec.reads (r : Rec) : List (BitVec 10) :=
  ([MRef.a, .b, .idx, .src, .didx].filter r.mV).map r.mIx

/-! ### The record check (R191) -/

/-- Every reserved bit is zero (R177 to R180). -/
def Rec.reservedZero (r : Rec) : Bool :=
  byteField r 0x1C 4 = 0 && byteField r 0x2C 4 = 0 && byteField r 0x68 8 = 0 &&
  field r.flags 8 8 == 0 && !bitAt r.flags 5 && field r 54 2 == 0 && field r 60 4 == 0 && field r 75 5 == 0 &&
  field r 94 2 == 0 && field r 198 2 == 0 &&
  [MRef.a, .b, .idx, .src, .d, .didx].all (fun m => field (r.mref m) 10 5 == 0) &&
  (List.range 8).all (fun k => field (r.tok k) 14 2 == 0) &&
  [Gen.a, .b, .idx, .d].all fun g =>
    r.extractLsb' (8 * g.off + 20) 12 == 0 && r.extractLsb' (8 * (g.off + 22)) 16 == 0

/-- Every field is in its range (R191 item 2). -/
def Rec.inRange (r : Rec) : Bool :=
  1 ≤ r.levels && r.levels ≤ 6 &&
  (List.range 6).all (fun l =>
    if l < r.levels then 1 ≤ r.count l && r.count l ≤ 0x1000000 else r.count l = 0) &&
  [Gen.a, .b, .idx, .d].all (fun g => (List.range 6).all fun l => l < r.levels || r.gStride g l = 0) &&
  r.steps ≤ 2 ^ 48 && r.dfmt.toNat < 0xE && r.dmode != 3 &&
  (List.range 8).all (fun k =>
    tokKind (r.tok k) ≤ 4 && (tokKind (r.tok k) != 0 || (tokIx (r.tok k) == 0 && !tokPair (r.tok k)))) &&
  (if r.didx then 1 ≤ r.dspan && r.dspan ≤ 16 else r.dspan = 0) &&
  (List.range 16).all (fun p =>
    (if r.isLoop then p = 0 else bitAt r.ports p) || (r.dofs p = 0 && r.dsub p = 0)) &&
  (r.isLoop || r.didx || (List.range 16).all fun p => r.dsub p = 0) &&
  (if r.isLoop then 1 ≤ r.lbWidth && r.lbWidth ≤ 32 && r.kDepth = 0
   else r.lbWidth = 0 && 1 ≤ r.kDepth && r.kDepth ≤ 0x1000000)

/-- A format code a format-2 record may use: not S16, not MX (R204). -/
def v2Format (f : BitVec 4) : Bool := f.toNat < 8 && f != 3

/-- What a format-2 record must leave unused (R204). -/
def Rec.v2Ok (s : State) (r : Rec) : Bool :=
  !r.sr && !r.seqMode && !r.sorA && !r.sorB && r.opPoint == 0 && r.hint == 0 && r.seed == 0 && r.split = 0 &&
  r.tally == 0 && [0, 1, 3, 4].contains r.sop.toNat && (r.dmode == 0 || r.dmode == 1) && v2Format r.dfmt &&
  r.refs.all fun i => v2Format (mortAt s i).fmt

/-- A token slot of the kind covers a mortise: it names it or its twin (R84, R187). -/
def Rec.waits (s : State) (r : Rec) (kind : Nat) (i : BitVec 10) : Bool :=
  (List.range 8).any fun k => tokKind (r.tok k) = kind && (pairOf s i).contains (tokIx (r.tok k))

/-- The rules of R187 and R190 and the rest of R191 item 6. DMODE BOTH wants a twin of a port phase alone: R186 has DMODE
ignored in a loop-back phase and R191 judges every record, its reserved codes of a loop-back record too (DESIGN CHOICE,
assumption 154). -/
def Rec.guardOk (s : State) (r : Rec) : Bool :=
  r.mV .d &&
  (if r.unguarded then (List.range 8).all fun k => tokKind (r.tok k) = 0
   else
    r.reads.all (r.waits s 1) && r.waits s 2 (r.mIx .d) &&
      r.reads.all fun i => !(pairOf s (r.mIx .d)).contains i) &&
  (r.isLoop || r.dmode != 2 || (mortAt s (r.mIx .d)).twinV) &&
  (List.range 8).all (fun k =>
    !tokPair (r.tok k) || (tokKind (r.tok k) = 3 && (mortAt s (tokIx (r.tok k))).twinV)) &&
  (!r.didx || r.mV .didx)

/-- The record check in its order; 0 passes (R191). -/
def recordCheck (s : State) (r : Rec) : BitVec 8 :=
  if !(r.format = 2 || r.format = 3) then 0x30
  else if !(r.reservedZero && r.inRange) then 0x30
  else if r.format = 2 && !r.v2Ok s then 0x36
  else if r.names.any fun i => (mortAt s i).st == .retired then 0x07
  else if r.names.any fun i => (mortAt s i).st == .invalid then 0x35
  else if !bitAt s.truss.valid r.brace.toNat then 0x13
  else if !r.guardOk s then 0x34
  else if !r.isLoop && r.steps % r.kDepth != 0 then 0x33
  else if 64 ≤ s.sched.queue.length then 0x38
  else 0

end Sys2Proof.Machine
end

