-- ==== Sys2Proof/Machine/Desc.lean ====
section
/-!
DEFINITION. Desc.lean: the tensor descriptor's fields (R206 to R208), the elements it names (R209, R210), layouts
(R211, R212), windows (R224, R225) and the descriptor check (R227).
-/
namespace Sys2Proof.Machine

/-- A tensor descriptor: 128 bytes, little-endian (R206). -/
abbrev Desc := BitVec 1024

/-! ### Fields -/

/-- OP: 1 FILL, 2 STORE, 3 COPY, 4 TRANSPOSE, 5 DTRANSPOSE. -/
def Desc.op (d : Desc) : Nat := byteField d 0 1
/-- FORMAT. -/
def Desc.fmt (d : Desc) : BitVec 4 := field d 8 4
/-- MODE. -/
def Desc.mode (d : Desc) : BitVec 8 := field d 16 8
/-- MODE.IRQ. -/
def Desc.irq (d : Desc) : Bool := bitAt d.mode 6
/-- MODE.UNGUARDED. -/
def Desc.unguarded (d : Desc) : Bool := bitAt d.mode 5
/-- MODE.TORDER. -/
def Desc.torder (d : Desc) : Bool := bitAt d.mode 4
/-- MODE.ROW_END. -/
def Desc.rowEnd (d : Desc) : Bool := bitAt d.mode 3
/-- MODE.SOR. -/
def Desc.sor (d : Desc) : Bool := bitAt d.mode 2
/-- MODE.TWIN. -/
def Desc.twin (d : Desc) : Bool := bitAt d.mode 1
/-- MODE.MEM: SLOTS. -/
def Desc.slots (d : Desc) : Bool := bitAt d.mode 0
/-- Tile rows TR. -/
def Desc.tr (d : Desc) : Nat := 2 ^ (field d 24 4).toNat
/-- Tile columns TC. -/
def Desc.tc (d : Desc) : Nat := 2 ^ (field d 28 4).toNat
/-- MORT. -/
def Desc.mref (d : Desc) : BitVec 16 := field d 32 16
/-- MORT2. -/
def Desc.mref2 (d : Desc) : BitVec 16 := field d 48 16
/-- INDEX of MORT. -/
def Desc.mort (d : Desc) : BitVec 10 := field d 32 10
/-- INDEX of MORT2. -/
def Desc.mort2 (d : Desc) : BitVec 10 := field d 48 10
/-- BEAM_OFS. -/
def Desc.ofs (d : Desc) : Nat := (field d 64 20).toNat
/-- BEAM_OFS2. -/
def Desc.ofs2 (d : Desc) : Nat := (field d 96 20).toNat
/-- TOK[k]. -/
def Desc.tok (d : Desc) (k : Nat) : BitVec 16 := d.extractLsb' (128 + 16 * k) 16
/-- FILL. -/
def Desc.fill (d : Desc) : BitVec 32 := field d 192 32
/-- SCALE. -/
def Desc.scale (d : Desc) : BitVec 32 := field d 224 32
/-- BASE. -/
def Desc.base (d : Desc) : Nat := (field d 256 52).toNat
/-- RSTRIDE. -/
def Desc.rstride (d : Desc) : Nat := (field d 320 40).toNat
/-- MSTRIDE. -/
def Desc.mstride (d : Desc) : Nat := (field d 384 40).toNat
/-- SBASE. -/
def Desc.sbase (d : Desc) : Nat := (field d 448 52).toNat
/-- SRSTRIDE. -/
def Desc.srstride (d : Desc) : Nat := (field d 512 40).toNat
/-- SMSTRIDE. -/
def Desc.smstride (d : Desc) : Nat := (field d 576 40).toNat
/-- DIM0 to DIM2. -/
def Desc.dim (d : Desc) (k : Nat) : Nat := byteField d (0x50 + 4 * k) 4
/-- OFS0 to OFS2, signed. -/
def Desc.view (d : Desc) (k : Nat) : Int := (d.extractLsb' (8 * (0x60 + 4 * k)) 32).toInt
/-- NTC. -/
def Desc.ntc (d : Desc) : Nat := byteField d 0x6C 2
/-- NTR. -/
def Desc.ntr (d : Desc) : Nat := byteField d 0x6E 2
/-- NMAT. -/
def Desc.nmat (d : Desc) : Nat := byteField d 0x70 2
/-- COUNT. -/
def Desc.count (d : Desc) : Nat := byteField d 0x78 4

/-- FILL. -/
def Desc.isFill (d : Desc) : Bool := d.op = 1
/-- STORE. -/
def Desc.isStore (d : Desc) : Bool := d.op = 2
/-- COPY, TRANSPOSE or DTRANSPOSE. -/
def Desc.isCopy (d : Desc) : Bool := 3 ≤ d.op && d.op ≤ 5
/-- A FILL or STORE in PLAIN mode. -/
def Desc.plain (d : Desc) : Bool := !d.isCopy && !d.slots

/-! ### Layouts (R211) -/

/-- The element number of tile element (r, c) under a layout (R211). -/
def layoutIx (lay : BitVec 3) (tr tc r c : Nat) : Nat :=
  match lay.toNat with
  | 0 => r * tc + c
  | 1 => c * tr + r
  | 2 => (r - r % 2) * tc + 2 * c + r % 2
  | 3 => (r - r % 2) * tc + 64 * (c / 32) + 32 * (r % 2) + c % 32
  | _ => r * tc + (r + c) % tc

/-- The tile element at element number n under a layout: the inverse of R211. -/
def layoutElem (lay : BitVec 3) (tr tc n : Nat) : Nat × Nat :=
  match lay.toNat with
  | 0 => (n / tc, n % tc)
  | 1 => (n % tr, n / tr)
  | 2 => (2 * (n / (2 * tc)) + n % 2, n % (2 * tc) / 2)
  | 3 => (2 * (n / (2 * tc)) + n % (2 * tc) / 32 % 2, 32 * (n % (2 * tc) / 64) + n % 32)
  | _ => (n / tc, (n % tc + tc - n / tc % tc) % tc)

/-- The formats of a layout (R212). -/
def pairingOk (lay : BitVec 3) (f : BitVec 4) : Bool :=
  match lay.toNat with
  | 0 => true
  | 1 => true
  | 2 => f == 1 || f == 2 || f == 4 || f == 5 || f == 6
  | 3 => f == 1 || f == 2 || f == 3 || isMX f
  | 4 => f == 0 || f == 1 || f == 2 || (4 ≤ f.toNat && f.toNat ≤ 7)
  | _ => false

/-- A layout's conditions on format and tile (R212). -/
def layoutOk (lay : BitVec 3) (f : BitVec 4) (tr tc : Nat) : Bool :=
  let e := elemCount f
  pairingOk lay f &&
    match lay.toNat with
    | 0 => !hasScales f || tc % 32 = 0
    | 1 => !hasScales f || tr % 32 = 0
    | 2 => tr % 2 = 0 && e % (2 * tc) = 0
    | 3 => tr % 2 = 0 && tc % 32 = 0 && e % (2 * tc) = 0
    | _ => tr = tc && tc = e

/-! ### Beams and elements (R209, R210) -/

/-- Beams per tile (R209). -/
def Desc.bpt (d : Desc) : Nat := (d.tr * d.tc + elemCount d.fmt - 1) / elemCount d.fmt

/-- Beams the transfer moves. -/
def Desc.beams (d : Desc) : Nat := if d.plain then d.nmat * d.ntr * d.ntc * d.bpt else d.count

/-- The matrix, tile row and tile column of tile number t (R209). -/
def Desc.tileOf (d : Desc) (t : Nat) : Nat × Nat × Nat :=
  if d.torder then (t / (d.ntc * d.ntr), t % d.ntr, t / d.ntr % d.ntc)
  else (t / (d.ntr * d.ntc), t / d.ntc % d.ntr, t % d.ntc)

/-- The tensor element (Q, R, C) of tile element (r, c) of tile t (R209). -/
def Desc.tensorElem (d : Desc) (t r c : Nat) : Int × Int × Int :=
  let k := d.tileOf t
  (d.view 2 + k.1, d.view 1 + k.2.1 * d.tr + r, d.view 0 + k.2.2 * d.tc + c)

/-- The element is in bounds (R209). -/
def Desc.inBounds (d : Desc) (q : Int × Int × Int) : Bool :=
  0 ≤ q.1 && q.1 < d.dim 2 && 0 ≤ q.2.1 && q.2.1 < d.dim 1 && 0 ≤ q.2.2 && q.2.2 < d.dim 0

/-- The bit offset of element C in a row of memory (R57). -/
def rowBit (f : BitVec 4) (c : Nat) : Nat := elemWidth f * c

/-- The first bit of an element in memory, as a bit address (R209). -/
def Desc.elemBit (d : Desc) (q : Int × Int × Int) : Nat :=
  8 * (d.base + q.1.toNat * d.mstride + q.2.1.toNat * d.rstride) + rowBit d.fmt q.2.2.toNat

/-- The address of an element's block scale (R209). -/
def Desc.scaleAddr (d : Desc) (q : Int × Int × Int) : Nat :=
  d.sbase + q.1.toNat * d.smstride + q.2.1.toNat * d.srstride + q.2.2.toNat / 32

/-- The tile element at element n of a tile's run, when the tile has one there (R209). -/
def Desc.elemAt (d : Desc) (lay : BitVec 3) (n : Nat) : Option (Nat × Nat) :=
  if n < d.tr * d.tc then some (layoutElem lay d.tr d.tc n) else none

/-- The tensor element at element n of beam j of the transfer, under a layout; none past the tile's elements. -/
def Desc.beamElem (d : Desc) (lay : BitVec 3) (j n : Nat) : Option (Int × Int × Int) :=
  match d.elemAt lay (j % d.bpt * elemCount d.fmt + n) with
  | some p => some (d.tensorElem (j / d.bpt) p.1 p.2)
  | none => none

/-! ### Windows (R224) -/

/-- Word w of entry n of the active window table. -/
def winWord (s : State) (n w : Nat) : W64 := s.cfg.active.win.get 0 (4 * n + w)

/-- Entry n holds every page of an interval of bytes (R224). -/
def winHolds (s : State) (n lo hi : Nat) : Bool :=
  bitAt (winWord s n 0) 63 && (field (winWord s n 0) 0 36).toNat ≤ lo / 65536 &&
    hi / 65536 ≤ (field (winWord s n 1) 0 36).toNat

/-- The lowest-numbered entry that holds an interval (R224). -/
def winFind (s : State) (lo hi : Nat) : Option Nat := (List.range 256).find? fun n => winHolds s n lo hi

/-- The entry an array uses, with its permission checked; none refuses (R224). -/
def winSelect (s : State) (write : Bool) (lo hi : Nat) : Option WinSel :=
  match winFind s lo hi with
  | none => none
  | some n =>
    if bitAt (winWord s n 0) (if write then 61 else 62) then
      some { base := field (winWord s n 0) 0 36, pbase := field (winWord s n 2) 0 36, psn := bitAt (winWord s n 0) 60 }
    else none

/-- The physical address of a descriptor address through a selected entry (R224); one beyond 52 bits, which a PBASE near
the top of the pages can give, wraps, the spec being silent there (DESIGN CHOICE, assumption 157). -/
def WinSel.phys (w : WinSel) (a : Nat) : BitVec 52 :=
  BitVec.ofNat 52 ((w.pbase.toNat + a / 65536 - w.base.toNat) * 65536 + a % 65536)

/-- The least and greatest in-bounds values of a dimension of the view, if any: n positions from origin o, bound
dim. -/
def clipRange (o : Int) (n dim : Nat) : Option (Nat × Nat) :=
  let lo := max o 0
  let hi := min (o + n) dim
  if lo < hi then some (lo.toNat, (hi - 1).toNat) else none

/-- The in-bounds ranges of Q, R and C of the view, when some element is in bounds. -/
def Desc.box (d : Desc) : Option ((Nat × Nat) × (Nat × Nat) × (Nat × Nat)) :=
  match clipRange (d.view 2) d.nmat (d.dim 2), clipRange (d.view 1) (d.ntr * d.tr) (d.dim 1),
    clipRange (d.view 0) (d.ntc * d.tc) (d.dim 0) with
  | some q, some r, some c => some (q, r, c)
  | _, _, _ => none

/-- The bytes the main array can occupy: lowest and highest (R224); none when no byte is touched. -/
def Desc.mainBytes (d : Desc) : Option (Nat × Nat) :=
  if d.isCopy then none
  else if d.slots then some (d.base, d.base + (d.count - 1) * d.rstride + 575)
  else
    match d.box with
    | none => none
    | some (q, r, c) =>
      some (d.base + q.1 * d.mstride + r.1 * d.rstride + rowBit d.fmt c.1 / 8,
        d.base + q.2 * d.mstride + r.2 * d.rstride + (rowBit d.fmt c.2 + elemWidth d.fmt - 1) / 8)

/-- The bytes the scale array can occupy (R224). -/
def Desc.scaleBytes (d : Desc) : Option (Nat × Nat) :=
  if d.isCopy || d.slots || !hasScales d.fmt then none
  else
    match d.box with
    | none => none
    | some (q, r, c) =>
      some (d.sbase + q.1 * d.smstride + r.1 * d.srstride + c.1 / 32,
        d.sbase + q.2 * d.smstride + r.2 * d.srstride + c.2 / 32)

/-- The windows of a descriptor's arrays: none refuses with 0x43 (R224). -/
def Desc.windows (s : State) (d : Desc) : Option (Option WinSel × Option WinSel) :=
  let pick (b : Option (Nat × Nat)) : Option (Option WinSel) :=
    match b with
    | none => some none
    | some (lo, hi) => if 2 ^ 52 ≤ hi then none else (winSelect s d.isStore lo hi).map some
  match pick d.mainBytes, pick d.scaleBytes with
  | some a, some b => some (a, b)
  | _, _ => none

/-! ### The descriptor check (R227) -/

/-- Bytes lo to hi of the descriptor are zero. -/
def Desc.zeroBytes (d : Desc) (lo hi : Nat) : Bool := byteField d lo (hi - lo + 1) = 0

/-- Check 1: structure (R227); whether a COPY uses TILE and FILL rests on its mortises' layouts and is judged with
check 3 (R220, assumption 65). SBASE, SRSTRIDE and SMSTRIDE may hold any value in PLAIN mode, of a format without block
scales too, and ROW_END may be set in PLAIN mode alone; the spec says neither (DESIGN CHOICE, assumptions 155 and
156). -/
def Desc.structureOk (d : Desc) : Bool :=
  1 ≤ d.op && d.op ≤ 5 && field d 12 4 == 0 && fmtOk d.fmt && !bitAt d.mode 7 &&
  field d.mref 10 5 == 0 && field d.mref2 10 5 == 0 && field d 84 12 == 0 && field d 116 12 == 0 &&
  field d 308 12 == 0 && field d 360 24 == 0 && field d 424 24 == 0 && field d 500 12 == 0 &&
  field d 552 24 == 0 && field d 616 24 == 0 && d.zeroBytes 0x5C 0x5F && d.zeroBytes 0x72 0x77 &&
  d.zeroBytes 0x7C 0x7F &&
  (List.range 4).all (fun k =>
    field (d.tok k) 14 2 == 0 && tokKind (d.tok k) ≤ 4 &&
      (tokKind (d.tok k) != 0 || (tokIx (d.tok k) == 0 && !tokPair (d.tok k)))) &&
  (!d.sor || d.op = 2 || d.op = 3 || d.op = 4) && (!d.twin || d.op = 1) &&
  (!(d.slots && d.isCopy)) && (!d.rowEnd || d.plain) &&
  bitAt d.mref 15 && (if d.isCopy then bitAt d.mref2 15 else d.mref2 == 0 && d.ofs2 = 0) &&
  (field d 28 4).toNat ≤ 10 && (field d 24 4).toNat ≤ 10 &&
  (d.plain || d.isCopy || field d 24 8 == 0) && (d.plain || (d.isCopy && isPairMasked d.fmt) || d.fill == 0) &&
  (d.scale == 0 || (!d.isCopy && (d.fmt == 4 || d.fmt == 5))) &&
  (if d.plain then
    1 ≤ d.dim 0 && 1 ≤ d.dim 1 && 1 ≤ d.dim 2 && 1 ≤ d.ntc && 1 ≤ d.ntr && 1 ≤ d.nmat && d.count = 0
   else
    d.zeroBytes 0x30 0x5B && d.zeroBytes 0x60 0x71 && 1 ≤ d.count && d.count ≤ 0x100000 &&
      (!d.isCopy || d.zeroBytes 0x20 0x2F)) &&
  d.beams ≤ 2 ^ 20

/-- The mortises the descriptor names (R80, R227). -/
def Desc.names (d : Desc) : List (BitVec 10) :=
  [d.mort] ++ (if d.isCopy then [d.mort2] else []) ++
    ((List.range 4).map d.tok).filterMap fun t => if tokKind t = 0 then none else some (tokIx t)

/-- A transfer that needs a tile buffer (R229). -/
def Desc.needsBuffer (s : State) (d : Desc) : Bool :=
  (d.plain && (mortAt s d.mort).layout != 0) || d.twin || d.op = 5

/-- The layout of the twin partner of MORT. -/
def twinLayout (s : State) (i : BitVec 10) : BitVec 3 := (mortAt s (mortAt s i).twin).layout

/-- Check 3: formats, layouts, tiles (R212, R220 to R222, R227). A DTRANSPOSE whose COUNT is no multiple of bpt is refused
as a TRANSPOSE and a converted COPY are, which R222 does not say (DESIGN CHOICE, assumption 134). -/
def Desc.layoutsOk (s : State) (d : Desc) : Bool :=
  let m := mortAt s d.mort
  let m2 := mortAt s d.mort2
  let tileOk (lay : BitVec 3) := layoutOk lay d.fmt d.tr d.tc
  d.fmt == m.fmt && (!d.isCopy || d.fmt == m2.fmt) && (!d.torder || d.plain) && (!d.twin || m.twinV) &&
  (!d.plain ||
    (tileOk m.layout && !(hasScales d.fmt && m.layout == 1) &&
      (!d.twin || (tileOk (twinLayout s d.mort) && !(hasScales d.fmt && twinLayout s d.mort == 1))))) &&
  (match d.op with
   | 3 =>
     (m.layout == m2.layout && pairingOk m.layout d.fmt && field d 24 8 == 0 && d.fill == 0) ||
       (m.layout != m2.layout && [0, 2, 3].contains m.layout.toNat && [0, 2, 3].contains m2.layout.toNat && tileOk m.layout &&
         tileOk m2.layout && d.count % d.bpt = 0)
   | 4 =>
     ((m.layout == 0 && m2.layout == 1) || (m.layout == 1 && m2.layout == 0)) && !hasScales d.fmt &&
       tileOk m.layout && tileOk m2.layout && d.count % d.bpt = 0
   | 5 => m.layout == 4 && m2.layout == 4 && tileOk 4 && d.count % d.bpt = 0
   | _ => true) &&
  (!d.needsBuffer s || d.bpt * 512 ≤ 262144)

/-- A beam range lies inside a mortise. -/
def rangeIn (e : Mortise) (ofs n : Nat) : Bool := ofs + n ≤ e.len.toNat

/-- Check 4 (R227). -/
def Desc.rangesOk (s : State) (d : Desc) : Bool :=
  rangeIn (mortAt s d.mort) d.ofs d.beams && (!d.isCopy || rangeIn (mortAt s d.mort2) d.ofs2 d.beams) &&
    (!d.twin || rangeIn (mortAt s (mortAt s d.mort).twin) d.ofs d.beams)

/-- A DTRANSPOSE in place (R222). -/
def Desc.inPlace (d : Desc) : Bool := d.op = 5 && d.mort == d.mort2 && d.ofs = d.ofs2

/-- A token slot of the kind covers a mortise or its twin. -/
def Desc.waits (s : State) (d : Desc) (kind : Nat) (i : BitVec 10) : Bool :=
  (List.range 4).any fun k => tokKind (d.tok k) = kind && (pairOf s i).contains (tokIx (d.tok k))

/-- Check 5: the guard rules (R226). PAIR in a slot that is no SIGNAL to a twinned mortise breaks them too, as R191 has it
of a phase record; R226 does not say (DESIGN CHOICE, assumption 136). -/
def Desc.guardOk (s : State) (d : Desc) : Bool :=
  (List.range 4).all (fun k =>
    !tokPair (d.tok k) || (tokKind (d.tok k) = 3 && (mortAt s (tokIx (d.tok k))).twinV)) &&
  (if d.unguarded then (List.range 4).all fun k => tokKind (d.tok k) = 0
   else if d.isFill || d.inPlace then d.waits s 2 d.mort
   else if d.isStore then d.waits s 1 d.mort
   else d.waits s 1 d.mort && d.waits s 2 d.mort2)

/-- Check 6: alignment (R218). -/
def Desc.aligned (d : Desc) : Bool :=
  d.isCopy ||
    (d.base % 64 = 0 && d.rstride % 64 = 0 &&
      (d.slots ||
        (d.mstride % 64 = 0 &&
          (!hasScales d.fmt || (d.sbase % 64 = 0 && d.srstride % 64 = 0 && d.smstride % 64 = 0)) &&
          (!(d.fmt == 0xA || d.fmt == 0xB) || (d.rstride % 192 = 0 && d.mstride % 192 = 0)))))

/-- The validity granule (R217). -/
def granule (f : BitVec 4) : Nat := if isPairMasked f then 2 else if hasScales f then 32 else 1

/-- Check 7: granules (R217). -/
def Desc.granulesOk (d : Desc) : Bool :=
  !d.plain || (d.view 0 % (granule d.fmt : Int) = 0 && (d.dim 0 % granule d.fmt = 0 || d.rowEnd))

/-- The packed length in bytes of n elements of a row (R57). -/
def packedLen (f : BitVec 4) (n : Nat) : Nat := (elemWidth f * n + 7) / 8

/-- A STORE writes no byte twice (R219). -/
def Desc.footprintOk (d : Desc) : Bool :=
  if d.slots then d.count < 2 || 576 ≤ d.rstride
  else
    match d.box with
    | none => true
    | some (q, r, _) =>
      let twoRows := r.1 < r.2
      let twoMats := q.1 < q.2
      (!twoRows || packedLen d.fmt (d.dim 0) ≤ d.rstride) && (!twoMats || d.dim 1 * d.rstride ≤ d.mstride) &&
        (!hasScales d.fmt ||
          ((!twoRows || (d.dim 0 + 31) / 32 ≤ d.srstride) && (!twoMats || d.dim 1 * d.srstride ≤ d.smstride)))

/-- The logical beams of a copy's source and destination ranges meet (R220, R227). -/
def Desc.copyMeets (s : State) (d : Desc) : Bool :=
  let a := (mortAt s d.mort).base.toNat + d.ofs
  let b := (mortAt s d.mort2).base.toNat + d.ofs2
  a < b + d.beams && b < a + d.beams

/-- Check 8: overlap (R227). -/
def Desc.overlapOk (s : State) (d : Desc) : Bool :=
  if d.isCopy then d.inPlace || !d.copyMeets s else if d.isStore then d.footprintOk else true

/-- The descriptor check in its order; 0 passes (R227). -/
def descCheck (s : State) (d : Desc) : BitVec 8 :=
  if !d.structureOk then 0x41
  else if d.names.any fun i => (mortAt s i).st == .invalid then 0x47
  else if d.names.any fun i => (mortAt s i).st == .retired then 0x07
  else if !d.layoutsOk s then 0x41
  else if !d.rangesOk s then 0x42
  else if !d.guardOk s then 0x47
  else if !d.aligned then 0x40
  else if !d.granulesOk then 0x46
  else if !d.overlapOk s then 0x44
  else if (d.windows s).isNone then 0x43
  else if d.sor && !(scalable d.fmt && clipOk s.sinter.clip) then 0x22
  else if s.aon.st == .ember && !d.isStore then 0x41
  else if 32 ≤ s.layout.queue.length then 0x48
  else 0

end Sys2Proof.Machine
end

