-- ==== Sys2Proof/Machine/Tally.lean ====
section
/-!
DEFINITION. Tally.lean: the four tallies: who names one, the commands CLEAR and FOLD, and the commands that wait while a
fold runs (R172).
-/
namespace Sys2Proof.Machine

/-- The operation is ADDSQ (R155). -/
def Rec.addsq (r : Rec) : Bool := r.sop == 5

/-- A record names tally i: its operation is ADDSQ and its field is i (R172). -/
def namesTally (i : Fin 4) (r : Rec) : Bool := r.addsq && r.tally.toFin == i

/-- Phases in the queue or in slots that name a tally (USERS). -/
def tallyUsers (s : State) (i : Fin 4) : Nat :=
  countTrue s.sched.queue (fun q => namesTally i q.rcd) +
    countTrue s.sched.slot.toList fun p => p.st != .free && namesTally i p.rcd

/-- A bit of four set or cleared. -/
def putBit4 (x : BitVec 4) (i : Fin 4) (v : Bool) : BitVec 4 :=
  let m := (1 : BitVec 4) <<< i.val
  if v then x ||| m else x &&& ~~~m

/-- SNT_TALLY_STATUS.CODE. -/
def tallyCode (c : BitVec 8) (s : State) : State := s.onSinter fun k => { k with tallyCode := c }

/-- A tally command is refused with code 0x27. -/
def tallyRefuse (i : Nat) (s : State) : State := report { code := 0x27, unit := BitVec.ofNat 12 i } (tallyCode 0x27 s)

/-- CLEAR: the partials and the tally are +0, the flag and the poison marks are clear; refused while a phase names the
tally (R172, R378). -/
def clearTally (i : Fin 4) (s : State) : State :=
  if tallyUsers s i != 0 then tallyRefuse i.val s
  else
    tallyCode 0 (s.onSinter fun k =>
      { k with tally := k.tally.set 0 i.val 0, partials := k.partials.eraseRange (512 * i.val) 512
               partPoison := k.partPoison.eraseRange (512 * i.val) 512, nonfinite := putBit4 k.nonfinite i false
               tallyPoison := putBit4 k.tallyPoison i false })

/-- FOLD: a fold of the tally starts (R172). -/
def startFold (i : Fin 4) (s : State) : State :=
  tallyCode 0 (s.onSinter fun k => { k with folding := putBit4 k.folding i true })

/-- A tally command: CLEAR or FOLD; it waits while a fold of the tally runs. -/
def tallyCmd (fold : Bool) (i : Fin 4) (s : State) : State :=
  if bitAt s.sinter.folding i.val then s.onSinter fun k => { k with tallyQ := k.tallyQ ++ [(fold, i)] }
  else if fold then startFold i s else clearTally i s

/-- The commands that waited for a fold of tally i to end, in order. -/
def runTallyQ (i : Fin 4) (s : State) : State :=
  let q := s.sinter.tallyQ
  foldOver q (fun c s => if c.2 = i then tallyCmd c.1 c.2 s else s.onSinter fun k => { k with tallyQ := k.tallyQ ++ [c] })
    (s.onSinter fun k => { k with tallyQ := [] })

/-- The fold of tally i that runs ends: the commands that waited for it run (R172). -/
def endFold (i : Fin 4) (s : State) : State :=
  runTallyQ i (s.onSinter fun k => { k with folding := putBit4 k.folding i false })

end Sys2Proof.Machine
end

