-- ==== Sys2Proof/Machine/Phase.lean ====
section
/-!
DEFINITION. Phase.lean: a phase in its slot: its bents and streams (R102, R103), the mortises and brace sets that are
referenced (R80, R110), how a phase is refused, aborted and ended (R193, R195, R196), and how a port fails (R146).
-/
namespace Sys2Proof.Machine

/-! ### References (R80, R110) -/

/-- The collective descriptor's mortise references and token slots: TOK[0] to TOK[3] stand at bytes 0x18 to
0x1F, MORT and MORT2 at bytes 0x04 and 0x06 (R269). -/
def colNames (d : BitVec 512) : List (BitVec 10) :=
  (if bitAt d 47 then [field d 32 10] else []) ++ (if bitAt d 63 then [field d 48 10] else []) ++
    ((List.range 4).map fun k => d.extractLsb' (192 + 16 * k) 16).filterMap fun (t : BitVec 16) =>
      if tokKind t = 0 then none else some (tokIx t)

/-- The lists of mortises that each referencing object names (R80). -/
def refLists (s : State) : List (List (BitVec 10)) :=
  s.sched.queue.map (fun q => Rec.names q.rcd) ++
  ((s.sched.slot.toList.filter fun p => p.st != .free).map fun p => Rec.names p.rcd) ++
  s.layout.queue.map (fun q => Desc.names q.desc) ++
  ((s.layout.slot.toList.filter fun p => p.st != .free).map fun p => Desc.names p.desc) ++
  s.col.queue.map (fun q => colNames q.desc) ++
  s.col.run.toList.map (fun r => colNames r.desc) ++
  ((s.core.move.toList.filter fun m => m.kind.toNat < 2).map fun m => [m.mort]) ++
  s.dbg.req.toList.map (fun r => if r.1 then [] else [r.2.1]) ++
  (s.trf.mort.filter fun p => p.2.st == .clearing).map fun p => [BitVec.ofNat 10 p.1]

/-- The reference count of an entry: each referencing object counts once (R80, assumption 13). -/
def mortRefs (s : State) (i : BitVec 10) : Nat := countTrue (refLists s) fun l => l.contains i

/-- The reference count of a brace set (R110). -/
def braceRefs (s : State) (n : BitVec 6) : Nat :=
  countTrue s.sched.queue (fun q => Rec.brace q.rcd == n) +
    countTrue s.sched.slot.toList fun p => p.st != .free && Rec.brace p.rcd == n

/-! ### Brace sets (R106) -/

/-- Word w of the brace set a phase holds. -/
def PSlot.word (p : PSlot) (w : Nat) : W64 := p.brace.extractLsb' (64 * w) 64

/-- Word w of brace set n. -/
def braceWord (s : State) (n w : Nat) : W64 := s.truss.words.get 0 (64 * n + w)

/-- The 64 words of brace set n. -/
def braceWords (s : State) (n : Nat) : BitVec 4096 :=
  (List.range 64).foldl (fun acc w => setWord acc w (braceWord s n w)) 0

/-- PORTS of BS_HEAD. -/
def headPorts (h : W64) : BitVec 16 := field h 16 16
/-- LOOP_EN of BS_HEAD. -/
def headLoop (h : W64) : Bool := bitAt h 8
/-- A_SRC of BS_PORT. -/
def aSrc (w : W64) : Nat := (field w 4 4).toNat
/-- B_SRC of BS_PORT. -/
def bSrc (w : W64) : Nat := (field w 8 4).toNat
/-- GATHER of a stream word. -/
def isGather (w : W64) : Bool := bitAt w 28
/-- OFFSET of a stream word. -/
def streamOfs (w : W64) : BitVec 20 := field w 0 20

/-- The ports of a set, ascending. -/
def portsOf (m : BitVec 16) : List (Fin 16) := (List.finRange 16).filter fun p => bitAt m p.val

/-- BS_PORT[p] of the set a phase holds. -/
def PSlot.portWord (p : PSlot) (e : Nat) : W64 := p.word (1 + e)

/-- The enabled ports of the set. -/
def PSlot.setPorts (p : PSlot) : List (Fin 16) := portsOf (headPorts (p.word 0))

/-- The A stream numbers in use (R103). -/
def PSlot.aStreams (p : PSlot) : List Nat := (p.setPorts.map fun e => aSrc (p.portWord e.val)).foldl insertNew []

/-- The B stream numbers in use. -/
def PSlot.bStreams (p : PSlot) : List Nat := (p.setPorts.map fun e => bSrc (p.portWord e.val)).foldl insertNew []

/-- The bents of a port phase, and the loop-back bent 16 (R103). -/
def PSlot.mkBents (p : PSlot) : List Bent :=
  if headLoop (p.word 0) then [{ id := 16 }]
  else
    p.aStreams.map fun a =>
      let ps := p.setPorts.filter fun (e : Fin 16) => aSrc (p.portWord e.val) == a
      { id := (ps.head?.map Fin.val).getD 0, asrc := a,
        ports := ps.foldl (fun m e => m ||| ((1 : BitVec 16) <<< e.val)) 0 }

/-- The streams of a phase (R102, R121). -/
def PSlot.mkStreams (p : PSlot) : List Stream :=
  if headLoop (p.word 0) then [{ side := .loop, gather := true, ofs := streamOfs (p.word 49) }]
  else
    (p.aStreams.map fun i =>
      ({ side := .a, idx := i, gather := isGather (p.word (17 + i)), ofs := streamOfs (p.word (17 + i)) } : Stream)) ++
    p.bStreams.map fun i =>
      { side := .b, idx := i, gather := isGather (p.word (33 + i)), ofs := streamOfs (p.word (33 + i)) }

/-- The mortise whose beams a stream delivers (R102). -/
def streamMort (p : PSlot) (st : Stream) : BitVec 10 :=
  if st.gather then Rec.mIx p.rcd .src else match st.side with
    | .b => Rec.mIx p.rcd .b
    | _ => Rec.mIx p.rcd .a

/-- The fill value of a stream (R177). -/
def streamFill (p : PSlot) (st : Stream) : BitVec 32 :=
  match st.side with
  | .b => Rec.fillB p.rcd
  | _ => Rec.fillA p.rcd

/-- The stream scales on read (R173, R178). -/
def streamSor (p : PSlot) (st : Stream) : Bool :=
  match st.side with
  | .b => Rec.sorB p.rcd
  | _ => Rec.sorA p.rcd

/-! ### Reports of the schedule engine (R370) -/

/-- LOCATION with a ticket in bits [63:32] and low bits. -/
def ticketLoc (t : BitVec 32) (low : BitVec 32) : BitVec 64 := t ++ low

/-- The report of a refusal of a phase in slot n, with UNIT and LOCATION as the code's range has them (R370). -/
def phaseRefusal (code : BitVec 8) (n : Nat) (port : Nat) (p : PSlot) : Report :=
  let r : Rec := p.rcd
  match (field code 4 4).toNat with
  | 1 =>
    if 0x18 ≤ code.toNat then { code := code, unit := BitVec.ofNat 12 port, pid := some r.phaseId }
    else
      { code := code, unit := if code == 0x14 then BitVec.ofNat 12 port else 0, pid := some r.phaseId,
        loc := ticketLoc p.ticket (r.brace.setWidth 32) }
  | 2 => { code := code, pid := some r.phaseId, loc := ticketLoc p.ticket 0 }
  | _ => { code := code, unit := BitVec.ofNat 12 n, pid := some r.phaseId, loc := ticketLoc p.ticket 0 }

/-! ### Leaving a slot -/

/-- Releases the routes a phase holds (TRUSS_ROUTE, LOOP_ROUTE). -/
def dropRoutes (n : Fin 4) (s : State) : State :=
  s.onTruss fun t =>
    { t with
      route := (List.range 16).foldl (fun m p =>
        if (t.route.get {} p).active && (t.route.get {} p).slot.toNat = n.val then m.erase p else m) t.route
      loopRoute := if t.loopRoute.active && t.loopRoute.slot.toNat = n.val then {} else t.loopRoute }

/-- The least number of steps a bent of the phase has delivered (SCH_SLOT_STEPS). -/
def PSlot.slowest (p : PSlot) : Nat :=
  match p.bents.map Bent.steps with
  | [] => 0
  | x :: xs => xs.foldl min x

/-- What the governor keeps of a phase that leaves its slot until the period closes; its demand entry is to be updated
if it finished after 4,096 BCLK in ISSUE and 1,024 steps (R296). -/
def pastPhase (p : PSlot) (code : BitVec 8) (closed : Nat) : PastPhase :=
  { pid := Rec.phaseId p.rcd, learns := code == 0 && 4096 ≤ p.issueBclk && 1024 ≤ p.slowest, ports := Rec.ports p.rcd
    steps := p.slowest, newSteps := p.slowest - p.stepMark, energy := p.energy, veng := p.veng, vsubs := p.vsubs
    closed := closed }

/-- A phase leaves its slot: SCH_LAST holds its ticket and outcome, the slot is free (R195, SCH_LAST); the period's
energy still counts it if it issued (R296). -/
def leaveSlot (n : Fin 4) (code : BitVec 8) (s : State) : State :=
  let p := s.sched.slot[n]
  let last : W64 := p.ticket ++ (0 : BitVec 8) ++ code ++ Rec.phaseId p.rcd ++ (0 : BitVec 8)
  let s := if p.bents.isEmpty then s
    else s.onGov fun g => { g with past := g.past ++ [pastPhase p code g.subs.length] }
  dropRoutes n ((s.onSched fun c => { c with last := last }).onSlot n fun _ => {})

/-- A refusal counts: SCH_EVENT.REFUSED, LAST_CODE, SCH_COUNT[2], QHALT under HALT_ON_REFUSE (R191, R197). -/
def noteRefusal (code : BitVec 8) (s : State) : State :=
  s.onSched fun c =>
    { c with event := c.event ||| 4, lastCode := code, count := bump c.count 2 1, qhalt := c.qhalt || c.haltRefuse }

/-- A phase in a slot is refused: it leaves the slot, is logged and counted (R193). Code 0x1E of a refused phase leaves
PORT_STATUS.LAST_CODE of the port as it is, where a refused port command sets it: R150 gives the field only for the
command (DESIGN CHOICE, assumption 106). -/
def refusePhase (n : Fin 4) (code : BitVec 8) (port : Nat) (s : State) : State :=
  noteRefusal code (report (phaseRefusal code n.val port s.sched.slot[n]) (leaveSlot n code s))

/-! ### Aborts (R115, R147, R169, R196) -/

/-- Drops the gather reads whose beam no stream waits for or holds any more (R115). -/
def dropOrphans (s : State) : State :=
  let used : List Nat := (s.sched.slot.toList.map fun p =>
    (p.streams.map fun st => st.fifo.filterMap (·.read)).flatten).flatten
  s.onTruss fun t => { t with reads := t.reads.filter fun g => used.contains g.id }

/-- A phase that has begun: in ISSUE or beyond. -/
def PSlot.begun (p : PSlot) : Bool := [SlotState.issue, .bound, .drain, .fold].contains p.st

/-- The phase holds the sequencer: from its start to its end, an abort of a phase that had begun included (R166). -/
def PSlot.holdsSeq (p : PSlot) : Bool := Rec.seqMode p.rcd && (p.begun || (p.st == .abort && !p.bents.isEmpty))

/-- A port must send ABORT for a phase that had begun: each healthy one of its ports, whether or not it still issues or
drains there (R146, R147, R149). -/
def portOwesAbort (s : State) (p : PSlot) (e : Fin 16) : Bool := p.begun && s.ports.port[e].st == .agreed

/-- Why a phase is aborted, for QHALT (R197): by timeout or a port, or by command. -/
inductive AbortCause where
  | fault
  | command
  deriving DecidableEq, Repr

/-- The phase's own fold of its tally runs (R172). -/
def PSlot.foldRuns (p : PSlot) : Bool := p.st == .fold && !p.folded

/-- Begins the abort of the phase in slot n: it issues nothing further, its undelivered beams and its updates in the
sequencer are discarded, its ports owe ABORT records (R115, R147, R169, R196). The drain index beams of a port phase
stay, for the beams its ports have accepted. A fold of its tally that runs ends with no sum (R196). A phase already
aborting keeps its first cause (R380), and one that had not begun keeps no bent. -/
def abortPhase (n : Fin 4) (code : BitVec 8) (cause : AbortCause) (s : State) : State :=
  let p := s.sched.slot[n]
  if p.st == .free || p.st == .abort then s
  else
    let owing := (portsOf (Rec.ports p.rcd)).filter (portOwesAbort s p)
    let s := if p.holdsSeq && p.begun then s.onSinter fun k => { k with seqBeams := [] } else s
    let s := s.onSlot n fun p =>
      { p with st := .abort, abortCode := code, didx := if Rec.isLoop p.rcd then [] else p.didx
               bents := if p.begun then p.bents else []
               streams := p.streams.map fun st => { st with fifo := [], idxBeams := [] } }
    let s := foldOver owing (fun e s => s.onPort e fun q =>
      { q with abortTickets := insertNew q.abortTickets p.ticket }) s
    let s := dropOrphans (s.onSched fun c =>
      { c with event := c.event ||| 2, lastCode := code, count := bump c.count 3 1,
               qhalt := c.qhalt || (c.haltAbort && cause == .fault) })
    if p.foldRuns then endFold (Rec.tally p.rcd).toFin s else s

/-- The slots whose phase's port set includes a port (R146). -/
def holders (s : State) (e : Fin 16) : List (Fin 4) :=
  (List.finRange 4).filter fun n =>
    s.sched.slot[n].st != .free && bitAt (Rec.ports s.sched.slot[n].rcd) e.val

/-- The port leaves AGREED or TRAINING: Ep_RST_N low, the operand channel idle, its drain buffer discarded (R146). -/
def portDown (e : Fin 16) (st : PortState) (s : State) : State :=
  s.onPort e fun q =>
    { q with st := st, ver := 0, opCred := 0, drCred := 0, buf := [], tiles := [], tileSeq := 0, accPoison := 0,
             abortTickets := [], abortSent := false, capSeen := false, out := none, holdRst := false }

/-- A port fails, or becomes ABSENT, with a code: the log entry carries the code, the port and the phase ID, and the
phases that hold the port are aborted (R146). Of several such phases the entry names the one in the lowest slot, the
spec naming none (DESIGN CHOICE, assumption 107). -/
def portFail (e : Fin 16) (code : BitVec 8) (st : PortState) (loc : BitVec 64) (s : State) : State :=
  let hs := holders s e
  let pid := hs.head?.map fun n => Rec.phaseId s.sched.slot[n].rcd
  let s := portDown e st s
  let s := s.onPort e fun q => { q with lastCode := code }
  let s := report { code := code, unit := BitVec.ofNat 12 e.val, pid := pid, loc := loc } s
  foldOver hs (fun n s => abortPhase n code .fault s) s

/-! ### Completion -/

/-- Updates or drain beams of a phase are still on their way, or beams of it wait in the sequencer, those that make no
update too: its numbers end with it (R166, R195, R196). -/
def inFlight (s : State) (ticket : BitVec 32) : Bool :=
  s.ports.port.toList.any (fun q => q.buf.any fun b => b.ticket == ticket) ||
  s.sinter.net.any (fun p => p.2.any fun u => u.ticket == ticket) ||
  s.sinter.queue.any (fun p => p.2.any fun u => u.ticket == ticket) ||
  s.sinter.seqBeams.any fun b => b.ticket == ticket

/-- Tiles of a phase are not yet fully accepted. -/
def tilesOpen (s : State) (ticket : BitVec 32) : Bool :=
  s.ports.port.toList.any fun q => q.tiles.any fun t => t.ticket == ticket

/-- Every bent has delivered its last issue, or taken its last entry (R195, R199). -/
def PSlot.issued (p : PSlot) : Bool := p.bents.all fun b => b.steps = Rec.steps p.rcd

/-- The loop-back path has handed every beam of the phase on. -/
def PSlot.loopEmpty (p : PSlot) : Bool := p.streams.all fun st => st.side != .loop || st.fifo.isEmpty

/-- Every update of the phase is done (R195). -/
def phaseDrained (s : State) (p : PSlot) : Bool :=
  p.issued && p.loopEmpty && !tilesOpen s p.ticket && !inFlight s p.ticket

/-- A phase whose issues are delivered, or whose entries are taken, drains (R199); one that uses ADDSQ folds its tally
once its updates are done and no fold of that tally runs (R172, R195). -/
def advanceSlot (n : Fin 4) (s : State) : State :=
  let p := s.sched.slot[n]
  let s := if p.st == .issue && p.issued then s.onSlot n fun p => { p with st := .drain } else s
  let p := s.sched.slot[n]
  let i := Rec.tally p.rcd
  if p.st == .drain && Rec.addsq p.rcd && !p.folded && phaseDrained s p && !bitAt s.sinter.folding i.toNat then
    (s.onSlot n fun p => { p with st := .fold }).onSinter fun k =>
      { k with folding := k.folding ||| ((1 : BitVec 4) <<< i.toNat) }
  else s

/-- Advances every slot. -/
def advanceSlots (s : State) : State := foldOver (List.finRange 4) advanceSlot s

end Sys2Proof.Machine
end

