-- ==== Sys2Proof/Machine/Mortise.lean ====
section
/-!
DEFINITION. Mortise.lean: the mortise commands (R78 to R81), token events (R82 to R86) and range clear (R97).
-/
namespace Sys2Proof.Machine

/-! ### Token events (R82 to R85) -/

/-- A signal or release a unit applies, with the report it makes if the event is invalid. -/
structure TokEvent where
  /-- True for a release, false for a signal. -/
  release : Bool
  /-- Entry named. -/
  idx : BitVec 10
  /-- PAIR: both halves are signalled. -/
  pair : Bool
  /-- Report of an invalid event (code 0x32). -/
  rep : Report
  deriving DecidableEq, Repr

/-- A wait is satisfied: every half is in the state (R82, R84). -/
def waitMet (s : State) (i : BitVec 10) (st : MortState) : Bool := (pairOf s i).all fun j => (mortAt s j).st == st

/-- Sets an entry and its twin to EMPTY, or CLEARING when CLEAR is set, which clears POISON (R82, R92). -/
def toEmpty (i : BitVec 10) (s : State) : State :=
  modPair i (fun e =>
    { e with pleft := e.pcount, cleft := e.ccount, st := if e.clear then .clearing else .empty,
             poison := e.poison && !e.clear, poisonSeq := if e.clear then none else e.poisonSeq }) s

/-- The halves an event touches: the named half or both for a signal, the pair's first half for a release. -/
def TokEvent.halves (s : State) (e : TokEvent) : List (BitVec 10) :=
  if e.release then (leastBy (pairOf s e.idx) BitVec.toNat).toList else if e.pair then pairOf s e.idx else [e.idx]

/-- An event at one half is valid, n valid ones having come before it in the same BCLK (R82, R85). -/
def TokEvent.valid (s : State) (e : TokEvent) (h : BitVec 10) (n : Nat) : Bool :=
  let m := mortAt s h
  if e.release then m.st == .full && (m.ccount == 0 || n < m.cleft.toNat)
  else m.st == .empty && n < m.pleft.toNat

/-- What the events of one BCLK come to: the halves each valid signal and release counts at, and the reports. -/
structure TokTally where
  /-- Valid signals. -/
  sig : List (BitVec 10)
  /-- Valid releases. -/
  rel : List (BitVec 10)
  /-- Reports of the invalid events. -/
  bad : List Report
  deriving DecidableEq, Repr

/-- Occurrences of an entry in a list. -/
def countIn (l : List (BitVec 10)) (i : BitVec 10) : Nat := countTrue l (· == i)

/-- Judges one event against the entries as they stood (R85). -/
def judgeEvent (s : State) (t : TokTally) (e : TokEvent) : TokTally :=
  let hs := e.halves s
  let ok := hs.filter fun h => e.valid s h (countIn (if e.release then t.rel else t.sig) h)
  let t := if ok.length = hs.length then t else { t with bad := t.bad ++ [e.rep] }
  if e.release then { t with rel := t.rel ++ ok.filter fun h => (mortAt s h).ccount != 0 }
  else { t with sig := t.sig ++ ok }

/-- A half after the signals of a BCLK; the pair becomes FULL when no half needs a further one (R84). -/
def applySignals (l : List (BitVec 10)) (i : BitVec 10) (s : State) : State :=
  let s := modMort i (fun e => { e with pleft := e.pleft - BitVec.ofNat 8 (countIn l i) }) s
  if (pairOf s i).all fun j => (mortAt s j).st == .empty && (mortAt s j).pleft == 0 then
    modPair i (fun e => { e with st := .full, cleft := e.ccount }) s
  else s

/-- A pair after the releases of a BCLK: at zero it returns to EMPTY (R82, R84). -/
def applyReleases (l : List (BitVec 10)) (i : BitVec 10) (s : State) : State :=
  let left := (mortAt s i).cleft - BitVec.ofNat 8 (countIn l i)
  let s := modPair i (fun e => { e with cleft := left }) s
  if left = 0 then toEmpty i s else s

/-- Applies the token events of one BCLK: each judged against the entries as they stand, the valid ones taking effect
together, the invalid ones logged (R82 to R85). -/
def applyTokens (evs : List TokEvent) (s : State) : State :=
  let t := evs.foldl (judgeEvent s) { sig := [], rel := [], bad := [] }
  let s := foldOver (t.sig.foldl insertNew []) (applySignals t.sig) s
  let s := foldOver (t.rel.foldl insertNew []) (applyReleases t.rel) s
  foldOver t.bad report s

/-- The events of a list of token slots: slot number k names k in LOCATION (R189, R370). -/
def tokEvents (toks : List (BitVec 16)) (rep : Nat → BitVec 10 → Report) : List TokEvent :=
  (toks.zipIdx.filter fun p => tokKind p.1 = 3 || tokKind p.1 = 4).map fun p =>
    { release := tokKind p.1 = 4, idx := tokIx p.1, pair := tokPair p.1, rep := rep p.2 (tokIx p.1) }

/-- A token slot's wait is satisfied; the other kinds wait for nothing. -/
def tokMet (s : State) (t : BitVec 16) : Bool :=
  match tokKind t with
  | 1 => waitMet s (tokIx t) .full
  | 2 => waitMet s (tokIx t) .empty
  | _ => true

/-- The mask of the slots whose waits are not satisfied. -/
def tokPending (s : State) (toks : List (BitVec 16)) : BitVec 8 :=
  toks.zipIdx.foldl (fun m p => if tokMet s p.1 then m else m ||| ((1 : BitVec 8) <<< p.2)) 0

/-! ### Mortise commands (R78, R79) -/

/-- The two words of an entry (R77). -/
def Mortise.w0 (e : Mortise) : W64 :=
  (0 : BitVec 4) ++ flagBits 1 e.clear ++ flagBits 1 e.twinV ++ e.twin ++ e.layout ++ e.fmt ++ e.len ++ e.base

/-- The code of STATE (R77). -/
def MortState.code : MortState → BitVec 3
  | .invalid => 0 | .empty => 1 | .full => 2 | .clearing => 3 | .retired => 4

/-- UE_PEND reads the pair's (R77). -/
def pairUe (s : State) (i : BitVec 10) : Bool := (pairOf s i).any fun j => (mortAt s j).uePend

/-- Word W1 of an entry (R77). -/
def mortW1 (s : State) (i : BitVec 10) : W64 :=
  let e := mortAt s i
  (0 : BitVec 7) ++ e.ueOffset ++ flagBits 1 (pairUe s i) ++ flagBits 1 e.poison ++ e.st.code ++ e.cleft ++ e.pleft ++
    e.ccount ++ e.pcount

/-- A mortise command completes with a code (MCMD_STATUS.CODE). -/
def mcmdCode (c : BitVec 8) (s : State) : State := s.onTrf fun t => { t with code := c }

/-- A mortise command is refused: reported in MCMD_STATUS and the log (R78, R100). -/
def mcmdRefuse (c : BitVec 8) (i : BitVec 10) (s : State) : State :=
  report { code := c, mort := some i, loc := i.setWidth 64 } (mcmdCode c s)

/-- Either half of the pair is referenced (R78). -/
def pairRefd (s : State) (i : BitVec 10) : Bool := (pairOf s i).any fun j => mortRefs s j != 0

/-- The references of an entry other than its own range clear. -/
def otherRefs (s : State) (i : BitVec 10) : Nat := mortRefs s i - if (mortAt s i).st == .clearing then 1 else 0

/-- NOP (R78). -/
def mortNop (_ : BitVec 10) (s : State) : State := mcmdCode 0 s

/-- READ (R78). -/
def mortRead (i : BitVec 10) (s : State) : State :=
  mcmdCode 0 (s.onTrf fun t =>
    { t with w0 := (mortAt s i).w0, w1 := mortW1 s i, refs := satNat 12 (mortRefs s i) })

/-- The ranges of two entries meet. -/
def Mortise.meets (a b : Mortise) : Bool :=
  a.base.toNat < b.base.toNat + b.len.toNat && b.base.toNat < a.base.toNat + a.len.toNat

/-- The entry that WRITE registers from the command registers (R79). -/
def newEntry (w0 w1 : W64) : Mortise :=
  { base := field w0 0 20, len := field w0 20 21, fmt := field w0 41 4, layout := field w0 45 3, twin := field w0 48 10,
    twinV := bitAt w0 58, clear := bitAt w0 59, pcount := field w1 0 8, ccount := field w1 8 8, pleft := field w1 0 8,
    cleft := field w1 8 8, st := if bitAt w0 59 then .clearing else .empty }

/-- Item 3 of R79. -/
def entryOk (w0 : W64) (e : Mortise) : Bool :=
  field w0 60 4 == 0 && e.fmt.toNat ≤ 0xD && e.layout.toNat ≤ 4 && 1 ≤ e.len.toNat && e.len.toNat ≤ 0x100000 &&
    e.base.toNat + e.len.toNat ≤ 0x100000 && e.pcount != 0

/-- Item 4 of R79: the range meets that of another entry that is not INVALID. -/
def rangeTaken (s : State) (i : BitVec 10) (e : Mortise) : Bool :=
  s.trf.mort.any fun p => p.1 != i.toNat && p.2.st != .invalid && p.2.meets e

/-- The twin conditions (R83). -/
def twinOk (s : State) (i : BitVec 10) (e : Mortise) : Bool :=
  let p := mortAt s e.twin
  e.twin != i && p.valid && !p.twinV && otherRefs s e.twin = 0 &&
    (p.st == .empty || p.st == .clearing) && p.pleft == p.pcount && p.fmt == e.fmt && p.len == e.len &&
    p.pcount == e.pcount && p.ccount == e.ccount && p.clear == e.clear && p.layout != e.layout

/-- The code WRITE is refused with; 0 passes (R79). -/
def writeCheck (s : State) (i : BitVec 10) (e : Mortise) : BitVec 8 :=
  let old := mortAt s i
  if old.st == .retired then 0x07
  else if old.valid && mortRefs s i != 0 then 0x0B
  else if !entryOk s.trf.w0 e then 0x08
  else if rangeTaken s i e then 0x09
  else if (old.valid && old.twinV) || (e.twinV && !twinOk s i e) then 0x0A
  else 0

/-- WRITE (R79, R83). -/
def mortRegister (i : BitVec 10) (s : State) : State :=
  let e := newEntry s.trf.w0 s.trf.w1
  let c := writeCheck s i e
  if c = 0 then
    let s := setMort i e s
    mcmdCode 0 (if e.twinV then modMort e.twin (fun p => { p with twin := i, twinV := true }) s else s)
  else mcmdRefuse c i s

/-- The commands that change a pair: refused on an INVALID or RETIRED entry, when referenced, and by `extra`, in this
order: R78 gives none (DESIGN CHOICE, assumption 129). -/
def mortPairCmd (i : BitVec 10) (refd extra : State → Bool) (act : State → State) (s : State) : State :=
  let st := (mortAt s i).st
  if st == .invalid then mcmdRefuse 0x08 i s
  else if st == .retired then mcmdRefuse 0x07 i s
  else if refd s then mcmdRefuse 0x0B i s
  else if extra s then mcmdRefuse 0x08 i s
  else act (mcmdCode 0 s)

/-- FREE (R78). -/
def mortFree (i : BitVec 10) (s : State) : State :=
  mortPairCmd i (pairRefd · i) (fun _ => false)
    (modPair i fun e => { e with st := .invalid, poison := false, uePend := false, poisonSeq := none }) s

/-- SET_EMPTY (R78). -/
def mortSetEmpty (i : BitVec 10) (s : State) : State := mortPairCmd i (pairRefd · i) (fun _ => false) (toEmpty i) s

/-- SET_FULL (R78): a half in CLEARING refuses with 0x08, its own clear not counted as a reference (assumption 13). -/
def mortSetFull (i : BitVec 10) (s : State) : State :=
  mortPairCmd i (fun s => (pairOf s i).any fun j => otherRefs s j != 0)
    (fun s => (pairOf s i).any fun j => (mortAt s j).st == .clearing)
    (modPair i fun e => { e with st := .full, pleft := 0, cleft := e.ccount }) s

/-- RETIRE (R78, R99). Of an entry that is both twinned and referenced it reports code 0x0A: R78 orders no two of its
refusals (DESIGN CHOICE, assumption 129). -/
def mortRetire (i : BitVec 10) (s : State) : State :=
  let e := mortAt s i
  if e.st == .invalid then mcmdRefuse 0x08 i s
  else if e.st == .retired then mcmdRefuse 0x07 i s
  else if e.twinV then mcmdRefuse 0x0A i s
  else if mortRefs s i != 0 then mcmdRefuse 0x0B i s
  else modMort i (fun e => { e with st := .retired }) (mcmdCode 0 s)

/-- ACK_UE (R78, R92). -/
def mortAckUe (i : BitVec 10) (s : State) : State :=
  let e := mortAt s i
  if e.st == .invalid then mcmdRefuse 0x08 i s
  else if e.st == .retired then mcmdRefuse 0x07 i s
  else modPair i (fun e => { e with uePend := false }) (mcmdCode 0 s)

/-- CLEAR_POISON (R78, R92). -/
def mortClearPoison (i : BitVec 10) (s : State) : State :=
  mortPairCmd i (pairRefd · i) (fun s => pairUe s i) (modPair i fun e => { e with poison := false, poisonSeq := none }) s

/-- A value of MCMD_CMD with a reserved bit set or a reserved operation. -/
def mcmdReservedWord (v : W64) : Bool := v &&& 0xFFFFFFFFFC00FFF0 != 0 || 9 ≤ (field v 0 4).toNat

/-- What a write of MCMD_CMD does (R78, R81). A reserved operation is refused with code 0x08 whatever entry it names: of
a RETIRED one R99 gives 0x07 to any command but READ and NOP, and R78 0x08 to a reserved one (DESIGN CHOICE, assumption
130). -/
def mcmdWord (v : W64) (s : State) : State :=
  let i := field v 16 10
  if mcmdReservedWord v then mcmdRefuse 0x08 i s
  else
    match (field v 0 4).toNat with
    | 0 => mortNop i s
    | 1 => mortRead i s
    | 2 => mortRegister i s
    | 3 => mortFree i s
    | 4 => mortSetEmpty i s
    | 5 => mortSetFull i s
    | 6 => mortRetire i s
    | 7 => mortAckUe i s
    | _ => mortClearPoison i s

/-- A mortise command: run with BUSY set after it, or dropped with LOST while BUSY (R81). -/
def mcmdGate (act : State → State) (s : State) : State :=
  unlessBusy s.trf.mbusy (fun s => s.onTrf fun t => { t with mlost := true })
    (fun s => s.onTrf fun t => { t with mbusy := true }) act s

/-- A mortise command through MCMD_CMD (R81). -/
def mcmd (src : Src) (act : State → State) (s : State) : State :=
  writeDropping src 0x20110 .host s.trf.mbusy (mcmdGate act) s

/-- NOP (R78). -/
def execMcmdNop (src : Src) (idx : BitVec 10) (s : State) : Host.Outcome State Fault Refusal :=
  done (mcmd src (mortNop idx) s)

/-- READ (R78). -/
def execMcmdRead (src : Src) (idx : BitVec 10) (s : State) : Host.Outcome State Fault Refusal :=
  done (mcmd src (mortRead idx) s)

/-- WRITE (R79). -/
def execMcmdWrite (src : Src) (idx : BitVec 10) (s : State) : Host.Outcome State Fault Refusal :=
  done (mcmd src (mortRegister idx) s)

/-- FREE (R78). -/
def execMcmdFree (src : Src) (idx : BitVec 10) (s : State) : Host.Outcome State Fault Refusal :=
  done (mcmd src (mortFree idx) s)

/-- SET_EMPTY (R78). -/
def execMcmdSetEmpty (src : Src) (idx : BitVec 10) (s : State) : Host.Outcome State Fault Refusal :=
  done (mcmd src (mortSetEmpty idx) s)

/-- SET_FULL (R78). -/
def execMcmdSetFull (src : Src) (idx : BitVec 10) (s : State) : Host.Outcome State Fault Refusal :=
  done (mcmd src (mortSetFull idx) s)

/-- RETIRE (R99). -/
def execMcmdRetire (src : Src) (idx : BitVec 10) (s : State) : Host.Outcome State Fault Refusal :=
  done (mcmd src (mortRetire idx) s)

/-- ACK_UE (R92). -/
def execMcmdAckUe (src : Src) (idx : BitVec 10) (s : State) : Host.Outcome State Fault Refusal :=
  done (mcmd src (mortAckUe idx) s)

/-- CLEAR_POISON (R92). -/
def execMcmdClearPoison (src : Src) (idx : BitVec 10) (s : State) : Host.Outcome State Fault Refusal :=
  done (mcmd src (mortClearPoison idx) s)

/-- A reserved mortise command: refused with code 0x08 (R78). -/
def execMcmdReserved (src : Src) (raw : BitVec 64) (s : State) : Host.Outcome State Fault Refusal :=
  done (onlyIf (mcmdReservedWord raw) (mcmd src (mcmdWord raw)) s)

/-! ### Range clear (R97) -/

/-- The last zero beam of a range clear is committed: CLEARING ends in EMPTY (R97). -/
def execRangeClearComplete (idx : BitVec 10) (s : State) : Host.Outcome State Fault Refusal :=
  done (onlyIf (isLive s && (mortAt s idx).st == .clearing && clearOver s idx)
    (fun s => clearForget idx (modMort idx (fun e => { e with st := .empty }) s)) s)

end Sys2Proof.Machine
end

