-- ==== Sys2Proof/Machine/Combine.lean ====
section
/-!
DEFINITION. Combine.lean: what a sinter unit makes of a stored and an incoming beam: operations, masks, S16 scales,
quantise-to-MX, draws and the square tally's sum (R36, R49, R53, R155 to R163, R171, R175).
-/
namespace Sys2Proof.Machine

/-! ### The random draws (R53) -/

/-- One shift of the register (R53). -/
def lfsrShift (x : BitVec 32) : BitVec 32 :=
  let fb := bitAt x 31 ^^ bitAt x 21 ^^ bitAt x 1 ^^ bitAt x 0
  (x <<< 1) ||| flagBits 32 fb

/-- n shifts. -/
def lfsrShifts : Nat → BitVec 32 → BitVec 32
  | 0, x => x
  | n + 1, x => lfsrShifts n (lfsrShift x)

/-- The state after one draw; the draw is its low 16 bits (R53). -/
def lfsrDraw (x : BitVec 32) : BitVec 32 := lfsrShifts 16 x

/-- n draws in order, and the state after them. -/
def lfsrDraws : Nat → BitVec 32 → List Nat × BitVec 32
  | 0, x => ([], x)
  | n + 1, x =>
    let y := lfsrDraw x
    let r := lfsrDraws n y
    ((field y 0 16).toNat :: r.1, r.2)

/-- The register of bank b when a phase with the seed starts (R53). -/
def lfsrSeed (seed : BitVec 32) (b : Nat) : BitVec 32 :=
  let x := seed ^^^ BitVec.ofNat 32 b
  if x = 0 then 0xFFFFFFFF else x

/-! ### Operations (R155, R156) -/

/-- Operation codes: 0 WRITE, 1 ADD, 2 WADD, 3 MAX, 4 MIN, 5 ADDSQ, 6 SCALE, 7 QMX. The combinations a sinter unit
performs (R156). R48's rows into FP32 from other formats, the end of R158 and the hub example of chapter 6 speak of an FP32
destination that takes BF16, FP16 or S16; R156's table gives it FP32 alone, and the model follows the table (DESIGN CHOICE,
assumption 111). -/
def sinterCombo (dest inc : BitVec 4) (op : BitVec 4) : Bool :=
  let o := op.toNat
  match dest.toNat with
  | 0x0 => inc == 0 && o ≤ 6
  | 0x1 | 0x2 => (inc == 0 || inc == 1 || inc == 2) && o ≤ 6
  | 0x3 => inc.toNat ≤ 3 && (o = 0 || o = 1 || o = 2 || o = 5 || o = 6)
  | 0x7 => inc == 7 && (o = 0 || o = 1 || o = 3 || o = 4)
  | 0x4 | 0x5 | 0x6 => inc == dest && o = 0
  | 0xE | 0xF => false
  | _ => (inc == 0 && o = 7) || (inc == dest && o = 0)

/-- The operation uses the weight (R155). -/
def usesWeight (op : BitVec 4) : Bool := op == 2 || op == 5 || op == 6

/-- One element count divides the other (R158). -/
def countsFit (inc dest : BitVec 4) : Bool :=
  elemCount dest % elemCount inc = 0 || elemCount inc % elemCount dest = 0

/-- The exact result of an operation; with no stored value, the stored element acts as the identity (R36, R155). -/
def opValue (op : BitVec 4) (w : FVal) (stored : Option FVal) (d : FVal) : FVal :=
  match op.toNat, stored with
  | 0, _ => d
  | 1, some s => s.add d
  | 2, some s => s.add (w.mul d)
  | 5, some s => s.add (w.mul d)
  | 3, some s => s.max d
  | 4, some s => s.min d
  | 2, none => w.mul d
  | 5, none => w.mul d
  | 6, _ => w.mul d
  | _, _ => d

/-- What an update's combine step yields. -/
structure Combined where
  /-- The beam to write. -/
  beam : Beam
  /-- The bank's random register after the update. -/
  lfsr : BitVec 32
  /-- INT32 elements saturated. -/
  sats : Nat := 0
  /-- S16 block scales increased. -/
  grown : Nat := 0
  /-- S16 block scales decreased. -/
  shrunk : Nat := 0
  /-- The sum of squares to add to the tally. -/
  squares : Option W64 := none
  deriving DecidableEq, Repr

/-- Elements of an update's window (R158). -/
def Update.cnt (u : Update) : Nat := min (elemCount u.efmt) (elemCount u.dfmt)

/-- The first destination element of the window (R158). -/
def Update.dBase (u : Update) : Nat :=
  if elemCount u.efmt < elemCount u.dfmt then elemCount u.efmt * u.win else 0

/-- The incoming element that meets destination element n, when n lies in the window (R158). -/
def Update.inc (u : Update) (n : Nat) : Option Nat :=
  if u.dBase ≤ n ∧ n < u.dBase + u.cnt then some (u.eofs + (n - u.dBase)) else none

/-- Incoming element k is valid under the incoming mask (R36). -/
def Update.incValid (u : Update) (k : Nat) : Bool := elemValid u.efmt u.data k

/-- An update replaces every element of its destination without reading it (R154). -/
def Update.replaces (u : Update) : Bool :=
  (u.op == 0 || u.op == 6 || u.op == 7) && elemCount u.dfmt ≤ elemCount u.efmt &&
    (!isMasked4 u.efmt || (List.range u.cnt).all fun k => u.incValid (u.eofs + k))

/-- The weight's value. -/
def Update.wVal (u : Update) : FVal := ffFP32.decode u.w.toNat

/-- A move of elements and masks bit for bit: WRITE in one format (R46, R156). -/
def moveWrite (u : Update) (stored : Beam) : Beam :=
  if hasScales u.dfmt then zeroTail u.dfmt u.data
  else
    (List.range u.cnt).foldl (fun b n =>
      if u.incValid n then setValid u.dfmt (setElem u.dfmt b n (elemBits u.efmt u.data n)) n else b) stored

/-- An update into FP32, BF16 or FP16 (R36, R155). -/
def floatUpdate (g : FF) (u : Update) (stored : Beam) : Beam :=
  (List.range u.cnt).foldl (fun b k =>
    let n := u.dBase + k
    if u.incValid (u.eofs + k) then
      let s := if elemValid u.dfmt stored n then some (elemVal u.dfmt stored n) else none
      let v := opValue u.op u.wVal s (elemVal u.efmt u.data (u.eofs + k))
      setValid u.dfmt (setElem u.dfmt b n (g.encode .nearest false v)) n
    else b) stored

/-- Saturates a sum at the ends of INT32 (R159). -/
def satInt (v : Int) : Int := if v < -(2 ^ 31) then -(2 ^ 31) else if 2 ^ 31 - 1 < v then 2 ^ 31 - 1 else v

/-- The result of an INT32 operation (R159). -/
def intValue (op : BitVec 4) (stored : Option Int) (d : Int) : Int :=
  match op.toNat, stored with
  | 1, some s => s + d
  | 3, some s => max s d
  | 4, some s => min s d
  | _, _ => d

/-- An update into INT32, and the elements that saturate (R159). -/
def intUpdate (u : Update) (stored : Beam) : Beam × Nat :=
  (List.range u.cnt).foldl (fun (p : Beam × Nat) k =>
    let n := u.dBase + k
    if u.incValid (u.eofs + k) then
      let s := if elemValid u.dfmt stored n then some (intElem stored n) else none
      let v := intValue u.op s (intElem u.data (u.eofs + k))
      (setValid u.dfmt (setElem u.dfmt p.1 n (BitVec.ofInt 32 (satInt v)).toNat) n,
        if satInt v = v then p.2 else p.2 + 1)
    else p) (stored, 0)

/-! ### S16 (R161, R162) -/

/-- The exact result of destination element n of an S16 beam: the operation's inside the window under a set incoming
bit, else the stored value. -/
def s16Result (u : Update) (stored : Beam) (n : Nat) : FVal :=
  match u.inc n with
  | some k =>
    if u.incValid k then opValue u.op u.wVal (some (elemVal 3 stored n)) (elemVal u.efmt u.data k)
    else elemVal 3 stored n
  | none => elemVal 3 stored n

/-- Element n takes an operation's result, not its stored value. -/
def Update.touches (u : Update) (n : Nat) : Bool :=
  match u.inc n with
  | some k => u.incValid k
  | none => false

/-- The new scale of a block (R161, R162). -/
def s16NewScale (u : Update) (s : Nat) (vs : List FVal) : Nat :=
  if u.op == 0 || u.op == 6 then s16Scale vs
  else if s = 0xFF then 0xFF
  else
    match topLog vs with
    | none => s
    | some l =>
      let star := clampScale (l - 14 + 127)
      if s < star || star + 8 ≤ s then star else s

/-- One S16 block of an update: its results at its new scale; untouched elements keep their bits while the scale
stands (R161). The draws are those of the whole beam. -/
def s16Block (u : Update) (stored : Beam) (draws : List Nat) (j : Nat) (p : Beam × Nat × Nat) : Beam × Nat × Nat :=
  let vs := (List.range 32).map fun k => s16Result u stored (32 * j + k)
  let s := scaleOf 3 stored j
  let t := s16NewScale u s vs
  let mode (n : Nat) : Rounding := if u.sr then .stochastic (draws.getD n 0) else .nearest
  let beam := vs.zipIdx.foldl (fun b q =>
    let n := 32 * j + q.2
    if t = s && !u.touches n then b else setElem 3 b n (s16Elem (mode n) t q.1)) p.1
  (setScale 3 beam j t, if s < t then p.2.1 + 1 else p.2.1, if t < s then p.2.2 + 1 else p.2.2)

/-- The S16 blocks an update's window touches (R161). -/
def Update.blocks (u : Update) : List Nat := (List.range (u.cnt / 32)).map (u.dBase / 32 + ·)

/-- An update into S16 (R161 to R163). -/
def s16Update (u : Update) (stored : Beam) (lfsr : BitVec 32) : Combined :=
  let d := if u.sr then lfsrDraws 256 lfsr else ([], lfsr)
  if u.op == 0 && u.efmt == 3 then { beam := zeroTail 3 u.data, lfsr := d.2 }
  else
    let r := u.blocks.foldl (fun p j => s16Block u stored d.1 j p) (stored, 0, 0)
    { beam := r.1, lfsr := d.2, grown := r.2.1, shrunk := r.2.2 }

/-! ### Quantise-to-MX (R49, R175) -/

/-- The incoming FP32 values of block k of the window, absent ones as +0 (R49). -/
def mxInputs (u : Update) (k : Nat) : List FVal :=
  (List.range 32).map fun i =>
    let e := u.eofs + 32 * k + i
    if u.incValid e then elemVal u.efmt u.data e else FVal.zero false

/-- An update by QMX (R175). -/
def mxUpdate (u : Update) (stored : Beam) : Beam :=
  (List.range (u.cnt / 32)).foldl (fun b k =>
    let j := u.dBase / 32 + k
    let r := mxBlock u.dfmt (mxInputs u k)
    setScale u.dfmt (r.2.zipIdx.foldl (fun b q => setElem u.dfmt b (32 * j + q.2) q.1) b) j r.1) stored

/-! ### The tally's squares (R171) -/

/-- The square of the rounded result at position k of the window, +0 where no element is squared (R171). -/
def squareAt (u : Update) (result : Beam) (k : Nat) : W64 :=
  if u.incValid (u.eofs + k) then
    let v := elemVal u.dfmt result (u.dBase + k)
    f64Of (v.mul v)
  else 0

/-- The balanced sum of the window's squares (R171). -/
def squareSum (u : Update) (result : Beam) : W64 := treeSum 8 ((List.range u.cnt).map (squareAt u result))

/-! ### One update -/

/-- The result of an update, before the tally. -/
def combineBase (u : Update) (stored : Beam) (lfsr : BitVec 32) : Combined :=
  if u.dfmt == 3 then s16Update u stored lfsr
  else if u.op == 7 then { beam := mxUpdate u stored, lfsr := lfsr }
  else if u.op == 0 && u.efmt == u.dfmt then { beam := moveWrite u stored, lfsr := lfsr }
  else if u.dfmt == 7 then let r := intUpdate u stored; { beam := r.1, lfsr := lfsr, sats := r.2 }
  else
    match ffOf u.dfmt with
    | some g => { beam := floatUpdate g u stored, lfsr := lfsr }
    | none => { beam := stored, lfsr := lfsr }

/-- The combine step of an update (R155): bytes that read zero are zero (R34), the squares go to the tally of an
ADDSQ update of ORIENT 0 (R171). -/
def combine (u : Update) (stored : Beam) (lfsr : BitVec 32) : Combined :=
  let c := combineBase u stored lfsr
  let beam := zeroTail u.dfmt c.beam
  { c with beam := beam, squares := if u.tally.isSome && u.op == 5 then some (squareSum u beam) else none }

end Sys2Proof.Machine
end

