-- ==== Sys2Proof/Machine/Drain.lean ====
section
/-!
DEFINITION. Drain.lean: where the beams of a phase's drains go: tiles, layouts, index entries, windows (R158, R183 to
R186, R213, R214), the capability record's fields (R142), and the sequencer's numbers (R166).
-/
namespace Sys2Proof.Machine

/-! ### The capability record (R142, R143) -/

/-- TILE_M_LOG2. -/
def Port.mLog (p : Port) : Nat := byteField p.cap 4 1
/-- TILE_N_LOG2. -/
def Port.nLog (p : Port) : Nat := byteField p.cap 5 1
/-- ACCUMS. -/
def Port.accums (p : Port) : Nat := byteField p.cap 6 1
/-- OP_DEPTH. -/
def Port.opDepth (p : Port) : Nat := byteField p.cap 7 1
/-- A_FORMATS, as masked at version 2 (R143). -/
def Port.aFmts (p : Port) : BitVec 16 := if p.ver == 2 then field p.cap 64 16 &&& 0x00FF else field p.cap 64 16
/-- B_FORMATS, as masked at version 2. -/
def Port.bFmts (p : Port) : BitVec 16 := if p.ver == 2 then field p.cap 80 16 &&& 0x00FF else field p.cap 80 16
/-- DRAIN_FORMATS. -/
def Port.dFmts (p : Port) : BitVec 16 := field p.cap 96 16
/-- ORIENT bit 2 at version 3. -/
def Port.both (p : Port) : Bool := p.ver == 3 && bitAt p.cap 114
/-- FLAGS.SAME_FMT. -/
def Port.sameFmt (p : Port) : Bool := bitAt p.cap 120
/-- Beams per orientation of a tile in a drain format (R132). -/
def Port.beams (p : Port) (f : BitVec 4) : Nat := 2 ^ (p.mLog + p.nLog) / elemCount f

/-! ### Updates of one beam -/

/-- The format of a phase's incoming beams: the drain format, or that of the gather source (R156). -/
def incFmt (s : State) (p : PSlot) : BitVec 4 :=
  if Rec.isLoop p.rcd then (mortAt s (Rec.mIx p.rcd .src)).fmt else Rec.dfmt p.rcd

/-- The destination mortise of a beam: MORT_D, or its twin partner for ORIENT 1 of a double-cut drain (R183). -/
def drainMort (s : State) (p : PSlot) (orient : Bool) : BitVec 10 :=
  let d := Rec.mIx p.rcd .d
  if orient && Rec.dmode p.rcd == 2 && !Rec.isLoop p.rcd then (mortAt s d).twin else d

/-- The update a phase makes of an incoming beam, before its destination is known. -/
def baseUpdate (s : State) (p : PSlot) (n : Fin 4) (orient : Bool) (data : Beam) (poison : Bool) : Update :=
  let r : Rec := p.rcd
  let m := drainMort s p orient
  { ticket := p.ticket, slot := n, dest := 0, win := 0, efmt := incFmt s p, eofs := 0, data := data,
    dfmt := (mortAt s m).fmt, mort := m, op := r.sop, w := r.weight, sr := r.sr,
    tally := if r.addsq && !(orient && r.dmode == 2) then some r.tally.toFin else none, poison := poison }

/-- The updates of a beam whose first destination beam is d, window h (R158); none for a destination beam outside its
mortise (R185). -/
def expand (s : State) (u : Update) (d : Int) (h : Nat) : List (Option Update) :=
  let ei := elemCount u.efmt
  let ed := elemCount u.dfmt
  let m := mortAt s u.mort
  (List.range (max 1 (ei / ed))).map fun (k : Nat) =>
    let b := d + (k : Int)
    if (m.base.toNat : Int) ≤ b && b < ((m.base.toNat + m.len.toNat : Nat) : Int) then
      some { u with dest := BitVec.ofNat 20 b.toNat, win := h, eofs := k * ed }
    else none

/-! ### Placement of tile beams (R213) -/

/-- Element k of a beam moves to element f k, with its mask bit. -/
def permuteBeam (fmt : BitVec 4) (f : Nat → Nat) (b : Beam) : Beam :=
  (List.range (elemCount fmt)).foldl (fun g k =>
    let g := setElem fmt g (f k) (elemBits fmt b k)
    if elemValid fmt b k then setValid fmt g (f k) else g) 0

/-- A drain beam in destination order: row pairs interleaved for APORT and BPORT, rows rotated for DIAG (R213). -/
def placeBeam (lay : BitVec 3) (tr tc : Nat) (fmt : BitVec 4) (tag : Nat) (b : Beam) : Beam :=
  if 2 ≤ lay.toNat then
    let n0 := tag * elemCount fmt
    permuteBeam fmt (fun k => layoutIx lay tr tc ((n0 + k) / tc) ((n0 + k) % tc) - n0) b
  else b

/-- The tile base of the drain generator at a step, for a port (R183). -/
def tileBase (r : Rec) (port step : Nat) : Nat := addBeam (r.gen .d step) (r.dofs port)

/-- The updates of an affine tile beam (R183, R213). -/
def affineUpdates (s : State) (p : PSlot) (port : Fin 16) (b : DrainBeam) : List (Option Update) :=
  let u := baseUpdate s p b.slot b.orient b.data b.poison
  let q := s.ports.port[port]
  let m := mortAt s u.mort
  let main := mortAt s (Rec.mIx p.rcd .d)
  let t : Int := (tileBase p.rcd port.val b.step : Int) - main.base.toNat + m.base.toNat
  let n0 := b.tag * elemCount u.efmt
  let ed := elemCount u.dfmt
  expand s { u with data := placeBeam m.layout (2 ^ q.mLog) (2 ^ q.nLog) u.efmt b.tag b.data } (t + n0 / ed)
    (n0 % ed / elemCount u.efmt)

/-- The destination and window of an index value (R184). -/
def indexDest (s : State) (p : PSlot) (u : Update) (sub : Nat) (i : Int) : Int × Nat :=
  let base := (mortAt s (Rec.mIx p.rcd .d)).base.toNat
  let span := Rec.dspan p.rcd
  let ei := elemCount u.efmt
  let ed := elemCount u.dfmt
  if ed ≤ ei then ((base : Int) + i * span + sub, 0)
  else
    let w : Int := (ed / ei : Nat)
    ((base : Int) + i / w * span + sub, (i % w).toNat)

/-- The updates an index entry directs: none for a clear mask bit, a dropped one for a negative value (R184, R185). A
negative value counts one drop, also where its element would make several updates: the spec does not say how many (DESIGN
CHOICE, assumption 153). -/
def indexUpdates (s : State) (p : PSlot) (u : Update) (sub : Nat) (x : IdxBeam) (entry : Nat) :
    List (Option Update) :=
  if elemValid 7 x.data entry then
    let i := intElem x.data entry
    if i < 0 then [none]
    else
      let d := indexDest s p u sub i
      expand s { u with poison := u.poison || x.poison } d.1 d.2
  else []

/-! ### Index beams of the drain (R184) -/

/-- The number a drain index beam has among those of its phase: by step for a loop-back phase, by step and port for a
port phase. -/
def didxKey (p : PSlot) (port step : Nat) : Nat := if Rec.isLoop p.rcd then step else step * 16 + port

/-- The drain index beam with a number. -/
def PSlot.didxAt (p : PSlot) (key : Nat) : Option IdxBeam := p.didx.find? fun x => x.base = key

/-- The step of the next drain index beam to read: a loop-back phase's in step order, from the one port number 0 that
its DOFS has (R184); a port's for its oldest tile that lacks one. -/
def nextDidx (s : State) (n : Fin 4) (port : Nat) : Option Nat :=
  let p := s.sched.slot[n]
  if Rec.isLoop p.rcd then
    let hd := (p.streams.map fun st => (p.bents.map Bent.steps).foldl max 0 - st.fifo.length).foldl max 0
    if port = 0 then
      (((List.range 3).map fun i => hd - hd % 128 + 128 * i).filter fun b =>
        b < Rec.steps p.rcd && (p.didxAt b).isNone).head?
    else none
  else if h : port < 16 then
    let q := s.ports.port[(⟨port, h⟩ : Fin 16)]
    (((q.buf.filter fun b => b.ticket == p.ticket).map DrainBeam.step ++
      ((q.tiles.filter fun t => t.ticket == p.ticket && p.st != .abort)).map Tile.lastStep).filter fun st =>
        (p.didxAt (didxKey p port st)).isNone).head?
  else none

/-- A port's next drain index read begins to wait for its bank in the BCLK after it became the next: each keeps the age
it has while it waits (R68). -/
def askDidx (old s : State) : State :=
  foldOver (List.finRange 4) (fun n s =>
    if Rec.didx s.sched.slot[n].rcd then
      foldUpTo 16 (fun port s =>
        if nextDidx old n port = nextDidx s n port then s
        else s.onSlot n fun p => { p with didxAsked := p.didxAsked.set 0 port (s.now + 1) }) s
    else s) s

/-! ### The sequencer (R166) -/

/-- The position of a port among the phase's ports. -/
def portRank (m : BitVec 16) (e : Fin 16) : Nat := countTrue (portsOf m) fun p => p < e

/-- The sequence number of a drain beam: its tile, its port, its orientation, its tag (R166). -/
def seqNumber (s : State) (p : PSlot) (e : Fin 16) (b : DrainBeam) : Nat :=
  let r : Rec := p.rcd
  let nb := s.ports.port[e].beams r.dfmt
  let two := r.dmode == 2
  let no := if two then 2 else 1
  ((b.j * (portsOf r.ports).length + portRank r.ports e) * no + (if two && b.orient then 1 else 0)) * nb + b.tag

/-- Counts dropped updates (R185). -/
def countDropped (us : List (Option Update)) (s : State) : State :=
  s.onSched fun c => { c with count := bump c.count 5 (countTrue us Option.isNone) }

/-- Puts updates behind those a source already holds in the drain network (R151). -/
def toNet (source : Nat) (us : List Update) (s : State) : State :=
  s.onSinter fun k => { k with net := k.net.set [] source (k.net.get [] source ++ us) }

/-- Gives a beam's updates to the sequencer, one that makes none too: its number is released in its turn (R166). -/
def toSequencer (ticket : BitVec 32) (num : Nat) (us : List Update) (s : State) : State :=
  s.onSinter fun k =>
    { k with seqBeams := sortInsert (fun a b => a.num < b.num) { ticket := ticket, num := num, ups := us } k.seqBeams }

/-! ### The loop-back path (R101, R121, R183) -/

/-- The updates of the loop-back entry of a step; none while its drain index beam has not been read. -/
def loopUpdates (s : State) (p : PSlot) (n : Fin 4) (step : Nat) (b : SBeam) : Option (List (Option Update)) :=
  let r : Rec := p.rcd
  let u := baseUpdate s p n false b.data b.poison
  if r.didx then
    match p.didxAt (step - step % 128) with
    | some x => some (indexUpdates s p u (r.dsub 0) x (step % 128))
    | none => none
  else some (expand s u (tileBase r 0 step : Int) (r.dsub 0))

/-- Releases the gather read whose beam begins delivery (R119). Where its merged entries stand in several streams, it ends
with the first of them to begin, which the spec leaves open (DESIGN CHOICE, assumption 152). -/
def beginDelivery (b : SBeam) (s : State) : State :=
  match b.read with
  | some i => s.onTruss fun t => { t with reads := t.reads.filter fun g => g.id != i }
  | none => s

/-- The drain network holds back the loop-back path of the phase in a slot: the updates of 32 entries, what one BCLK can
bring, still wait in it (R151, R186; assumption 102). -/
def loopHeld (s : State) (n : Fin 4) : Bool := 32 ≤ (s.sinter.net.get [] (16 + n.val)).length

/-- Hands the loop-back stream's ready beams to the drain path in entry order, at most `fuel` of them: a SEQUENCE phase's
through the sequencer's window, another's as the drain network takes them (R101, R121, R151, R166). -/
def loopFlush (n : Fin 4) : Nat → State → State
  | 0, s => s
  | fuel + 1, s =>
    let p := s.sched.slot[n]
    let r : Rec := p.rcd
    match p.streams, p.bents with
    | [st], [bt] =>
      match st.side, st.fifo with
      | .loop, b :: rest =>
        let step := bt.steps - st.fifo.length
        if b.wait.isSome || (if r.seqMode then s.sinter.seqNext + 2048 ≤ step else loopHeld s n) then s
        else
          match loopUpdates s p n step b with
          | none => s
          | some us =>
            let ok := us.filterMap id
            let s := beginDelivery b (govEvent 7 1 (countDropped us s))
            let s := s.onSlot n fun p =>
              { p with streams := [{ st with fifo := rest }]
                       didx := if r.didx && step % 128 = 127 then p.didx.filter (fun x => step < x.base) else p.didx }
            loopFlush n fuel (if r.seqMode then toSequencer p.ticket step ok s else toNet (16 + n.val) ok s)
      | _, _ => s
    | _, _ => s

/-- The loop-back phases' ready beams move on, and with them the drain index beams their paths need next. -/
def flushLoops (s : State) : State := askDidx s (foldOver (List.finRange 4) (fun n => loopFlush n 1024) s)

end Sys2Proof.Machine
end

