-- ==== Sys2Proof/Machine/Bank.lean ====
section
/-!
DEFINITION. Bank.lean: the accesses that wait at a bank, and the order in which the bank serves them (R19, R26, R68).
A combine step's write is presented and accepted in one BCLK, being the first of the order, so that it never waits.
-/
namespace Sys2Proof.Machine

/-- The queue of a bank's sinter unit (R152). -/
def queueOf (s : State) (k : Nat) : List Update := s.sinter.queue.get [] k

/-! ### Operand and index reads (R112, R120, R184) -/

/-- The phase in a slot may read: it issues, and the block is in RUN (R22, R26, R115). -/
def mayIssue (s : State) (n : Fin 4) : Bool := s.aon.st == .run && s.sched.slot[n].st == .issue

/-- The operand beam a stream reads at a step (R102). -/
def operandBeam (p : PSlot) (st : Stream) (step : Nat) : Nat :=
  addBeam (Rec.gen p.rcd (if st.side == .b then .b else .a) step) st.ofs.toNat

/-- A stream can take its next operand read: at most 8 issues ahead of delivery (R113). -/
def operandReady (p : PSlot) (st : Stream) : Bool :=
  !st.gather && st.fifo.length < 8 && st.next < Rec.steps p.rcd

/-- A gather stream can take its next index read: the schedule engine reads index beams ahead (R120); that it holds at
most two of a stream, the one in use and one more, is a DESIGN CHOICE, the spec giving no number (assumption 100). -/
def indexReady (p : PSlot) (st : Stream) : Bool :=
  st.gather && st.idxBeams.length < 2 && st.idxNext < Rec.steps p.rcd

/-- The index beam a gather stream reads next (R118, R182). -/
def indexBeam (p : PSlot) (st : Stream) : Nat := addBeam (Rec.gen p.rcd .idx st.idxNext) st.ofs.toNat

/-- The drain index beam of a port at a step (R184). -/
def didxBeam (p : PSlot) (port step : Nat) : Nat := addBeam (Rec.gen p.rcd .d step) (Rec.dofs p.rcd port)

/-- The drain still needs its index beams: the phase has begun, or it is aborted and beams of it are still on their way
to the drain network (R169, R184). -/
def mayIndex (s : State) (n : Fin 4) : Bool :=
  unitsOn s && Rec.didx s.sched.slot[n].rcd &&
    (s.sched.slot[n].begun || (s.sched.slot[n].st == .abort && !Rec.isLoop s.sched.slot[n].rcd))

/-! ### The order of a bank (R68) -/

/-- The place of an operand or index read in its bank's order: the oldest first, then the phase slot, then stream A, B,
index (R68). Of several streams of one class of a phase that are presented in the same BCLK the lowest number goes first,
and a drain index read after the gather index reads, by port: R68 breaks the tie no further (DESIGN CHOICE, assumption
125). -/
def readOrder (asked : BitVec 64) (n : Fin 4) (cls i : Nat) : Nat :=
  ((asked.toNat * 4 + n.val) * 3 + cls) * 64 + i

/-- The class of a stream's reads in the order of R68: A, B, index. -/
def streamClass (st : Stream) : Nat := if st.gather then 2 else if st.side == .b then 1 else 0

/-- The place of a stream's next read in its bank's order. -/
def Stream.order (n : Fin 4) (st : Stream) : Nat := readOrder st.asked n (streamClass st) st.idx

/-- The place of a port's next drain index read in its bank's order, by the age of that read alone. -/
def didxOrder (s : State) (n : Fin 4) (port : Nat) : Nat :=
  readOrder (s.sched.slot[n].didxAsked.get 0 port) n 2 (16 + port)

/-- A read that waits at a bank: the bank and its place in the bank's order. -/
structure Waiting where
  /-- The bank. -/
  bank : Nat
  /-- The place. -/
  place : Nat
  deriving DecidableEq, Repr

/-- A read of a beam of a mortise waits at its bank; one outside the mortise takes no bank (R116, R185). -/
def waitsAt (s : State) (i : BitVec 10) (b place : Nat) : List Waiting :=
  let beam := BitVec.ofNat 20 b
  if (mortAt s i).holds beam then [{ bank := bankIx beam, place := place }] else []

/-- The reads of a stream that wait. -/
def streamWaits (s : State) (n : Fin 4) (st : Stream) : List Waiting :=
  let p := s.sched.slot[n]
  if operandReady p st then waitsAt s (streamMort p st) (operandBeam p st st.next) (st.order n)
  else if indexReady p st then waitsAt s (Rec.mIx p.rcd .idx) (indexBeam p st) (st.order n)
  else []

/-- The operand and index reads of the phase in a slot that wait. -/
def slotWaits (s : State) (n : Fin 4) : List Waiting :=
  let p := s.sched.slot[n]
  (if mayIssue s n then p.streams.flatMap (streamWaits s n) else []) ++
    (if mayIndex s n then (List.range 16).flatMap fun port =>
        match nextDidx s n port with
        | some step => waitsAt s (Rec.mIx p.rcd .didx) (didxBeam p port step) (didxOrder s n port)
        | none => []
      else [])

/-- The operand and index reads that wait. -/
def readsWaiting (s : State) : List Waiting := (List.finRange 4).flatMap (slotWaits s)

/-- An operand or index read of a mortise is the first of its kind at its bank, or lies outside the mortise and takes no
bank (R68, R116). -/
def readFirst (s : State) (i : BitVec 10) (b place : Nat) : Bool :=
  !(mortAt s i).holds (BitVec.ofNat 20 b) ||
    !(readsWaiting s).any fun w => w.bank = bankIx (BitVec.ofNat 20 b) && w.place < place

/-- An operand or index read waits at a bank. -/
def readsAt (s : State) (k : Nat) : Bool := (readsWaiting s).any fun w => w.bank = k

/-- Gather reads are accepted: the block is in RUN (R22, R26). -/
def gatherOn (s : State) : Bool := unitsOn s && s.aon.st == .run

/-- A gather read waits at a bank and may be accepted there; in PAUSE none is (R26). -/
def gatherAt (s : State) (k : Nat) : Bool := gatherOn s && s.truss.reads.any fun g => !g.done && bankIx g.beam = k

/-- The read of the oldest update of a queue that waits for its stored beam, or none while an operand, index or gather
read waits at the bank (R68, R152). -/
def nextSinterRead (s : State) (k : Nat) : Option Nat :=
  if readsAt s k || gatherAt s k then none else (queueOf s k).findIdx? fun u => u.stored == .wait

/-- Primary-port work waits at a bank, so that its side port is not served (R19, R68). -/
def primaryAt (s : State) (k : Nat) : Bool :=
  readsAt s k || gatherAt s k || (queueOf s k).any fun u => u.stored == .wait

/-- The beam that the oldest staging buffer of a bay commits next (R70, R244). -/
def commitHead (s : State) (b : Fin 32) : Option Staged := (s.arb.bay[b].bufs.head?).bind List.head?

/-- The bank of a beam serves a side-port read: no primary-port work and no commit takes it (R68, R244). -/
def sideReadFree (s : State) (beam : BitVec 20) : Bool :=
  !primaryAt s (bankIx beam) && !(commitHead s (bayIx beam)).any fun t => bankIx t.job.beam = bankIx beam

end Sys2Proof.Machine
end

