-- ==== Sys2Proof/Machine/Sinter.lean ====
section
/-!
DEFINITION. Sinter.lean: the sinter units: queues, reads, the combine step (R151 to R163), the sequencer's release
(R166), tallies (R171, R172), and the registers of the sinter sub-window.
-/
namespace Sys2Proof.Machine

/-- Replaces the queue of a bank. -/
def setQueue (k : Nat) (q : List Update) (s : State) : State :=
  s.onSinter fun t => { t with queue := t.queue.set [] k q }

/-- Adds n to SNT_COUNT[i]. -/
def countSnt (i n : Nat) (s : State) : State := s.onSinter fun k => { k with count := bump k.count i n }

/-- The phase ID of the phase in a slot. -/
def slotPid (s : State) (n : Fin 4) : BitVec 8 := Rec.phaseId s.sched.slot[n].rcd

/-- The units of a phase's work go on: their state lets them, and each slot's progress follows. -/
def doneSched (s : State) : Host.Outcome State Fault Refusal := done (advanceSlots s)

/-! ### The queues (R151 to R154) -/

/-- An update as it enters a queue: what its stored beam will be (R153, R154). -/
def matchUpdate (q : List Update) (u : Update) : Update :=
  { u with stored :=
      if u.replaces then .unneeded else if q.any fun p => p.dest == u.dest then .forward else .wait }

/-- The update at the head of a source enters the queue of its bank when there is room (R151). One that finds an earlier
update to its beam counts in SNT_COUNT[1] here; the spec does not say when, nor whether one counts whose predecessor is
later dropped (R160; DESIGN CHOICE, assumption 131). -/
def enqueueHead (source : Nat) (s : State) : State :=
  match s.sinter.net.get [] source with
  | [] => s
  | u :: rest =>
    let k := bankIx u.dest
    let q := queueOf s k
    if 8 ≤ q.length then s
    else
      let s := s.onSinter fun t => { t with net := t.net.set [] source rest }
      let s := if q.any fun p => p.dest == u.dest then countSnt 1 1 s else s
      setQueue k (q ++ [matchUpdate q u]) s

/-- An update enters its bank's queue (R151). -/
def execSinterUpdateEnqueue (source : Fin 24) (s : State) : Host.Outcome State Fault Refusal :=
  doneSched (onlyIf (unitsOn s) (fun s => flushLoops (enqueueHead source.val s)) s)

/-- A sinter read is accepted at its bank (R152, R160). -/
def sinterReadAt (k i : Nat) (upset : LineErr) (s : State) : State :=
  match (queueOf s k)[i]? with
  | none => s
  | some u =>
    let r := bankRead 0x05 u.mort (some (slotPid s u.slot)) u.dest upset s
    let s := countSnt 2 1 r.2
    setQueue k (lmod (queueOf s k) i fun u => { u with stored := .got r.1.beam r.1.ue }) s

/-- A queued update's stored beam is read (R152). -/
def execSinterRead (bank : Fin 512) (upset : LineErr) (s : State) : Host.Outcome State Fault Refusal :=
  done (onlyIf (unitsOn s)
    (fun s => match nextSinterRead s bank.val with
      | some i => sinterReadAt bank.val i upset s
      | none => s) s)

/-! ### The combine step (R155 to R163, R171) -/

/-- What the first later update to the same beam takes from the update that leaves the queue (R153, R160). -/
def passOn (d : BitVec 20) (v : Stored) : List Update → List Update
  | [] => []
  | u :: q =>
    if u.dest == d then (if u.stored == .forward then { u with stored := v } else u) :: q else u :: passOn d v q

/-- Drops the update at the head of a queue after an uncorrectable read (R91, R160). -/
def dropHead (k : Nat) (u : Update) (rest : List Update) (s : State) : State :=
  countSnt 7 1 (setQueue k (passOn u.dest .lost rest) s)

/-- A report of a sinter unit: UNIT and the phase's ticket (R370). -/
def sntReport (code : BitVec 8) (unit : Nat) (u : Update) (s : State) : State :=
  report
    { code := code, unit := BitVec.ofNat 12 unit, pid := some (slotPid s u.slot), loc := ticketLoc u.ticket 0 } s

/-- INT32 elements saturated: counted, and the phase's first logged with code 0x24 (R159). -/
def noteSats (n : Nat) (u : Update) (s : State) : State :=
  if n = 0 then s
  else
    let s := countSnt 4 n s
    if s.sched.slot[u.slot].satLogged then s
    else sntReport 0x24 0 u (s.onSlot u.slot fun p => { p with satLogged := true })

/-- Adds an update's squares to its bank's partial tally; a partial that is infinite or NaN sets NONFINITE (R171,
R172, R378). -/
def addTally (k : Nat) (u : Update) (sq : W64) (s : State) : State :=
  match u.tally with
  | none => s
  | some i =>
    let key := 512 * i.val + k
    let v := f64Add (s.sinter.partials.get 0 key) sq
    let bad := isPoisoned s u.mort || u.poison
    let first := f64NonFinite v && !bitAt s.sinter.nonfinite i.val
    let s := s.onSinter fun t =>
      { t with partials := t.partials.set 0 key v
               partPoison := if bad then t.partPoison.set false key true else t.partPoison
               nonfinite := if first then t.nonfinite ||| ((1 : BitVec 4) <<< i.val) else t.nonfinite }
    if first then sntReport 0x23 i.val u s else s

/-- Applies the update at the head of a queue to its stored beam (R155, R160). -/
def applyHead (k : Nat) (u : Update) (stored : Beam) (rest : List Update) (s : State) : State :=
  let c := combine u stored (s.sinter.lfsr.get 0 k)
  let s := s.onSinter fun t => { t with lfsr := t.lfsr.set 0 k c.lfsr }
  let s := countSnt 0 1 (countSnt 5 c.grown (countSnt 6 c.shrunk (noteSats c.sats u s)))
  let s := mortWrite u.mort u.dest c.beam u.poison (some (slotPid s u.slot)) (govEvent 9 1 s)
  let s := match c.squares with
    | some sq => addTally k u sq s
    | none => s
  setQueue k (passOn u.dest (.got c.beam false) rest) s

/-- A parity error in the queue or combine stage: code 0x26, and the update carries poison (R160). -/
def withParity (parity : Bool) (k : Nat) (u : Update) (s : State) : Update × State :=
  if parity then ({ u with poison := true }, sntReport 0x26 k u s) else (u, s)

/-- The combine step of a bank: the update at the head of the queue, once it has its stored beam (R152, R155, R160). A
parity error is logged of an update that is dropped too. An update of R154 takes nothing from the beam that stands there; its S16 scales are counted against it (assumption 32). -/
def combineHead (k : Nat) (parity : Bool) (s : State) : State :=
  match queueOf s k with
  | [] => s
  | u :: rest =>
    match u.stored with
    | .wait => s
    | .forward => s
    | .lost =>
      let s := (withParity parity k u s).2
      let r := readLine (storedBeam s u.dest) (lineErr s u.dest)
      dropHead k u rest (countUe 0x05 (some u.mort) (some (slotPid s u.slot)) u.dest r s)
    | .got _ true => dropHead k u rest (withParity parity k u s).2
    | .got b false => let p := withParity parity k u s; applyHead k p.1 b rest p.2
    | .unneeded => let p := withParity parity k u s; applyHead k p.1 (storedBeam s u.dest) rest p.2

/-- A sinter unit's combine step (R155). -/
def execSinterCombine (bank : Fin 512) (parity : Bool) (s : State) : Host.Outcome State Fault Refusal :=
  doneSched (onlyIf (unitsOn s) (combineHead bank.val parity) s)

/-! ### The sequencer (R166) -/

/-- The lowest unreleased beam's updates leave for the drain network when its path is free (R166). -/
def seqRelease (n : Fin 4) (s : State) : State :=
  match s.sinter.seqBeams with
  | [] => s
  | b :: rest =>
    if b.num = s.sinter.seqNext && (s.sinter.net.get [] (20 + n.val)).isEmpty then
      toNet (20 + n.val) b.ups
        (s.onSinter fun k => { k with seqBeams := rest, seqNext := k.seqNext + 1 })
    else s

/-- The sequencer releases its lowest beam (R166). -/
def execSequencerRelease (slot : Fin 4) (s : State) : Host.Outcome State Fault Refusal :=
  doneSched (onlyIf (unitsOn s && s.sched.slot[slot].holdsSeq) (fun s => flushLoops (seqRelease slot s)) s)

/-! ### Hot queues (R168) -/

/-- A queue has been full for `run` BCLK: SNT_HOT keeps the longest run, and code 0x25 is logged at the threshold, once
per phase (R168). -/
def hotQueue (k : Nat) (run : BitVec 32) (s : State) : State :=
  let s := s.onSinter fun t =>
    if t.hotBclk.toNat < run.toNat then { t with hotBank := BitVec.ofNat 9 k, hotBclk := run } else t
  match queueOf s k with
  | [] => s
  | u :: _ =>
    let thr := s.sinter.hotThresh
    if thr != 0 && thr.toNat ≤ run.toNat && !s.sched.slot[u.slot].hotLogged then
      sntReport 0x25 k u (s.onSlot u.slot fun p => { p with hotLogged := true })
    else s

/-- A sinter queue has stayed full (R168). -/
def execSinterHotQueue (bank : Fin 512) (run : BitVec 32) (s : State) : Host.Outcome State Fault Refusal :=
  done (onlyIf (unitsOn s && (queueOf s bank.val).length = 8) (hotQueue bank.val run) s)

/-- A write of SNT_HOT sets FULL_BCLK and restarts the search. -/
def setHot (v : W64) (s : State) : State := s.onSinter fun k => { k with hotBclk := field v 0 32 }

/-- A write of SNT_HOT (R168). -/
def execSntHotWrite (src : Src) (v : BitVec 64) (s : State) : Host.Outcome State Fault Refusal :=
  done (writeReg src 0x50028 .host (setHot v) s)

/-! ### Tallies (R172) -/

/-- A value of SNT_TALLY_CMD with a reserved bit or operation. -/
def tallyReservedWord (v : W64) : Bool := v &&& 0xFFFFFFFFFFFFFCF0 != 0 || 3 ≤ (field v 0 4).toNat

/-- What a write of SNT_TALLY_CMD does. -/
def tallyWord (v : W64) (s : State) : State :=
  let i : Fin 4 := (field v 8 2).toFin
  if tallyReservedWord v then tallyRefuse i.val s
  else
    match (field v 0 4).toNat with
    | 0 => tallyCode 0 s
    | 1 => tallyCmd false i s
    | _ => tallyCmd true i s

/-- NOP. -/
def execTallyNop (src : Src) (_ : Fin 4) (s : State) : Host.Outcome State Fault Refusal :=
  done (writeReg src 0x50018 .host (tallyCode 0) s)

/-- CLEAR (R172). -/
def execTallyClear (src : Src) (i : Fin 4) (s : State) : Host.Outcome State Fault Refusal :=
  done (writeReg src 0x50018 .host (tallyCmd false i) s)

/-- FOLD (R172). -/
def execTallyFold (src : Src) (i : Fin 4) (s : State) : Host.Outcome State Fault Refusal :=
  done (writeReg src 0x50018 .host (tallyCmd true i) s)

/-- A reserved tally command: refused with code 0x27. -/
def execTallyCmdReserved (src : Src) (raw : BitVec 64) (s : State) : Host.Outcome State Fault Refusal :=
  done (onlyIf (tallyReservedWord raw) (writeReg src 0x50018 .host (tallyWord raw)) s)

/-- The sum of a tally's 512 partials as a balanced tree (R172). -/
def foldSum (s : State) (i : Fin 4) : W64 :=
  treeSum 9 ((List.range 512).map fun b => s.sinter.partials.get 0 (512 * i.val + b))

/-- A fold ends: SNT_TALLY holds the sum and the poison mark, the phases that folded it are folded, the commands that
waited run (R172). -/
def foldEnd (i : Fin 4) (s : State) : State :=
  let sum := foldSum s i
  let mark := s.sinter.partPoison.any fun p => p.1 / 512 = i.val
  let s := s.onSinter fun k =>
    { k with tally := k.tally.set 0 i.val sum, tallyPoison := putBit4 k.tallyPoison i mark }
  let s := s.onSched fun c =>
    { c with slot := c.slot.map fun p => if p.st == .fold && namesTally i p.rcd then { p with folded := true } else p }
  endFold i s

/-- A fold of a tally ends (R172). -/
def execTallyFoldComplete (i : Fin 4) (s : State) : Host.Outcome State Fault Refusal :=
  doneSched (onlyIf (unitsOn s && bitAt s.sinter.folding i.val) (foldEnd i) s)

/-! ### Registers of the sinter sub-window -/

/-- One byte of SNT_TALLY_STATUS. -/
def tallyByte (s : State) (i : Fin 4) : BitVec 8 :=
  flagBits 1 (bitAt s.sinter.nonfinite i.val) ++ flagBits 1 (bitAt s.sinter.folding i.val) ++ (0 : BitVec 3) ++
    satNat 3 (tallyUsers s i)

/-- The registers at an offset of the sinter sub-window. -/
def sntInfo (off : Nat) : Option RegInfo :=
  match off with
  | 0x00 => some { owner := .both, other := 0x0000FFFFFFFFFFFF }
  | 0x08 => some { owner := .host, rw := 0xFFFFFFFF }
  | 0x10 => some { owner := .host, rw := 0xFFFFFFFF, other := 0x0000FFFF00000000 }
  | 0x18 => some { owner := .host, other := 0x30F }
  | 0x20 => some { owner := .both, other := 0x000000FFC7C7C7C7 }
  | 0x28 => some { owner := .host, rw := 0xFFFFFFFF, other := 0x000001FF00000000 }
  | _ =>
    if off % 8 != 0 then none
    else if 0x40 ≤ off && off < 0x60 then some { owner := .both, other := 0xFFFFFFFFFFFFFFFF }
    else if 0x100 ≤ off && off < 0x150 then some { owner := .host, rw := 0xFFFFFFFFFFFFFFFF }
    else if 0x1000 ≤ off && off < 0x2000 then some { owner := .both, other := 0xFFFFFFFF }
    else none

/-- Reads a register of the sinter sub-window. -/
def sntRead (off : Nat) (s : State) : W64 :=
  let k := s.sinter
  match off with
  | 0x00 => 0x0000040808000200
  | 0x08 => k.hotThresh.setWidth 64
  | 0x10 => (0 : BitVec 16) ++ k.clipGen ++ k.clip
  | 0x20 => (0 : BitVec 24) ++ k.tallyCode ++ tallyByte s 3 ++ tallyByte s 2 ++ tallyByte s 1 ++ tallyByte s 0
  | 0x28 => (0 : BitVec 23) ++ k.hotBank ++ k.hotBclk
  | _ =>
    if 0x40 ≤ off && off < 0x60 then k.tally.get 0 ((off - 0x40) / 8)
    else if 0x100 ≤ off && off < 0x150 then k.count.get 0 ((off - 0x100) / 8)
    else if 0x1000 ≤ off && off < 0x2000 then (k.lfsr.get 0 ((off - 0x1000) / 8)).setWidth 64
    else 0

/-- Writes a register of the sinter sub-window. -/
def sntWrite (off : Nat) (v : W64) (s : State) : State :=
  match off with
  | 0x08 => s.onSinter fun k => { k with hotThresh := field v 0 32 }
  | 0x10 => s.onSinter fun k => { k with clip := field v 0 32 }
  | 0x18 => tallyWord v s
  | 0x28 => setHot v s
  | _ =>
    if 0x100 ≤ off && off < 0x150 then s.onSinter fun k => { k with count := k.count.set 0 ((off - 0x100) / 8) v }
    else s

end Sys2Proof.Machine
end

