-- ==== Sys2Proof/Machine/LayoutOps.lean ====
section
/-!
DEFINITION. LayoutOps.lean: what the layout unit moves in one group of beams: the granules a fill reads, the beams it
builds, the bytes a store writes, the permutations of copies (R209 to R223, R229, R230, R232).
-/
namespace Sys2Proof.Machine

/-- Adds n to LAY_COUNT[i]. -/
def countLay (i n : Nat) (s : State) : State := s.onLayout fun l => { l with count := bump l.count i n }

/-! ### Groups (R229, R230) -/

/-- The key distance of the second half of a twin. -/
def twinKey : Nat := 1048576

/-- The key distance of the scale array's granules. -/
def scaleTag : Nat := 2 ^ 46

/-- Beams of a group: a tile where tiles pass whole through a tile buffer, else 512 (R229, R230). -/
def Desc.groupSize (s : State) (d : Desc) : Nat := if !d.slots && d.needsBuffer s then d.bpt else 512

/-- The beams of the group in progress, by their number in the transfer. -/
def LSlot.keys (s : State) (p : LSlot) : List Nat :=
  let g := Desc.groupSize s p.desc
  ((List.range g).map fun i => p.group * g + i).filter (· < Desc.beams p.desc)

/-- The group reaches past the last beam. -/
def LSlot.pastEnd (s : State) (p : LSlot) : Bool := Desc.beams p.desc ≤ p.group * Desc.groupSize s p.desc

/-- The element number in the source tile that element number k of the destination tile takes (R220 to R222). The elements
of a tile's last beam past the tile's own go across as they stand, each with its mask bit: R209 speaks of them in a fill
alone (DESIGN CHOICE, assumption 135). -/
def Desc.sourceNum (d : Desc) (ls ld : BitVec 3) (k : Nat) : Nat :=
  if k < d.tr * d.tc then
    let q := layoutElem ld d.tr d.tc k
    if d.op = 5 then layoutIx ls d.tr d.tc q.2 q.1 else layoutIx ls d.tr d.tc q.1 q.2
  else k

/-- The source beam and the element in it that element n of destination beam j takes. -/
def Desc.sourceOf (d : Desc) (ls ld : BitVec 3) (j n : Nat) : Nat × Nat :=
  let k := d.sourceNum ls ld (j % d.bpt * elemCount d.fmt + n)
  (j - j % d.bpt + k / elemCount d.fmt, k % elemCount d.fmt)

/-- The source beams that a TRANSPOSE reads for the beams of its group (R221, R230). -/
def LSlot.sources (s : State) (p : LSlot) : List Nat :=
  let d : Desc := p.desc
  let ls := (mortAt s d.mort).layout
  let ld := (mortAt s d.mort2).layout
  (foldOver (p.keys s) (fun j m => foldUpTo (elemCount d.fmt) (fun n m => SMap.put m (d.sourceOf ls ld j n).1 true) m)
    ([] : SMap Bool)).map Prod.fst

/-- The keys of the beams the group commits or reads at the side port: those of a TWIN fill in both halves. -/
def LSlot.jobKeys (s : State) (p : LSlot) : List Nat :=
  if Desc.op p.desc = 4 && !p.writing then p.sources s
  else p.keys s ++ if Desc.twin p.desc then (p.keys s).map (· + twinKey) else []

/-- The beams the group presents to the bays now: of the first 512 in a row that are not all done, the rest (R230). -/
def LSlot.openKeys (s : State) (p : LSlot) : List Nat :=
  let l := p.jobKeys s
  ((l.drop (512 * (l.findIdx (!p.jobsDone.contains ·) / 512))).take 512).filter (!p.jobsDone.contains ·)

/-- The mortise on the side of a key (R208, R215). -/
def LSlot.keyMort (s : State) (p : LSlot) (key : Nat) : BitVec 10 :=
  if Desc.isCopy p.desc && p.writing then Desc.mort2 p.desc
  else if twinKey ≤ key then (mortAt s (Desc.mort p.desc)).twin
  else Desc.mort p.desc

/-- The side-port beat of a key (R208, R209). -/
def LSlot.jobOf (s : State) (p : LSlot) (key : Nat) : Job :=
  let m := p.keyMort s key
  let ofs := if Desc.isCopy p.desc && p.writing then Desc.ofs2 p.desc else Desc.ofs p.desc
  { beam := (mortAt s m).beamAt (ofs + key % twinKey), key := key, mort := m }

/-- The side-port requester of a transfer (R208). -/
def Desc.requester (d : Desc) : Fin 8 := if d.isFill then 2 else if d.isStore then 1 else 4

/-- The transfer moves: not held in EMBER, not ending (R228). -/
def LSlot.moving (s : State) (p : LSlot) : Bool :=
  p.st == .move && !p.ending && isLive s && (s.aon.st != .ember || Desc.isStore p.desc)

/-- The group's side-port beats go on now: a fill's writes, a store's reads, both of a copy. -/
def LSlot.sideStage (p : LSlot) : Bool :=
  if Desc.isFill p.desc then p.writing else if Desc.isStore p.desc then !p.writing else true

/-! ### The granules a fill reads (R215, R236) -/

/-- Lists the granules of the bytes lo to hi. -/
def spanGrans (tag lo hi : Nat) (m : SMap Bool) : SMap Bool :=
  foldUpTo (hi / 64 - lo / 64 + 1) (fun i m => m.put (tag + lo / 64 + i) true) m

/-- The granules of an element and of its block scale. -/
def elemGrans (d : Desc) (q : Int × Int × Int) (m : SMap Bool) : SMap Bool :=
  let b := d.elemBit q
  let m := spanGrans 0 (b / 8) ((b + elemWidth d.fmt - 1) / 8) m
  if hasScales d.fmt then spanGrans scaleTag (d.scaleAddr q) (d.scaleAddr q) m else m

/-- The granules of a beam's elements that lie in bounds. -/
def beamGrans (s : State) (p : LSlot) (j : Nat) (m : SMap Bool) : SMap Bool :=
  let d : Desc := p.desc
  if d.slots then spanGrans 0 (d.base + j * d.rstride) (d.base + j * d.rstride + 543) m
  else
    foldUpTo (elemCount d.fmt) (fun n m =>
      match d.beamElem (mortAt s d.mort).layout j n with
      | some q => if d.inBounds q then elemGrans d q m else m
      | none => m) m

/-- The granules the group needs from memory; memory is read once for both halves of a twin (R215). -/
def LSlot.needs (s : State) (p : LSlot) : SMap Bool := foldOver (p.keys s) (beamGrans s p) []

/-! ### Building a fill's beams (R215) -/

/-- Granule k of the group, as read. -/
def LSlot.gran (p : LSlot) (k : Nat) : BitVec 514 := p.rgran.get 0 k

/-- w bits of memory from bit address b. -/
def LSlot.memBits (p : LSlot) (tag b w : Nat) : Nat :=
  (((p.gran (tag + b / 512 + 1)).extractLsb' 0 512 ++ (p.gran (tag + b / 512)).extractLsb' 0 512).extractLsb' (b % 512)
    w).toNat

/-- One of the granules of w bits from bit address b came with poison (R232, R238). -/
def LSlot.memPoison (p : LSlot) (tag b w : Nat) : Bool :=
  bitAt (p.gran (tag + b / 512)) 512 || bitAt (p.gran (tag + (b + w - 1) / 512)) 512

/-- A beam under construction. -/
structure Built where
  /-- The beam. -/
  beam : Beam
  /-- It carries poison. -/
  poison : Bool := false
  /-- Out-of-bounds elements met. -/
  oob : Nat := 0
  deriving DecidableEq, Repr

/-- An in-bounds element, its mask bit and its block's scale reach the beam (R215). -/
def LSlot.placeElem (p : LSlot) (q : Int × Int × Int) (n : Nat) (a : Built) : Built :=
  let d : Desc := p.desc
  let w := elemWidth d.fmt
  let v := setValid d.fmt (setElem d.fmt a.beam n (p.memBits 0 (d.elemBit q) w)) n
  let bad := p.memPoison 0 (d.elemBit q) w
  if hasScales d.fmt then
    let b := 8 * d.scaleAddr q
    { a with beam := setScale d.fmt v (n / 32) (p.memBits scaleTag b 8)
             poison := a.poison || bad || p.memPoison scaleTag b 8 }
  else { a with beam := v, poison := a.poison || bad }

/-- Beam j of a PLAIN fill in a layout (R209, R215). -/
def LSlot.plainBeam (p : LSlot) (lay : BitVec 3) (j : Nat) : Built :=
  let d : Desc := p.desc
  foldUpTo (elemCount d.fmt) (fun n a =>
    match d.beamElem lay j n with
    | some q => if d.inBounds q then p.placeElem q n a else { a with oob := a.oob + 1 }
    | none => a) { beam := fillBeam d.fmt d.fill }

/-- Beam j of a SLOTS fill: bytes 0 to 543 of its slot (R56, R210). -/
def LSlot.slotBeam (p : LSlot) (j : Nat) : Built :=
  let d : Desc := p.desc
  let k := (d.base + j * d.rstride) / 64
  { beam := (List.range 9).foldl (fun (acc : Beam) i =>
      acc ||| (((p.gran (k + i)).extractLsb' 0 512).setWidth 4352).shiftLeft (512 * i)) 0
    poison := (List.range 9).any fun i => bitAt (p.gran (k + i)) 512 }

/-- The beam a fill writes for a key, the bytes that read zero cleared (R34, R210, R215). -/
def LSlot.fillFor (s : State) (p : LSlot) (key : Nat) : Built :=
  let j := key % twinKey
  let a := if Desc.slots p.desc then p.slotBeam j else p.plainBeam (mortAt s (p.keyMort s key)).layout j
  { a with beam := zeroTail (Desc.fmt p.desc) a.beam }

/-- A held beam with its poison. -/
def marked (b : Beam) (poison : Bool) : MarkedBeam := flagBits 1 poison ++ b

/-- Changes a transfer slot, which notes the out-of-bounds elements it met (LAY_LAST). -/
def noteOob (n : Fin 8) (i oob : Nat) (s : State) : State :=
  countLay i oob (s.onLSlot n fun p => { p with oob := p.oob || oob != 0 })

/-- Every granule the fill's group needs has arrived: its beams are built and its writes begin; each view position out
of bounds counts once (R215). -/
def buildFill (n : Fin 8) (s : State) : State :=
  let p := s.layout.slot[n]
  let put (key : Nat) (h : SMap MarkedBeam) : SMap MarkedBeam :=
    let b := p.fillFor s key
    h.set 0 key (marked b.beam b.poison)
  let oob := ((p.keys s).map fun k => (p.fillFor s k).oob).sum
  noteOob n 2 oob (s.onLSlot n fun q => { q with held := foldOver (p.jobKeys s) put [], writing := true, jobsDone := [] })

/-! ### The bytes a store writes (R216, R232) -/

/-- Lays bits over a granule still to write. -/
def mergeGran (k : Nat) (data cover : BitVec 512) (poison : Bool) (m : SMap (BitVec 1025)) : SMap (BitVec 1025) :=
  let old := m.get 0 k
  let d := (old.extractLsb' 0 512 &&& ~~~cover) ||| (data &&& cover)
  m.put k (flagBits 1 (bitAt old 1024 || poison) ++ (old.extractLsb' 512 512 ||| cover) ++ d)

/-- Writes w bits at bit address b. -/
def putMem (tag b w v : Nat) (poison : Bool) (m : SMap (BitVec 1025)) : SMap (BitVec 1025) :=
  let x := (BitVec.ofNat 1024 (v % 2 ^ w)).shiftLeft (b % 512)
  let c := (BitVec.ofNat 1024 (2 ^ w - 1)).shiftLeft (b % 512)
  let k := tag + b / 512
  let m := mergeGran k (x.extractLsb' 0 512) (c.extractLsb' 0 512) poison m
  if c.extractLsb' 512 512 = 0 then m
  else mergeGran (k + 1) (x.extractLsb' 512 512) (c.extractLsb' 512 512) poison m

/-- What a store takes from a beam: the granules and the out-of-bounds elements dropped. -/
structure Spill where
  /-- Granules to write. -/
  out : SMap (BitVec 1025)
  /-- Out-of-bounds elements dropped. -/
  oob : Nat := 0
  deriving DecidableEq, Repr

/-- An in-bounds element is written, an absent one as the fill value, with its block's scale (R59, R216). -/
def Desc.spillElem (d : Desc) (v : MarkedBeam) (q : Int × Int × Int) (n : Nat) (m : SMap (BitVec 1025)) :
    SMap (BitVec 1025) :=
  let b : Beam := v.extractLsb' 0 4352
  let poison := bitAt v 4352
  let x := if elemValid d.fmt b n then elemBits d.fmt b n else d.fill.toNat
  let m := putMem 0 (d.elemBit q) (elemWidth d.fmt) x poison m
  if hasScales d.fmt then putMem scaleTag (8 * d.scaleAddr q) 8 (scaleOf d.fmt b (n / 32)) poison m else m

/-- A whole beam slot is written: the beam, then 32 zero bytes (R56, R210). -/
def Desc.spillSlot (d : Desc) (v : MarkedBeam) (j : Nat) (m : SMap (BitVec 1025)) : SMap (BitVec 1025) :=
  let x : BitVec 4608 := (v.extractLsb' 0 4352).setWidth 4608
  foldUpTo 9 (fun i m =>
    mergeGran ((d.base + j * d.rstride) / 64 + i) (x.extractLsb' (512 * i) 512) (BitVec.allOnes 512) (bitAt v 4352) m) m

/-- Beam j of a store; `drop` leaves its writes out (R216, R232). -/
def Desc.spillBeam (d : Desc) (lay : BitVec 3) (drop : Bool) (v : MarkedBeam) (j : Nat) (a : Spill) : Spill :=
  if d.slots then (if drop then a else { a with out := d.spillSlot v j a.out })
  else
    foldUpTo (elemCount d.fmt) (fun n a =>
      match d.beamElem lay j n with
      | some q =>
        if d.inBounds q then (if drop then a else { a with out := d.spillElem v q n a.out })
        else { a with oob := a.oob + 1 }
      | none => a) a

/-- Every window of the transfer grants PSN (R232). -/
def LSlot.psn (p : LSlot) : Bool := p.main.all WinSel.psn && p.scale.all WinSel.psn

/-- The byte enables of a covered granule (R216, R239). -/
def enables (cover : BitVec 512) : BitVec 64 :=
  (List.range 64).foldl (fun (m : BitVec 64) i => if cover.extractLsb' (8 * i) 8 = 0 then m else m ||| ((1 : BitVec 64) <<< i)) 0

/-- All eight bits of each enabled byte. -/
def enabledBits (e : BitVec 64) : BitVec 512 :=
  (List.range 64).foldl (fun (m : BitVec 512) i => if bitAt e i then m ||| ((0xFF : BitVec 512) <<< (8 * i)) else m) 0

/-- A granule as a request carries it: data, byte enables, poison. The bits of an enabled byte that no element covers are
free: the spec states no value for them (assumption 7). -/
def sealGran (g : BitVec 1025) (s : State) : BitVec 577 × State :=
  let cover := g.extractLsb' 512 512
  let gap := enabledBits (enables cover) &&& ~~~cover
  let f := if gap = 0 then (0, s) else takeFree 512 s
  (flagBits 1 (bitAt g 1024) ++ enables cover ++ (g.extractLsb' 0 512 ||| (f.1 &&& gap)), f.2)

/-- Poisoned beams of a store whose windows lack PSN: their writes are dropped and counted, code 0x45 once for the
descriptor (R232). -/
def noteDropped (n : Fin 8) (k : Nat) (s : State) : State :=
  let p := s.layout.slot[n]
  if k = 0 then s
  else
    let s := countLay 6 k (s.onLSlot n fun p => { p with dropped := true })
    if p.dropped then s
    else report { code := 0x45, unit := BitVec.ofNat 12 n.val, loc := p.ticket ++ (0 : BitVec 32) } s

/-- Every beam of the store's group is read: its bytes are ready to write (R216, R230, R232). LAY_COUNT[5] counts each
beam whose writes are not dropped for poison, one without an element in bounds too, which writes nothing: the spec leaves
that open (DESIGN CHOICE, assumption 158). -/
def buildStore (n : Fin 8) (s : State) : State :=
  let p := s.layout.slot[n]
  let d : Desc := p.desc
  let drop (j : Nat) : Bool := bitAt (p.held.get 0 j) 4352 && !p.psn
  let lay := (mortAt s d.mort).layout
  let a := foldOver (p.keys s) (fun j a => d.spillBeam lay (drop j) (p.held.get 0 j) j a) { out := [] }
  let bad := countTrue (p.keys s) drop
  let s := s.onLSlot n fun q =>
    { q with wgran := foldOver a.out (fun g m =>
               mergeGran g.1 (g.2.extractLsb' 0 512) (g.2.extractLsb' 512 512) (bitAt g.2 1024) m) q.wgran
             writing := true, jobsDone := [], held := [], done := q.done + (p.keys s).length }
  countLay 5 ((p.keys s).length - bad) (noteOob n 3 a.oob (noteDropped n bad s))

/-! ### Copies (R220 to R223) -/

/-- Element n of destination beam j takes its source's bits, mask bit and block scale; in a pair one of whose elements
is valid, an absent one takes the fill value (R221, R223). -/
def LSlot.copyElem (p : LSlot) (ls ld : BitVec 3) (j n : Nat) (a : Built) : Built :=
  let d : Desc := p.desc
  let f := d.fmt
  let src (k : Nat) : MarkedBeam := p.held.get 0 (d.sourceOf ls ld j k).1
  let isValid (k : Nat) : Bool := elemValid f ((src k).extractLsb' 0 4352) (d.sourceOf ls ld j k).2
  let other := if n % 2 = 0 then n + 1 else n - 1
  let b : Beam := (src n).extractLsb' 0 4352
  let e := (d.sourceOf ls ld j n).2
  let bits :=
    if isPairMasked f && !isValid n && isValid other then d.fill.toNat % 2 ^ elemWidth f else elemBits f b e
  let v := setElem f a.beam n bits
  let v := if isValid n then setValid f v n else v
  let v := if hasScales f && n % 32 = 0 then setScale f v (n / 32) (scaleOf f b (e / 32)) else v
  { a with beam := v, poison := a.poison || bitAt (src n) 4352 }

/-- The copy moves beams bit for bit (R220). -/
def LSlot.wholeCopy (s : State) (p : LSlot) : Bool :=
  Desc.op p.desc = 3 && (mortAt s (Desc.mort p.desc)).layout == (mortAt s (Desc.mort2 p.desc)).layout

/-- The beam a copy writes for a key (R34, R220 to R223). -/
def LSlot.copyFor (s : State) (p : LSlot) (j : Nat) : MarkedBeam :=
  if p.wholeCopy s then p.held.get 0 j
  else
    let ls := (mortAt s (Desc.mort p.desc)).layout
    let ld := (mortAt s (Desc.mort2 p.desc)).layout
    let a := foldUpTo (elemCount (Desc.fmt p.desc)) (p.copyElem ls ld j) { beam := 0 }
    marked (zeroTail (Desc.fmt p.desc) a.beam) a.poison

/-- Every source beam of the copy's group is read: its destination beams are formed and its writes begin (R230). -/
def buildCopy (n : Fin 8) (s : State) : State :=
  let p := s.layout.slot[n]
  let put (j : Nat) (h : SMap MarkedBeam) : SMap MarkedBeam := h.set 0 j (p.copyFor s j)
  s.onLSlot n fun q => { q with held := foldOver (p.keys s) put [], writing := true, jobsDone := [] }

/-! ### Progress of a transfer -/

/-- Every beat of the group's stage is done. -/
def LSlot.allDone (s : State) (p : LSlot) : Bool := (p.jobKeys s).all p.jobsDone.contains

/-- The group's reads are complete. -/
def LSlot.readsOver (s : State) (p : LSlot) : Bool :=
  if Desc.isFill p.desc then (p.needs s).all fun g => bitAt (p.gran g.1) 513 else p.allDone s

/-- The group's writes are complete; those of a store that holds a tile buffer are all requested, any other goes on to
read its next beams (R229, R230). -/
def LSlot.writesOver (s : State) (p : LSlot) : Bool :=
  if Desc.isStore p.desc then !Desc.needsBuffer s p.desc || p.wgran.isEmpty else p.allDone s

/-- From reading to writing. -/
def buildGroup (n : Fin 8) (s : State) : State :=
  let p := s.layout.slot[n]
  if p.moving s && !p.writing && !p.pastEnd s && p.readsOver s then
    (if Desc.isFill p.desc then buildFill n s else if Desc.isStore p.desc then buildStore n s else buildCopy n s)
  else s

/-- On to the next group; without a tile buffer, what has been requested and read of later groups stays (R230, R236). -/
def nextGroup (n : Fin 8) (s : State) : State :=
  let p := s.layout.slot[n]
  let whole := Desc.needsBuffer s p.desc
  if p.moving s && p.writing && p.writesOver s then
    s.onLSlot n fun p =>
      { p with group := p.group + 1, writing := false, jobsDone := [], held := []
               reqd := if whole then [] else p.reqd, rgran := if whole then [] else p.rgran }
  else s

/-- What the transfer in a slot does by itself: its reads complete, its group ends, the next begins. -/
def advanceTransfer (n : Fin 8) (s : State) : State := nextGroup n (buildGroup n (nextGroup n (buildGroup n s)))

/-- Advances every transfer. -/
def advanceTransfers (s : State) : State := foldOver (List.finRange 8) advanceTransfer s

/-- A client's transfer in progress is abandoned in every bay: what it staged is emptied, and it is no loss (R231,
R247). -/
def dropOwner (c : Client) (s : State) : State :=
  s.onArb fun a => { a with bay := a.bay.map fun y =>
    match y.owner with
    | some g => if g.client == c then { y with owner := none } else y
    | none => y }

/-- Memory requests of a transfer are presented, or its transactions outstanding (R226, R231, R236). -/
def memBusy (s : State) (n : Fin 8) : Bool :=
  (s.mem.txns.any fun t => t.client == .transfer n && !t.quar) ||
    s.mem.req.toList.any fun r => r.any fun q => q.client == .transfer n

/-- A beam read for a transfer reaches the layout unit, scaled on read (R173). -/
def deliverBeam (n : Fin 8) (key : Nat) (v : MarkedBeam) (s : State) : State :=
  let p := s.layout.slot[n]
  if p.ending || p.st != .move then s
  else
    let b := if Desc.sor p.desc then scaleBeam (Desc.fmt p.desc) p.clip (v.extractLsb' 0 4352) else v.extractLsb' 0 4352
    let s := if Desc.sor p.desc then countSnt 9 1 s else s
    s.onLSlot n fun p =>
      { p with held := p.held.set 0 key (marked b (bitAt v 4352)), jobsDone := insertNew p.jobsDone key }

/-- A beam of a transfer is committed at its bank (LAY_COUNT[4], LAY_SLOT.DONE). -/
def commitBeam (n : Fin 8) (key : Nat) (s : State) : State :=
  countLay 4 1 (s.onLSlot n fun p => { p with jobsDone := insertNew p.jobsDone key, done := p.done + 1 })

end Sys2Proof.Machine
end

