-- ==== Sys2Proof/Machine/Layout.lean ====
section
/-!
DEFINITION. Layout.lean: descriptors on their way through the layout unit: submission (R227), transfer slots (R228),
tile buffers (R229), completion (R226) and aborts (R231); the layout commands and registers.
-/
namespace Sys2Proof.Machine

/-! ### Submission (R225, R227) -/

/-- The report of a refused descriptor (R370). -/
def descReport (s : State) (code : BitVec 8) (d : Desc) : Report :=
  if code == 0x07 then
    let i := (d.names.find? fun i => (mortAt s i).st == .retired).getD 0
    { code := code, mort := some i, loc := i.setWidth 64 }
  else if code == 0x22 then { code := code }
  else { code := code, unit := 8 }

/-- A refusal: LAY_STATUS.LAST_CODE, LAY_EVENT.REFUSED, the log (R227). -/
def layRefuse (r : Report) (s : State) : State :=
  report r (s.onLayout fun l => { l with lastCode := r.code, event := l.event ||| 4 })

/-- A descriptor takes its place in the queue with the next ticket and the windows its check selected (R225, R227). -/
def descAccept (d : Desc) (s : State) : State :=
  let w := (d.windows s).getD (none, none)
  countLay 0 1 (s.onLayout fun l =>
    { l with queue := l.queue ++ [{ ticket := l.nextTicket, desc := d, main := w.1, scale := w.2 }]
             nextTicket := l.nextTicket + 1 })

/-- The descriptor check of a submission, and its outcome (R227). -/
def submitDesc (d : Desc) (s : State) : BitVec 8 × State :=
  let code := descCheck s d
  (code, if code == 0 then descAccept d s else layRefuse (descReport s code d) s)

/-- A submission of LAY_DBUF ends: LAY_SUBMIT_STATUS holds its code, and its ticket when it was accepted. -/
def hostSubmit (s : State) : State :=
  let t := s.layout.nextTicket
  let r := submitDesc s.layout.dbuf s
  r.2.onLayout fun l => { l with subCode := r.1, subTicket := if r.1 == 0 then t else l.subTicket }

/-- What a write of LAY_SUBMIT does. -/
def submitWord (v : W64) (s : State) : State :=
  if !unitsOn s then s
  else if v >>> 1 != 0 then layRefuse { code := 0x41, unit := 8 } (s.onLayout fun l => { l with subCode := 0x41 })
  else if bitAt v 0 then hostSubmit s
  else s

/-- A submission: run with BUSY set after it, or dropped with LOST while BUSY (LAY_SUBMIT_STATUS). -/
def subGate (act : State → State) (s : State) : State :=
  unlessBusy s.layout.subBusy (fun s => s.onLayout fun t => { t with subLost := true })
    (fun s => s.onLayout fun t => { t with subBusy := true }) act s

/-- A write of LAY_SUBMIT. -/
def submitWrite (v : W64) (s : State) : State := subGate (submitWord v) s

/-- LAY_SUBMIT (R227). -/
def execLaySubmit (src : Src) (raw : BitVec 64) (s : State) : Host.Outcome State Fault Refusal :=
  done (writeDropping src 0x70180 .host s.layout.subBusy (submitWrite raw) s)

/-! ### Transfer slots (R226, R228, R229) -/

/-- The descriptor that enters a slot next: the head, or in EMBER the first STORE, which passes the others (R228). -/
def nextDesc (s : State) : Option LRec :=
  if s.aon.st == .ember then s.layout.queue.find? fun q => Desc.isStore q.desc else s.layout.queue.head?

/-- The lowest-numbered free transfer slot (R228). -/
def freeLSlot (s : State) : Option (Fin 8) := (List.finRange 8).find? fun n => s.layout.slot[n].st == .free

/-- A descriptor enters a slot and starts evaluating its waits (R226, R228). -/
def enterLSlot (n : Fin 8) (q : LRec) (s : State) : State :=
  (s.onLayout fun l => { l with queue := l.queue.filter fun r => r.ticket != q.ticket }).onLSlot n fun _ =>
    { st := .wait, ticket := q.ticket, desc := q.desc, main := q.main, scale := q.scale }

/-- TRANSFER_SLOT_ENTRY (R228). -/
def execTransferSlotEntry (s : State) : Host.Outcome State Fault Refusal :=
  done (match nextDesc s, freeLSlot s with
    | some q, some n => onlyIf (isLive s) (enterLSlot n q) s
    | _, _ => s)

/-- The token slots of a descriptor. -/
def Desc.toks (d : Desc) : List (BitVec 16) := (List.range 4).map d.tok

/-- The mask of a transfer's token slots whose waits are unsatisfied. -/
def layPending (s : State) (n : Fin 8) : BitVec 8 := tokPending s (Desc.toks s.layout.slot[n].desc)

/-- The opening waits of a transfer are satisfied; a STORE in EMBER skips them, the others are held (R89, R226,
R228). -/
def layWaitsMet (s : State) (n : Fin 8) : Bool :=
  s.layout.slot[n].st == .wait && isLive s &&
    (if s.aon.st == .ember then Desc.isStore s.layout.slot[n].desc else layPending s n == 0)

/-- LAY_LAST for a transfer that leaves its slot with a code. -/
def layLast (p : LSlot) (code : BitVec 8) : W64 :=
  p.ticket ++ (0 : BitVec 8) ++ code ++ (0 : BitVec 14) ++ flagBits 1 p.oob ++ flagBits 1 p.dropped

/-- A transfer leaves its slot (LAY_LAST). -/
def leaveLSlot (n : Fin 8) (code : BitVec 8) (s : State) : State :=
  (s.onLayout fun l => { l with last := layLast s.layout.slot[n] code }).onLSlot n fun _ => {}

/-- A transfer is refused at the latch of its clip factor (R173). -/
def refuseLatch (n : Fin 8) (s : State) : State :=
  layRefuse { code := 0x22, loc := s.layout.slot[n].ticket ++ (0 : BitVec 32) } (leaveLSlot n 0x22 s)

/-- The transfer is accepted: its clip factor is latched and tested again, and it moves, or waits for a tile buffer
(R173, R228, R229). -/
def acceptTransfer (n : Fin 8) (s : State) : State :=
  let p := s.layout.slot[n]
  let d : Desc := p.desc
  if d.sor && !(scalable d.fmt && clipOk s.sinter.clip) then refuseLatch n s
  else
    advanceTransfer n (s.onLSlot n fun p =>
      { p with clip := s.sinter.clip, st := if d.needsBuffer s then .buffer else .move })

/-- TRANSFER_WAITS_SATISFIED (R226, R228). -/
def execTransferWaitsSatisfied (slot : Fin 8) (s : State) : Host.Outcome State Fault Refusal :=
  done (onlyIf (layWaitsMet s slot) (acceptTransfer slot) s)

/-- Tile buffers in use (R229). -/
def buffersUsed (s : State) : Nat := countTrue s.layout.slot.toList (·.buffered)

/-- TILE_BUFFER_GRANT (R229). A transfer takes one buffer and keeps it until it leaves its slot, its tiles one after
another: the spec does not say how many tiles it has in flight (DESIGN CHOICE, assumption 159). -/
def execTileBufferGrant (slot : Fin 8) (s : State) : Host.Outcome State Fault Refusal :=
  let p := s.layout.slot[slot]
  done (onlyIf
    (p.st == .buffer && buffersUsed s < 4 && isLive s && (s.aon.st != .ember || Desc.isStore p.desc))
    (fun s => advanceTransfer slot (s.onLSlot slot fun p => { p with st := .move, buffered := true })) s)

/-! ### Aborts (R231) -/

/-- An abort counts: LAST_CODE and LAY_EVENT.ABORTED. -/
def noteLayAbort (code : BitVec 8) (s : State) : State :=
  s.onLayout fun l => { l with lastCode := code, event := l.event ||| 2 }

/-- The transfer in a slot is aborted: its bursts in progress are abandoned, it issues nothing further (R231). -/
def abortTransfer (n : Fin 8) (code : BitVec 8) (s : State) : State :=
  if s.layout.slot[n].st == .free || s.layout.slot[n].st == .abort then s
  else
    noteLayAbort code (dropOwner (.transfer n) (s.onLSlot n fun p =>
      { p with st := .abort, ending := true, abortCode := code, held := [], rgran := [], wgran := [] }))

/-- The report of an abort with a code. -/
def layAbortReport (code : BitVec 8) (unit : Nat) (ticket : BitVec 32) : Report :=
  { code := code, unit := BitVec.ofNat 12 unit, loc := ticket ++ (0 : BitVec 32) }

/-- TRANSFER_TOKEN_TIMEOUT (R86, R226). -/
def execTransferTokenTimeout (slot : Fin 8) (s : State) : Host.Outcome State Fault Refusal :=
  let p := s.layout.slot[slot]
  done (onlyIf (s.aon.st == .run && p.st == .wait && s.trf.tokTimeout != 0 && layPending s slot != 0)
    (fun s => abortTransfer slot 0x49 (report (layAbortReport 0x49 slot.val p.ticket) s)) s)

/-- The last issued access of an aborted transfer is complete: its references are dropped (R231). -/
def execTransferAbortComplete (slot : Fin 8) (s : State) : Host.Outcome State Fault Refusal :=
  let p := s.layout.slot[slot]
  done (onlyIf (unitsOn s && p.st == .abort && !memBusy s slot && (flyingKeys s (.transfer slot)).isEmpty)
    (leaveLSlot slot p.abortCode) s)

/-! ### Completion (R226) -/

/-- Every beam of the transfer is committed, every write answered, every read done (R226). -/
def transferOver (s : State) (n : Fin 8) : Bool :=
  let p := s.layout.slot[n]
  p.moving s && p.pastEnd s && p.wgran.isEmpty && !memBusy s n && (flyingKeys s (.transfer n)).isEmpty

/-- The token events of a transfer that completes; a STORE in EMBER applies no release (R89, R226). -/
def layEvents (s : State) (n : Fin 8) : List TokEvent :=
  let p := s.layout.slot[n]
  (tokEvents (Desc.toks p.desc) fun k i =>
    { code := 0x32, unit := BitVec.ofNat 12 n.val, mort := some i, loc := p.ticket ++ BitVec.ofNat 32 k }).filter
    fun e => !(s.aon.st == .ember && e.release)

/-- The transfer completes: its signals and releases are applied, it leaves its slot (R226). -/
def completeTransfer (n : Fin 8) (s : State) : State :=
  let p := s.layout.slot[n]
  let s := applyTokens (layEvents s n) s
  let s := s.onLayout fun l => { l with event := if Desc.irq p.desc then l.event ||| 1 else l.event }
  countLay 1 1 (leaveLSlot n 0 s)

/-- TRANSFER_COMPLETE (R226). -/
def execTransferComplete (slot : Fin 8) (s : State) : Host.Outcome State Fault Refusal :=
  done (onlyIf (transferOver s slot) (completeTransfer slot) s)

/-! ### Layout commands (R231) -/

/-- LAY_CMD_STATUS.CODE. -/
def layCode (c : BitVec 8) (s : State) : State := s.onLayout fun l => { l with cmdCode := c }

/-- A layout command is refused with code 0x4B (R234). -/
def layCmdRefuse (t : BitVec 32) (s : State) : State :=
  report (layAbortReport 0x4B 8 t) (layCode 0x4B s)

/-- A queued descriptor is removed by command (R231). -/
def unqueueDesc (q : LRec) (s : State) : State :=
  noteLayAbort 0x4A (report (layAbortReport 0x4A 8 q.ticket)
    (s.onLayout fun l => { l with queue := l.queue.filter fun r => r.ticket != q.ticket }))

/-- The transfer slot that holds a ticket. -/
def lslotOfTicket (s : State) (t : BitVec 32) : Option (Fin 8) :=
  (List.finRange 8).find? fun n => s.layout.slot[n].st != .free && s.layout.slot[n].ticket == t

/-- The transfer in a slot is aborted by command, logged unless it ends already (R231). -/
def abortLSlot (n : Fin 8) (s : State) : State :=
  let p := s.layout.slot[n]
  if p.st == .abort then s else abortTransfer n 0x4A (report (layAbortReport 0x4A n.val p.ticket) s)

/-- ABORT (R231). Of a transfer that is already being aborted it completes with code 0 and changes nothing: the spec does
not say whether that is refused (DESIGN CHOICE, assumption 137). -/
def layAbortOp (t : BitVec 32) (s : State) : State :=
  match s.layout.queue.find? fun q => q.ticket == t with
  | some q => layCode 0 (unqueueDesc q s)
  | none =>
    match lslotOfTicket s t with
    | some n => layCode 0 (abortLSlot n s)
    | none => layCmdRefuse t s

/-- FLUSH: every queued descriptor is removed (R231). -/
def layFlushOp (s : State) : State := layCode 0 (foldOver s.layout.queue unqueueDesc s)

/-- A value of LAY_CMD with a reserved bit or operation. -/
def layReservedWord (v : W64) : Bool := v &&& 0xFFFF00000000FFF0 != 0 || 3 ≤ (field v 0 4).toNat

/-- What a write of LAY_CMD does. -/
def layWord (v : W64) (s : State) : State :=
  if !unitsOn s then s
  else if layReservedWord v then layCmdRefuse (field v 16 32) s
  else
    match (field v 0 4).toNat with
    | 0 => layCode 0 s
    | 1 => layAbortOp (field v 16 32) s
    | _ => layFlushOp s

/-- A layout command: run with BUSY set after it, or dropped with LOST while BUSY (LAY_CMD). -/
def layGate (act : State → State) (s : State) : State :=
  unlessBusy s.layout.cmdBusy (fun s => s.onLayout fun t => { t with cmdLost := true })
    (fun s => s.onLayout fun t => { t with cmdBusy := true }) act s

/-- A layout command through LAY_CMD. -/
def layCmd (src : Src) (act : State → State) (s : State) : State :=
  writeDropping src 0x70190 .host s.layout.cmdBusy (layGate fun s => onlyIf (unitsOn s) act s) s

/-- NOP. -/
def execLayNop (src : Src) (s : State) : Host.Outcome State Fault Refusal := done (layCmd src (layCode 0) s)

/-- ABORT (R231). -/
def execLayAbort (src : Src) (ticket : BitVec 32) (s : State) : Host.Outcome State Fault Refusal :=
  done (layCmd src (layAbortOp ticket) s)

/-- FLUSH (R231). -/
def execLayFlush (src : Src) (s : State) : Host.Outcome State Fault Refusal := done (layCmd src layFlushOp s)

/-- A reserved layout command: refused with code 0x4B (R234). -/
def execLayCmdReserved (src : Src) (raw : BitVec 64) (s : State) : Host.Outcome State Fault Refusal :=
  done (onlyIf (layReservedWord raw) (layCmd src (layWord raw)) s)

/-! ### Registers -/

/-- The code of LAY_SLOT.STATE; a slot that EMBER holds reports HELD (R228). -/
def layState (s : State) (p : LSlot) : BitVec 4 :=
  match p.st with
  | .free => 0
  | .abort => 5
  | st =>
    if s.aon.st == .ember && !Desc.isStore p.desc then 4
    else match st with | .wait => 1 | .buffer => 2 | .held => 4 | _ => 3

/-- LAY_SLOT. -/
def laySlot (s : State) (p : LSlot) : W64 :=
  if p.st == .free then 0
  else p.ticket ++ BitVec.ofNat 21 (min p.done 1048576) ++ BitVec.ofNat 3 (Desc.op p.desc) ++ (0 : BitVec 4) ++ layState s p

/-- LAY_STATUS. -/
def layStatus (s : State) : W64 :=
  let busy := (List.finRange 8).foldl (fun m n =>
    if s.layout.slot[n].st != .free then m ||| ((1 : BitVec 8) <<< n.val) else m) 0
  (0 : BitVec 16) ++ s.layout.lastCode ++ (0 : BitVec 8) ++ busy ++ (0 : BitVec 18) ++
    BitVec.ofNat 6 s.layout.queue.length

/-- The bits of a window word that are fields. -/
def winMask (w : Nat) : W64 := if w = 0 then 0xF000000FFFFFFFFF else if w = 3 then 0 else 0xFFFFFFFFF

/-- The registers at an offset of the layout sub-window. The fourth word of a window entry, offset 0x1018 + 0x20n, reads
zero; the spec names no register there, and the model gives it the owner class HOST of its entry, so that a vent write
is dropped (DESIGN CHOICE, assumption 145). -/
def layInfo (off : Nat) : Option RegInfo :=
  match off with
  | 0x00 => some { owner := .both, other := 0x0000FFFFFFFFFF00 }
  | 0x08 => some { owner := .both, other := 0x0000FF00FF00003F }
  | 0x180 => some { owner := .host, other := 0x1 }
  | 0x188 => some { owner := .host, other := 0xFFFFFFFF00FF0003 }
  | 0x190 => some { owner := .host, other := 0x0000FFFFFFFF000F }
  | 0x198 => some { owner := .host, other := 0xFF0003 }
  | 0x240 => some { owner := .both, other := 0xFFFFFFFF00FF0003 }
  | 0x248 => some { owner := .host, other := 0x7 }
  | _ =>
    if off % 8 != 0 then none
    else if 0x100 ≤ off && off < 0x180 then some { owner := .host, rw := 0xFFFFFFFFFFFFFFFF }
    else if 0x200 ≤ off && off < 0x240 then some { owner := .both, other := 0xFFFFFFFFFFFFFF0F }
    else if 0x300 ≤ off && off < 0x340 then some { owner := .host, rw := 0xFFFFFFFFFFFFFFFF }
    else if 0x1000 ≤ off && off < 0x3000 then
      some { owner := .host, rw := winMask (off / 8 % 4), sh := off / 8 % 4 != 3 }
    else if 0x9000 ≤ off && off < 0xB000 then some { owner := .both, other := winMask (off / 8 % 4) }
    else none

/-- Reads a register of the layout sub-window. -/
def layRead (off : Nat) (s : State) : W64 :=
  let l := s.layout
  match off with
  | 0x00 => 0x0000010020080400
  | 0x08 => layStatus s
  | 0x188 => l.subTicket ++ (0 : BitVec 8) ++ l.subCode ++ (0 : BitVec 14) ++ flagBits 1 l.subLost ++
      flagBits 1 l.subBusy
  | 0x198 => (0 : BitVec 40) ++ l.cmdCode ++ (0 : BitVec 14) ++ flagBits 1 l.cmdLost ++ flagBits 1 l.cmdBusy
  | 0x240 => l.last
  | 0x248 => l.event.setWidth 64
  | _ =>
    if 0x100 ≤ off && off < 0x180 then wordOf l.dbuf ((off - 0x100) / 8)
    else if 0x200 ≤ off && off < 0x240 then laySlot s l.slot[Fin.ofNat 8 (off / 8)]
    else if 0x300 ≤ off && off < 0x340 then l.count.get 0 ((off - 0x300) / 8)
    else if 0x1000 ≤ off && off < 0x3000 then s.cfg.shadow.win.get 0 ((off - 0x1000) / 8)
    else if 0x9000 ≤ off && off < 0xB000 then s.cfg.active.win.get 0 ((off - 0x9000) / 8)
    else 0

/-- Writes a register of the layout sub-window. -/
def layWrite (off : Nat) (v : W64) (s : State) : State :=
  match off with
  | 0x180 => submitWrite v s
  | 0x188 => s.onLayout fun l => { l with subLost := l.subLost && !bitAt v 1 }
  | 0x190 => layGate (layWord v) s
  | 0x198 => s.onLayout fun l => { l with cmdLost := l.cmdLost && !bitAt v 1 }
  | 0x248 => s.onLayout fun l => { l with event := l.event &&& ~~~field v 0 3 }
  | _ =>
    if 0x100 ≤ off && off < 0x180 then s.onLayout fun l => { l with dbuf := setWord l.dbuf ((off - 0x100) / 8) v }
    else if 0x300 ≤ off && off < 0x340 then
      s.onLayout fun l => { l with count := l.count.set 0 ((off - 0x300) / 8) v }
    else if 0x1000 ≤ off && off < 0x3000 then
      s.onCfg fun c => { c with shadow := { c.shadow with
        win := c.shadow.win.set 0 ((off - 0x1000) / 8) (v &&& winMask (off / 8 % 4)) } }
    else s

end Sys2Proof.Machine
end

