-- ==== Sys2Proof/Machine/Mem.lean ====
section
/-!
DEFINITION. Mem.lean: the memory ports: requests and tags (R236, R237), read and write data (R238, R239), timeouts and
wrong responses (R241, R242).
-/
namespace Sys2Proof.Machine

/-- The memory ports work: not in RESET, BOOT and FAULT (R242). -/
def memOn (s : State) : Bool := s.aon.rootclk && (isLive s || s.aon.st == .purge)

/-- Adds n to MEM_COUNT[i]. -/
def countMem (i n : Nat) (s : State) : State := s.onMem fun m => { m with count := bump m.count i n }

/-- The port of a physical address (R236). -/
def memPort (a : BitVec 52) : BitVec 3 := field a 12 3 ^^^ field a 15 3 ^^^ field a 18 3

/-! ### Requests (R236, R237) -/

/-- The granules from key k on that `has` lists, up to fuel many, inside one 64 KiB page (R236). -/
def runFrom (has : Nat → Bool) : Nat → Nat → Nat
  | 0, _ => 0
  | fuel + 1, k => if has k then (if k % 1024 = 1023 then 1 else 1 + runFrom has fuel (k + 1)) else 0

/-- The physical address of a granule of a transfer, through the window its check selected (R225). -/
def LSlot.physOf (p : LSlot) (k : Nat) : BitVec 52 :=
  if scaleTag ≤ k then (p.scale.getD {}).phys (64 * (k - scaleTag)) else (p.main.getD {}).phys (64 * k)

/-- The beams whose requests one sequence in address order covers: a tile where tiles pass through a tile buffer, else the
whole transfer (R229, R236, R240; assumption 117). -/
def LSlot.span (s : State) (p : LSlot) : List Nat :=
  if Desc.needsBuffer s p.desc then p.keys s else List.range (Desc.beams p.desc)

/-- Keys by their descriptor addresses. -/
def byAddress (l : List Nat) : List Nat := sortBy (fun a b => a % scaleTag < b % scaleTag) l

/-- The granules of the beams that a store has still to read. -/
def LSlot.unread (s : State) (p : LSlot) : SMap Bool :=
  if p.writing then [] else foldOver ((p.span s).filter (p.group * Desc.groupSize s p.desc ≤ ·)) (beamGrans s p) []

/-- The granules of the span that have still to be requested, in address order (R240). -/
def LSlot.wanted (s : State) (p : LSlot) : List Nat :=
  let idle := Desc.needsBuffer s p.desc && p.writing == Desc.isFill p.desc
  if Desc.isCopy p.desc || idle then []
  else if Desc.isFill p.desc then
    byAddress ((foldOver (p.span s) (beamGrans s p) []).map Prod.fst |>.filter (!p.reqd.contains ·))
  else byAddress ((foldOver p.wgran (fun g m => m.put g.1 true) (p.unread s)).map Prod.fst)

/-- A run can be requested: a store has all its bytes (R230, R236). -/
def LSlot.runReady (s : State) (p : LSlot) (k len : Nat) : Bool :=
  Desc.isFill p.desc ||
    (List.range len).all fun i => p.wgran.any (·.1 = k + i) && !(p.unread s).any (·.1 = k + i)

/-- The next request of the transfer in a slot: the run of the granule with the lowest address (R236, R240). -/
def slotReq (s : State) (n : Fin 8) : Option MemReq :=
  let p := s.layout.slot[n]
  if !p.moving s then none
  else
    match p.wanted s with
    | [] => none
    | k :: ks =>
      let len := runFrom ((k :: ks).contains ·) 72 k
      if p.runReady s k len then
        some { client := .transfer n, write := Desc.isStore p.desc, gkey := k, len := len, paddr := p.physOf k }
      else none

/-- The request of the bulk move in progress (R324). -/
def moveReq (s : State) : Option MemReq :=
  match s.core.move with
  | some m =>
    if 2 ≤ m.kind.toNat && !m.started then
      some { client := .move, write := m.kind == 3, gkey := 0, len := m.count, paddr := m.paddr }
    else none
  | none => none

/-- Who presents a request on a port: the transfers by slot, then the move (assumption 30). -/
def portReq (s : State) (port : Fin 8) : Option MemReq :=
  (((List.finRange 8).filterMap (slotReq s)) ++ (moveReq s).toList).find? fun r => (memPort r.paddr).toNat = port.val

/-- A client of the control core, whose tags are reserved (R237). -/
def MemClient.isCore : MemClient → Bool
  | .transfer _ => false
  | _ => true

/-- A tag is used by a transaction or a presented request. -/
def tagUsed (s : State) (tag : BitVec 13) : Bool :=
  s.mem.txns.any (·.tag == tag) || s.mem.req.toList.any fun r => r.any (·.tag == tag)

/-- The tags that clients of a kind hold (R237). -/
def tagsHeld (s : State) (core : Bool) : Nat :=
  countTrue s.mem.txns (·.client.isCore == core) +
    countTrue s.mem.req.toList fun r => r.any fun q => q.client.isCore == core

/-- A tag is free for a client: not in use, and its share of the 8,192 not used up (R237). -/
def tagFree (s : State) (c : MemClient) (tag : BitVec 13) : Bool :=
  !tagUsed s tag && (tagsHeld s c.isCore < if c.isCore then 16 else 8176)

/-- The lowest tag that is not in use: the one the block gives where the command names none (DESIGN CHOICE,
assumption 17). -/
def lowTag (s : State) : BitVec 13 :=
  BitVec.ofNat 13 (((List.range 8192).find? fun t => !tagUsed s (BitVec.ofNat 13 t)).getD 0)

/-- The granules of a store's request, as it carries them (R216, R239). -/
def sealGrans : List (BitVec 1025) → State → List (BitVec 577) × State
  | [], s => ([], s)
  | g :: gs, s =>
    let r := sealGran g s
    let q := sealGrans gs r.2
    (r.1 :: q.1, q.2)

/-- The granules a write request carries (R216, R239, R324). -/
def writeGrans (r : MemReq) (s : State) : List (BitVec 577) × State :=
  if !r.write then ([], s)
  else
    match r.client with
    | .transfer n => sealGrans ((List.range r.len).map fun i => s.layout.slot[n].wgran.get 0 (r.gkey + i)) s
    | _ =>
      ((List.range r.len).map fun i =>
        match s.core.move with
        | some m => (0 : BitVec 1) ++ BitVec.allOnes 64 ++ moveData s m i
        | none => 0, s)

/-- The client notes that its request is presented. -/
def noteRequest (r : MemReq) (s : State) : State :=
  match r.client with
  | .transfer n =>
    if r.write then s.onLSlot n fun p => { p with wgran := p.wgran.eraseRange r.gkey r.len }
    else s.onLSlot n fun p => { p with reqd := p.reqd ++ (List.range r.len).map (r.gkey + ·) }
  | _ => onMove (fun m => { m with started := true }) s

/-- The port presents a request and holds it (R235, R236). -/
def holdReq (port : Fin 8) (r : MemReq) (s : State) : State :=
  s.onMem fun m =>
    { m with
      req := vset m.req port (some r)
      out := m.out.modify {} port.val fun o =>
        { o with reqWrite := r.write, reqAddr := field r.paddr 6 46, reqLen := BitVec.ofNat 7 r.len, reqTag := r.tag } }

/-- A client's request is presented with a tag (R236, R237). -/
def presentReq (port : Fin 8) (tag : BitVec 13) (r : MemReq) (s : State) : State :=
  let g := writeGrans r s
  noteRequest r (holdReq port { r with tag := tag, wg := g.1 } g.2)

/-- An idle port presents the next request for it (R236). -/
def presentNext (tag : State → BitVec 13) (port : Fin 8) (s : State) : State :=
  match s.mem.req[port], portReq s port with
  | none, some r => onlyIf (memOn s && tagFree s r.client (tag s)) (fun s => presentReq port (tag s) r s) s
  | _, _ => s

/-- Mm_REQ_VALID (R235, R242). -/
def reqValid (s : State) (port : Fin 8) : Bool := memOn s && s.mem.req[port].isSome

/-- The data that an accepted write request has to send, all of it (R239). -/
def MemReq.writeData (r : MemReq) (port : Fin 8) : WriteData :=
  { tag := r.tag, port := port, client := r.client, len := r.len, wg := r.wg }

/-- A transaction becomes outstanding: its request is accepted, and a write's data is due (R237, R239). -/
def openTxn (port : Fin 8) (r : MemReq) (s : State) : State :=
  countMem (if r.write then 1 else 0) 1 (s.onMem fun m =>
    { m with
      req := vset m.req port none
      txns := m.txns ++ [{ tag := r.tag, port := port, client := r.client, write := r.write, paddr := r.paddr,
                           gkey := r.gkey, len := r.len }]
      wdata := if r.write then m.wdata ++ [r.writeData port] else m.wdata })

/-- A request presented and accepted in one BCLK (R236). -/
def openAtOnce (port : Fin 8) (r : MemReq) (s : State) : State := openTxn port r (holdReq port r s)

/-- The port's presented request is accepted, if it carries the tag (R236). -/
def acceptReq (port : Fin 8) (tag : BitVec 13) (s : State) : State :=
  match s.mem.req[port] with
  | some r => if r.tag == tag then advanceTransfers (openTxn port r s) else s
  | none => s

/-- MEM_REQUEST_ACCEPT: the request that the port presents, or one presented in this BCLK with the tag (R236). -/
def execMemRequestAccept (port : Fin 8) (tag : BitVec 13) (s : State) : Host.Outcome State Fault Refusal :=
  done (onlyIf (memOn s) (fun s => acceptReq port tag (presentNext (fun _ => tag) port s)) s)

/-! ### Write data (R239) -/

/-- Changes the transaction with a tag. -/
def onTxn (tag : BitVec 13) (f : Txn → Txn) (s : State) : State :=
  s.onMem fun m => { m with txns := m.txns.map fun t => if t.tag == tag then f t else t }

/-- Granule i of a write. -/
def WriteData.gran (t : WriteData) (i : Nat) : BitVec 577 := t.wg.getD i 0

/-- Beat b of a write: data, byte enables, poison (R239). -/
def WriteData.beat (t : WriteData) (b : Nat) : BitVec 2048 × BitVec 256 × Bool :=
  let g (i : Nat) := t.gran (4 * b + i)
  ((g 3).extractLsb' 0 512 ++ (g 2).extractLsb' 0 512 ++ (g 1).extractLsb' 0 512 ++ (g 0).extractLsb' 0 512,
    (g 3).extractLsb' 512 64 ++ (g 2).extractLsb' 512 64 ++ (g 1).extractLsb' 512 64 ++ (g 0).extractLsb' 512 64,
    (List.range 4).any fun i => bitAt (g i) 576)

/-- The number of beats of a read (R238). -/
def Txn.total (t : Txn) : Nat := (t.len + 3) / 4

/-- The number of beats of a write (R239). -/
def WriteData.total (t : WriteData) : Nat := (t.len + 3) / 4

/-- The write whose data the port presents: the oldest accepted one that has beats to send, its response met or not
(R239). -/
def writeNow (s : State) (port : Fin 8) : Option WriteData := s.mem.wdata.find? fun t => t.port = port

/-- A beat of the oldest write of a port is sent: after its last one the next write's turn comes (R239). -/
def beatSent (port : Fin 8) : List WriteData → List WriteData
  | [] => []
  | t :: l =>
    if t.port = port then (if t.beats + 1 < t.total then { t with beats := t.beats + 1 } :: l else l)
    else t :: beatSent port l

/-- Mm_WD_VALID (R235, R242). -/
def wdValid (s : State) (port : Fin 8) : Bool := memOn s && (writeNow s port).isSome

/-- What the port drives on Mm_WD_DATA, BE, POISON and LAST: the beat it presents, else the last one sent (R235, R239). -/
def wdOut (s : State) (port : Fin 8) : MemOut :=
  let o := s.mem.out.get {} port.val
  match writeNow s port with
  | some t =>
    let w := t.beat t.beats
    { o with wdData := w.1, wdBe := w.2.1, wdPoison := w.2.2, wdLast := t.beats + 1 = t.total }
  | none => o

/-- The next data beat of a write is accepted (R239). -/
def sendBeat (t : WriteData) (s : State) : State :=
  let w := t.beat t.beats
  let bytes := ((List.range 256).filter fun i => bitAt w.2.1 i).length
  let s := govEvent 11 1 (countMem 3 bytes s)
  s.onMem fun m =>
    { m with wdata := beatSent t.port m.wdata, out := m.out.modify {} t.port.val fun o =>
        { o with wdData := w.1, wdBe := w.2.1, wdPoison := w.2.2, wdLast := t.beats + 1 = t.total } }

/-- MEM_WRITE_BEAT: the oldest write of the port that has data to send (R239); a move's bytes are read from the TCM
(R323). -/
def execMemWriteBeat (port : WriteBeat) (s : State) : Host.Outcome State Fault Refusal :=
  done (match writeNow s port.port with
    | some t => onlyIf (memOn s) (fun s => sendBeat t (if t.client == .move then tcmUpset port.tcm s else s)) s
    | none => s)

/-! ### Data and responses on their way to the clients -/

/-- Granule i of a read reaches its client; poisoned or failed in bit 512 (R232, R238, R320, R324). -/
def deliverGran (t : Txn) (i : Nat) (g : BitVec 513) (s : State) : State :=
  match t.client with
  | .transfer n =>
    let p := s.layout.slot[n]
    if p.ending || p.st != .move then s
    else s.onLSlot n fun p => { p with rgran := p.rgran.put (t.gkey + i) ((1 : BitVec 1) ++ g) }
  | .move => moveGranule i g s
  | .load => finishLoad g s
  | _ => s

/-- A write is answered, or given up, as failed or not (R239, R241, R320). -/
def answerWrite (t : Txn) (bad : Bool) (s : State) : State :=
  match t.client with
  | .store => finishStore t.tag bad s
  | _ => s

/-- A transaction is over: its tag is free (R237). Beats of a write's data still to be sent follow (R239). -/
def closeTxn (tag : BitVec 13) (s : State) : State := s.onMem fun m => { m with txns := m.txns.filter (·.tag != tag) }

/-- The granules from number k on are given as failed, their data free (R238, R241; assumption 7). -/
def failGrans (t : Txn) (k : Nat) (s : State) : State :=
  foldOver ((List.range t.len).filter (k ≤ ·)) (fun i s =>
    let f := takeFree 512 s
    deliverGran t i ((1 : BitVec 1) ++ f.1) f.2) s

/-- The granules already given are marked as failed too: the transaction completes as ERROR (R241). -/
def poisonGiven (t : Txn) (k : Nat) (s : State) : State :=
  match t.client with
  | .transfer n =>
    s.onLSlot n fun p =>
      { p with rgran := p.rgran.map fun g =>
          if t.gkey ≤ g.1 && g.1 < t.gkey + k then (g.1, g.2 ||| (1 : BitVec 514).shiftLeft 512) else g }
  | .move => if k = 0 then s else onMove (fun m => { m with poison := true }) s
  | _ => s

/-- The transaction completes as ERROR (R241). -/
def failTxn (t : Txn) (s : State) : State :=
  if t.write then answerWrite t true s else failGrans t (4 * t.beats) (poisonGiven t (4 * t.beats) s)

/-- A report of a memory port with a tag (R370). -/
def memReport (code : BitVec 8) (port : Fin 8) (tag : BitVec 13) : Report :=
  { code := code, unit := BitVec.ofNat 12 port.val, loc := tag.setWidth 64 }

/-- A response with an unknown tag, or to a quarantined one, is dropped (R241). -/
def dropResponse (code : BitVec 8) (port : Fin 8) (tag : BitVec 13) (s : State) : State :=
  countMem 8 1 (report (memReport code port tag) s)

/-- A malformed response completes its transaction as ERROR (R241). -/
def malformed (port : Fin 8) (t : Txn) (s : State) : State :=
  failTxn t (closeTxn t.tag (report (memReport 0x55 port t.tag) s))

/-- What a response meets: an outstanding transaction, a quarantined tag, or an unknown one (R241). One that arrives on
another port than the one that accepted the request is taken by its tag, as a good one; R238 forbids it to the network and
says nothing of the block (DESIGN CHOICE, assumption 160). -/
def respond (port : Fin 8) (tag : BitVec 13) (act : Txn → State → State) (s : State) : State :=
  match s.mem.txns.find? (·.tag == tag) with
  | none => dropResponse 0x55 port tag s
  | some t => if t.quar then closeTxn tag (dropResponse 0x57 port tag s) else act t s

/-- Logs and counts the status of a read beat (R238, R241). -/
def noteStatus (port : Fin 8) (tag : BitVec 13) (status : BitVec 2) (s : State) : State :=
  match status.toNat with
  | 0 => s
  | 1 => countMem 4 1 s
  | _ => countMem 5 1 (report (memReport 0x51 port tag) s)

/-- A well-formed read beat: its granules go to the client, poisoned by any status but OK (R238). -/
def takeBeat (port : Fin 8) (data : BitVec 2048) (status : BitVec 2) (t : Txn) (s : State) : State :=
  let first := 4 * t.beats
  let k := min 4 (t.len - first)
  let s := govEvent 11 1 (countMem 2 (64 * k) (noteStatus port t.tag status s))
  let s := if t.beats + 1 = t.total then closeTxn t.tag s else onTxn t.tag (fun t => { t with beats := t.beats + 1 }) s
  foldUpTo k (fun i s =>
    deliverGran t (first + i) (flagBits 1 (status != 0) ++ data.extractLsb' (512 * i) 512) s) s

/-- A read beat for an outstanding transaction (R238, R241). -/
def readBeat (port : Fin 8) (data : BitVec 2048) (status : BitVec 2) (last : Bool) (t : Txn) (s : State) : State :=
  if t.write || last != decide (t.beats + 1 = t.total) then malformed port t s else takeBeat port data status t s

/-- MEM_READ_BEAT (R238, R241, R242). -/
def execMemReadBeat (port : Fin 8) (tag : BitVec 13) (data : BitVec 2048) (status : BitVec 2) (last : Bool) (s : State) :
    Host.Outcome State Fault Refusal :=
  done (onlyIf (memOn s) (fun s => advanceTransfers (respond port tag (readBeat port data status last) s)) s)

/-- A write response for an outstanding transaction (R239, R241). -/
def writeAnswer (port : Fin 8) (status : BitVec 2) (t : Txn) (s : State) : State :=
  if !t.write then malformed port t s
  else
    let s := closeTxn t.tag s
    let s := if status = 0 then s else countMem 6 1 (report (memReport 0x54 port t.tag) s)
    answerWrite t (status != 0) s

/-- MEM_WRITE_RESPONSE (R239, R241, R242). -/
def execMemWriteResponse (port : Fin 8) (tag : BitVec 13) (status : BitVec 2) (s : State) :
    Host.Outcome State Fault Refusal :=
  done (onlyIf (memOn s) (fun s => advanceTransfers (respond port tag (writeAnswer port status) s)) s)

/-- A transaction times out: it completes as ERROR and its tag is quarantined (R241). -/
def timeoutTxn (t : Txn) (s : State) : State :=
  let s := countMem 7 1 (report (memReport 0x53 t.port t.tag) (onTxn t.tag (fun t => { t with quar := true }) s))
  if t.write then answerWrite t true s else failGrans t (4 * t.beats) s

/-- MEM_TIMEOUT (R241). -/
def execMemTimeout (tag : BitVec 13) (s : State) : Host.Outcome State Fault Refusal :=
  done (match s.mem.txns.find? fun t => t.tag == tag && !t.quar with
    | some t => onlyIf (memOn s && s.mem.timeout != 0) (fun s => advanceTransfers (timeoutTxn t s)) s
    | none => s)

end Sys2Proof.Machine
end

