-- ==== Sys2Proof/Machine/Arb.lean ====
section
/-!
DEFINITION. Arb.lean: the side-port arbiters: requests, grants, beats, commits, preemption and back-off (R243 to R249),
and the registers of the memory and arbitration sub-window.
-/
namespace Sys2Proof.Machine

/-! ### Requests (R230, R243) -/

/-- The jobs of a list that lie in a bay and are not under way. -/
def jobsIn (s : State) (b : Fin 32) (c : Client) (l : List Job) : List Job :=
  let fly := flyingKeys s c
  l.filter fun j => bayIx j.beam = b && !fly.contains j.key

/-- What the transfer in a slot asks of a bay on a requester (R208, R230). -/
def askTransfer (s : State) (b : Fin 32) (r : Fin 8) (n : Fin 8) : Ask :=
  let p := s.layout.slot[n]
  let open_ := p.moving s && p.sideStage && !p.pastEnd s && Desc.requester p.desc = r
  { client := .transfer n, write := p.writing,
    jobs := if open_ then
        jobsIn s b (.transfer n) ((p.openKeys s).map (p.jobOf s))
      else [] }

/-- What the running collective asks of a bay: beams to write into MORT2 (R279). -/
def askCol (s : State) (b : Fin 32) : Ask :=
  { client := .collective, write := true,
    jobs := jobsIn s b .collective ((s.col.run.toList.flatMap (·.writes)).map Staged.job) }

/-- What the bulk move asks of a bay (R324). -/
def askMove (s : State) (b : Fin 32) : Ask :=
  match s.core.move with
  | some m =>
    if m.kind.toNat < 2 then
      { client := .move, write := m.kind == 0,
        jobs := jobsIn s b .move (m.left.map fun i =>
          { beam := (mortAt s m.mort).beamAt (m.ofs.toNat + i), key := i, mort := m.mort }) }
    else { client := .move, write := false, jobs := [] }
  | none => { client := .move, write := false, jobs := [] }

/-- The clients that have work for a bay on a requester (R243). -/
def clientsOf (s : State) (b : Fin 32) (r : Fin 8) : List Ask :=
  match r.val with
  | 0 => [askCol s b]
  | 3 => [askOut s b]
  | 5 => [askMove s b]
  | 6 => askClears s b ++ [askScrub s b]
  | 7 => [askDebug s b]
  | _ => (List.finRange 8).map (askTransfer s b r)

/-- A client needs a staging buffer: it writes, or it is the scrub, which may have a beam to write back (R244). -/
def Ask.stages (a : Ask) : Bool := a.write || a.client == .scrub

/-- The clients that ask for a bay's path on a requester; one that stages asks only while a staging buffer is not
committing (R244). -/
def asksOf (s : State) (b : Fin 32) (r : Fin 8) : List Ask :=
  (clientsOf s b r).filter fun a => !a.jobs.isEmpty && (!a.stages || s.arb.bay[b].bufs.length < 2)

/-- Requester r requests in a bay: admitted, not in back-off, with work (R243, R248). -/
def requesting (s : State) (b : Fin 32) (r : Fin 8) : Bool :=
  reqAdmitted s r && !inBackoff s b r && !(asksOf s b r).isEmpty

/-- The order of priority: the highest input number, then the lowest requester (R245). -/
def priorityKey (s : State) (b : Fin 32) (r : Fin 8) : Nat := 8 * (7 - inputNum s b r) + r.val

/-- The requesters that compete in a decision (R246). -/
def contenders (s : State) (b : Fin 32) : List (Fin 8) := (List.finRange 8).filter (requesting s b)

/-- Grants the path to one client of a requester, for as many beams as the burst limit allows (R230, R244). -/
def grantPath (b : Fin 32) (r : Fin 8) (pick : Nat) (s : State) : State :=
  let l := asksOf s b r
  match l[pick % l.length]? with
  | some a =>
    s.onBay b fun y =>
      { y with owner := some { req := r, client := a.client, write := a.write, jobs := a.jobs.take (burstOf s b) } }
  | none => s

/-- The idle path is decided: the winner is granted, the others that request lose (R246, R248). -/
def decidePath (b : Fin 32) (pick : Nat) (s : State) : State :=
  let l := contenders s b
  match leastBy l (priorityKey s b) with
  | some w => grantPath b w pick (foldOver (l.filter (· != w)) (fun r s => loseReq b r s) s)
  | none => s

/-- ARBITRATION_DECISION (R246). -/
def execArbitrationDecision (bay : Fin 32) (pick : Nat) (s : State) : Host.Outcome State Fault Refusal :=
  done (onlyIf (unitsOn s && s.arb.bay[bay].owner.isNone) (decidePath bay pick) s)

/-! ### Beats (R244) -/

/-- A beam that goes into a mortise, its Zero and pad bytes clear (R34). -/
def cleared (s : State) (i : BitVec 10) (v : MarkedBeam) : MarkedBeam :=
  marked (zeroTail (mortAt s i).fmt (v.extractLsb' 0 4352)) (bitAt v 4352)

/-- The beam a client writes for a job, with its poison, before R34; a range clear writes zero beams (R97). -/
def rawData (s : State) (c : Client) (j : Job) : MarkedBeam :=
  match c with
  | .transfer n => s.layout.slot[n].held.get 0 j.key
  | .collective =>
    match (s.col.run.toList.flatMap (·.writes)).find? fun t => t.job.key = j.key with
    | some t => marked t.data t.poison
    | none => 0
  | .move => match s.core.move with
    | some m => marked (moveBeam s m j.key) false
    | none => 0
  | _ => 0

/-- The beam a client writes for a job, with its poison. -/
def jobData (s : State) (c : Client) (j : Job) : MarkedBeam := cleared s j.mort (rawData s c j)

/-- A beam of a read transfer reaches its client, the transfer being complete (R244). -/
def deliverRead (t : Staged) (s : State) : State :=
  match t.client with
  | .transfer n => deliverBeam n t.job.key (marked t.data t.poison) s
  | .colOut => ownRead t.job.key (marked t.data t.poison) s
  | .move => moveBeamIn t.job.key (marked t.data t.poison) s
  | _ => s

/-- One beat of the owner: a beam read at its bank, or a beam staged (R244). -/
def beatOf (g : Grant) (j : Job) (upset : LineErr) (s : State) : Staged × State :=
  if g.write then
    let v := jobData s g.client j
    ({ job := j, data := v.extractLsb' 0 4352, poison := bitAt v 4352, client := g.client }, s)
  else
    let r := bankRead 0x03 j.mort none j.beam upset s
    ({ job := j, data := r.1.beam, poison := r.1.poison, client := g.client }, r.2)

/-- The owner's last beat completes its transfer: a read's beams are delivered, a write's commit begins (R244). -/
def endGrant (b : Fin 32) (g : Grant) (all : List Staged) (s : State) : State :=
  let s := transferDone b g.req (s.onBay b fun y =>
    { y with owner := none, bufs := if g.write then y.bufs ++ [all] else y.bufs })
  if g.write then s else foldOver all deliverRead s

/-- A beat of a transfer of several beams (R244). -/
def burstBeat (b : Fin 32) (g : Grant) (j : Job) (js : List Job) (upset : LineErr) (s : State) : State :=
  let r := beatOf g j upset s
  let all := g.staged ++ [r.1]
  match js with
  | [] => endGrant b g all r.2
  | _ => r.2.onBay b fun y => { y with owner := some { g with jobs := js, staged := all } }

/-- The one read beat of a scrub or a debug read ends its grant. -/
def singleBeat (b : Fin 32) (g : Grant) (s : State) : State :=
  transferDone b g.req (s.onBay b fun y => { y with owner := none })

/-- A beat of the bay's owner (R94, R244, R384). -/
def ownerBeat (b : Fin 32) (g : Grant) (upset : LineErr) (s : State) : State :=
  match g.jobs with
  | [] => s
  | j :: js =>
    match g.client with
    | .scrub => scrubBeat b j upset (singleBeat b g (countBeats 1 s))
    | .debug => debugBeat upset (singleBeat b g (countBeats 1 s))
    | _ => burstBeat b g j js upset (countBeats 1 s)

/-- The owner's beat can complete: the requester is admitted, and a read's bank serves it (R68, R243, R244). -/
def beatFree (s : State) (g : Grant) : Bool :=
  unitsOn s && reqAdmitted s g.req && (g.write || !g.jobs.head?.any fun j => !sideReadFree s j.beam)

/-- The owner presents its next beat, the last one where it has no other (R246). -/
def Grant.presented (g : Grant) : Grant := { g with lastUp := g.lastUp || g.jobs.length ≤ 1 }

/-- The owner of a bay presents its next beat, which does not complete in this BCLK (R246). -/
def presentBeat (b : Fin 32) (s : State) : State := s.onBay b fun y => { y with owner := y.owner.map Grant.presented }

/-- A beat of the owner of a bay, when there is one: it completes, or it is presented and waits for its bank (R68,
R246). -/
def sideBeat (b : Fin 32) (upset : LineErr) (s : State) : State :=
  match s.arb.bay[b].owner with
  | some g =>
    if beatFree s g then advanceTransfers (ownerBeat b g upset s)
    else onlyIf (unitsOn s && reqAdmitted s g.req) (presentBeat b) s
  | none => s

/-- The path of a bay, if it is idle, is decided, and the beat of a client that owns it follows (R246). -/
def serveNow (b : Fin 32) (c : Client) (upset : LineErr) (s : State) : State :=
  let s := if s.arb.bay[b].owner.isNone then decidePath b 0 s else s
  if s.arb.bay[b].owner.any fun g => g.client == c then sideBeat b upset s else s

/-! ### Commits (R70, R244) -/

/-- A beam of a client is committed at its bank. -/
def noteCommit (t : Staged) (s : State) : State :=
  match t.client with
  | .transfer n => commitBeam n t.job.key s
  | .collective => s.onCol fun c => { c with run := c.run.map fun r =>
      { r with writes := r.writes.filter fun w => w.job.key != t.job.key
               wrote := if r.writes.any (·.job.key == t.job.key) then
                   insertNew r.wrote (t.job.key % 2 ^ 20 % (r.n * r.chunk) / r.chunk)
                 else r.wrote } }
  | .move => onMove (fun m => { m with left := m.left.filter (· != t.job.key) }) s
  | .clear i => clearCommitted i t.job.beam t.job.key s
  | _ => s

/-- The buffers after the first beam of the oldest is committed. -/
def popStaged : List (List Staged) → List (List Staged)
  | [] => []
  | [] :: bs => bs
  | [_] :: bs => bs
  | (_ :: ts) :: bs => ts :: bs

/-- The first beam of the oldest committing buffer is written to its bank (R70). -/
def commitOne (b : Fin 32) (t : Staged) (s : State) : State :=
  let s := govEvent 10 1 (s.onBay b fun y => { y with bufs := popStaged y.bufs })
  if t.client == .scrub then writeLine t.job.beam t.data s
  else noteCommit t (mortWrite t.job.mort t.job.beam t.data t.poison none s)

/-! ### Preemption and back-off (R247, R248) -/

/-- The owner's last beat is presented and has yet to complete: the only beat of a one-beam grant, or the last of
several once a BCLK has begun after the beat before it, or it has met its bank taken. These BCLK decide (R246); until
then a request is one of an earlier beat's BCLK (DESIGN CHOICE, assumption 126). -/
def deciding (g : Grant) : Bool := g.jobs.length ≤ 1 && (g.staged.isEmpty || g.lastUp)

/-- A requester may preempt the owner: a strictly higher input number, none above it, and not in a deciding BCLK of
the owner's last beat (R246, R247). -/
def mayPreempt (s : State) (b : Fin 32) (g : Grant) (r : Fin 8) : Bool :=
  requesting s b r && inputNum s b g.req < inputNum s b r &&
    (List.finRange 8).all (fun q => !requesting s b q || priorityKey s b r ≤ priorityKey s b q) &&
    !deciding g

/-- The owner is preempted: it loses, what it staged is emptied, the preemptor takes the path (R230, R247, R248). -/
def preempt (b : Fin 32) (g : Grant) (r : Fin 8) (s : State) : State :=
  let s := loseReq b g.req (s.onBay b fun y => { y with owner := none })
  let s := s.onArb fun a => { a with count := bump a.count 1 1 }
  let s := match g.client with
    | .transfer _ => countLay 7 1 s
    | _ => s
  grantPath b r 0 s

/-- PREEMPTION (R247). -/
def execPreemption (bay : Fin 32) (by_ : Fin 8) (s : State) : Host.Outcome State Fault Refusal :=
  done (match s.arb.bay[bay].owner with
    | some g => onlyIf (unitsOn s && mayPreempt s bay g by_) (preempt bay g by_) s
    | none => s)

/-- BACKOFF_EXPIRY (R248). -/
def execBackoffExpiry (bay : Fin 32) (req : Fin 8) (s : State) : Host.Outcome State Fault Refusal :=
  done (onlyIf (unitsOn s) (fun s => s.onBay bay fun y => { y with backoff := putBit8 y.backoff req false }) s)

/-! ### Registers of the memory and arbitration sub-window -/

/-- The PERM of an ARB_CFG value is a permutation and its BURST lies in 1 to 64 (R245). -/
def arbCfgOk (v : W64) : Bool :=
  (List.range 8).all (fun i => (List.range 8).any fun r => (field v (3 * r) 3).toNat = i) &&
    1 ≤ (field v 32 7).toNat && (field v 32 7).toNat ≤ 64

/-- The registers at an offset of the memory sub-window. -/
def memInfo (off : Nat) : Option RegInfo :=
  if off % 8 != 0 then none
  else if off = 0 then some { owner := .both, other := 0x0000FFFFFFFFFFFF }
  else if off = 8 then some { owner := .host, rw := 0xFFFFFFFF }
  else if 0x40 ≤ off && off < 0x80 then some { owner := .both, other := 0x00003FFF00003FFF }
  else if 0x100 ≤ off && off < 0x150 then some { owner := .host, rw := 0xFFFFFFFFFFFFFFFF }
  else if 0x200 ≤ off && off < 0x220 then some { owner := .host, rw := 0xFFFFFFFFFFFFFFFF }
  else if 0x1000 ≤ off && off < 0x1100 then some { owner := .host, rw := 0x0000007F00FFFFFF, sh := true }
  else if 0x9000 ≤ off && off < 0x9100 then some { owner := .both, other := 0x0000007F00FFFFFF }
  else if 0x2000 ≤ off && off < 0x2100 then some { owner := .both, other := 0x00000000FFFF030F }
  else if 0x3000 ≤ off && off < 0x3800 then some { owner := .both, rw := 0x000007FF00000000, other := 0x7FF }
  else none

/-- MEM_STATUS. -/
def memStatus (s : State) (port : Nat) : W64 :=
  let l := s.mem.txns.filter fun t => t.port.val = port
  (0 : BitVec 18) ++ BitVec.ofNat 14 (countTrue l (·.quar)) ++ (0 : BitVec 18) ++ BitVec.ofNat 14 (countTrue l (!·.quar))

/-- ARB_STATUS. -/
def arbStatus (s : State) (b : Fin 32) : W64 :=
  let y := s.arb.bay[b]
  let req := (List.finRange 8).foldl (fun m r => if requesting s b r then putBit8 m r true else m) 0
  (0 : BitVec 32) ++ y.backoff ++ req ++ (0 : BitVec 6) ++ BitVec.ofNat 2 y.bufs.length ++ (0 : BitVec 4) ++
    flagBits 1 y.owner.isSome ++ BitVec.ofNat 3 ((y.owner.map fun g => g.req.val).getD 0)

/-- The bay and requester of an ARB_LOSS register. -/
def lossIx (off : Nat) : Fin 32 × Nat := (Fin.ofNat 32 ((off - 0x3000) / 64), off / 8 % 8)

/-- ARB_LOSS. -/
def arbLoss (s : State) (off : Nat) : W64 :=
  let i := lossIx off
  (0 : BitVec 21) ++ s.arb.bay[i.1].maxLoss.get 0 i.2 ++ (0 : BitVec 21) ++ s.arb.bay[i.1].losses.get 0 i.2

/-- Reads a register of the memory sub-window. -/
def memRead (off : Nat) (s : State) : W64 :=
  if off = 0 then 0x0000200012001008
  else if off = 8 then s.mem.timeout.setWidth 64
  else if 0x40 ≤ off && off < 0x80 then memStatus s ((off - 0x40) / 8)
  else if 0x100 ≤ off && off < 0x150 then s.mem.count.get 0 ((off - 0x100) / 8)
  else if 0x200 ≤ off && off < 0x220 then s.arb.count.get 0 ((off - 0x200) / 8)
  else if 0x1000 ≤ off && off < 0x1100 then s.cfg.shadow.arb.get 0 ((off - 0x1000) / 8)
  else if 0x9000 ≤ off && off < 0x9100 then s.cfg.active.arb.get 0 ((off - 0x9000) / 8)
  else if 0x2000 ≤ off && off < 0x2100 then arbStatus s (Fin.ofNat 32 (off / 8))
  else if 0x3000 ≤ off && off < 0x3800 then arbLoss s off
  else 0

/-- Writes ARB_CFG[b]: an invalid value is dropped with code 0x52 (R245). -/
def writeArbCfg (b : Nat) (v : W64) (s : State) : State :=
  if arbCfgOk v then
    s.onCfg fun c => { c with shadow := { c.shadow with arb := c.shadow.arb.set 0 b (v &&& 0x0000007F00FFFFFF) } }
  else report { code := 0x52, unit := BitVec.ofNat 12 b } s

/-- Writes a register of the memory sub-window. -/
def memWrite (off : Nat) (v : W64) (s : State) : State :=
  if off = 8 then s.onMem fun m => { m with timeout := field v 0 32 }
  else if 0x100 ≤ off && off < 0x150 then s.onMem fun m => { m with count := m.count.set 0 ((off - 0x100) / 8) v }
  else if 0x200 ≤ off && off < 0x220 then s.onArb fun a => { a with count := a.count.set 0 ((off - 0x200) / 8) v }
  else if 0x1000 ≤ off && off < 0x1100 then writeArbCfg ((off - 0x1000) / 8) v s
  else if 0x3000 ≤ off && off < 0x3800 then
    s.onBay (lossIx off).1 fun y => { y with maxLoss := y.maxLoss.set 0 (lossIx off).2 (field v 32 11) }
  else s

end Sys2Proof.Machine
end

