-- ==== Sys2Proof/Machine/BootImage.lean ====
section
/-!
DEFINITION. BootImage.lean: the configuration image: its header (R354), section table (R355), CRC-32C, and the choice
between two slots (R359).
-/
namespace Sys2Proof.Machine

/-! ### CRC-32C (R354) -/

/-- One bit of the reflected Castagnoli CRC. -/
def crc32Bit (c : BitVec 32) : BitVec 32 := if bitAt c 0 then (c >>> 1) ^^^ (0x82F63B78 : BitVec 32) else c >>> 1

/-- One byte of the running CRC. -/
def crc32Byte (c : BitVec 32) (b : Byte) : BitVec 32 :=
  crc32Bit (crc32Bit (crc32Bit (crc32Bit (crc32Bit (crc32Bit (crc32Bit (crc32Bit (c ^^^ b.setWidth 32))))))))

/-- The CRC of a byte string, with the final XOR (R354). -/
def crc32c (l : List Byte) : BitVec 32 := ~~~l.foldl crc32Byte 0xFFFFFFFF

/-! ### The header (R354) -/

/-- A header: 64 bytes. -/
abbrev ImgHdr := BitVec 512

/-- NSECT. -/
def ImgHdr.nsect (h : ImgHdr) : Nat := byteField h 0x06 2
/-- SEQ. -/
def ImgHdr.seq (h : ImgHdr) : BitVec 32 := field h 64 32
/-- LENGTH. -/
def ImgHdr.length (h : ImgHdr) : Nat := byteField h 0x0C 4
/-- RESET_PC. -/
def ImgHdr.resetPc (h : ImgHdr) : Nat := byteField h 0x14 4
/-- IMAGE_ID. -/
def ImgHdr.imageId (h : ImgHdr) : W64 := field h 192 64
/-- FLAGS.DEBUG_UNLOCK. -/
def ImgHdr.unlock (h : ImgHdr) : Bool := bitAt h 40
/-- ICRC. -/
def ImgHdr.icrc (h : ImgHdr) : BitVec 32 := field h 256 32
/-- HCRC. -/
def ImgHdr.hcrc (h : ImgHdr) : BitVec 32 := field h 480 32
/-- Where the section payloads can begin. -/
def ImgHdr.tableEnd (h : ImgHdr) : Nat := 0x40 + 16 * h.nsect

/-- MAGIC is right. -/
def ImgHdr.magicOk (h : ImgHdr) : Bool := byteField h 0 4 = 0x05D00A7E
/-- FORMAT is 2 (R6, R354). -/
def ImgHdr.formatOk (h : ImgHdr) : Bool := byteField h 4 1 = 2
/-- LENGTH is a multiple of 64 in its range; `limit` is the source's upper limit (R354). -/
def ImgHdr.lengthOk (limit : Nat) (h : ImgHdr) : Bool :=
  h.length % 64 = 0 && h.tableEnd ≤ h.length && h.length ≤ min limit 0x100000

/-- The first of the header's checks that fails, as the byte offset of its field (R357, code 0x92). -/
def ImgHdr.fault (limit : Nat) (h : ImgHdr) : Option Nat :=
  if !h.magicOk then some 0x00
  else if !h.formatOk then some 0x04
  else if field h 41 7 != 0 then some 0x05
  else if byteField h 0x12 2 != 0 then some 0x12
  else if byteField h 0x24 24 != 0 then some 0x24
  else if h.nsect = 0 || 64 < h.nsect then some 0x06
  else if !h.lengthOk limit then some 0x0C
  else if 0x0200 < byteField h 0x10 2 then some 0x10
  else none

/-- The first of MAGIC, FORMAT and LENGTH that fails: such a slot is not read further (R359). -/
def ImgHdr.quickFault (limit : Nat) (h : ImgHdr) : Option Nat :=
  if !h.magicOk then some 0x00
  else if !h.formatOk then some 0x04
  else if !h.lengthOk limit then some 0x0C
  else none

/-- SEQ a is newer than SEQ b (R359). -/
def seqNewer (a b : BitVec 32) : Bool := let d := (a - b).toNat; 1 ≤ d && d ≤ 2 ^ 31 - 1

/-! ### The section table (R355) -/

/-- An entry of the section table: 16 bytes. -/
abbrev ImgSect := BitVec 128

/-- TYPE. -/
def ImgSect.kind (x : ImgSect) : Nat := byteField x 0 2
/-- OFFSET. -/
def ImgSect.offset (x : ImgSect) : Nat := byteField x 4 4
/-- LENGTH. -/
def ImgSect.length (x : ImgSect) : Nat := byteField x 8 4
/-- DEST. -/
def ImgSect.dest (x : ImgSect) : Nat := byteField x 12 4
/-- The section is loaded: FIRMWARE or REGS, not NOTE. -/
def ImgSect.loads (x : ImgSect) : Bool := x.kind != 3

/-- Two ranges do not overlap. -/
def apart (a la b lb : Nat) : Bool := a + la ≤ b || b + lb ≤ a

/-- An entry passes the checks of its own (R355). -/
def ImgSect.ok (h : ImgHdr) (x : ImgSect) : Bool :=
  byteField x 2 2 = 0 && x.offset % 8 = 0 && x.length != 0 && h.tableEnd ≤ x.offset && x.offset + x.length ≤ h.length &&
    (match x.kind with
      | 1 => x.dest % 8 = 0 && x.length % 8 = 0 && x.dest + x.length ≤ 262144
      | 2 => x.dest = 0 && x.length % 16 = 0
      | 3 => x.dest = 0 && x.length % 8 = 0
      | _ => false)

/-- Two entries do not overlap, in the slot or in the TCM (R355). -/
def ImgSect.apartFrom (x y : ImgSect) : Bool :=
  apart x.offset x.length y.offset y.length &&
    (!(x.kind = 1 && y.kind = 1) || apart x.dest x.length y.dest y.length)

/-- The first entry that fails, given those before it; `i` is its number. -/
def tableFaultFrom (h : ImgHdr) : Nat → List ImgSect → List ImgSect → Option Nat
  | _, _, [] => none
  | i, before, x :: xs =>
    if x.ok h && before.all fun y => x.apartFrom y then tableFaultFrom h (i + 1) (before ++ [x]) xs else some (0x40 + 16 * i)

/-- RESET_PC is a multiple of 4 inside the destination of a FIRMWARE section (R354). -/
def resetPcOk (h : ImgHdr) (t : List ImgSect) : Bool :=
  h.resetPc % 4 = 0 && t.any fun x => x.kind = 1 && x.dest ≤ h.resetPc && h.resetPc < x.dest + x.length

/-- The first check of the table that fails, as a byte offset of the image (R357, code 0x94). -/
def tableFault (h : ImgHdr) (t : List ImgSect) : Option Nat :=
  match tableFaultFrom h 0 [] t with
  | some a => some a
  | none => if resetPcOk h t then none else some 0x14

/-- The bytes of a section table as its entries. -/
def entriesOf (bytes : List Byte) : Nat → List ImgSect
  | 0 => []
  | n + 1 => BitVec.ofNat 128 (leNat (bytes.take 16)) :: entriesOf (bytes.drop 16) n

/-- HCRC over header bytes 0x00 to 0x3B and the section table (R354). -/
def hcrcOk (h : ImgHdr) (table : List Byte) : Bool := crc32c (leBytes 0x3C h.toNat ++ table) == h.hcrc

/-! ### Discovery (R353) -/

/-- The density in bytes of DWORD 2 of the basic flash parameter table: bits less one, or a power of two of them
(PRESUMED of JESD216, assumption 35). -/
def densityOf (w : BitVec 32) : Nat :=
  if bitAt w 31 then 2 ^ (min (field w 0 31).toNat 67) / 8 else ((field w 0 31).toNat + 1) / 8

/-- The size of one slot: half of min(density, 16 MiB) (R353, R354). -/
def slotSize (density : Nat) : Nat := min density 0x1000000 / 2

end Sys2Proof.Machine
end

