-- ==== Sys2Proof/Machine/GovOps.lean ====
section
/-!
DEFINITION. GovOps.lean: what other units ask of the governor: the operating points and the model (R285, R291, R293,
R294), the components of the issue ceiling (R289, R290, R304, R306, R308), throttle reasons (R315), and learned demand
(R296).
-/
namespace Sys2Proof.Machine

/-! ### Operating points and profiles (R291, R300) -/

/-- Word w of entry n of the active operating-point table. -/
def optWord (s : State) (n w : Nat) : W64 := s.cfg.active.govOpt.get 0 (2 * n + w)
/-- PSTATE of entry n. -/
def optPstate (s : State) (n : Nat) : BitVec 4 := field (optWord s n 0) 0 4
/-- FMHZ of entry n. -/
def optMhz (s : State) (n : Nat) : Nat := (field (optWord s n 0) 32 13).toNat
/-- CEIL of entry n. -/
def optCeil (s : State) (n : Nat) : Nat := (field (optWord s n 0) 48 7).toNat
/-- The voltage in mV of rail r (0 ENG, 1 FAB, 2 SRM) at entry n. -/
def optMv (s : State) (r n : Nat) : Nat := ((optWord s n 1).extractLsb' (11 * r) 11).toNat

/-- GOV_CAP in force: a raise brings its value in at the next evaluation (R364). -/
def govCapWord (s : State) : W64 := (s.gov.held.map GovHeld.cap).getD s.cfg.active.govCap
/-- GOV_RAMP in force (R364). -/
def govRampWord (s : State) : W64 := (s.gov.held.map GovHeld.ramp).getD s.cfg.active.govRamp
/-- GOV_FLOOR in force (R364). -/
def govFloorWord (s : State) : W64 := (s.gov.held.map GovHeld.floor).getD s.cfg.active.govFloor

/-- A raise is applied: what these three registers held stays in force until the next evaluation (R364). -/
def holdGov (old : CfgSet) (s : State) : State :=
  s.onGov fun g =>
    { g with held := some (g.held.getD { cap := old.govCap, ramp := old.govRamp, floor := old.govFloor }) }

/-- Word w of the cooling-class profile that the active GOV_CAP selects (R291, R300). -/
def profWord (s : State) (w : Nat) : W64 :=
  s.gov.profile.get 0 (2 * (field s.cfg.active.govCap 28 2).toNat + w)

/-- Word w of the cooling-class profile in force (R300, R364). -/
def profNow (s : State) (w : Nat) : W64 := s.gov.profile.get 0 (2 * (field (govCapWord s) 28 2).toNat + w)

/-- OP_LIMIT of the selected profile. -/
def opLimit (s : State) : Nat := (field (profWord s 1) 8 4).toNat

/-- CEIL_MAX of the selected profile. -/
def ceilMax (s : State) : Nat := (field (profWord s 1) 0 7).toNat

/-- The entry a phase selects, no heavier than OP_LIMIT (R291). -/
def phaseOp (s : State) (r : Rec) : Nat := min r.opPoint.toNat (opLimit s)

/-- GOV_CTL.FIXED (R294). -/
def fixedMode (s : State) : Bool := bitAt s.gov.ctl 1

/-- The largest value among the entries that share entry n's PSTATE (R292). -/
def sharedMax (s : State) (f : Nat → Nat) (n : Nat) : Nat :=
  (((List.range 16).filter fun m => optPstate s m == optPstate s n).map f).foldl max 0

/-- The entries the model uses: FIXED_OP, both sides of a handshake in progress, or the one in force (R293, R294). -/
def modelOps (s : State) : List Nat :=
  if fixedMode s then [(field s.gov.ctl 20 4).toNat]
  else if s.gov.perfBusy then [s.gov.modelOp.toNat, s.gov.oldOp.toNat]
  else [s.gov.modelOp.toNat]

/-- FMHZ of the model. -/
def modelMhz (s : State) : Nat := ((modelOps s).map (sharedMax s (optMhz s))).foldl max 0

/-- The modelled voltage of rail r in mV; VFAB carries the margin trim (R312). -/
def modelMv (s : State) (r : Nat) : Int :=
  (((modelOps s).map (sharedMax s (optMv s r))).foldl max 0 : Nat) + if r = 1 then 5 * s.gov.offset.toInt else 0

/-- The BCLK frequency of the model in Hz: a quarter of ROOTCLK (R285). -/
def modelHz (s : State) : Rat := (modelMhz s : Rat) * 1000000 / 4

/-- V over VNOM of rail r (R285). -/
def voltRatio (s : State) (r : Nat) : Rat :=
  let nom := (s.gov.model.extractLsb' (11 * r) 11).toNat
  if nom = 0 then Config.nominalOpen (modelMv s r) else (modelMv s r : Rat) / nom

/-- Charge of event e, in quarters of a pC (GOV_Q). -/
def eventQ (s : State) (e : Nat) : Nat := (s.gov.q.get 0 e).toNat

/-- Charge of counts of events lo to hi - 1, in quarters of a pC. -/
def chargeOf (s : State) (cnt : Nat → Nat) (lo hi : Nat) : Nat :=
  ((List.range (hi - lo)).map fun i => cnt (lo + i) * eventQ s (lo + i)).foldl (· + ·) 0

/-- Charge of the engines' rail in one sub-period, by ENG_SRC: issues, activity, or the larger; DRAIN always
(R284). -/
def engCharge (s : State) (cnt : Nat → Nat) : Nat :=
  let iss := chargeOf s cnt 0 5
  let act := chargeOf s cnt 5 6
  chargeOf s cnt 6 7 +
    match (field s.gov.ctl 14 2).toNat with
    | 0 => iss
    | 1 => act
    | _ => max iss act

/-- Charge of rail r in one sub-period (R284). -/
def railCharge (s : State) (r : Nat) (cnt : Nat → Nat) : Nat :=
  match r with
  | 0 => engCharge s cnt
  | 1 => chargeOf s cnt 7 14
  | _ => chargeOf s cnt 14 16

/-- The energy of a charge on rail r, in pJ (R296). -/
def railEnergy (s : State) (r charge : Nat) : Rat :=
  (charge : Rat) / 4 * voltRatio s r * (modelMv s r : Rat) / 1000

/-! ### The components of the ceiling (R290) -/

/-- The least of some components in table order, the first among equals; at 64 nothing binds, source 15 (R290). -/
def leastCeil (l : List (Nat × BitVec 4)) : Nat × BitVec 4 := l.foldl (fun b c => if c.1 < b.1 then c else b) (64, 15)

/-- Quotient rounded up. -/
def ceilDiv (a b : Nat) : Nat := (a + b - 1) / b

/-- QUENCH_RAMP; values above 50 act as 50 (R308). -/
def quenchRamp (s : State) : Nat := min 50 (field (govFloorWord s) 16 6).toNat

/-- The QUENCH component (R308, R310). -/
def quenchCeil (s : State) : Nat :=
  match s.aon.qState with
  | .clear => 64
  | .latched => 0
  | .ramp => if quenchRamp s = 0 then 0 else 64 - ceilDiv s.gov.qT (quenchRamp s)

/-- A path monitor reads zero (R312). -/
def monitorZero (s : State) : Bool := s.gov.slack.any fun p => p.2 == 0

/-- The droop floor acts: DROOP_N is low, or a path monitor reads zero (R306, R312). -/
def droopActs (s : State) : Bool := !s.aon.droopN || monitorZero s

/-- The DROOP component (R306). -/
def droopCeil (s : State) : Nat := if droopActs s then (field (govFloorWord s) 0 7).toNat else 64

/-- START of the simmer ramp (R304). -/
def rampStart (s : State) : Nat := (field (govRampWord s) 0 7).toNat
/-- SIMMER (R304). -/
def simmer (s : State) : Nat := (field (govRampWord s) 16 16).toNat

/-- RAMP after t BCLK (R304). -/
def rampAt (s : State) (t : Nat) : Nat :=
  if simmer s = 0 then 64 else min 64 (rampStart s + (64 - rampStart s) * 16 * (t / 16) / simmer s)

/-- The RAMP component (R304). -/
def rampCeil (s : State) : Nat :=
  if s.gov.stagger then 0 else if s.gov.ramping then rampAt s s.gov.rampT else 64

/-- The governed bent of a bent ID. -/
def govIx (id : Nat) : Fin 17 := Fin.ofNat 17 id

/-- The slot whose phase issues on a bent (GOV_BENT.ACTIVE); one whose routes are loaded before one that waits for
its ports. -/
def activeSlot (s : State) (id : Nat) : Option (Fin 4) :=
  let on := (List.finRange 4).filter fun n =>
    s.sched.slot[n].st == .issue && s.sched.slot[n].bents.any fun b => b.id = id
  match on.find? fun n => s.sched.slot[n].switched with
  | some n => some n
  | none => on.head?

/-- The OPC component of a phase: CEIL of its operating point and the profile's CEIL_MAX (R290, R291). -/
def phaseOpc (s : State) (r : Rec) : Nat := min (optCeil s (phaseOp s r)) (ceilMax s)

/-- The phase in a slot passes its bents' OPC component to the governor (R290, R291). -/
def latchOpc (n : Fin 4) (s : State) : State :=
  let p := s.sched.slot[n]
  let c := BitVec.ofNat 7 (min 64 (phaseOpc s p.rcd))
  s.onGov fun g => p.bents.foldl (fun g b => { g with bent := vmod g.bent (govIx b.id) fun k => { k with opc := c } }) g

/-- The applied ceiling of a bent and its source (R290): quench and droop, which act at once, the throttle components
after UPSLEW, the ramp, and the operating point while a phase issues on it. -/
def appliedOf (s : State) (id : Nat) : Nat × BitVec 4 :=
  let g := s.gov.bent[govIx id]
  leastCeil [(quenchCeil s, 8), (droopCeil s, 5), (g.governed.toNat, g.gsource), (rampCeil s, 10),
    (if (activeSlot s id).isSome then g.opc.toNat else 64, 9)]

/-- The throttle components of a bent: QUENCH, DROOP and those of the last evaluation (R290). -/
def throttleOf (s : State) (g : GovBent) : Nat × BitVec 4 :=
  leastCeil [(quenchCeil s, 8), (droopCeil s, 5), (g.target.toNat, g.tsource)]

/-- Applies decreases at once (R290). -/
def lowerCeilings (s : State) : State :=
  s.onGov fun g => { g with bent := g.bent.map fun b =>
    let f := throttleOf s b
    if f.1 ≤ b.governed.toNat then { b with governed := BitVec.ofNat 7 f.1, gsource := f.2 } else b }

/-- UPSLEW; 0 acts as 1 (R290). -/
def upslew (s : State) : Nat := max 1 (field (govFloorWord s) 8 7).toNat

/-- Applies the governed ceilings of an evaluation: increases by at most UPSLEW (R290). -/
def slewCeilings (s : State) : State :=
  s.onGov fun g => { g with bent := g.bent.map fun b =>
    let f := throttleOf s b
    if f.1 ≤ b.governed.toNat + upslew s then { b with governed := BitVec.ofNat 7 f.1, gsource := f.2 }
    else { b with governed := BitVec.ofNat 7 (b.governed.toNat + upslew s) } }

/-- Clears every admission accumulator (R306). -/
def clearAccs (s : State) : State := s.onGov fun g => { g with bent := g.bent.map fun b => { b with acc := 0 } }

/-! ### Throttle reasons (R315) -/

/-- The reasons that bind on some bent on which a phase issues. -/
def bindingNow (s : State) : BitVec 9 :=
  (List.range 17).foldl (fun m id =>
    let src := (appliedOf s id).2.toNat
    if (activeSlot s id).isSome && src ≤ 8 then m ||| ((1 : BitVec 9) <<< src) else m) 0

/-- GOV_REVT counts each reason that has become binding, and GOV_EVENT.THROTTLE is set (R315); not in FAULT, where the
governor has stopped (R376). -/
def noteBinding (s : State) : State :=
  let b := bindingNow s
  let rising := b &&& ~~~s.gov.binding
  if !unitsOn s then s
  else s.onGov fun g =>
    { g with binding := b
             revt := (List.range 9).foldl (fun m n => if bitAt rising n then m.modify 0 n (satAdd · 1) else m) g.revt
             event := if rising == 0 then g.event else g.event ||| 1 }

/-- The outcome of a command that can change a ceiling. -/
def doneGov (s : State) : Host.Outcome State Fault Refusal := done (noteBinding s)

/-! ### Learned demand (R296, R299) -/

/-- HEAVY of a HINT byte (R299). -/
def hintHeavy (h : BitVec 8) : Bool := bitAt h 7

/-- DEMAND of a HINT byte in units of 1/8 W (R299). -/
def hintDemand (h : BitVec 8) : Nat := (field h 0 7).toNat * 32

/-- DEFAULT_D. -/
def defaultD (s : State) : Nat := (field s.gov.ctl 48 16).toNat

/-- The demand entry of a phase ID: learned flag and D. -/
def demandEntry (s : State) (pid : BitVec 8) : BitVec 17 := s.gov.demand.get 0 pid.toNat

/-- The demand of a running phase: learned, else its hint's, else the default (R296). -/
def runDemand (s : State) (r : Rec) : Nat :=
  let e := demandEntry s r.phaseId
  if bitAt e 16 then (field e 0 16).toNat else if hintDemand r.hint != 0 then hintDemand r.hint else defaultD s

/-- The demand of a hinted phase: its hint's, else learned, else the default (R299). -/
def hintedDemand (s : State) (r : Rec) : Nat :=
  let e := demandEntry s r.phaseId
  if hintDemand r.hint != 0 then hintDemand r.hint else if bitAt e 16 then (field e 0 16).toNat else defaultD s

/-- A rational number rounded down, not below zero. -/
def floorNat (x : Rat) : Nat := x.floor.toNat

end Sys2Proof.Machine
end

