-- ==== Sys2Proof/Machine/Truss.lean ====
section
/-!
DEFINITION. Truss.lean: brace-set commands (R107 to R110), operand, index and gather reads (R112, R116 to R120), the
delivery of issues (R113, R127 to R129, R131, R140), routes (R123), and the registers of the truss sub-window.
-/
namespace Sys2Proof.Machine

/-- Adds n to TRUSS_COUNT[i]. -/
def countTruss (i n : Nat) (s : State) : State := s.onTruss fun t => { t with count := bump t.count i n }

/-! ### Brace-set commands (R107 to R109) -/

/-- A brace-set command ends: CODE and REFS (R108). -/
def bsEnd (c : BitVec 8) (n : BitVec 6) (s : State) : State :=
  s.onTruss fun t => { t with code := c, refs := satNat 8 (braceRefs s n) }

/-- A brace-set command is refused. -/
def bsRefuse (c : BitVec 8) (n : BitVec 6) (s : State) : State :=
  report { code := c, loc := n.setWidth 64 } (bsEnd c n s)

/-- The VALIDATE checks pass (R109). -/
def braceOk (s : State) (n : Nat) : Bool :=
  let h := braceWord s n 0
  let ps := portsOf (headPorts h)
  !(headPorts h == 0 && !headLoop h) && !(headPorts h != 0 && headLoop h) &&
    ps.all fun p => ps.all fun q =>
      bSrc (braceWord s n (1 + p.val)) != bSrc (braceWord s n (1 + q.val)) ||
        aSrc (braceWord s n (1 + p.val)) == aSrc (braceWord s n (1 + q.val))

/-- A bit of 64 set or cleared. -/
def putBit64 (x : W64) (i : Nat) (v : Bool) : W64 :=
  let m := (1 : W64) <<< i
  if v then x ||| m else x &&& ~~~m

/-- VALIDATE (R108, R109). -/
def bsValidate (n : BitVec 6) (s : State) : State :=
  if bitAt s.truss.valid n.toNat then bsEnd 0 n s
  else if braceOk s n.toNat then bsEnd 0 n (s.onTruss fun t => { t with valid := putBit64 t.valid n.toNat true })
  else bsRefuse 0x10 n s

/-- INVALIDATE (R108). -/
def bsInvalidate (n : BitVec 6) (s : State) : State :=
  if braceRefs s n != 0 then bsRefuse 0x12 n s
  else bsEnd 0 n (s.onTruss fun t => { t with valid := putBit64 t.valid n.toNat false })

/-- A value of BS_CMD with a reserved bit or operation. -/
def bsReservedWord (v : W64) : Bool := v &&& 0xFFFFFFFFFFFFC0F0 != 0 || 3 ≤ (field v 0 4).toNat

/-- What a write of BS_CMD does (R108). -/
def bsWord (v : W64) (s : State) : State :=
  let n := field v 8 6
  if bsReservedWord v then bsRefuse 0x12 n s
  else
    match (field v 0 4).toNat with
    | 0 => bsEnd 0 n s
    | 1 => bsValidate n s
    | _ => bsInvalidate n s

/-- A brace-set command: run with BUSY set after it, or dropped with LOST while BUSY (R108). -/
def bsGate (act : State → State) (s : State) : State :=
  unlessBusy s.truss.busy (fun s => s.onTruss fun t => { t with lost := true })
    (fun s => s.onTruss fun t => { t with busy := true }) act s

/-- A brace-set command through BS_CMD (R108). -/
def bsCmd (src : Src) (act : State → State) (s : State) : State :=
  writeDropping src 0x30010 .host s.truss.busy (bsGate act) s

/-- NOP (R108). -/
def execBsNop (src : Src) (n : BitVec 6) (s : State) : Host.Outcome State Fault Refusal :=
  done (bsCmd src (bsEnd 0 n) s)

/-- VALIDATE (R109). -/
def execBsValidate (src : Src) (n : BitVec 6) (s : State) : Host.Outcome State Fault Refusal :=
  done (bsCmd src (bsValidate n) s)

/-- INVALIDATE (R108). -/
def execBsInvalidate (src : Src) (n : BitVec 6) (s : State) : Host.Outcome State Fault Refusal :=
  done (bsCmd src (bsInvalidate n) s)

/-- A reserved brace-set command: refused with code 0x12 (R108). -/
def execBsReserved (src : Src) (raw : BitVec 64) (s : State) : Host.Outcome State Fault Refusal :=
  done (onlyIf (bsReservedWord raw) (bsCmd src (bsWord raw)) s)

/-- The bits of word w of a brace set that are not reserved (R106). -/
def braceMask (w : Nat) : W64 :=
  if w = 0 then 0xFFFF01FF else if w ≤ 16 then 0xFF0 else if w ≤ 48 then 0x100FFFFF else if w = 49 then 0xFFFFF else 0

/-- A write of a brace-set word: dropped and logged with code 0x11 while the set is VALID (R107). -/
def setBraceWord (n w : Nat) (v : W64) (s : State) : State :=
  if bitAt s.truss.valid n then report { code := 0x11, loc := BitVec.ofNat 64 n } s
  else s.onTruss fun t => { t with words := t.words.set 0 (64 * n + w) (v &&& braceMask w) }

/-- A write of a brace-set word (R107). -/
def execBraceWordWrite (src : Src) (n w : BitVec 6) (v : BitVec 64) (s : State) : Host.Outcome State Fault Refusal :=
  done (writeDropping src (0x34000 + 0x200 * n.toNat + 8 * w.toNat) .host (bitAt s.truss.valid n.toNat)
    (setBraceWord n.toNat w.toNat v) s)

/-! ### Streams -/

/-- Stream k of the phase in a slot. -/
def streamAt (s : State) (n : Fin 4) (k : Nat) : Option Stream := s.sched.slot[n].streams[k]?

/-- Changes stream k of the phase in a slot. -/
def onStream (n : Fin 4) (k : Nat) (f : Stream → Stream) (s : State) : State :=
  s.onSlot n fun p => { p with streams := lmod p.streams k f }

/-- A raise that waits for phase boundaries is pending (R200). -/
def raiseWaits (s : State) : Bool := s.cfg.pending && !s.cfg.forced

/-- Steps between a phase's interior boundaries; 0 when it has none (R201). -/
def boundSteps (r : Rec) : Nat := if r.isLoop then r.split * 65536 else r.split * r.kDepth

/-- The interior boundary at which the bents of a phase stop: the first that no bent has passed (R201). -/
def nextBound (p : PSlot) : Nat :=
  let n := boundSteps p.rcd
  let top := (p.bents.map Bent.steps).foldl max 0
  if n = 0 then 0 else (top + n - 1) / n * n

/-- A bent stands at the interior boundary that a pending raise waits for (R201). -/
def atBound (s : State) (p : PSlot) (b : Bent) : Bool :=
  raiseWaits s && b.steps != 0 && b.steps < Rec.steps p.rcd && b.steps = nextBound p

/-- The report of a parity error in the truss (R117, R370). -/
def parityReport (p : PSlot) : Report :=
  { code := 0x16, pid := some (Rec.phaseId p.rcd), loc := (Rec.brace p.rcd).setWidth 64 }

/-- A parity error strikes a beam in the truss: logged and counted (R117). -/
def noteParity (parity : Bool) (p : PSlot) (s : State) : State :=
  if parity then report (parityReport p) (countTruss 5 1 s) else s

/-- A beam of a stream after a parity error strikes it, or none does: it carries poison (R117). -/
def SBeam.struck (v : SBeam) (parity : Bool) : SBeam := { v with poison := v.poison || parity }

/-- A beam as it leaves its bank for a stream: scaled when the record asks (R173). -/
def scaleFor (s : State) (p : PSlot) (st : Stream) (b : Beam) : Beam :=
  if streamSor p st then scaleBeam (mortAt s (streamMort p st)).fmt p.clip b else b

/-- Counts a beam scaled on read (SNT_COUNT). -/
def countScaled (p : PSlot) (st : Stream) (s : State) : State := if streamSor p st then countSnt 9 1 s else s

/-- The fill beam of a stream; it carries poison when the mortise is poisoned (R116 to R118). -/
def fillFor (s : State) (p : PSlot) (st : Stream) : SBeam :=
  { data := fillBeam (mortAt s (streamMort p st)).fmt (streamFill p st), poison := isPoisoned s (streamMort p st) }

/-! ### Operand reads (R112, R116) -/

/-- The next operand read of a stream is accepted, or replaced by a fill beam (R112, R116). -/
def operandRead (n : Fin 4) (k : Nat) (st : Stream) (upset : LineErr) (parity : Bool) (s : State) : State :=
  let p := s.sched.slot[n]
  let i := streamMort p st
  let b := BitVec.ofNat 20 (operandBeam p st st.next)
  let push (v : SBeam) (s : State) := onStream n k
    (fun st => { st with next := st.next + 1, fifo := st.fifo ++ [v.struck parity], asked := s.now + 1 })
    (noteParity parity p s)
  if (mortAt s i).holds b then
    let r := bankRead 0x02 i (some (Rec.phaseId p.rcd)) b upset s
    push { data := scaleFor s p st r.1.beam, poison := r.1.poison } (countScaled p st r.2)
  else push (fillFor s p st) (countTruss 3 1 s)

/-- The operand read is the first that waits at its bank, or needs none (R68, R116). -/
def operandFirst (s : State) (n : Fin 4) (st : Stream) : Bool :=
  let p := s.sched.slot[n]
  readFirst s (streamMort p st) (operandBeam p st st.next) (st.order n)

/-- An operand-stream read (R112, R116). -/
def execOperandRead (slot : Fin 4) (stream : Nat) (upset : LineErr) (parity : Bool) (s : State) :
    Host.Outcome State Fault Refusal :=
  done (match streamAt s slot stream with
    | some st =>
      onlyIf (mayIssue s slot && operandReady s.sched.slot[slot] st && operandFirst s slot st)
        (operandRead slot stream st upset parity) s
    | none => s)

/-! ### Index reads (R120, R182, R184, R185) -/

/-- Reads an index beam of a mortise: outside the mortise it is a beam with every mask bit clear, counted as out of
bounds (R185). A parity error poisons either beam (R117). -/
def readIndex (p : PSlot) (i : BitVec 10) (b base : Nat) (upset : LineErr) (parity : Bool) (s : State) :
    IdxBeam × State :=
  let beam := BitVec.ofNat 20 b
  if (mortAt s i).holds beam then
    let r := bankRead 0x02 i (some (Rec.phaseId p.rcd)) beam upset s
    ({ base := base, data := r.1.beam, poison := r.1.poison || parity, next := 0 }, noteParity parity p r.2)
  else ({ base := base, data := 0, poison := isPoisoned s i || parity, next := 0 }, noteParity parity p (countTruss 3 1 s))

/-- The gather stream's next index beam is read (R118, R182); the schedule engine reads one ahead (R120). -/
def gatherIndexRead (n : Fin 4) (k : Nat) (st : Stream) (upset : LineErr) (parity : Bool) (s : State) : State :=
  let p := s.sched.slot[n]
  let r := readIndex p (Rec.mIx p.rcd .idx) (indexBeam p st) st.idxNext upset parity s
  onStream n k
    (fun st => { st with idxNext := st.idxNext + 128, idxBeams := st.idxBeams ++ [r.1], asked := s.now + 1 }) r.2

/-- A drain index beam is read (R184). -/
def drainIndexRead (n : Fin 4) (port step : Nat) (upset : LineErr) (parity : Bool) (s : State) : State :=
  let p := s.sched.slot[n]
  let r := readIndex p (Rec.mIx p.rcd .didx) (didxBeam p port step) (didxKey p port step) upset parity s
  askDidx s (flushLoops (r.2.onSlot n fun p => { p with didx := p.didx ++ [r.1] }))

/-- An index beam is read: of gather stream `stream`, or, past the list, a drain index beam of port
`stream - length`, which is 0 in a loop-back phase; it is the first that waits at its bank (R68, R120, R184). -/
def execIndexRead (slot : Fin 4) (stream : Nat) (upset : LineErr) (parity : Bool) (s : State) :
    Host.Outcome State Fault Refusal :=
  doneSched (match streamAt s slot stream with
    | some st =>
      onlyIf (mayIssue s slot && indexReady s.sched.slot[slot] st &&
          readFirst s (Rec.mIx s.sched.slot[slot].rcd .idx) (indexBeam s.sched.slot[slot] st) (st.order slot))
        (gatherIndexRead slot stream st upset parity) s
    | none =>
      let port := stream - s.sched.slot[slot].streams.length
      match nextDidx s slot port with
      | some step =>
        onlyIf (mayIndex s slot &&
            readFirst s (Rec.mIx s.sched.slot[slot].rcd .didx) (didxBeam s.sched.slot[slot] port step)
              (didxOrder s slot port))
          (drainIndexRead slot port step upset parity) s
      | none => s)

/-! ### Gather entries and reads (R118, R119) -/

/-- The outstanding gather read of a beam. -/
def readOf (s : State) (b : BitVec 20) : Option GRead := s.truss.reads.find? fun g => g.beam == b

/-- The beam an index value names in the gather source mortise, when in range (R118). -/
def gatherTarget (s : State) (p : PSlot) (i : Int) : Option (BitVec 20) :=
  let m := mortAt s (Rec.mIx p.rcd .src)
  if 0 ≤ i && i < m.len.toNat then some (m.beamAt i.toNat) else none

/-- The beam an entry puts into its stream: a fill beam, a beam of a finished read, or one that waits; a new read joins
the window (R118, R119). A fill beam of a masked or out-of-range entry carries the poison of its index beam too: R117
says so of an entry that started or merged with a read and is silent on these (DESIGN CHOICE, assumption 99). -/
def entryBeam (p : PSlot) (st : Stream) (x : IdxBeam) (s : State) : SBeam × State :=
  let fill := { fillFor s p st with poison := (fillFor s p st).poison || x.poison }
  if !elemValid 7 x.data x.next then (fill, s)
  else
    match gatherTarget s p (intElem x.data x.next) with
    | none => (fill, countTruss 3 1 s)
    | some b =>
      match readOf s b with
      | some g =>
        ({ data := if g.done then scaleFor s p st g.data else 0, poison := x.poison || (g.done && g.poison),
           wait := if g.done then none else some g.id, read := some g.id },
          countTruss 2 1 (if g.done then countScaled p st s else s))
      | none =>
        let id := s.truss.nextId
        ({ data := 0, poison := x.poison, wait := some id, read := some id },
          s.onTruss fun t =>
            { t with nextId := id + 1
                     reads := t.reads ++ [{ id := id, beam := b, mort := Rec.mIx p.rcd .src, ticket := p.ticket }] })

/-- The gather stream's next entry is taken; an index beam with no entry left for the phase goes (R118, R182). A parity
error strikes the entry's beam on its way, a fill beam or a merged one too (R117). -/
def takeEntry (n : Fin 4) (k : Nat) (x : IdxBeam) (st : Stream) (parity : Bool) (s : State) : State :=
  let p := s.sched.slot[n]
  let r := entryBeam p st x s
  let s := noteParity parity p (govEvent 8 1 (countTruss 1 1 r.2))
  let last := x.next = 127 || x.base + x.next + 1 = Rec.steps p.rcd
  let s := onStream n k (fun st =>
    { st with next := st.next + 1, fifo := st.fifo ++ [r.1.struck parity]
              idxBeams := if last then st.idxBeams.drop 1 else lmod st.idxBeams 0 fun y => { y with next := y.next + 1 }
              asked := if last && 2 ≤ st.idxBeams.length then s.now + 1 else st.asked }) s
  if st.side == .loop then
    flushLoops (s.onSlot n fun p =>
      { p with lbLeft := p.lbLeft - 1, bents := p.bents.map fun b => { b with steps := b.steps + 1 } })
  else s

/-- A gather stream can take an entry: the window has room, the output stage holds fewer than 8 issues, or the
loop-back admission has entries left and the drain network does not hold the path's beams back (R113, R119, R186,
R289). -/
def entryReady (s : State) (n : Fin 4) (st : Stream) : Bool :=
  let p := s.sched.slot[n]
  st.gather && s.truss.reads.length < 1024 && st.next < Rec.steps p.rcd &&
    (if st.side == .loop then 0 < p.lbLeft && !p.bents.any (atBound s p) && !loopHeld s n else st.fifo.length < 8)

/-- The gather unit takes an index entry (R118, R119). -/
def execGatherEntry (slot : Fin 4) (stream : GatherTake) (s : State) : Host.Outcome State Fault Refusal :=
  doneSched (match streamAt s slot stream.stream with
    | some st =>
      match st.idxBeams with
      | x :: _ =>
        onlyIf (mayIssue s slot && entryReady s slot st) (takeEntry slot stream.stream x st stream.parity) s
      | [] => s
    | none => s)

/-- The beam of a finished gather read reaches the entries that wait for it (R117, R119). -/
def fillWaiting (id : Nat) (beam : Beam) (poison : Bool) (n : Fin 4) (s : State) : State :=
  let p := s.sched.slot[n]
  let fillB (st : Stream) (b : SBeam) : SBeam :=
    if b.wait = some id then { b with data := scaleFor s p st beam, poison := b.poison || poison, wait := none } else b
  let scaled := p.streams.foldl (fun c st =>
    if streamSor p st then c + countTrue st.fifo (fun b => b.wait == some id) else c) 0
  countSnt 9 scaled
    (s.onSlot n fun p => { p with streams := p.streams.map fun st => { st with fifo := st.fifo.map (fillB st) } })

/-- A gather read is accepted at its bank: the oldest that waits there, once no operand or index read does (R68,
R119). -/
def gatherReadDone (g : GRead) (upset : LineErr) (parity : Bool) (s : State) : State :=
  let holder := s.sched.slot.toList.find? fun p => p.st != .free && p.ticket == g.ticket
  let pid := holder.map fun p => Rec.phaseId p.rcd
  let r := bankRead 0x02 g.mort pid g.beam upset (countTruss 0 1 s)
  let s := noteParity parity (holder.getD {}) r.2
  let poison := r.1.poison || parity
  let s := s.onTruss fun t =>
    { t with reads := t.reads.map fun h =>
        if h.id = g.id then { h with done := true, data := r.1.beam, poison := poison } else h }
  flushLoops (foldOver (List.finRange 4) (fillWaiting g.id r.1.beam poison) s)

/-- A gather read (R119). -/
def execGatherRead (id : Nat) (upset : LineErr) (parity : Bool) (s : State) : Host.Outcome State Fault Refusal :=
  doneSched (match s.truss.reads.find? fun g => g.id = id with
    | some g =>
      let first := (s.truss.reads.find? fun h => !h.done && bankOf h.beam == bankOf g.beam).map GRead.id
      onlyIf (gatherOn s && first == some id && !readsAt s (bankIx g.beam)) (gatherReadDone g upset parity) s
    | none => s)

/-! ### Routes (R123) -/

/-- Loads the routes of the phase in a slot on its ports, or on the loop-back path (R123). -/
def loadRoutes (n : Fin 4) (s : State) : State :=
  let p := s.sched.slot[n]
  let rt (b : Bent) : Route :=
    { active := true, slot := BitVec.ofNat 2 n.val, bent := BitVec.ofNat 5 b.id, brace := Rec.brace p.rcd }
  let s := s.onTruss fun t =>
    p.bents.foldl (fun t b =>
      if b.id = 16 then { t with loopRoute := rt b }
      else { t with route := (portsOf b.ports).foldl (fun m e => m.set {} e.val (rt b)) t.route }) t
  s.onSlot n fun p => { p with switched := true }

/-- A bent of phase q still has issues to deliver on a port of phase p, or beams on the loop-back path that p uses
(R123). -/
def Bent.holdsPort (b : Bent) (q p : PSlot) : Bool :=
  if b.id = 16 then
    Rec.isLoop p.rcd && (b.steps != Rec.steps q.rcd || q.streams.any fun st => !st.fifo.isEmpty)
  else b.ports &&& Rec.ports p.rcd != 0 && b.steps != Rec.steps q.rcd

/-- A phase that started before the phase in a slot still has issues to deliver on a port of it, or beams on the
loop-back path (R123). -/
def portsTaken (s : State) (n : Fin 4) : Bool :=
  let p := s.sched.slot[n]
  (List.finRange 4).any fun m =>
    let q := s.sched.slot[m]
    m != n && q.begun && q.startNo < p.startNo && q.bents.any fun b => b.holdsPort q p

/-- A brace-set switch: the ports of the phase take its routes once the previous phase's last beam has left (R123). -/
def execBraceSetSwitch (slot : Fin 4) (s : State) : Host.Outcome State Fault Refusal :=
  done (onlyIf
    (unitsOn s && s.sched.slot[slot].st == .issue && !s.sched.slot[slot].switched && !portsTaken s slot)
    (loadRoutes slot) s)

/-! ### Delivery of issues (R113, R127 to R129) -/

/-- The streams a bent takes at each issue: its A stream and the B streams of its ports (R103). -/
def bentStreams (p : PSlot) (b : Bent) : List Nat :=
  let bs := (portsOf b.ports).map fun e => bSrc (p.portWord e.val)
  (p.streams.zipIdx.filter fun q =>
    match q.1.side with
    | .a => q.1.idx = b.asrc
    | .b => bs.contains q.1.idx
    | .loop => false).map Prod.snd

/-- The beam at the head of a stream is at the output stage. -/
def headReady (p : PSlot) (k : Nat) : Bool :=
  match (p.streams[k]?.map Stream.fifo) with
  | some (b :: _) => b.wait.isNone
  | _ => false

/-- The output stage holds the bent's next issue (R113). -/
def issueHeld (p : PSlot) (b : Bent) : Bool := (bentStreams p b).all (headReady p)

/-- The port lacks an operand credit. -/
def lacksCredit (s : State) (e : Fin 16) : Bool := s.ports.port[e].opCred = 0

/-- The issue is FIRST of a tile (R129). -/
def isFirst (p : PSlot) (b : Bent) : Bool := b.steps % Rec.kDepth p.rcd = 0

/-- The issue is LAST of a tile (R129). -/
def isLast (p : PSlot) (b : Bent) : Bool := b.steps % Rec.kDepth p.rcd = Rec.kDepth p.rcd - 1

/-- The accumulator that the port's next tile takes (R134). -/
def nextAcc (q : Port) : Nat := q.tileSeq % max 1 q.accums

/-- The port's next accumulator is not free (R134). -/
def lacksAcc (s : State) (e : Fin 16) : Bool :=
  let q := s.ports.port[e]
  q.tiles.any fun t => t.acc = nextAcc q && !t.freed

/-- The stream of a side that feeds a port. -/
def sideStream (p : PSlot) (side : Side) (idx : Nat) : Stream :=
  (p.streams.find? fun st => st.side == side && st.idx = idx).getD {}

/-- The governor event of an issue by its A format (R284). -/
def issueEvent (f : BitVec 4) : Nat :=
  match elemWidth f with
  | 32 => 0 | 16 => 1 | 8 => 2 | 6 => 3 | _ => 4

/-- Counts a governor event on the engines' rail, and for the phase in a slot (R284, R296). -/
def vengEvent (n : Fin 4) (e c : Nat) (s : State) : State :=
  (govEvent e c s).onSlot n fun p => { p with veng := p.veng.modify 0 e (· + c) }

/-- DFMT and DMODE of an issue that is not LAST: free values of those that are driven at all, DMODE 0 to 2 (R126,
assumption 7). -/
def openCtl (v : BitVec 6) : BitVec 6 := field v 2 4 ++ BitVec.ofNat 2 (v.toNat % 3)

/-- Ep_OP_CTL of an issue: DFMT and DMODE are free while LAST is clear (R126). -/
def issueCtl (r : Rec) (tile : Tile) (first last : Bool) (open_ : BitVec 6) : BitVec 24 :=
  (0 : BitVec 6) ++ (if last then r.dfmt ++ r.dmode else openCtl open_) ++ BitVec.ofNat 8 tile.seq ++
    BitVec.ofNat 2 tile.acc ++ flagBits 1 last ++ flagBits 1 first

/-- Delivers one issue to one port (R127 to R131, R140). -/
def issueToPort (n : Fin 4) (b : Bent) (e : Fin 16) (s : State) : State :=
  let p := s.sched.slot[n]
  let r : Rec := p.rcd
  let sa := sideStream p .a b.asrc
  let sb := sideStream p .b (bSrc (p.portWord e.val))
  let va := sa.fifo.headD {}
  let vb := sb.fifo.headD {}
  let fa := (mortAt s (streamMort p sa)).fmt
  let fb := (mortAt s (streamMort p sb)).fmt
  let first := isFirst p b
  let last := isLast p b
  let fr := takeFree 6 s
  let s := if last then s else fr.2
  let q := s.ports.port[e]
  let j := b.steps / r.kDepth
  let tile : Tile :=
    if first then
      { seq := q.tileSeq, ticket := p.ticket, slot := n, j := j, acc := nextAcc q, dfmt := r.dfmt, dmode := r.dmode,
        lastStep := j * r.kDepth + r.kDepth - 1 }
    else (q.tiles.find? fun t => t.ticket == p.ticket && t.j = j).getD {}
  let bad := va.poison || vb.poison
  let accBit : BitVec 4 := (1 : BitVec 4) <<< tile.acc
  let s := s.onPort e fun q =>
    { q with
      opCred := q.opCred - 1
      tileSeq := if first then q.tileSeq + 1 else q.tileSeq
      accPoison := (if first then q.accPoison &&& ~~~accBit else q.accPoison) ||| (if bad then accBit else 0)
      tiles := (if first then q.tiles ++ [tile] else q.tiles).map fun t =>
        if t.seq = tile.seq then { t with issued := t.issued || last } else t
      count := bump (bump q.count 0 1) 5 (if bad then 1 else 0)
      out := some { kind := 0, a := va.data, b := vb.data, apar := beamParity va.data, bpar := beamParity vb.data
                    afmt := fa, bfmt := fb, aPoison := va.poison, bPoison := vb.poison, ascale := r.scaleA
                    bscale := r.scaleB, ctl := issueCtl r tile first last fr.1 } }
  govEvent 7 2 (vengEvent n (issueEvent fa) 1 s)

/-- The bent's issue is delivered: to every port of it together, its beams leave the output stage (R103, R113). -/
def deliverIssue (n : Fin 4) (k : Nat) (b : Bent) (s : State) : State :=
  let old := s
  let p := s.sched.slot[n]
  let ks := bentStreams p b
  let heads := ks.filterMap fun i => (p.streams[i]?.map Stream.fifo).bind List.head?
  let s := foldOver (portsOf b.ports) (issueToPort n b) s
  let s := foldOver heads beginDelivery s
  askDidx old (s.onSlot n fun p =>
    { p with streams := p.streams.zipIdx.map fun q =>
               if ks.contains q.2 then
                 { q.1 with fifo := q.1.fifo.drop 1, asked := if 8 ≤ q.1.fifo.length then s.now + 1 else q.1.asked }
               else q.1
             bents := lmod p.bents k fun b => { b with steps := b.steps + 1 } })

/-- The admission accumulator of a bent after one BCLK (R289). -/
def accNext (s : State) (id : Nat) : Nat := min s.gov.bent[govIx id].acc 63 + (appliedOf s id).1

/-- BCLK of the start stagger (R304). -/
def staggerLen (s : State) : Nat :=
  let c := govRampWord s
  if bitAt c 63 then (field c 40 8).toNat * (s.aon.fabricId.toNat % max 1 (field c 32 8).toNat) else 0

/-- The first admission after a cold period begins the stagger or the ramp, or neither (R304). -/
def leaveCold (s : State) : State :=
  let len := staggerLen s
  s.onGov fun g =>
    { g with cold := false, stagger := len != 0, ramping := len = 0 && simmer s != 0 && rampStart s < 64, rampT := 0 }

/-- A cold instance leaves the cold state when a bent would be admitted an issue (R304). -/
def warmUp (ready : Bool) (s : State) : State := if s.gov.cold && ready then leaveCold s else s

/-- Sets the admission accumulator of a bent. -/
def setAcc (id v : Nat) (s : State) : State :=
  s.onGov fun g => { g with bent := vmod g.bent (govIx id) fun b => { b with acc := v } }

/-- Counts one BCLK at each port that holds its bent, for want of a credit or of a free accumulator (R127). A port that
lacks both counts a credit stall alone: the spec names the two counts and not this case (DESIGN CHOICE, assumption
101). -/
def countHolds (p : PSlot) (b : Bent) (s : State) : State :=
  foldOver (portsOf b.ports) (fun e s =>
    if lacksCredit s e then s.onPort e fun q => { q with count := bump q.count 2 1 }
    else if isFirst p b && lacksAcc s e then s.onPort e fun q => { q with count := bump q.count 3 1 }
    else s) s

/-- When the phase with a ticket started, among the phases in slots (R194). -/
def startOf (s : State) (ticket : BitVec 32) : Nat :=
  ((s.sched.slot.toList.find? fun p => p.st != .free && p.ticket == ticket).map PSlot.startNo).getD 0

/-- A phase started before every one that is being aborted on a port: one between two of them is later than the earlier,
whose open tile would hold its tiles back (R147, assumption 127). -/
def beforeAbort (s : State) (q : Port) (ticket : BitVec 32) : Bool :=
  !q.abortTickets.isEmpty && q.abortTickets.all fun a => startOf s ticket < startOf s a

/-- A port takes issues of a phase: not one that is being aborted there, and from the ABORT record to its ACK none at
all. Until then a phase that started earlier issues on, so that its tiles end (R147); a later one waits for the ACK. -/
def takesIssues (s : State) (p : PSlot) (e : Fin 16) : Bool :=
  let q := s.ports.port[e]
  q.st == .agreed && (q.abortTickets.isEmpty || (!q.abortSent && beforeAbort s q p.ticket))

/-- One BCLK of a port bent: it delivers its issue, waits, or passes a bubble (R113, R127, R289). -/
def bentCycle (n : Fin 4) (k : Nat) (b : Bent) (s : State) : State :=
  let p := s.sched.slot[n]
  let ps := portsOf b.ports
  let free := ps.all fun e => !lacksCredit s e && !(isFirst p b && lacksAcc s e)
  let s := warmUp (64 ≤ accNext s b.id && free && issueHeld p b) s
  let acc := accNext s b.id
  let admits := 64 ≤ acc && ps.all (takesIssues s p)
  if admits && free && issueHeld p b then deliverIssue n k b (setAcc b.id (acc - 64) s)
  else
    let s := setAcc b.id acc s
    if admits && free && b.steps != 0 then countTruss 4 1 s
    else if admits && !free && issueHeld p b then countHolds p b s
    else s

/-- One BCLK of the loop-back bent: an admission takes up to LB_WIDTH entries (R289). -/
def loopCycle (n : Fin 4) (s : State) : State :=
  let p := s.sched.slot[n]
  let ready := s.truss.reads.length < 1024 && p.streams.any fun st => !st.idxBeams.isEmpty && !loopHeld s n
  let s := warmUp (64 ≤ accNext s 16 && ready) s
  let acc := accNext s 16
  if 64 ≤ acc && ready then
    (setAcc 16 (acc - 64) s).onSlot n fun p => { p with lbLeft := Rec.lbWidth p.rcd }
  else (setAcc 16 acc s).onSlot n fun p => { p with lbLeft := 0 }

/-- A bent of the phase in a slot can be admitted an issue: issue goes on, its routes are loaded, and it stands at no
boundary (R26, R113, R201). -/
def bentRuns (s : State) (n : Fin 4) (b : Bent) : Bool :=
  mayIssue s n && s.sched.slot[n].switched && !atBound s s.sched.slot[n] b

/-- A bent that cannot be admitted an issue banks for the phase in a slot all the same: in PAUSE, at a boundary, and before
the route switch, once no phase before it issues there (R289). -/
def bentBanks (s : State) (n : Fin 4) (b : Bent) : Bool :=
  unitsOn s && match activeSlot s b.id with
    | some m => m == n
    | none => s.sched.slot[n].st == .bound

/-- One BCLK of a bent of the phase in a slot: the delivery of its next issue, or the accumulator alone (R113, R127,
R289). -/
def execIssueDelivery (slot : Fin 4) (bent : Nat) (s : State) : Host.Outcome State Fault Refusal :=
  doneGov (advanceSlots (match s.sched.slot[slot].bents[bent]? with
    | some b =>
      if Rec.steps s.sched.slot[slot].rcd ≤ b.steps then s
      else if bentRuns s slot b then (if b.id = 16 then loopCycle slot else bentCycle slot bent b) s
      else onlyIf (bentBanks s slot b) (setAcc b.id (accNext s b.id)) s
    | none => s))

/-! ### Registers of the truss sub-window -/

/-- TRUSS_ROUTE and LOOP_ROUTE. -/
def Route.word (r : Route) : W64 :=
  (0 : BitVec 48) ++ flagBits 1 r.active ++ r.slot ++ r.bent ++ (0 : BitVec 2) ++ r.brace

/-- The registers at an offset of the truss sub-window. -/
def trussInfo (off : Nat) : Option RegInfo :=
  match off with
  | 0x00 => some { owner := .both, other := 0x0000FFFFFFFFFFFF }
  | 0x10 => some { owner := .host, other := 0x3F0F }
  | 0x18 => some { owner := .host, other := 0xFFFF03 }
  | 0x20 => some { owner := .both, other := 0xFFFFFFFFFFFFFFFF }
  | 0x180 => some { owner := .both, other := 0xE03F }
  | _ =>
    if off % 8 != 0 then none
    else if 0x40 ≤ off && off < 0x70 then some { owner := .host, rw := 0xFFFFFFFFFFFFFFFF }
    else if 0x100 ≤ off && off < 0x180 then some { owner := .both, other := 0xFF3F }
    else if 0x4000 ≤ off && off < 0xC000 then some { owner := .host, rw := braceMask ((off - 0x4000) / 8 % 64) }
    else none

/-- Reads a register of the truss sub-window. -/
def trussRead (off : Nat) (s : State) : W64 :=
  let t := s.truss
  match off with
  | 0x00 => 0x0000401004004008
  | 0x18 => (0 : BitVec 40) ++ t.code ++ t.refs ++ (0 : BitVec 6) ++ flagBits 1 t.lost ++ flagBits 1 t.busy
  | 0x20 => t.valid
  | 0x180 => { t.loopRoute with bent := 0 }.word
  | _ =>
    if 0x40 ≤ off && off < 0x70 then t.count.get 0 ((off - 0x40) / 8)
    else if 0x100 ≤ off && off < 0x180 then (t.route.get {} ((off - 0x100) / 8)).word
    else if 0x4000 ≤ off && off < 0xC000 then t.words.get 0 ((off - 0x4000) / 8)
    else 0

/-- Writes a register of the truss sub-window. -/
def trussWrite (off : Nat) (v : W64) (s : State) : State :=
  match off with
  | 0x10 => bsGate (bsWord v) s
  | 0x18 => s.onTruss fun t => { t with lost := t.lost && !bitAt v 1 }
  | _ =>
    if 0x40 ≤ off && off < 0x70 then s.onTruss fun t => { t with count := t.count.set 0 ((off - 0x40) / 8) v }
    else if 0x4000 ≤ off && off < 0xC000 then setBraceWord ((off - 0x4000) / 512) ((off - 0x4000) / 8 % 64) v s
    else s

end Sys2Proof.Machine
end

