-- ==== Sys2Proof/Machine/Ports.lean ====
section
/-!
DEFINITION. Ports.lean: the engine ports: drains, credits, capability agreement, aborts, failures, commands and
registers (R125 to R150), and the entry of drain beams into the drain network (R136, R151).
-/
namespace Sys2Proof.Machine

/-- A port in a state, read off. -/
def portAt (s : State) (e : Fin 16) : Port := s.ports.port[e]

/-- A port of the running block fails in AGREED or TRAINING with a code and the tag concerned (R145, R146). -/
def portViolation (e : Fin 16) (code : BitVec 8) (tag : BitVec 24) (s : State) : State :=
  portFail e code .failed (tag.setWidth 64 &&& 0x3FFFFF) s

/-- Ep_RST_N goes high: training begins (R141, R142). -/
def portTrain (e : Fin 16) (s : State) : State := (portDown e .training s).onPort e fun q => { q with drCred := 32 }

/-- A port leaves RESET: to TRAINING when an engine is present, else ABSENT (R141). -/
def portRelease (e : Fin 16) (s : State) : State :=
  if (portAt s e).present then portTrain e s else portDown e .absent s

/-- BOOT ends: every port leaves RESET (R141). -/
def portsAfterBoot (s : State) : State := foldOver (List.finRange 16) portRelease s

/-! ### Credits (R137) -/

/-- Ep_OP_CREDIT: one credit more, or a violation at OP_DEPTH (R137). -/
def gainCredit (e : Fin 16) (s : State) : State :=
  if (portAt s e).opDepth ≤ (portAt s e).opCred then portViolation e 0x1A 0 s
  else s.onPort e fun q => { q with opCred := q.opCred + 1 }

/-- An operand credit is returned (R137). -/
def execOperandCredit (port : Fin 16) (s : State) : Host.Outcome State Fault Refusal :=
  done (onlyIf (unitsOn s && (portAt s port).st == .agreed) (gainCredit port) s)

/-! ### Drain beams (R133, R135, R136, R138, R140, R147) -/

/-- FMT of a drain tag (R126). -/
def tagFmt (t : BitVec 24) : BitVec 4 := field t 18 4
/-- TILE of a drain tag. -/
def tagTile (t : BitVec 24) : Nat := (field t 10 8).toNat
/-- ORIENT of a drain tag. -/
def tagOrient (t : BitVec 24) : Bool := bitAt t 9
/-- BEAM of a drain tag. -/
def tagBeam (t : BitVec 24) : Nat := (field t 0 9).toNat

/-- The place of a drain beam among its tile's. -/
def tagKey (t : BitVec 24) : Nat := (field t 0 10).toNat

/-- The beams a tile drains (R132). -/
def tileBeams (q : Port) (t : Tile) : Nat := q.beams t.dfmt * if t.dmode == 2 then 2 else 1

/-- A drain beam keeps the rules of its tile (R126, R133). -/
def drainOk (q : Port) (t : Tile) (tag : BitVec 24) : Bool :=
  field tag 22 2 == 0 && t.issued && tagTile tag = t.seq % 256 && tagFmt tag == t.dfmt &&
    (match t.dmode.toNat with
     | 0 => !tagOrient tag
     | 1 => tagOrient tag
     | _ => true) &&
    tagBeam tag < q.beams t.dfmt && !t.got.contains (tagKey tag)

/-- The tile's record after one more beam; a tile fully accepted leaves the port. -/
def tileTakes (e : Fin 16) (t : Tile) (tag : BitVec 24) (s : State) : State :=
  s.onPort e fun q =>
    let t' := { t with got := t.got ++ [tagKey tag] }
    { q with tiles := if t'.got.length = tileBeams q t then q.tiles.drop 1 else t' :: q.tiles.drop 1 }

/-- A drain beam that keeps the rules is accepted into the buffer, or discarded when its phase is being aborted (R136,
R140, R147). -/
def acceptDrain (e : Fin 16) (t : Tile) (tag : BitVec 24) (data : Beam) (poison parity : Bool) (s : State) : State :=
  let bad := poison || parity || bitAt (portAt s e).accPoison t.acc
  let pid := slotPid s t.slot
  let s := tileTakes e t tag s
  let s :=
    if parity then
      report { code := 0x1C, unit := BitVec.ofNat 12 e.val, pid := some pid, loc := tag.setWidth 64 &&& 0x3FFFFF }
        (s.onPort e fun q => { q with lastCode := 0x1C, count := bump q.count 7 1 })
    else s
  if (portAt s e).abortTickets.contains t.ticket then s
  else
    vengEvent t.slot 6 1 (s.onPort e fun q =>
      { q with drCred := q.drCred - 1, count := bump q.count 1 1
               buf := q.buf ++ [{ ticket := t.ticket, slot := t.slot, j := t.j, step := t.lastStep,
                                  orient := tagOrient tag, tag := tagBeam tag, fmt := tagFmt tag, data := data,
                                  poison := bad }] })

/-- A drain beam arrives at a port (R133, R136, R138). -/
def drainBeam (e : Fin 16) (tag : BitVec 24) (data : Beam) (poison parity framing : Bool) (s : State) : State :=
  let q := portAt s e
  match q.st with
  | .training => portViolation e 0x1A tag s
  | .agreed =>
    match q.tiles with
    | t :: _ =>
      if framing || q.drCred = 0 || !drainOk q t tag then portViolation e 0x1A tag s
      else acceptDrain e t tag data poison parity s
    | [] => portViolation e 0x1A tag s
  | _ => s

/-- A drain beam (R136). -/
def execDrain (port : Fin 16) (tag : BitVec 24) (data : BitVec 4352) (poison parity framing : Bool) (s : State) :
    Host.Outcome State Fault Refusal :=
  doneSched (onlyIf (unitsOn s) (drainBeam port tag data poison parity framing) s)

/-- A record of the reserved drain kind: a violation (R145). -/
def execReservedDrainKind (port : Fin 16) (s : State) : Host.Outcome State Fault Refusal :=
  doneSched (onlyIf (unitsOn s && ((portAt s port).st == .agreed || (portAt s port).st == .training))
    (portViolation port 0x1A 0) s)

/-! ### Into the drain network (R136, R138, R151, R166) -/

/-- The updates of the oldest beam of a port's buffer; none while its drain index beam has not been read. -/
def portUpdates (s : State) (e : Fin 16) (b : DrainBeam) : Option (List (Option Update)) :=
  let p := s.sched.slot[b.slot]
  let r : Rec := p.rcd
  if r.didx then
    match p.didxAt (didxKey p e.val b.step) with
    | some x => some (indexUpdates s p (baseUpdate s p b.slot b.orient b.data b.poison) (r.dsub e.val) x b.tag)
    | none => none
  else some (affineUpdates s p e b)

/-- The drain index beam of a tile goes once no beam of the tile is left at the port. -/
def dropDidx (e : Fin 16) (b : DrainBeam) (s : State) : State :=
  let q := portAt s e
  if q.buf.any (fun c => c.ticket == b.ticket && c.step = b.step) ||
      q.tiles.any (fun t => t.ticket == b.ticket && t.lastStep = b.step) then s
  else
    s.onSlot b.slot fun p => { p with didx := p.didx.filter fun x => x.base != didxKey p e.val b.step }

/-- A drain beam of the phase goes through the sequencer: not once the phase is aborted, since its updates in the
sequencer are discarded and a number that never comes must not hold an accepted beam (R166, R169). -/
def PSlot.sequenced (p : PSlot) : Bool := Rec.seqMode p.rcd && p.st != .abort

/-- The oldest beam leaves the drain buffer: its credit returns, its updates go to the network or the sequencer. -/
def popDrain (e : Fin 16) (b : DrainBeam) (us : List (Option Update)) (s : State) : State :=
  let p := s.sched.slot[b.slot]
  let num := seqNumber s p e b
  let s := s.onPort e fun q =>
    { q with buf := q.buf.drop 1, drCred := q.drCred + 1
             count := if b.poison then bump q.count 6 1 else q.count }
  let s := dropDidx e b (countDropped us s)
  if p.sequenced then toSequencer b.ticket num (us.filterMap id) s else toNet e.val (us.filterMap id) s

/-- A beam of a port's drain buffer lies outside the sequencer's window (R166). -/
def windowHolds (s : State) (e : Fin 16) (b : DrainBeam) : Bool :=
  s.sched.slot[b.slot].sequenced && s.sinter.seqNext + 2048 ≤ seqNumber s s.sched.slot[b.slot] e b

/-- The oldest beam of a port's drain buffer is held back: outside the sequencer's window, or behind an earlier update
of its port that waits for its unit, for the sequencer too (R151, R166). -/
def drainHeld (s : State) (e : Fin 16) (b : DrainBeam) : Bool :=
  windowHolds s e b || !(s.sinter.net.get [] e.val).isEmpty

/-- The oldest beam of a port's drain buffer enters the drain network, or the sequencer within its window (R151,
R166). -/
def enterNetwork (e : Fin 16) (s : State) : State :=
  match (portAt s e).buf with
  | [] => s
  | b :: _ =>
    match portUpdates s e b with
    | none => s
    | some us => if drainHeld s e b then s else popDrain e b us s

/-- A drain beam leaves the port's buffer for the drain network (R136). -/
def execDrainNetworkEntry (port : Fin 16) (s : State) : Host.Outcome State Fault Refusal :=
  doneSched (onlyIf (unitsOn s) (enterNetwork port) s)

/-! ### Agreement (R142, R143) -/

/-- The agreed version a record allows. -/
def capVer (rec : BitVec 512) : Nat := min (byteField rec 2 1) 3

/-- The capability record passes its checks (R142, R143). -/
def capOk (r : BitVec 512) : Bool :=
  let m := byteField r 4 1
  let n := byteField r 5 1
  byteField r 0 2 = 0x7E05 && byteField r 3 1 ≤ capVer r && 2 ≤ capVer r && 4 ≤ m && m ≤ 8 && 4 ≤ n && n ≤ 8 &&
    256 ≤ 2 ^ (m + n) && 1 ≤ byteField r 6 1 && byteField r 6 1 ≤ 4 && 4 ≤ byteField r 7 1 && byteField r 7 1 ≤ 64 &&
    field r 78 2 == 0 && field r 94 2 == 0 && field r 96 16 &&& 0xFF78 == 0 && field r 96 16 != 0 &&
    field r 112 2 == 3 && field r 115 5 == 0 && field r 121 7 == 0 && r.extractLsb' 160 352 == 0

/-- The AGREE record (R143). -/
def agreeRecord (s : State) (e : Fin 16) (r : BitVec 512) : BitVec 512 :=
  let v3 := capVer r = 3
  let mx := v3 && (field r 72 6 != 0 || field r 88 6 != 0)
  let both := v3 && bitAt r 114
  let feat : BitVec 8 := (0 : BitVec 6) ++ flagBits 1 both ++ flagBits 1 mx
  ((0 : BitVec 4) ++ s.aon.fabricId ++ feat ++ (32 : BitVec 8) ++ BitVec.ofNat 8 e.val ++ BitVec.ofNat 8 (capVer r) ++
    (0x7E05 : BitVec 16)).setWidth 512

/-- A capability record arrives in TRAINING: kept, checked, and answered with AGREE or refused (R142, R143). -/
def takeCap (e : Fin 16) (r : BitVec 512) (s : State) : State :=
  let s := s.onPort e fun q => { q with cap := r, engMax := satNat 4 (byteField r 2 1), capSeen := true }
  if capOk r then
    let a : Beam := (agreeRecord s e r).setWidth 4352
    s.onPort e fun q => { q with out := some { kind := 1, a := a, apar := beamParity a } }
  else portFail e 0x19 .failed 0 s

/-- A CAP record (R142): sent twice, out of turn or with bad parity, it fails the port (R143). -/
def execCap (port : Fin 16) (rec : BitVec 512) (parity : Bool) (s : State) : Host.Outcome State Fault Refusal :=
  doneSched (onlyIf (unitsOn s)
    (fun s => match (portAt s port).st with
      | .training =>
        if (portAt s port).capSeen || parity then portViolation port 0x1A 0 s else takeCap port rec s
      | .agreed => portViolation port 0x1A 0 s
      | _ => s) s)

/-- The port becomes AGREED (R134, R137, R138, R141). -/
def agreeState (e : Fin 16) (s : State) : State :=
  s.onPort e fun q =>
    { q with st := .agreed, ver := BitVec.ofNat 4 (capVer q.cap), opCred := q.opDepth, drCred := 32, tileSeq := 0,
             tiles := [], accPoison := 0 }

/-- The ACK to the AGREE record: the port is AGREED, and fails at once when Ep_FAULT_N is low (R141, R145, R148). -/
def agreePort (e : Fin 16) (s : State) : State :=
  let s := agreeState e s
  if (portAt s e).faultN then s else portViolation e 0x1D 0 s

/-- The ACK to an ABORT record: the aborted phases' tiles are gone, every accumulator is free and the poison bits are
clear (R147). A tile of a later phase whose beams the engine has discarded too stays open, its accumulator free
(assumption 59). Phases aborted together on the port share the one record and the one ACK, one aborted after the record
was sent too, since the engine has discarded its accumulators with the rest: R147 speaks of one phase (DESIGN CHOICE,
assumption 127). -/
def abortAcked (e : Fin 16) (s : State) : State :=
  s.onPort e fun q =>
    { q with abortSent := false, abortTickets := [], tileSeq := 0, accPoison := 0
             tiles := (q.tiles.filter fun t => !q.abortTickets.contains t.ticket).map fun t => { t with freed := true } }

/-- An ACK record (R143, R147): malformed or out of turn, it fails the port. -/
def execAck (port : Fin 16) (rec : BitVec 512) (parity : Bool) (s : State) : Host.Outcome State Fault Refusal :=
  doneSched (onlyIf (unitsOn s)
    (fun s =>
      let q := portAt s port
      let bad := parity || rec != 0
      match q.st with
      | .training => if bad || !q.capSeen then portViolation port 0x1A 0 s else agreePort port s
      | .agreed => if bad || !q.abortSent || q.drCred = 0 then portViolation port 0x1A 0 s else abortAcked port s
      | _ => s) s)

/-! ### ABORT records (R147) -/

/-- A phase that started before one to abort has issues left for the port, so that a tile of it has yet to end or to
begin (R147). -/
def issuesLeft (s : State) (e : Fin 16) : Bool :=
  s.sched.slot.toList.any fun p =>
    p.begun && beforeAbort s s.ports.port[e] p.ticket &&
      p.bents.any fun b => bitAt b.ports e.val && b.steps != Rec.steps p.rcd

/-- Every tile of a phase that started before one to abort has been issued and fully accepted on the port (R147). -/
def abortReady (s : State) (e : Fin 16) : Bool :=
  let q := s.ports.port[e]
  !issuesLeft s e && q.tiles.all fun t => q.abortTickets.contains t.ticket || !beforeAbort s q t.ticket

/-- The port sends its ABORT record: it spends a credit and awaits the ACK (R137, R147). The record's 64 bytes are
zeros, the spec giving it no contents (DESIGN CHOICE, assumption 103). -/
def sendAbort (e : Fin 16) (s : State) : State :=
  s.onPort e fun q => { q with abortSent := true, opCred := q.opCred - 1, out := some { kind := 2 } }

/-- An ABORT record is sent (R147). It takes an operand credit (R137); with none it waits for one, and no timer runs
meanwhile, since R145 counts from the record and says nothing of the wait (DESIGN CHOICE, assumption 128). -/
def execAbortRecordSend (port : Fin 16) (s : State) : Host.Outcome State Fault Refusal :=
  let q := portAt s port
  done (onlyIf (unitsOn s && q.st == .agreed && !q.abortTickets.isEmpty && !q.abortSent && q.opCred != 0 && abortReady s port)
    (sendAbort port) s)

/-! ### Presence and failure (R141, R145) -/

/-- An input of a port: Ep_PRESENT or Ep_FAULT_N. -/
inductive PortInput where
  | present
  | fault
  deriving DecidableEq, Repr

/-- Code 0x1F is logged for an input of a port. -/
def Port.chatLogged (q : Port) : PortInput → Bool
  | .present => q.presChat
  | .fault => q.faultChat

/-- Notes whether code 0x1F is logged for an input of a port. -/
def Port.noteChat (q : Port) (i : PortInput) (v : Bool) : Port :=
  match i with
  | .present => { q with presChat := v }
  | .fault => { q with faultChat := v }

/-- An input toggles faster than its filter: logged once with code 0x1F, whenever the main domain and its log run; a
stable level ends the episode (R141). -/
def portChatter (e : Fin 16) (i : PortInput) (chatter : Bool) (s : State) : State :=
  if chatter then
    if (portAt s e).chatLogged i || !mainOn s then s
    else
      report { code := 0x1F, unit := BitVec.ofNat 12 e.val }
        (s.onPort e fun q => { q.noteChat i true with lastCode := 0x1F })
  else s.onPort e fun q => q.noteChat i false

/-- Ep_PRESENT is high: an ABSENT port trains (R141). -/
def presentRise (e : Fin 16) (s : State) : State :=
  let s := s.onPort e fun q => { q with present := true }
  if unitsOn s && (portAt s e).st == .absent then portTrain e s else s

/-- A port in TRAINING becomes ABSENT; the phases that hold it are aborted, and only then code 0x1D is logged: the spec
gives the loss of a port in TRAINING no code of its own (R141, R146; DESIGN CHOICE, assumption 104). -/
def trainingLost (e : Fin 16) (s : State) : State :=
  if (holders s e).isEmpty then portDown e .absent s else portFail e 0x1D .absent 0 s

/-- Ep_PRESENT is low: a port in AGREED is lost with code 0x1D, one in TRAINING becomes ABSENT (R141, R145). -/
def presentFall (e : Fin 16) (s : State) : State :=
  let s := s.onPort e fun q => { q with present := false }
  if !unitsOn s then s
  else
    match (portAt s e).st with
    | .agreed => portFail e 0x1D .absent 0 s
    | .training => trainingLost e s
    | _ => s

/-- Ep_PRESENT goes high; chattering counts as high (R141). -/
def execEpPresentRise (port : Fin 16) (chatter : Bool) (s : State) : Host.Outcome State Fault Refusal :=
  done (onlyIf (aonOn s) (fun s => presentRise port (portChatter port .present chatter s)) s)

/-- Ep_PRESENT goes low; an input that chatters counts as high (R141). -/
def execEpPresentFall (port : Fin 16) (chatter : Bool) (s : State) : Host.Outcome State Fault Refusal :=
  doneSched (onlyIf (aonOn s)
    (fun s =>
      let s := portChatter port .present chatter s
      if chatter then presentRise port s else presentFall port s) s)

/-- The level of Ep_FAULT_N; low, it fails a port in AGREED with code 0x1D (R141, R145). -/
def setFaultN (e : Fin 16) (high : Bool) (s : State) : State :=
  let s := s.onPort e fun q => { q with faultN := high }
  if !high && unitsOn s && (portAt s e).st == .agreed then portViolation e 0x1D 0 s else s

/-- Ep_FAULT_N goes low, or high again; chattering counts as low (R141, R145). -/
def execEpFaultAssert (port : Fin 16) (edge : FaultEdge) (s : State) : Host.Outcome State Fault Refusal :=
  doneSched (onlyIf (aonOn s)
    (fun s => setFaultN port (edge.high && !edge.chatter) (portChatter port .fault edge.chatter s)) s)

/-- TRAIN of PORT_TIMEOUTS. -/
def trainTimer (s : State) : BitVec 21 := field s.ports.timeouts 42 21
/-- STALL of PORT_TIMEOUTS. -/
def stallTimer (s : State) : BitVec 21 := field s.ports.timeouts 21 21
/-- DRAIN of PORT_TIMEOUTS. -/
def drainTimer (s : State) : BitVec 21 := field s.ports.timeouts 0 21

/-- The training timeout expires: code 0x18 (R143). -/
def execTrainingTimeout (port : Fin 16) (s : State) : Host.Outcome State Fault Refusal :=
  done (onlyIf (unitsOn s && (portAt s port).st == .training && trainTimer s != 0) (portViolation port 0x18 0) s)

/-- The port holds an issue for its bent with no operand credit, and its drains are not held back: no beam of its drain
buffer waits to go on (R139, R145). -/
def operandStalled (s : State) (e : Fin 16) : Bool :=
  lacksCredit s e && (portAt s e).buf.isEmpty && s.sched.slot.toList.any fun p =>
    p.st == .issue && p.switched && p.bents.any fun b => bitAt b.ports e.val && issueHeld p b

/-- The operand stall timer expires: code 0x1B; it counts in RUN alone (R145). -/
def execOperandStallTimeout (port : Fin 16) (s : State) : Host.Outcome State Fault Refusal :=
  doneSched (onlyIf
    (s.aon.st == .run && (portAt s port).st == .agreed && stallTimer s != 0 && operandStalled s port)
    (portViolation port 0x1B 0) s)

/-- A tile's drain is incomplete and the engine holds a drain credit (R145). -/
def drainStalled (q : Port) : Bool := q.tiles.any Tile.issued && q.drCred != 0

/-- The drain stall timer expires: code 0x1B; it counts in RUN alone (R145). -/
def execDrainStallTimeout (port : Fin 16) (s : State) : Host.Outcome State Fault Refusal :=
  doneSched (onlyIf
    (s.aon.st == .run && (portAt s port).st == .agreed && drainTimer s != 0 && drainStalled (portAt s port))
    (portViolation port 0x1B 0) s)

/-- No ACK to an ABORT record in time: code 0x1B; the timer counts in RUN, READY and PURGE (R145). -/
def execAbortAckTimeout (port : Fin 16) (s : State) : Host.Outcome State Fault Refusal :=
  doneSched (onlyIf
    ([BlkState.run, .ready, .purge].contains s.aon.st && (portAt s port).abortSent && stallTimer s != 0)
    (portViolation port 0x1B 0) s)

/-! ### Port commands (R141, R148, R149) -/

/-- A port command ends with a code. -/
def portCode (c : BitVec 8) (s : State) : State := s.onPorts fun t => { t with code := c }

/-- A port command is refused with code 0x1E. -/
def portRefuse (e : Fin 16) (s : State) : State :=
  report { code := 0x1E, unit := BitVec.ofNat 12 e.val } ((portCode 0x1E s).onPort e fun q => { q with lastCode := 0x1E })

/-- The 64 BCLK of a RETRAIN or ONLINE begin (R141). -/
def startHold (e : Fin 16) (s : State) : State :=
  (portDown e .reset s).onPort e fun q => { q with holdRst := true }

/-- RETRAIN (R141, R148). On an OFFLINE port it completes with code 0 and changes nothing, as R141 says of ABSENT and
RESET; the spec gives no outcome there (DESIGN CHOICE, assumption 105). -/
def portRetrainOp (e : Fin 16) (s : State) : State :=
  if !(holders s e).isEmpty then portRefuse e s
  else
    let s := portCode 0 s
    match (portAt s e).st with
    | .failed => startHold e s
    | .agreed => startHold e s
    | .training => startHold e s
    | _ => s

/-- ONLINE (R141, R148). -/
def portOnlineOp (e : Fin 16) (s : State) : State :=
  if !(holders s e).isEmpty then portRefuse e s
  else
    let s := portCode 0 s
    if (portAt s e).st == .offline then startHold e s else s

/-- A phase that an OFFLINE port takes with it: logged with code 0x37 (R149). -/
def offlinePhase (n : Fin 4) (s : State) : State :=
  let p := s.sched.slot[n]
  if p.st == .abort then s
  else
    abortPhase n 0x37 .command
      (report { code := 0x37, unit := BitVec.ofNat 12 n.val, pid := some (Rec.phaseId p.rcd), loc := ticketLoc p.ticket 0 } s)

/-- OFFLINE (R149). -/
def portOfflineOp (e : Fin 16) (s : State) : State :=
  let hs := holders s e
  foldOver hs offlinePhase (portDown e .offline (portCode 0 s))

/-- A value of PORT_CMD with a reserved bit or operation. -/
def portReservedWord (v : W64) : Bool := v &&& 0xFFFFFFFFFFFFF0F0 != 0 || 4 ≤ (field v 0 4).toNat

/-- What a write of PORT_CMD does. -/
def portWord (v : W64) (s : State) : State :=
  let e : Fin 16 := (field v 8 4).toFin
  if portReservedWord v then portRefuse e s
  else
    match (field v 0 4).toNat with
    | 0 => portCode 0 s
    | 1 => portRetrainOp e s
    | 2 => portOfflineOp e s
    | _ => portOnlineOp e s

/-- A port command: run with BUSY set after it, or dropped with LOST while BUSY (PORT_CMD_STATUS). -/
def portGate (act : State → State) (s : State) : State :=
  unlessBusy s.ports.busy (fun s => s.onPorts fun t => { t with lost := true })
    (fun s => s.onPorts fun t => { t with busy := true }) act s

/-- A port command through PORT_CMD. -/
def portCmd (src : Src) (act : State → State) (s : State) : State :=
  writeDropping src 0x40010 .host s.ports.busy (portGate act) s

/-- NOP. -/
def execPortCmdNop (src : Src) (_ : Fin 16) (s : State) : Host.Outcome State Fault Refusal :=
  done (portCmd src (portCode 0) s)

/-- RETRAIN (R141). -/
def execPortRetrain (src : Src) (port : Fin 16) (s : State) : Host.Outcome State Fault Refusal :=
  done (portCmd src (portRetrainOp port) s)

/-- OFFLINE (R149). -/
def execPortOffline (src : Src) (port : Fin 16) (s : State) : Host.Outcome State Fault Refusal :=
  doneSched (portCmd src (portOfflineOp port) s)

/-- ONLINE (R141). -/
def execPortOnline (src : Src) (port : Fin 16) (s : State) : Host.Outcome State Fault Refusal :=
  done (portCmd src (portOnlineOp port) s)

/-- A reserved port command: refused with code 0x1E. -/
def execPortCmdReserved (src : Src) (raw : BitVec 64) (s : State) : Host.Outcome State Fault Refusal :=
  done (onlyIf (portReservedWord raw) (portCmd src (portWord raw)) s)

/-- The 64 BCLK of a RETRAIN or ONLINE end (R141). -/
def execPortResetEnd (port : Fin 16) (s : State) : Host.Outcome State Fault Refusal :=
  done (onlyIf (unitsOn s && (portAt s port).holdRst) (portRelease port) s)

/-! ### Registers of the port sub-window -/

/-- The code of a port state (R141). -/
def PortState.code : PortState → BitVec 3
  | .absent => 0 | .reset => 1 | .training => 2 | .agreed => 3 | .failed => 4 | .offline => 5

/-- PORT_STATUS[p]. -/
def portStatus (s : State) (e : Fin 16) : W64 :=
  let q := portAt s e
  (0 : BitVec 16) ++ q.lastCode ++ BitVec.ofNat 8 (holders s e).length ++ BitVec.ofNat 6 q.buf.length ++
    BitVec.ofNat 7 q.opCred ++ (0 : BitVec 7) ++ q.ver ++ q.engMax ++ flagBits 1 q.present ++ q.st.code

/-- The registers at an offset of the port sub-window. -/
def portInfo (off : Nat) : Option RegInfo :=
  match off with
  | 0x00 => some { owner := .both, other := 0x000000FFFFFFFFFF }
  | 0x08 => some { owner := .host, rw := 0x7FFFFFFFFFFFFFFF }
  | 0x10 => some { owner := .host, other := 0xF0F }
  | 0x18 => some { owner := .host, other := 0xFF0003 }
  | _ =>
    if off % 8 != 0 then none
    else if 0x100 ≤ off && off < 0x180 then some { owner := .both, other := 0x0000FFFFFFF80FFF }
    else if 0x200 ≤ off && off < 0x600 then some { owner := .both, other := 0xFFFFFFFFFFFFFFFF }
    else if 0x800 ≤ off && off < 0xC00 then some { owner := .host, rw := 0xFFFFFFFFFFFFFFFF }
    else none

/-- The port whose array of 0x40 bytes holds a local offset. -/
def portIx (off : Nat) : Fin 16 := Fin.ofNat 16 (off / 0x40)

/-- Reads a register of the port sub-window. -/
def portRead (off : Nat) (s : State) : W64 :=
  match off with
  | 0x00 => 0x0000002010020304
  | 0x08 => s.ports.timeouts
  | 0x18 => (0 : BitVec 40) ++ s.ports.code ++ (0 : BitVec 14) ++ flagBits 1 s.ports.lost ++ flagBits 1 s.ports.busy
  | _ =>
    if 0x100 ≤ off && off < 0x180 then portStatus s (Fin.ofNat 16 ((off - 0x100) / 8))
    else if 0x200 ≤ off && off < 0x600 then wordOf (portAt s (portIx (off - 0x200))).cap (off / 8 % 8)
    else if 0x800 ≤ off && off < 0xC00 then (portAt s (portIx (off - 0x800))).count.get 0 (off / 8 % 8)
    else 0

/-- Writes a register of the port sub-window. -/
def portWrite (off : Nat) (v : W64) (s : State) : State :=
  match off with
  | 0x08 => s.onPorts fun t => { t with timeouts := v &&& 0x7FFFFFFFFFFFFFFF }
  | 0x10 => portGate (portWord v) s
  | 0x18 => s.onPorts fun t => { t with lost := t.lost && !bitAt v 1 }
  | _ =>
    if 0x800 ≤ off && off < 0xC00 then
      s.onPort (portIx (off - 0x800)) fun q => { q with count := q.count.set 0 (off / 8 % 8) v }
    else s

end Sys2Proof.Machine
end

