-- ==== Sys2Proof/Machine/ColMath.lean ====
section
/-!
DEFINITION. ColMath.lean: the arithmetic of the collective unit: sums of beams (R277), squares of a completed beam
(R278), the norm and the clip factor (R280).
-/
namespace Sys2Proof.Machine

/-! ### Sums of beams (R277) -/

/-- One element of an FP32 sum: the exact identity where one operand's element is absent; free bits where both are
(assumption 7). -/
def addElem (free a b : Beam) (n : Nat) (r : Beam) : Beam :=
  match elemValid 0 a n, elemValid 0 b n with
  | true, true =>
    setValid 0 (setElem 0 r n (ffFP32.encode .nearest false ((elemVal 0 a n).add (elemVal 0 b n)))) n
  | true, false => setValid 0 (setElem 0 r n (elemBits 0 a n)) n
  | false, true => setValid 0 (setElem 0 r n (elemBits 0 b n)) n
  | false, false => setElem 0 r n (elemBits 0 free n)

/-- One block of an S16 sum, at the scale of R40 of its exact sums. -/
def addBlock (a b : Beam) (j : Nat) (r : Beam) : Beam :=
  let vs := (List.range 32).map fun k => (elemVal 3 a (32 * j + k)).add (elemVal 3 b (32 * j + k))
  let s := s16Scale vs
  setScale 3 (vs.zipIdx.foldl (fun acc p => setElem 3 acc (32 * j + p.2) (s16Elem .nearest s p.1)) r) j s

/-- The sum of two beams in FP32 or S16 (R277). -/
def colAdd (f : BitVec 4) (free a b : Beam) : Beam :=
  if f == 3 then (List.range 8).foldl (fun r j => addBlock a b j r) 0
  else (List.range 128).foldl (fun r n => addElem free a b n r) 0

/-- The sum of the squares of a beam's elements, as the sinter tally sums them (R171, R278). -/
def colSquares (f : BitVec 4) (b : Beam) : W64 :=
  treeSum 8 ((List.range (elemCount f)).map fun n =>
    if elemValid f b n then f64Of ((elemVal f b n).mul (elemVal f b n)) else 0)

/-! ### Square root and division, rounded once (R280) -/

/-- The integer square root, bit by bit from 2^k down. -/
def isqrtGo : Nat → Nat → Nat → Nat
  | 0, _, r => r
  | k + 1, x, r => if (r + 2 ^ k) * (r + 2 ^ k) ≤ x then isqrtGo k x (r + 2 ^ k) else isqrtGo k x r

/-- A number with a bit below it that is set when something is left over, so that one rounding is exact. -/
def sticky (q rest : Nat) : Nat := 2 * q + if rest = 0 then 0 else 1

/-- The square root, exact to far more bits than binary64 holds, the rest in its last bit. -/
def FVal.sqrt : FVal → FVal
  | .fin neg m e =>
    if m = 0 then .fin neg 0 0
    else if neg then .nan
    else
      let sh : Nat := if (e - 200) % 2 = 0 then 200 else 201
      let x := m * 2 ^ sh
      let q := isqrtGo 140 x 0
      .fin false (sticky q (x - q * q)) ((e - sh) / 2 - 1)
  | .inf false => .inf false
  | _ => .nan

/-- The quotient of numbers other than zero, the rest in its last bit; by an infinity it is zero. -/
def FVal.quot (a b : FVal) : FVal :=
  match a, b with
  | .fin n1 m1 e1, .fin n2 m2 e2 =>
    let x := m1 * 2 ^ 160
    .fin (n1 != n2) (sticky (x / m2) (x % m2)) (e1 - e2 - 161)
  | .fin n _ _, .inf k => .fin (n != k) 0 0
  | _, _ => .nan

/-- The norm n of a sum S: its square root in binary64 (R280). -/
def normOf (s : W64) : W64 := f64Of (ffF64.decode s.toNat).sqrt

/-- The clip factor for a sum S and a threshold (R280). -/
def clipFactor (s : W64) (maxNorm : BitVec 32) : BitVec 32 :=
  let n := ffF64.decode (normOf s).toNat
  let t := ffFP32.decode maxNorm.toNat
  if t.below n then BitVec.ofNat 32 (ffFP32.encode .nearest false (t.quot n)) else 0x3F800000

end Sys2Proof.Machine
end

