-- ==== Sys2Proof/Machine/Gov.lean ====
section
/-!
DEFINITION. Gov.lean: the power governor: its evaluation (R284 to R299), the performance-state handshake (R292 to
R294), temperature (R301 to R303), filtered inputs (R302, R306, R307, R311), the start ramp (R304), margin trim (R312)
and its registers.
-/
namespace Sys2Proof.Machine

/-- The governor runs: in every state except OFF, RESET, BOOT and FAULT (R288). -/
def govOn (s : State) : Bool := isLive s || s.aon.st == .purge

/-- Sets bits of GOV_EVENT. -/
def govFlag (bits : BitVec 6) (s : State) : State :=
  let s := s.onGov fun g => { g with event := g.event ||| bits }
  if bits &&& 8 != 0 then alertSet 0x10 s else s

/-! ### Estimates (R284, R285) -/

/-- The sub-periods of the period that an evaluation closes, newest first, of what a unit counted in them; where fewer
than eight have closed, the open one and empty ones make up eight (R285, assumption 21). -/
def periodOf (s : State) (cur : SMap Nat) (subs : List (SMap Nat)) : List (SMap Nat) :=
  if s.gov.subs.length < 8 then cur :: subs ++ List.replicate (7 - s.gov.subs.length) [] else subs

/-- Sub-periods, the first of them at a place in the period counted from the newest, with the engines' activity in the
newest eight, which is reported oldest first (R284). -/
def withAct (act : Nat → Nat) (first : Int) (subs : List (SMap Nat)) : List (SMap Nat) :=
  subs.zipIdx.map fun q =>
    let i := first + (q.2 : Int)
    if 0 ≤ i && i < 8 then SMap.set 0 q.1 5 (act (7 - i.toNat)) else q.1

/-- The period closes: its sub-periods join the windows (R285). -/
def closePeriod (act : Nat → Nat) (s : State) : State :=
  s.onGov fun g =>
    { g with hist := (withAct act 0 (periodOf s g.cur g.subs) ++ g.hist).take 14400, subs := []
             cur := if g.subs.length < 8 then [] else g.cur }

/-- Charge of rail r in some sub-periods, in quarters of a pC. -/
def subsCharge (s : State) (r : Nat) (l : List (SMap Nat)) : Nat :=
  l.foldl (fun acc sub => acc + railCharge s r fun e => sub.get 0 e) 0

/-- Charge of rail r in the newest n sub-periods, in quarters of a pC. -/
def windowCharge (s : State) (r n : Nat) : Nat := subsCharge s r (s.gov.hist.take n)

/-- The greatest k + j with j below 2^n whose d-th power is at most x. -/
def rootBits (d x : Nat) : Nat → Nat → Nat
  | 0, k => k
  | n + 1, k => rootBits d x n (if (k + 2 ^ n) ^ d ≤ x then k + 2 ^ n else k)

/-- 2 to the power m over d, below 2: exact to 60 binary places, what lies behind them open (R285, assumption 11). -/
def rootOfTwo (m d : Nat) : Rat :=
  ((rootBits d (2 ^ (m + 60 * d)) 61 0 : Nat) + max 0 (min 1 (Config.pow2Frac ((m : Rat) / d)))) / ((2 ^ 60 : Nat) : Rat)

/-- 2 to the power t over d (R285). -/
def doubling (t : Int) (d : Nat) : Rat :=
  if d = 0 then max 0 (Config.doublingOpen t)
  else
    let q := t / (d : Int)
    let m := (t % (d : Int)).toNat
    let whole : Rat := if 0 ≤ q then ((2 ^ q.toNat : Nat) : Rat) else 1 / ((2 ^ (-q).toNat : Nat) : Rat)
    if m = 0 then whole else whole * rootOfTwo m d

/-- The static current of rail r in A (R285). -/
def staticAmps (s : State) (r : Nat) : Rat :=
  ((s.gov.static.extractLsb' (12 * r) 12).toNat : Rat) / 16 * doubling (s.gov.tHot - 85) (field s.gov.model 56 8).toNat

/-- The estimated current of rail r over n sub-periods, in A (R285). -/
def estAmps (s : State) (r n : Nat) : Rat :=
  staticAmps s r + (windowCharge s r n : Rat) / 4 / 1000000000000 * voltRatio s r * modelHz s / (8 * n : Nat)

/-- Sub-periods of window w (R286). -/
def winSubs (w : Nat) : Nat := if w = 0 then 225 else if w = 1 then 1800 else 14400

/-- Hold of window w in periods (R286). -/
def winHold (w : Nat) : Nat := if w = 0 then 29 else if w = 1 then 225 else 1800

/-- Interval between increases of window w in periods (R286). -/
def winStep (w : Nat) : Nat := if w = 0 then 4 else if w = 1 then 32 else 256

/-- STEP_UP; 0 acts as 1 (R287). -/
def stepUp (s : State) : Nat := max 1 (field (govFloorWord s) 24 7).toNat

/-- A limiter after a decrease (R287). -/
def lowered (g : Nat) (lim est static : Rat) : Nat :=
  min 64 (if est = static then Config.limiterOpen g else floorNat ((g : Rat) * max 0 (lim - static) / (est - static)))

/-- One evaluation of a limiter (R287). -/
def limStep (up hold int_ : Nat) (lim est static : Rat) (g : Limiter) : Limiter :=
  let h := g.hold - 1
  let w := g.wait + 1
  if lim < est ∧ h = 0 then { g := BitVec.ofNat 7 (lowered g.g.toNat lim est static), hold := hold, wait := w }
  else if est < lim * 63 / 64 ∧ h = 0 ∧ int_ ≤ w then
    { g := BitVec.ofNat 7 (min 64 (g.g.toNat + up)), hold := 0, wait := 0 }
  else { g with hold := h, wait := w }

/-- Evaluates limiter G[r][w]; a limit of 0 is disabled and its limiter stands at 64 (R286, R287). -/
def limEval (r w : Nat) (s : State) : State :=
  let est := estAmps s r (winSubs w)
  let lim := ((s.cfg.active.govLim.get 0 r).extractLsb' (12 * w) 12).toNat
  s.onGov fun g =>
    { g with est := g.est.set 0 (3 * r + w) (satNat 20 (floorNat (16 * est)))
             lim := vmod g.lim (Fin.ofNat 9 (3 * r + w)) fun l =>
               if lim = 0 then {} else limStep (stepUp s) (winHold w) (winStep w) lim est (staticAmps s r) l }

/-- LIM of a rail: the least of its windows (R287). -/
def railLim (s : State) (r : Nat) : Nat :=
  ((List.range 3).map fun w => s.gov.lim[Fin.ofNat 9 (3 * r + w)].g.toNat).foldl min 64

/-- Power at given currents of the three rails, in W (R285). -/
def powerOf (s : State) (amps : Nat → Rat) : Rat :=
  ((List.range 3).map fun r => amps r * (modelMv s r : Rat) / 1000).foldl (· + ·) 0

/-- P (R285). -/
def powerNow (s : State) : Rat := powerOf s fun r => estAmps s r 1800

/-- P_static (R285). -/
def powerStatic (s : State) : Rat := powerOf s (staticAmps s)

/-- CAP_EFF in 1/8 W (R295). -/
def capEff (s : State) : Nat :=
  let cap := (field (govCapWord s) 0 16).toNat
  let w0 := profNow s 0
  let c := if cap != 0 then cap else (field w0 0 16).toNat
  min (max ((c : Int) + s.gov.shift.toInt).toNat (field w0 16 16).toNat) (field w0 32 16).toNat

/-- Evaluates the cap limiter K on window 1 (R297). -/
def capEval (s : State) : State :=
  let lim : Rat := (capEff s : Rat) / 8
  s.onGov fun g => { g with k := limStep (stepUp s) (winHold 1) (winStep 1) lim (powerNow s) (powerStatic s) g.k }

/-! ### Shares (R298, R299) -/

/-- The issue-driven budget A in W (R298). -/
def budgetWatts (s : State) : Rat := max 0 ((s.gov.k.g.toNat : Rat) / 64 * ((capEff s : Rat) / 8 - powerStatic s))

/-- The water-fill: demands in ascending order served from what is left, giving each key its share (R298). -/
def waterFill (left : Rat) : List (Nat × Nat) → List (Nat × Nat)
  | [] => []
  | (key, d) :: rest =>
    let b := min ((d : Rat) / 8) (left / (rest.length + 1 : Nat))
    (key, if d = 0 then 64 else min 64 (floorNat (64 * b / ((d : Rat) / 8)))) :: waterFill (left - b) rest

/-- Demands in ascending order, ties by key. -/
def demandOrder (l : List (Nat × Nat)) : List (Nat × Nat) :=
  sortBy (fun a b => a.2 < b.2 || (a.2 = b.2 && a.1 < b.1)) l

/-- The share of a key. -/
def shareOf (l : List (Nat × Nat)) (key : Nat) : Nat := ((l.find? fun p => p.1 = key).map Prod.snd).getD 64

/-- The phases in ISSUE with their demands, by slot. -/
def runDemands (s : State) : List (Nat × Nat) :=
  ((List.finRange 4).filter fun n => s.sched.slot[n].st == .issue).map fun n => (n.val, runDemand s s.sched.slot[n].rcd)

/-- The records whose HEAVY hint counts, by slot, the head of the queue as number 4, with their tickets (R299). -/
def liveHints (s : State) : List (Nat × BitVec 32 × Rec) :=
  let slots := ((List.finRange 4).filter fun n =>
    [SlotState.check, .wait, .hold].contains s.sched.slot[n].st).map fun n =>
      (n.val, s.sched.slot[n].ticket, s.sched.slot[n].rcd)
  let head := (s.sched.queue.head?.toList).map fun q => (4, q.ticket, q.rcd)
  (slots ++ head).filter fun h => hintHeavy (Rec.hint h.2.2) && !s.gov.hintDead.contains h.2.1

/-- The cap shares without and with the hinted phases. -/
def capShares (s : State) : List (Nat × Nat) × List (Nat × Nat) :=
  let run := runDemands s
  let hinted := (liveHints s).map fun h => (h.1, hintedDemand s h.2.2)
  (waterFill (budgetWatts s) (demandOrder run), waterFill (budgetWatts s) (demandOrder (run ++ hinted)))

/-! ### Ceilings (R290, R302) -/

/-- The THERM component of a bent with some ports (R290, R302). -/
def thermCeil (s : State) (id : Nat) (ports : BitVec 16) : Nat :=
  (List.range 8).foldl (fun m i =>
    let c := s.gov.thermin.get 0 i
    if bitAt s.aon.thermIn i && (field c 16 16 &&& ports != 0 || (id = 16 && bitAt c 32)) then min m (field c 0 7).toNat
    else m) s.gov.gT.toNat

/-- The ports of a bent: those of the phase that issues on it, else its own. -/
def bentPorts (s : State) (id : Nat) : BitVec 16 :=
  match activeSlot s id with
  | some n => ((s.sched.slot[n].bents.find? fun b => b.id = id).map Bent.ports).getD 0
  | none => if id < 16 then (1 : BitVec 16) <<< id else 0

/-- The least component of a bent that an evaluation computes, and the bent's share (R290). -/
def evalBent (s : State) (shares : List (Nat × Nat) × List (Nat × Nat)) (id : Nat) (g : GovBent) : GovBent :=
  let key : Nat := ((activeSlot s id).map Fin.val).getD 5
  let cap := shareOf shares.1 key
  let hint := shareOf shares.2 key
  let t := leastCeil
    [(thermCeil s id (bentPorts s id), 4), (railLim s 0, 0), (railLim s 1, 1), (railLim s 2, 2), (cap, 3),
      (if hint < cap then hint else 64, 6), (s.gov.ext.toNat, 7)]
  { g with target := BitVec.ofNat 7 t.1, tsource := t.2, share := BitVec.ofNat 7 cap }

/-- Every bent's components (R290). -/
def evalCeilings (s : State) : State :=
  let sh := capShares s
  slewCeilings (s.onGov fun g =>
    { g with bent := (List.finRange 17).foldl (fun v i => vmod v i (evalBent s sh i.val)) g.bent })

/-! ### Energy of phases (R296) -/

/-- The activity of some ports in each sub-period. -/
def actSum (s : State) (act : List (List Nat)) (ports : BitVec 16) (i : Nat) : Nat :=
  ((portsOf ports).map fun e =>
    if s.ports.port[e].st == .agreed then (act.getD e.val []).getD i 0 else 0).foldl (· + ·) 0

/-- Steps of the slowest bent since the last evaluation. -/
def newSteps (p : PSlot) : Nat := p.slowest - p.stepMark

/-- The phases that take part in a period's energy: those that run, and those that are being aborted and had begun, whose
steps of the period count among all phases' (R296). -/
def runPhases (s : State) : List (Fin 4) :=
  (List.finRange 4).filter fun n =>
    s.sched.slot[n].begun || (s.sched.slot[n].st == .abort && !s.sched.slot[n].bents.isEmpty)

/-- Steps of all phases in the period, of those that have left their slots in it too (R296). -/
def periodSteps (s : State) : Nat :=
  ((runPhases s).map fun n => newSteps s.sched.slot[n]).sum + (s.gov.past.map PastPhase.newSteps).sum

/-- A phase's share of the period's VFAB and VSRM dynamic energy, by its steps (R296). -/
def stepShare (s : State) (n : Nat) : Rat :=
  let subs := periodOf s s.gov.cur s.gov.subs
  if periodSteps s = 0 then 0
  else (railEnergy s 1 (subsCharge s 1 subs) + railEnergy s 2 (subsCharge s 2 subs)) * (n : Rat) / (periodSteps s : Rat)

/-- The energy of the VENG events in some sub-periods of a phase's ports (R284, R296). -/
def engEnergy (s : State) (act : List (List Nat)) (ports : BitVec 16) (first : Int) (l : List (SMap Nat)) : Rat :=
  railEnergy s 0 (subsCharge s 0 (withAct (actSum s act ports) first l))

/-- The period's energy of the phase in a slot is attributed to it; `was` is the state before any phase's (R296). -/
def chargePhase (was : State) (act : List (List Nat)) (n : Fin 4) (s : State) : State :=
  s.onSlot n fun p =>
    { p with
      stepMark := p.slowest, vsubs := [], veng := if was.gov.subs.length < 8 then [] else p.veng
      energy := p.energy + stepShare was (newSteps p) +
        engEnergy was act (Rec.ports p.rcd) 0 (periodOf was p.veng p.vsubs) }

/-- The whole energy of a phase that left its slot in the period (R296). -/
def pastEnergy (s : State) (act : List (List Nat)) (p : PastPhase) : Rat :=
  let first : Int := (max 8 s.gov.subs.length : Nat) - 1 - p.closed
  p.energy + stepShare s p.newSteps + engEnergy s act p.ports first (p.veng :: p.vsubs)

/-- The demand entry of a phase that finished, from its energy and steps (R296). -/
def learnPast (was : State) (act : List (List Nat)) (p : PastPhase) (s : State) : State :=
  let meas := floorNat (8 * pastEnergy was act p / 1000000000000 * modelHz was / p.steps)
  let e := demandEntry s p.pid
  let old := (field e 0 16).toNat
  let d : Nat := if bitAt e 16 then ((old : Int) + ((meas : Int) - old) / 4).toNat else meas
  s.onGov fun g => { g with demand := g.demand.set 0 p.pid.toNat ((1 : BitVec 1) ++ satNat 16 d) }

/-- Attributes a period's energy to the phases, and those that finished in it update their demand entries (R296;
assumption 21). -/
def shareEnergy (act : List (List Nat)) (s : State) : State :=
  let t := foldOver (s.gov.past.filter PastPhase.learns) (learnPast s act) (foldOver (runPhases s) (chargePhase s act) s)
  t.onGov fun g => { g with past := [] }

/-! ### Performance states (R292 to R294) -/

/-- The entries among which the request is chosen (R292, R310). -/
def opCandidates (s : State) : List Nat :=
  if s.aon.st == .ember || s.aon.qState == .latched then [(field s.gov.ctl 28 4).toNat]
  else
    let run := ((List.finRange 4).filter fun n =>
      s.sched.slot[n].st == .hold || s.sched.slot[n].st == .issue).map fun n => phaseOp s s.sched.slot[n].rcd
    let head := if bitAt s.gov.ctl 2 then s.sched.queue.head?.toList.map fun q => phaseOp s q.rcd else []
    if (run ++ head).isEmpty then [(field s.gov.ctl 24 4).toNat] else run ++ head

/-- The entry requested: that of the largest PSTATE, the first among equals (R292). -/
def wantedOp (s : State) : Nat :=
  (leastBy (opCandidates s) fun n => 15 - (optPstate s n).toNat).getD 0

/-- The entry PERF_REQ holds in fixed-frequency mode: FIXED_OP; while the quench is latched EMBER_OP, as R310 has it of
every mode where R294 says "whatever any phase names" (assumption 118). -/
def fixedReq (s : State) : Nat :=
  (if s.aon.qState == .latched then field s.gov.ctl 28 4 else field s.gov.ctl 20 4).toNat

/-- The governor brings PERF_REQ to the wanted state: at once in fixed-frequency mode, else by a handshake when none is
in progress and PERF_ACK is high (R293, R294). -/
def perfUpdate (s : State) : State :=
  if fixedMode s then
    (s.onGov fun g => { g with modelOp := field g.ctl 20 4, perfBusy := false, perfFell := false, perfLate := false }).onAon
      fun a => { a with perfReq := optPstate s (fixedReq s) }
  else if s.gov.perfBusy || !s.aon.perfAck then s
  else
    let n := wantedOp s
    let s := s.onGov fun g =>
      { g with oldOp := g.modelOp, modelOp := BitVec.ofNat 4 n, perfBusy := optPstate s n != s.aon.perfReq
               perfFell := false, perfLate := false }
    s.onAon fun a => { a with perfReq := optPstate s n }

/-! ### The evaluation (R288) -/

/-- GOV_POWER after an evaluation. -/
def powerWord (s : State) : W64 :=
  let w (x : Rat) : BitVec 16 := satNat 16 (floorNat (8 * x))
  satNat 16 (capEff s) ++ w (powerNow s) ++ w (powerStatic s) ++ w (budgetWatts s)

/-- One evaluation (R288): the values of a raise since the last come into force (R364). -/
def evaluate (act : List (List Nat)) (s : State) : State :=
  let sub (i : Nat) : Nat := actSum s act 0xFFFF i
  let s := shareEnergy act (s.onGov fun g => { g with held := none })
  let s := s.onGov fun g =>
    { g with act := g.act.modify 0 5 (satAdd · (((List.range 8).map sub).foldl (· + ·) 0)) }
  let s := closePeriod sub s
  let s := foldUpTo 9 (fun i s => limEval (i / 3) (i % 3) s) s
  let s := evalCeilings (capEval s)
  perfUpdate (s.onGov fun g => { g with power := powerWord s })

/-- GOVERNOR_EVALUATION (R288). -/
def execGovernorEvaluation (act : List (List Nat)) (s : State) : Host.Outcome State Fault Refusal :=
  doneGov (onlyIf (govOn s) (evaluate act) s)

/-! ### Filtered inputs (R311) -/

/-- An input chatters: code 0x77, once per episode, while the main domain can log it (R311). -/
def noteChatter (key : Nat) (level : Bool) (s : State) : State :=
  if s.aon.inChat.get false key then s
  else
    let s := s.onAon fun a => { a with inChat := a.inChat.set false key true }
    if mainOn s then report { code := 0x77, unit := BitVec.ofNat 12 key, loc := flagBits 64 level } s else s

/-- An input is stable and deasserted: its chattering episode ends (R311). -/
def endChatter (key : Nat) (s : State) : State :=
  s.onAon fun a => { a with inChat := a.inChat.set false key false }

/-- An input asserts, with or without chattering. -/
def inputAssert (key : Nat) (level chatter : Bool) (act : State → State) (s : State) : State :=
  act (if chatter then noteChatter key level s else s)

/-- An input deasserts: while it chatters it stays asserted (R311). -/
def inputRelease (key : Nat) (level chatter : Bool) (hold act : State → State) (s : State) : State :=
  if chatter then hold (noteChatter key level s) else act (endChatter key s)

/-- The number of each input in UNIT: THERM_IN[i] i, DROOP_N 8, QUENCH_N 9, PERF_ACK 10. -/
def droopKey : Nat := 8
/-- QUENCH_N. -/
def quenchKey : Nat := 9
/-- PERF_ACK. -/
def perfKey : Nat := 10

/-! ### PERF_ACK (R293) -/

/-- Filtered PERF_ACK falls. -/
def perfFall (s : State) : State :=
  (s.onAon fun a => { a with perfAck := false }).onGov fun g => { g with perfFell := g.perfFell || g.perfBusy }

/-- Filtered PERF_ACK rises: a handshake it has fallen in is complete, and the next may begin (R293). -/
def perfRise (s : State) : State :=
  let s := s.onAon fun a => { a with perfAck := true }
  let s := if s.gov.perfFell then s.onGov fun g => { g with perfBusy := false, perfFell := false, perfLate := false } else s
  if govOn s then perfUpdate s else s

/-- PERF_ACK_FALL. -/
def execPerfAckFall (chatter : Bool) (s : State) : Host.Outcome State Fault Refusal :=
  done (onlyIf (aonOn s) (inputAssert perfKey false chatter perfFall) s)

/-- PERF_ACK_RISE. -/
def execPerfAckRise (chatter : Bool) (s : State) : Host.Outcome State Fault Refusal :=
  done (onlyIf (aonOn s) (inputRelease perfKey false chatter perfFall perfRise) s)

/-- Code 0x76, with the input's level (R370). -/
def perfLateLog (level : Bool) (s : State) : State :=
  govFlag 0x10 (report { code := 0x76, unit := BitVec.ofNat 12 perfKey, loc := flagBits 64 level } s)

/-- PERF_ACK has not fallen within 10 µs: code 0x76, the handshake is taken as complete (R293). -/
def execPerfAckFallTimeout (s : State) : Host.Outcome State Fault Refusal :=
  done (onlyIf (govOn s && s.gov.perfBusy && !s.gov.perfFell)
    (fun s => perfUpdate (perfLateLog true (s.onGov fun g => { g with perfBusy := false }))) s)

/-- PERF_ACK has not risen within 1 ms: code 0x76, model and request are held until it rises (R293). -/
def execPerfAckRiseTimeout (s : State) : Host.Outcome State Fault Refusal :=
  done (onlyIf (govOn s && s.gov.perfBusy && s.gov.perfFell && !s.gov.perfLate)
    (fun s => perfLateLog false (s.onGov fun g => { g with perfLate := true })) s)

/-! ### Temperature (R301 to R303) -/

/-- The junction limit of sensor i (R303). -/
def junction (i : Nat) : Int := if i = 0 then 105 else 95

/-- The threshold of sensor i: the profile's, no higher than the junction limit (R300, R303). -/
def threshold (s : State) (i : Nat) : Int :=
  min (junction i) (if i = 0 then (field (profNow s 1) 16 8).toNat else (field (profNow s 1) 24 8).toNat : Nat)

/-- A reading that counts: in range (R301). -/
def validReading (t : Option Int) : Option Int := t.filter fun v => -40 ≤ v && v ≤ 150

/-- What sensor i counts as: its reading, or its junction limit while invalid (R301). -/
def countsAs (i : Nat) (t : Option Int) : Int := (validReading t).getD (junction i)

/-- The first sensor with a property. -/
def sensorWith (ts : List (Option Int)) (p : Nat → Int → Bool) : Option (Nat × Int) :=
  ((ts.zipIdx.map fun q => (q.2, countsAs q.2 q.1)).find? fun q => p q.1 q.2)

/-- The report of a sensor's code (R370). -/
def sensorReport (code : BitVec 8) (i : Nat) (v : Int) : Report :=
  { code := code, unit := BitVec.ofNat 12 i, loc := (BitVec.ofInt 16 v).setWidth 64 }

/-- The thermal limiter at a refresh (R303). -/
def thermalStep (ts : List (Option Int)) (s : State) : State :=
  match sensorWith ts (fun i v => junction i + 10 ≤ v), sensorWith ts (fun i v => junction i ≤ v),
    sensorWith ts (fun i v => threshold s i ≤ v) with
  | some (i, v), _, _ => fatal (sensorReport 0x73 i v) s
  | none, some (i, v), _ =>
    let t := s.onGov fun g => { g with gT := 0, hot72 := true }
    if s.gov.hot72 then t else govFlag 0x08 (report (sensorReport 0x72 i v) t)
  | none, none, some (i, v) =>
    let t := s.onGov fun g => { g with gT := BitVec.ofNat 7 (g.gT.toNat - 4), hot71 := true, hot72 := false }
    if s.gov.hot71 then t else govFlag 0x08 (report (sensorReport 0x71 i v) t)
  | none, none, none =>
    let cool := (ts.zipIdx.all fun q => countsAs q.2 q.1 + 3 ≤ threshold s q.2)
    s.onGov fun g => { g with gT := if cool && g.gT.toNat < 64 then g.gT + 1 else g.gT, hot71 := false, hot72 := false }

/-- The readings of a refresh; with no valid reading T_hot is open (R301). -/
def takeReadings (ts : List (Option Int)) (s : State) : State :=
  let valid := ts.zipIdx.filterMap fun q => (validReading q.1).map fun v => (q.2, v)
  let mask := valid.foldl (fun (m : BitVec 4) q => m ||| ((1 : BitVec 4) <<< q.1)) 0
  let fr := takeFree 8 s
  let hot : Int := match valid.map Prod.snd with
    | [] => fr.1.toInt
    | v :: vs => vs.foldl max v
  (if valid.isEmpty then fr.2 else s).onGov fun g =>
    { g with tempValid := mask, tHot := hot, temp := valid.foldl (fun m q => m.set 0 q.1 q.2) g.temp }

/-- The invalid sensors are logged with code 0x7B (R301). -/
def logInvalid (ts : List (Option Int)) (s : State) : State :=
  foldOver (ts.zipIdx.filter fun q => (validReading q.1).isNone)
    (fun q s => govFlag 0x08 (report (sensorReport 0x7B q.2 (q.1.getD 0)) s)) s

/-- An integer as a signed byte that saturates (R301). -/
def tempByte (v : Int) : BitVec 8 := BitVec.ofInt 8 (max (-128) (min 127 v))

/-- Sensor or monitor i comes to read v, in every state of the block (R407); none: a failed sensor's reading, which is
open (assumption 150). -/
def sense (i : Nat) (v : Option (BitVec 8)) (s : State) : State :=
  s.onAon fun a => { a with sensed := a.sensed.set 0 i ((v.map fun b => (1 : BitVec 1) ++ b).getD 0) }

/-- SENSOR_REFRESH: the four sensors come to read these; the governor takes their readings where it works (R301, R303,
R407). -/
def execSensorRefresh (t0 t1 t2 t3 : Option Int) (s : State) : Host.Outcome State Fault Refusal :=
  let ts := [t0, t1, t2, t3]
  let s := foldOver ts.zipIdx (fun q s => sense q.2 (q.1.map tempByte) s) s
  done (onlyIf (govOn s) (fun s => thermalStep ts (logInvalid ts (takeReadings ts s))) s)

/-- THERM_IN[i] takes a level. -/
def setTherm (i : Fin 8) (v : Bool) (s : State) : State := s.onAon fun a => { a with thermIn := (
  let m := (1 : BitVec 8) <<< i.val
  if v then a.thermIn ||| m else a.thermIn &&& ~~~m) }

/-- THERM_IN_ASSERT (R302). -/
def execThermInAssert (i : Fin 8) (chatter : Bool) (s : State) : Host.Outcome State Fault Refusal :=
  done (onlyIf (aonOn s) (inputAssert i.val true chatter (setTherm i true)) s)

/-- THERM_IN_RELEASE (R302, R311). -/
def execThermInRelease (i : Fin 8) (chatter : Bool) (s : State) : Host.Outcome State Fault Refusal :=
  done (onlyIf (aonOn s) (inputRelease i.val true chatter (setTherm i true) (setTherm i false)) s)

/-! ### Droop (R306, R307) -/

/-- DROOP_N is low: every bent's DROOP component is the floor, every accumulator is cleared, GOV_EVENT.DROOP is set
when it begins (R306); in FAULT the governor has stopped (R376). -/
def droopBegin (s : State) : State :=
  if s.aon.droopN then
    let s := s.onAon fun a => { a with droopN := false }
    if unitsOn s then lowerCeilings (clearAccs (govFlag 0x04 s)) else s
  else s

/-- DROOP_ASSERT (R306). -/
def execDroopAssert (chatter : Bool) (s : State) : Host.Outcome State Fault Refusal :=
  doneGov (onlyIf (aonOn s) (inputAssert droopKey false chatter droopBegin) s)

/-- DROOP_RELEASE: filtered DROOP_N is high again; the ceilings recover at UPSLEW (R307). -/
def execDroopRelease (chatter : Bool) (s : State) : Host.Outcome State Fault Refusal :=
  doneGov (onlyIf (aonOn s)
    (inputRelease droopKey false chatter droopBegin fun s => s.onAon fun a => { a with droopN := true }) s)

/-- An input has been asserted for 1 ms: code 0x7A (R307, R311). -/
def stuckLog (which : Fin 9) (s : State) : State :=
  report { code := 0x7A, unit := BitVec.ofNat 12 which.val, loc := flagBits 64 (decide (which.val < 8)) } s

/-- INPUT_STUCK_TIMEOUT (R311). -/
def execInputStuckTimeout (which : Fin 9) (s : State) : Host.Outcome State Fault Refusal :=
  done (onlyIf (mainOn s && (if which.val < 8 then bitAt s.aon.thermIn which.val else !s.aon.droopN))
    (stuckLog which) s)

/-! ### Simmer ramp and stagger (R304) -/

/-- No bent has been admitted an issue for COLD BCLK (R304). -/
def execInstanceCold (s : State) : Host.Outcome State Fault Refusal :=
  doneGov (onlyIf (govOn s && !s.gov.cold && !s.gov.stagger) (fun s => s.onGov fun g => { g with cold := true }) s)

/-- The start stagger ends and the ramp begins (R304). -/
def endStagger (s : State) : State :=
  s.onGov fun g => { g with stagger := false, ramping := simmer s != 0 && rampStart s < 64, rampT := 0 }

/-- STAGGER_END (R304). -/
def execStaggerEnd (s : State) : Host.Outcome State Fault Refusal :=
  doneGov (onlyIf (govOn s && s.gov.stagger) endStagger s)

/-- The ramp advances by 16 BCLK and ends on reaching 64 (R304). -/
def advanceRamp (s : State) : State :=
  let t := s.gov.rampT + 16
  s.onGov fun g => { g with rampT := t, ramping := rampAt s t < 64 }

/-- RAMP_STEP (R304). -/
def execRampStep (s : State) : Host.Outcome State Fault Refusal :=
  doneGov (onlyIf (govOn s && s.gov.ramping) advanceRamp s)

/-! ### Hints (R299) -/

/-- The oldest hint that counts is dropped from the water-fill; tickets no longer waiting are forgotten (R299). -/
def dropHint (s : State) : State :=
  let live := liveHints s
  match leastBy live fun h => (h.2.1 - s.sched.nextTicket).toNat with
  | none => s
  | some h =>
    let here := (s.sched.slot.toList.filter fun p => p.st != .free).map PSlot.ticket ++ s.sched.queue.map QRec.ticket
    s.onGov fun g => { g with hintDead := (g.hintDead.filter here.contains) ++ [h.2.1] }

/-- HINT_EXPIRY (R299). -/
def execHintExpiry (s : State) : Host.Outcome State Fault Refusal := done (onlyIf (govOn s) dropHint s)

/-! ### Margin trim (R312) -/

/-- The report of a monitor's code (R370). -/
def monitorReport (code : BitVec 8) (i : Nat) (slack : BitVec 6) : Report :=
  { code := code, unit := BitVec.ofNat 12 i, loc := slack.setWidth 64 }

/-- OFFSET changes by one step, within TRIM_MIN to TRIM_MAX; a clipped change is logged with code 0x75 (R312). -/
def moveOffset (up : Bool) (i : Nat) (slack : BitVec 6) (s : State) : State :=
  let v := s.gov.offset.toInt + if up then 1 else -1
  let clipped := if up then (field s.gov.trim 24 5).toInt < v else v < (field s.gov.trim 16 5).toInt
  if clipped then report (monitorReport 0x75 i slack) s else s.onGov fun g => { g with offset := BitVec.ofInt 5 v }

/-- Monitor i reports its slack. -/
def setSlack (i : Nat) (v : BitVec 6) (s : State) : State :=
  s.onGov fun g =>
    { g with slack := g.slack.set 0x3F i v
             slackMin := if v.toNat < (g.slackMin.get 0x3F i).toNat then g.slackMin.set 0x3F i v else g.slackMin }

/-- Monitor i reads zero: OFFSET rises at once, the droop floor is imposed, code 0x74 (R312). -/
def zeroSlack (i : Nat) (s : State) : State :=
  if s.gov.slack.get 0x3F i == 0 then s
  else lowerCeilings (moveOffset true i 0 (report (monitorReport 0x74 i 0) (setSlack i 0 s)))

/-- Monitor i reports a slack: 0 begins an episode, another value ends it, and the ceilings recover at UPSLEW (R290,
R312). -/
def monitorReads (i : Nat) (v : BitVec 6) (s : State) : State := if v == 0 then zeroSlack i s else setSlack i v s

/-- A path monitor comes to read a slack (R312, R407). -/
def senseSlack (i : Nat) (v : BitVec 6) (s : State) : State := sense (4 + i) (some (v.setWidth 8)) s

/-- PATH_MONITOR_ZERO: monitor i comes to read 0, or another value that ends the episode; at any time, in BOOT
too (R312). -/
def execPathMonitorZero (reading : SlackReading) (s : State) : Host.Outcome State Fault Refusal :=
  let i := reading.monitor.val
  doneGov (onlyIf (unitsOn s) (monitorReads i reading.slack) (senseSlack i reading.slack s))

/-- The monitor with the lowest slack, the first among equals. -/
def lowestMonitor (s : State) : Nat := (leastBy (List.range 16) fun i => (s.gov.slack.get 0x3F i).toNat).getD 0

/-- The lowest slack meets the guard band (R312). -/
def trimStep (s : State) : State :=
  let i := lowestMonitor s
  let m := s.gov.slack.get 0x3F i
  if m.toNat < (field s.gov.trim 32 6).toNat then moveOffset true i m (s.onGov fun g => { g with trimHigh := 0 })
  else if (field s.gov.trim 40 6).toNat < m.toNat then
    if s.gov.trimHigh = 15 then moveOffset false i m (s.onGov fun g => { g with trimHigh := 0 })
    else s.onGov fun g => { g with trimHigh := g.trimHigh + 1 }
  else s.onGov fun g => { g with trimHigh := 0 }

/-- The monitors' slacks arrive, and the trim is evaluated (R312). -/
def trimAll (slacks : List (BitVec 6)) (s : State) : State :=
  trimStep (foldOver (slacks.take 16).zipIdx (fun p s => monitorReads p.2 p.1 s) s)

/-- TRIM_EVALUATION (R312). -/
def execTrimEvaluation (slacks : List (BitVec 6)) (s : State) : Host.Outcome State Fault Refusal :=
  let s := foldOver (slacks.take 16).zipIdx (fun p s => senseSlack p.2 p.1 s) s
  doneGov (onlyIf (s.aon.st == .ready || s.aon.st == .run || s.aon.st == .pause) (trimAll slacks) s)

/-! ### Registers -/

/-- The code of GOV_STATUS.QSTATE and GOV_QUENCH.STATE. -/
def QState.code : QState → BitVec 2
  | .clear => 0 | .ramp => 1 | .latched => 2

/-- GOV_STATUS. -/
def govStatus (s : State) : W64 :=
  let g := s.gov
  (0 : BitVec 8) ++ tempByte g.tHot ++ (0 : BitVec 8) ++ s.aon.perfReq ++ flagBits 1 s.aon.perfAck ++
    flagBits 1 g.perfBusy ++ s.aon.qState.code ++ (0 : BitVec 7) ++ flagBits 1 (!s.aon.droopN) ++
    flagBits 1 g.ramping ++ flagBits 1 g.stagger ++ flagBits 1 g.cold ++ flagBits 1 (fixedMode s) ++ g.modelOp ++
    (0 : BitVec 9) ++ g.k.g

/-- GOV_BENT. -/
def govBentWord (s : State) (id : Nat) : W64 :=
  let a := activeSlot s id
  let v := appliedOf s id
  (0 : BitVec 24) ++ ((a.map fun n => Rec.phaseId s.sched.slot[n].rcd).getD 0) ++ (0 : BitVec 4) ++ v.2 ++
    (0 : BitVec 1) ++ s.gov.bent[govIx id].share ++ flagBits 1 a.isSome ++ (0 : BitVec 8) ++ BitVec.ofNat 7 v.1

/-- GOV_QUENCH. -/
def quenchWord (s : State) : W64 :=
  (0 : BitVec 29) ++ flagBits 1 s.aon.qChat ++ s.aon.qState.code ++ s.aon.qLatches ++ (0 : BitVec 3) ++ s.aon.qQuiet

/-- The registers of the governor's configuration set, at an offset of their shadow copies (R14). -/
def govShInfo (off : Nat) : Option RegInfo :=
  if 0x100 ≤ off && off < 0x118 then some { owner := .host, rw := 0x0000000FFFFFFFFF, sh := true }
  else if off = 0x120 then some { owner := .vent, rw := 0x000000013000FFFF, sh := true }
  else if off = 0x128 then some { owner := .host, rw := 0xFFFFFFFFFFFF007F, sh := true }
  else if off = 0x130 then some { owner := .host, rw := 0x000000007F3F7F7F, sh := true }
  else if 0x200 ≤ off && off < 0x300 then
    some { owner := .host, rw := if off % 16 = 0 then 0x007F1FFF0000000F else 0x00000001FFFFFFFF, sh := true }
  else none

/-- The registers at an offset of the governor sub-window. -/
def govInfo (off : Nat) : Option RegInfo :=
  if off % 8 != 0 then none
  else
    match off with
    | 0x00 => some { owner := .both, other := 0x0000FFFFFFFFFFFF }
    | 0x08 => some { owner := .both, other := 0x00FF00FF01FF007F }
    | 0x10 => some { owner := .host, rw := 0xFFFFFFFFFFF0C006 }
    | 0x18 => some { owner := .both, rw := 0x7F }
    | 0x20 => some { owner := .host, rw := 0xFF000001FFFFFFFF }
    | 0x28 => some { owner := .host, rw := 0x0000000FFFFFFFFF }
    | 0x30 => some { owner := .host, rw := 0x00003F3F1F1F1F00, other := 0x1F }
    | 0x38 => some { owner := .host, rw := 0xFFFFFFFF00000001, other := 0xFFFF0000 }
    | 0x40 => some { owner := .both, other := 0xFFFFFFFFFFFFFFFF }
    | 0x48 => some { owner := .both, other := 0x0000000FFFFFFFFF }
    | 0x50 => some { owner := .host, other := 0x3F }
    | 0x58 => some { owner := .both, other := 0x00000007FF1FFFFF }
    | _ =>
      if 0x300 ≤ off && off < 0x340 then
        some { owner := .both, rw := if off % 16 = 0 then 0x0000FFFFFFFFFFFF else 0x00000000FFFF0F7F }
      else if 0x400 ≤ off && off < 0x480 then some { owner := .host, rw := 0xFFFFFF }
      else if 0x480 ≤ off && off < 0x4C0 then some { owner := .host, rw := 0x00000001FFFF007F }
      else if 0x500 ≤ off && off < 0x580 then some { owner := .both, rw := 0x3F00, other := 0x3F }
      else if 0x600 ≤ off && off < 0x660 && off % 0x20 < 0x18 then some { owner := .both, other := 0x0000007F000FFFFF }
      else if 0x700 ≤ off && off < 0x788 then some { owner := .both, other := 0x000000FF0F7F807F }
      else if 0x800 ≤ off && off < 0x848 then some { owner := .host, rw := 0xFFFFFFFFFFFFFFFF }
      else if 0x880 ≤ off && off < 0x8C8 then some { owner := .host, rw := 0xFFFFFFFF }
      else if 0x900 ≤ off && off < 0x980 then some { owner := .host, rw := 0xFFFFFFFFFFFFFFFF }
      else if 0xA00 ≤ off && off < 0xA80 then some { owner := .both, other := 0x80000000FFFFFFFF }
      else if 0x1000 ≤ off && off < 0x1800 then some { owner := .host, rw := 0x1FFFF }
      else if 0x8000 ≤ off then (govShInfo (off - 0x8000)).map fun i => { owner := .both, other := i.rw }
      else govShInfo off

/-- Reads the governor's part of a copy of the configuration set. -/
def govShRead (c : CfgSet) (off : Nat) : W64 :=
  if 0x100 ≤ off && off < 0x118 then c.govLim.get 0 ((off - 0x100) / 8)
  else if off = 0x120 then c.govCap
  else if off = 0x128 then c.govRamp
  else if off = 0x130 then c.govFloor
  else if 0x200 ≤ off && off < 0x300 then c.govOpt.get 0 ((off - 0x200) / 8)
  else 0

/-- Writes the governor's part of a copy of the configuration set. -/
def govShWrite (off : Nat) (v : W64) (c : CfgSet) : CfgSet :=
  if 0x100 ≤ off && off < 0x118 then { c with govLim := c.govLim.set 0 ((off - 0x100) / 8) v }
  else if off = 0x120 then { c with govCap := v }
  else if off = 0x128 then { c with govRamp := v }
  else if off = 0x130 then { c with govFloor := v }
  else if 0x200 ≤ off && off < 0x300 then { c with govOpt := c.govOpt.set 0 ((off - 0x200) / 8) v }
  else c

/-- Reads a register of the governor sub-window. -/
def govRead (off : Nat) (s : State) : W64 :=
  let g := s.gov
  match off with
  | 0x00 => 0x0000031010041011
  | 0x08 => govStatus s
  | 0x10 => g.ctl
  | 0x18 => g.ext.setWidth 64
  | 0x20 => g.model
  | 0x28 => g.static
  | 0x30 => g.trim ||| g.offset.setWidth 64
  | 0x38 => g.shiftCfg ||| (g.shift.setWidth 64 <<< 16)
  | 0x40 => g.power
  | 0x48 => (0 : BitVec 28) ++ g.tempValid ++ tempByte (g.temp.get 0 3) ++ tempByte (g.temp.get 0 2) ++
      tempByte (g.temp.get 0 1) ++ tempByte (g.temp.get 0 0)
  | 0x50 => g.event.setWidth 64
  | 0x58 => quenchWord s
  | _ =>
    if 0x300 ≤ off && off < 0x340 then g.profile.get 0 ((off - 0x300) / 8)
    else if 0x400 ≤ off && off < 0x480 then (g.q.get 0 ((off - 0x400) / 8)).setWidth 64
    else if 0x480 ≤ off && off < 0x4C0 then g.thermin.get 0 ((off - 0x480) / 8)
    else if 0x500 ≤ off && off < 0x580 then
      let i := (off - 0x500) / 8
      (0 : BitVec 50) ++ g.slackMin.get 0x3F i ++ (0 : BitVec 2) ++ g.slack.get 0x3F i
    else if 0x600 ≤ off && off < 0x660 then
      let i := (off - 0x600) / 0x20 * 3 + off % 0x20 / 8
      (0 : BitVec 25) ++ g.lim[Fin.ofNat 9 i].g ++ (0 : BitVec 12) ++ g.est.get 0 i
    else if 0x700 ≤ off && off < 0x788 then govBentWord s ((off - 0x700) / 8)
    else if 0x800 ≤ off && off < 0x848 then g.rdur.get 0 ((off - 0x800) / 8)
    else if 0x880 ≤ off && off < 0x8C8 then (g.revt.get 0 ((off - 0x880) / 8)).setWidth 64
    else if 0x900 ≤ off && off < 0x980 then g.act.get 0 ((off - 0x900) / 8)
    else if 0xA00 ≤ off && off < 0xA80 then g.pool.get 0 ((off - 0xA00) / 8)
    else if 0x1000 ≤ off && off < 0x1800 then (g.demand.get 0 ((off - 0x1000) / 8)).setWidth 64
    else if 0x8000 ≤ off then govShRead s.cfg.active (off - 0x8000)
    else govShRead s.cfg.shadow off

/-- A written value has a ceiling field above 64: the write is dropped with code 0x79 (R316). -/
def govBad (off : Nat) (v : W64) : Bool :=
  let above (lo : Nat) : Bool := 64 < (v.extractLsb' lo 7).toNat
  if off = 0x18 then above 0
  else if off = 0x128 then above 0
  else if off = 0x130 then above 0 || above 8 || above 24
  else if 0x200 ≤ off && off < 0x300 then off % 16 = 0 && above 48
  else if 0x480 ≤ off && off < 0x4C0 then above 0
  else false

/-- Stores a value in a register of the governor sub-window. -/
def govSet (off : Nat) (v : W64) (s : State) : State :=
  match off with
  | 0x10 => s.onGov fun g => { g with ctl := v }
  | 0x18 => s.onGov fun g => { g with ext := field v 0 7 }
  | 0x20 => s.onGov fun g => { g with model := v }
  | 0x28 => s.onGov fun g => { g with static := v }
  | 0x30 => s.onGov fun g => { g with trim := v, offset := if s.aon.st == .boot then field v 8 5 else g.offset }
  | 0x38 => s.onGov fun g => { g with shiftCfg := v }
  | 0x50 => s.onGov fun g => { g with event := g.event &&& ~~~field v 0 6 }
  | _ =>
    if 0x300 ≤ off && off < 0x340 then s.onGov fun g => { g with profile := g.profile.set 0 ((off - 0x300) / 8) v }
    else if 0x400 ≤ off && off < 0x480 then s.onGov fun g => { g with q := g.q.set 0 ((off - 0x400) / 8) (field v 0 24) }
    else if 0x480 ≤ off && off < 0x4C0 then s.onGov fun g => { g with thermin := g.thermin.set 0 ((off - 0x480) / 8) v }
    else if 0x500 ≤ off && off < 0x580 then
      s.onGov fun g => { g with slackMin := g.slackMin.set 0x3F ((off - 0x500) / 8) (field v 8 6) }
    else if 0x800 ≤ off && off < 0x848 then s.onGov fun g => { g with rdur := g.rdur.set 0 ((off - 0x800) / 8) v }
    else if 0x880 ≤ off && off < 0x8C8 then
      s.onGov fun g => { g with revt := g.revt.set 0 ((off - 0x880) / 8) (field v 0 32) }
    else if 0x900 ≤ off && off < 0x980 then s.onGov fun g => { g with act := g.act.set 0 ((off - 0x900) / 8) v }
    else if 0x1000 ≤ off && off < 0x1800 then
      s.onGov fun g => { g with demand := g.demand.set 0 ((off - 0x1000) / 8) (field v 0 17) }
    else if off < 0x8000 then s.onCfg fun c => { c with shadow := govShWrite off v c.shadow }
    else s

/-- GOV_PROFILE, which the image alone loads (R300). -/
def isProfile (off : Nat) : Bool := 0x300 ≤ off && off < 0x340

/-- Writes a register of the governor sub-window: the bits of its fields (R13, R316). -/
def govWrite (off : Nat) (v : W64) (s : State) : State :=
  match govInfo off with
  | none => s
  | some i =>
    if isProfile off || (i.rw == 0 && off != 0x50) then s
    else if govBad off v then report { code := 0x79 } s
    else govSet off (if off = 0x50 then v else v &&& i.rw) s

end Sys2Proof.Machine
end

