-- ==== Sys2Proof/Machine/ColOps.lean ====
section
/-!
DEFINITION. ColOps.lean: what the parts of the collective unit share: roles, participants (R270), packets and
credits (R254 to R258), and how a collective ends (R267, R271 to R275).
-/
namespace Sys2Proof.Machine

/-! ### Roles (R261, R264, R270) -/

/-- This instance's fabric ID. -/
def ownFid (s : State) : BitVec 12 := s.aon.fabricId

/-- The ridge of its ring: by strap, unless the role is given up (R261, R263). -/
def isRidge (s : State) : Bool := s.aon.ridgeEn && !s.col.conflict

/-- HIER_CFG.UPL_EN. -/
def uplEn (s : State) : Bool := bitAt s.col.hier 12

/-- HIER_CFG.CROWN_ID. -/
def crownId (s : State) : BitVec 12 := field s.col.hier 0 12

/-- The crown: a ridge that is its own crown, or that CROWN_ID names (R264). -/
def isCrown (s : State) : Bool := isRidge s && (!uplEn s || crownId s == ownFid s)

/-- The fabric IDs of the ring's members in rank order. -/
def ringFids (s : State) : List (BitVec 12) := s.col.members.map Member.fid

/-- A fabric ID is on this instance's ring. -/
def onRing (s : State) (f : BitVec 12) : Bool := (ringFids s).contains f

/-- The rank of a fabric ID. -/
def rankOf (s : State) (f : BitVec 12) : Nat := (ringFids s).findIdx (· == f)

/-- The fabric ID of the ring's ridge. -/
def ridgeFid (s : State) : BitVec 12 := (ringFids s).headD 0

/-- The epoch of a scope. -/
def epochOf (s : State) (up : Bool) : BitVec 32 := if up then s.col.crownEpoch else s.col.epoch

/-- The agreed version of a scope (R282). -/
def verOf (s : State) (up : Bool) : BitVec 4 := if up then s.col.crownVer else s.col.ver

/-- The participants of a descriptor, in order (R270). -/
def participants (s : State) (d : CDesc) : List (BitVec 12) :=
  if d.uplink then
    if d.isData then s.col.ridges.filterMap fun r => r.ring[rankOf s (ownFid s)]?
    else s.col.ridges.flatMap Member.ring
  else ringFids s

/-- The next SEQ of a scope. -/
def nextSeq (s : State) (up : Bool) : BitVec 16 := if up then s.col.crownSeq else s.col.ringSeq

/-- Counts n of COL_COUNT[i]. -/
def countCol (i : Nat) (s : State) : State := s.onCol fun c => { c with count := bump c.count i 1 }

/-- Sets bits of COL_EVENT. -/
def colEvent (bits : BitVec 4) (s : State) : State := s.onCol fun c => { c with event := c.event ||| bits }

/-- A report of the collective unit: the link, or 3 for none, the ticket and the peer concerned (R370). -/
def colReport (code : BitVec 8) (link : Nat) (ticket : BitVec 32) (peer : BitVec 12) : Report :=
  { code := code, unit := BitVec.ofNat 12 link, loc := ticket ++ (0 : BitVec 20) ++ peer }

/-! ### Links and packets (R254, R256, R258) -/

/-- The bypass of a ring direction is closed (R259). -/
def bypassed (s : State) (l : Fin 3) : Bool := if l = 0 then s.aon.bypCw else s.aon.bypCcw

/-- A link carries the unit's packets: its bypass is open; UPL on a ridge with UPL_EN (R255, R259). -/
def linkUp (s : State) (l : Fin 3) : Bool :=
  aonOn s && if l = 2 then isRidge s && uplEn s && !s.aon.bypCw else !bypassed s l

/-- The unit takes a packet's flits from a link's input (R254). -/
def takeIn (l : Fin 3) (p : Packet) (s : State) : State :=
  s.onLink l fun k =>
    if isControl p then { k with inCtl := k.inCtl + flitsOf p } else { k with inData := k.inData + flitsOf p }

/-- A packet taken in passes by after all: its credits come back with the next input's (R259). -/
def giveBack (l : Fin 3) (p : Packet) (s : State) : State :=
  s.onLink l fun k =>
    if isControl p then { k with inCtl := k.inCtl - flitsOf p } else { k with inData := k.inData - flitsOf p }

/-- A link holds the credits for a packet. -/
def LinkSt.affords (l : LinkSt) (p : Packet) : Bool :=
  flitsOf p ≤ if isControl p then l.ctlCr else l.dataCr

/-- The packet is driven on the output: its credits are spent, it is counted (R254, COL_COUNT); its flits leave one per
BCLK (R254). -/
def drive (l : Fin 3) (p : Packet) (s : State) : State :=
  let own := p.1.src == ownFid s
  let s := s.onLink l fun k =>
    { k with out := k.out ++ [p], sending := k.sending + flitsOf p
             dataCr := if isControl p then k.dataCr else k.dataCr - flitsOf p
             ctlCr := if isControl p then k.ctlCr - flitsOf p else k.ctlCr
             lastOwn := if isControl p then k.lastOwn else own }
  let s := govEvent 12 (flitsOf p) s
  if l = 2 then countCol 2 s else if own then countCol l.val s else s

/-- A packet of its class already waits for a credit. -/
def LinkSt.queued (l : LinkSt) (p : Packet) : Bool := l.txq.any fun q => isControl q.1 == isControl p

/-- Keeps a packet for an output; `o` names the link whose input buffer holds it meanwhile, none for the unit's own
(R254). -/
def keepFor (o : Option (Fin 3)) (l : Fin 3) (p : Packet) (s : State) : State :=
  s.onLink l fun k => { k with txq := k.txq ++ [(p, o)] }

/-- Sends a packet on a link, or keeps it until credits return (R254). -/
def sendFrom (o : Option (Fin 3)) (l : Fin 3) (p : Packet) (s : State) : State :=
  if !linkUp s l then s
  else if s.aon.link[l].affords p && !s.aon.link[l].queued p then drive l p s
  else keepFor o l p s

/-- Sends a packet of the unit on a link, or keeps it until credits return (R254). -/
def sendOn (l : Fin 3) (p : Packet) (s : State) : State := sendFrom none l p s

/-- The link a ridge or member sends a packet for a fabric ID on: UPL for another die's at the ridge, else the ring
in the given direction (R264). -/
def linkFor (s : State) (dest : BitVec 12) (ccw : Bool) : Fin 3 :=
  if isRidge s && uplEn s && !onRing s dest then 2 else if ccw then 1 else 0

/-- A control packet of this instance: KIND, scope and destination (R256). -/
def ctlHdr (s : State) (kind : BitVec 4) (up : Bool) (dest : BitVec 12) : Hdr :=
  { kind := kind, dirn := if up then 2 else 0, ver := 2, src := ownFid s, dest := dest,
    epoch := (epochOf s up).setWidth 16 }

/-- Sends a control packet to one instance. -/
def sendTo (kind : BitVec 4) (up : Bool) (dest : BitVec 12) (p : Payload) (s : State) : State :=
  sendOn (linkFor s dest false) (ctlHdr s kind up dest, p) s

/-- Sends a control packet clockwise around the ring. -/
def sendAround (kind : BitVec 4) (up : Bool) (p : Payload) (s : State) : State :=
  sendOn 0 (ctlHdr s kind up (ownFid s), p) s

/-- A control packet of the running collective: it carries SEQ, OP and FORMAT (R273). -/
def runHdr (s : State) (r : CRun) (kind : BitVec 4) (dest : BitVec 12) : Hdr :=
  { ctlHdr s kind (CDesc.uplink r.desc) dest with
    seq := r.seq, op := BitVec.ofNat 4 (CDesc.op r.desc), fmt := CDesc.fmt r.desc }

/-- Sends ABORT with a status to every other participant (R273 to R275). -/
def abortPartners (r : CRun) (status : BitVec 4) (s : State) : State :=
  foldOver ((participants s r.desc).filter (· != ownFid s))
    (fun f s => sendOn (linkFor s f false) (runHdr s r 0xA f, .abort { seq := r.seq, status := status }) s) s

/-- A packet of the running collective that the ridge, or the crown, sends to every participant below it: around its
own ring, and from the crown to each other ridge. -/
def sendDown (r : CRun) (kind : BitVec 4) (p : Payload) (s : State) : State :=
  let others := if CDesc.uplink r.desc then (s.col.ridges.map Member.fid).filter (· != ownFid s) else []
  foldOver others (fun f s => sendOn (linkFor s f false) (runHdr s r kind f, p) s)
    (sendOn 0 (runHdr s r kind (ownFid s), p) s)

/-! ### The end of a collective (R267, R271 to R275) -/

/-- COL_LAST. -/
def colLast (ticket : BitVec 32) (status : BitVec 4) (count : Nat) (code : BitVec 8) : W64 :=
  ticket ++ status ++ BitVec.ofNat 12 count ++ code ++ (0 : BitVec 8)

/-- A descriptor ends: COL_LAST, COL_EVENT, COL_COUNT (DONE sets its event only with IRQ). -/
def noteEnd (ticket : BitVec 32) (irq : Bool) (status : BitVec 4) (count : Nat) (code : BitVec 8) (s : State) : State :=
  let fin := status == 0
  countCol (if fin then 5 else 6) (s.onCol fun c =>
    { c with last := colLast ticket status count code
             event := c.event ||| (if fin then (if irq then 1 else 0) else 2) })

/-- The participants whose contributions are in all that this instance wrote or received (R267). -/
def contributors (s : State) (r : CRun) : Nat :=
  let d : CDesc := r.desc
  let dieSize (f : BitVec 12) : Nat :=
    ((s.col.ridges.filter fun m => m.fid == f && f != ownFid s).map fun m => m.ring.length).sum
  if d.isData then
    if d.op = 2 then (match r.wrote with | [] => r.n | [_] => 1 | _ => 0) else r.n
  else if d.op = 4 then r.partials.length + (r.dieSums.map fun p => dieSize p.1).sum
  else r.arrived.length + (r.dies.map fun p => dieSize p.1).sum

/-- The first beam of the chunk that this member completes in a direction, by its place in the vector (R276). -/
def CRun.ownChunk (r : CRun) (ccw : Bool) : Nat := CDesc.half r.desc ccw + r.pos * r.chunk

/-- The squares of the beams of a direction's completed chunk that are not yet in COL_TALLY, in the chunk's order
(R278). -/
def CRun.chunkSquares (r : CRun) (ccw : Bool) : List (BitVec 66) :=
  (r.squares.filter fun p => r.ownChunk ccw ≤ p.1 && p.1 < r.ownChunk ccw + r.chunk).map Prod.snd

/-- Every beam of a direction's completed chunk is squared, and the squares are not yet in COL_TALLY. -/
def CRun.chunkDue (r : CRun) (ccw : Bool) : Bool :=
  CDesc.uses r.desc ccw && 0 < r.chunk && (r.chunkSquares ccw).length = r.chunk

/-- The squares of a direction's completed chunk are added to COL_TALLY, beam by beam (R278). -/
def addChunk (r : CRun) (ccw : Bool) (s : State) : State :=
  let l := r.chunkSquares ccw
  s.onCol fun c =>
    { c with tally := (l.map fun q => q.extractLsb' 0 64).foldl f64Add c.tally
             tallyPoison := c.tallyPoison || l.any (bitAt · 64)
             run := c.run.map fun r =>
               { r with squares := r.squares.eraseRange (r.ownChunk ccw) r.chunk, tallied := true } }

/-- The completed chunks' squares are added as they are due, the clockwise chunk's first; at the end of the collective
(`last`) those of a completed chunk do not wait for the other (R278; assumption 115). -/
def tallyChunks (last : Bool) (s : State) : State :=
  match s.col.run with
  | none => s
  | some r =>
    let first := r.chunkDue false
    let s := if first then addChunk r false s else s
    if r.chunkDue true && (last || first || r.tallied || !CDesc.uses r.desc false) then addChunk r true s else s

/-- The running collective ends with a status: what it staged and has not begun to commit is abandoned (R70, R267). -/
def endRun (status : BitVec 4) (code : BitVec 8) (s : State) : State :=
  match s.col.run with
  | none => s
  | some r =>
    let n := if status == 0 || status == 4 then r.n else contributors s r
    noteEnd r.ticket (CDesc.irq r.desc) status n code
      ((dropOwner .colOut (dropOwner .collective (tallyChunks true s))).onCol fun c => { c with run := none })

/-- The running collective ends and its partners are told (R273 to R275). -/
def endRunAbort (status : BitVec 4) (code : BitVec 8) (s : State) : State :=
  match s.col.run with
  | none => s
  | some r => endRun status code (abortPartners r status s)

/-- The running collective ends with status MISMATCH, logged for the packet that showed it (R273). -/
def endMismatch (l : Fin 3) (h : Hdr) (s : State) : State :=
  match s.col.run with
  | none => s
  | some r => endRunAbort 3 0x64 (report (colReport 0x64 l.val r.ticket h.src) s)

/-- The collective of an EMBER entry, a command or a kill ends ABORTED (R274, R275, R381). -/
def abortRun (code : BitVec 8) (s : State) : State := endRunAbort 6 code s

/-- A queued descriptor ends without having run. -/
def endQueued (q : CRec) (status : BitVec 4) (code : BitVec 8) (s : State) : State :=
  noteEnd q.ticket false status 0 code (s.onCol fun c =>
    { c with queue := c.queue.filter (·.ticket != q.ticket)
             headWait := if c.queue.head?.any (·.ticket == q.ticket) then 0 else c.headWait })

/-- The token events of a collective that ends DONE (R271). -/
def colEvents (r : CRun) : List TokEvent :=
  tokEvents (CDesc.toks r.desc) fun k i =>
    { code := 0x32, unit := 4, mort := some i, loc := r.ticket ++ BitVec.ofNat 32 k }

/-- The running collective ends DONE: its signals and releases are applied (R271). -/
def finishRun (r : CRun) (s : State) : State := endRun 0 0 (applyTokens (colEvents r) s)

/-- The block enters EMBER: the running collective ends at once (R198, R275). -/
def toEmber (s : State) : State := abortRun 0 (enterEmber s)

end Sys2Proof.Machine
end

