-- ==== Sys2Proof/Machine/Quench.lean ====
section
/-!
DEFINITION. Quench.lean: the coolant monitor's stop (R308 to R310).
-/
namespace Sys2Proof.Machine

/-- Code 0x78 and GOV_EVENT.QUENCH (R308). -/
def quenchLog (s : State) : State := govFlag 2 (report { code := 0x78, unit := BitVec.ofNat 12 quenchKey } s)

/-- The latch itself: its state, GOV_QUENCH.LATCHES, VENT_ALERT.QUENCH (R310). -/
def setLatch (s : State) : State :=
  alertSet 0x08 (s.onAon fun a => { a with qState := .latched, qLatches := satAdd a.qLatches 1 })

/-- The quench is latched: logged, or to be logged at the next EMBER when the main domain is in reset; EMBER is
entered from READY, RUN and PAUSE, and follows BOOT and PURGE (R24, R308). -/
def takeQuench (s : State) : State :=
  let s := setLatch s
  if !mainOn s then s.onAon fun a => { a with qLogDue := true }
  else
    let s := lowerCeilings (quenchLog s)
    match s.aon.st with
    | .ready | .run | .pause => toEmber s
    | _ => s

/-- A reset is asserted during a ramp-down: the quench is latched, its log entry follows (R308). -/
def latchAtReset (s : State) : State :=
  if s.aon.qState == .ramp then setLatch (s.onAon fun a => { a with qLogDue := true }) else s

/-- A phase is in ISSUE, and the ramp takes time (R308). -/
def rampNeeded (s : State) : Bool :=
  isLive s && quenchRamp s != 0 && s.sched.slot.toList.any (·.st == .issue)

/-- Filtered QUENCH_N goes low: the ramp-down begins, or the quench is latched at once (R308). -/
def quenchBegin (s : State) : State :=
  if !s.aon.quenchN then s
  else
    let s := s.onAon fun a => { a with quenchN := false, qQuiet := 0 }
    if s.aon.qState != .clear then s
    else if rampNeeded s then lowerCeilings ((s.onGov fun g => { g with qT := 0 }).onAon fun a => { a with qState := .ramp })
    else takeQuench s

/-- GOV_QUENCH.CHATTER (R311). -/
def noteQuenchChat (s : State) : State := s.onAon fun a => { a with qChat := a.inChat.get false quenchKey }

/-- QUENCH_ASSERT (R308). -/
def execQuenchAssert (chatter : Bool) (s : State) : Host.Outcome State Fault Refusal :=
  doneGov (onlyIf (aonOn s) (fun s => noteQuenchChat (inputAssert quenchKey false chatter quenchBegin s)) s)

/-- QUENCH_RELEASE: filtered QUENCH_N is high, and GOV_QUENCH.QUIET counts (R308, R310). -/
def execQuenchRelease (chatter : Bool) (s : State) : Host.Outcome State Fault Refusal :=
  doneGov (onlyIf (aonOn s)
    (fun s => noteQuenchChat (inputRelease quenchKey false chatter quenchBegin
      (fun s => s.onAon fun a => { a with quenchN := true }) s)) s)

/-- QUENCH_LATCH: the ramp-down has reached 0 (R308). -/
def execQuenchLatch (s : State) : Host.Outcome State Fault Refusal :=
  doneGov (onlyIf (s.aon.qState == .ramp && mainOn s) takeQuench s)

end Sys2Proof.Machine
end

