-- ==== Sys2Proof/Machine/Sched.lean ====
section
/-!
DEFINITION. Sched.lean: the schedule engine: pushes (R191, R203), admission (R192, R193), opening waits (R188), start,
finish and abort of phases (R194 to R197), interior boundaries (R201), its commands and registers.
-/
namespace Sys2Proof.Machine

/-- Adds n to SCH_COUNT[i]. -/
def countSch (i n : Nat) (s : State) : State := s.onSched fun c => { c with count := bump c.count i n }

/-! ### Pushes (R191, R203) -/

/-- The first mortise a record names in a state. -/
def firstIn (s : State) (st : MortState) (r : Rec) : BitVec 10 := (r.names.find? fun i => (mortAt s i).st == st).getD 0

/-- The report of a refused push (R370). -/
def pushReport (s : State) (code : BitVec 8) (r : Rec) : Report :=
  if code == 0x07 then
    let i := firstIn s .retired r
    { code := code, mort := some i, pid := some r.phaseId, loc := i.setWidth 64 }
  else if code == 0x13 then { code := code, pid := some r.phaseId, loc := r.brace.setWidth 64 }
  else { code := code, unit := 4, pid := some r.phaseId }

/-- A push is refused: logged, counted, SCH_EVENT.REFUSED (R191, R197). -/
def pushRefuse (code : BitVec 8) (r : Rec) (s : State) : State := noteRefusal code (report (pushReport s code r) s)

/-- A record takes its place at the tail of the queue with the next ticket (R191, R203). -/
def pushAccept (r : Rec) (s : State) : State :=
  countSch 0 1 (s.onSched fun c =>
    { c with queue := c.queue ++ [{ ticket := c.nextTicket, rcd := r }], nextTicket := c.nextTicket + 1 })

/-- The record check of a push, and its outcome (R191). -/
def pushRecord (r : Rec) (s : State) : BitVec 8 × State :=
  let code := recordCheck s r
  (code, if code == 0 then pushAccept r s else pushRefuse code r s)

/-- A host push ends: SCH_PUSH_STATUS holds its code, and its ticket when it was accepted (R203). -/
def hostPush (s : State) : State :=
  let t := s.sched.nextTicket
  let r := pushRecord s.sched.pbuf s
  r.2.onSched fun c => { c with pushCode := r.1, pushTicket := if r.1 == 0 then t else c.pushTicket }

/-- What a write of SCH_PUSH does (R203, R205). -/
def pushWord (v : W64) (s : State) : State :=
  if !unitsOn s then s
  else if v >>> 1 != 0 then pushRefuse 0x30 s.sched.pbuf (s.onSched fun c => { c with pushCode := 0x30 })
  else if bitAt v 0 then hostPush s
  else s

/-- A push: run with BUSY set after it, or dropped with LOST while BUSY (SCH_PUSH_STATUS). -/
def pushGate (act : State → State) (s : State) : State :=
  unlessBusy s.sched.pushBusy (fun s => s.onSched fun t => { t with pushLost := true })
    (fun s => s.onSched fun t => { t with pushBusy := true }) act s

/-- A write of SCH_PUSH. -/
def pushWrite (v : W64) (s : State) : State := pushGate (pushWord v) s

/-- SCH_PUSH (R203). -/
def execSchPush (src : Src) (raw : BitVec 64) (s : State) : Host.Outcome State Fault Refusal :=
  done (writeDropping src 0x60200 .host s.sched.pushBusy (pushWrite raw) s)

/-! ### Admission (R192, R193) -/

/-- The lowest-numbered free slot. -/
def freeSlot (s : State) : Option (Fin 4) := (List.finRange 4).find? fun n => s.sched.slot[n].st == .free

/-- The head record enters a slot with its bents, its streams and the words of its brace set (R192). -/
def admitRecord (n : Fin 4) (q : QRec) (s : State) : State :=
  let p : PSlot :=
    { st := .check, ticket := q.ticket, rcd := q.rcd, brace := braceWords s (Rec.brace q.rcd).toNat }
  (s.onSched fun c => { c with queue := c.queue.drop 1 }).onSlot n fun _ =>
    { p with bents := p.mkBents, streams := p.mkStreams }

/-- Records are admitted: the block is in READY, RUN or PAUSE and admission is not halted (R24, R192, R197, R198). -/
def mayAdmit (s : State) : Bool :=
  (s.aon.st == .ready || s.aon.st == .run || s.aon.st == .pause) && !s.sched.qhalt

/-- The record at the head of the queue enters the lowest-numbered free slot (R192). -/
def execRecordAdmit (s : State) : Host.Outcome State Fault Refusal :=
  done (match s.sched.queue, freeSlot s with
    | q :: _, some n => onlyIf (mayAdmit s) (admitRecord n q) s
    | _, _ => s)

/-- The truss checks: the code and the port for UNIT; 0 passes (R111). Of several enabled ports without an agreed engine,
code 0x14 names the lowest, the spec naming none (DESIGN CHOICE, assumption 151). -/
def trussCheck (s : State) (p : PSlot) : BitVec 8 × Nat :=
  let r : Rec := p.rcd
  if !bitAt s.truss.valid r.brace.toNat then (0x13, 0)
  else if headPorts (p.word 0) != r.ports then (0x13, 0)
  else
    match p.setPorts.find? fun e => s.ports.port[e].st != .agreed with
    | some e => (0x14, e.val)
    | none =>
      if p.streams.any (·.gather) && !(r.mV .idx && (mortAt s (r.mIx .idx)).fmt == 7 && r.mV .src) then (0x15, 0)
      else (0, 0)

/-- Every operand stream has its mortise (R193 item 2). -/
def streamMorts (p : PSlot) : Bool :=
  p.streams.all fun st => st.gather || Rec.mV p.rcd (if st.side == .b then .b else .a)

/-- The indexed-drain check (R184, R193 item 3). -/
def didxOk (s : State) (p : PSlot) : Bool :=
  let r : Rec := p.rcd
  !r.didx ||
    ((mortAt s (r.mIx .didx)).fmt == 7 &&
      (r.isLoop ||
        (r.dmode == 0 && (portsOf r.ports).all fun e =>
          elemCount r.dfmt = 2 ^ s.ports.port[e].nLog && 2 ^ s.ports.port[e].mLog ≤ 128)))

/-- The A and B formats a port receives (R144). -/
def portFmts (s : State) (p : PSlot) (e : Fin 16) : BitVec 4 × BitVec 4 :=
  let w := p.portWord e.val
  ((mortAt s (streamMort p (sideStream p .a (aSrc w)))).fmt, (mortAt s (streamMort p (sideStream p .b (bSrc w)))).fmt)

/-- A port meets the checks of R144, the shapes compared with those of the phase's first port. -/
def portOk (s : State) (p : PSlot) (first e : Fin 16) : Bool :=
  let r : Rec := p.rcd
  let q := s.ports.port[e]
  let f := portFmts s p e
  bitAt q.aFmts f.1.toNat && bitAt q.bFmts f.2.toNat && (!q.sameFmt || f.1 == f.2) && bitAt q.dFmts r.dfmt.toNat &&
    (r.dmode != 2 || q.both) && q.mLog = s.ports.port[first].mLog && q.nLog = s.ports.port[first].nLog

/-- The port that UNIT of code 0x1E names: the lowest that fails any check of R144, the spec giving none for several
ports that fail (DESIGN CHOICE, assumption 108). -/
def portCheck (s : State) (p : PSlot) : Option (Fin 16) :=
  match portsOf (Rec.ports p.rcd) with
  | [] => none
  | e :: es => (e :: es).find? fun q => !portOk s p e q

/-- The placement of one orientation of a port phase's drains is in the table of R213. BPORT pairs rows of columns in
blocks of 32, so that a tile of fewer columns places no incoming beam within one destination beam and is refused with the
other combinations that break R158 (DEDUCED, assumption 109). -/
def placementOk (orient : Bool) (lay : BitVec 3) (tr tc ei ed : Nat) : Bool :=
  if orient then lay == 1
  else
    match lay.toNat with
    | 0 => true
    | 2 => ei % (2 * tc) = 0 && ed % ei = 0
    | 3 => ei % (2 * tc) = 0 && ed % ei = 0 && tc % 32 = 0
    | 4 => tr = tc && tc = ei && ei = ed
    | _ => false

/-- The orientations a port phase drains. -/
def drainOrients (r : Rec) : List Bool := if r.dmode == 0 then [false] else if r.dmode == 1 then [true] else [false, true]

/-- The placement of every drain (R213, R214). -/
def placesOk (s : State) (p : PSlot) : Bool :=
  let r : Rec := p.rcd
  r.isLoop ||
    (if r.didx then (mortAt s (r.mIx .d)).layout == 0
     else
      match (portsOf r.ports).head? with
      | none => true
      | some e =>
        (drainOrients r).all fun o =>
          let m := mortAt s (drainMort s p o)
          placementOk o m.layout (2 ^ s.ports.port[e].mLog) (2 ^ s.ports.port[e].nLog) (elemCount r.dfmt)
            (elemCount m.fmt))

/-- The window rule of a loop-back affine drain (R183). -/
def loopSubOk (s : State) (p : PSlot) : Bool :=
  let r : Rec := p.rcd
  let ei := elemCount (incFmt s p)
  let ed := elemCount (mortAt s (r.mIx .d)).fmt
  !r.isLoop || r.didx || (if ei < ed then r.dsub 0 < ed / ei else r.dsub 0 = 0)

/-- The sinter checks (R157). -/
def sinterOk (s : State) (p : PSlot) : Bool :=
  let r : Rec := p.rcd
  let orients := if r.isLoop then [false] else drainOrients r
  r.sop.toNat < 8 &&
    (orients.all fun o =>
      let d := (mortAt s (drainMort s p o)).fmt
      sinterCombo d (incFmt s p) r.sop && countsFit (incFmt s p) d) &&
    loopSubOk s p && placesOk s p && (!usesWeight r.sop || field r.weight 23 8 != 0xFF)

/-- Every stream that scales on read has a format and a factor it can (R173). -/
def sorOk (s : State) (p : PSlot) (c : BitVec 32) : Bool :=
  p.streams.all fun st => !streamSor p st || (scalable (mortAt s (streamMort p st)).fmt && clipOk c)

/-- The admission check in its order: the code and the port for UNIT; 0 passes (R193). -/
def admitCheck (s : State) (p : PSlot) : BitVec 8 × Nat :=
  let t := trussCheck s p
  if t.1 != 0 then t
  else if !streamMorts p then (0x34, 0)
  else if !didxOk s p then (0x33, 0)
  else
    match portCheck s p with
    | some e => (0x1E, e.val)
    | none => if !sinterOk s p then (0x21, 0) else if !sorOk s p s.sinter.clip then (0x22, 0) else (0, 0)

/-- The admission check of the phase in a slot ends (R193). -/
def admitPhase (n : Fin 4) (s : State) : State :=
  let c := admitCheck s s.sched.slot[n]
  if c.1 == 0 then s.onSlot n fun p => { p with st := .wait } else refusePhase n c.1 c.2 s

/-- The schedule engine moves phases on: in RUN, and in PAUSE for admission (R24, R26, R198). -/
def checks (s : State) : Bool := s.aon.st == .run || s.aon.st == .pause

/-- ADMISSION_CHECK (R193). -/
def execAdmissionCheck (slot : Fin 4) (s : State) : Host.Outcome State Fault Refusal :=
  done (onlyIf (checks s && s.sched.slot[slot].st == .check) (admitPhase slot) s)

/-! ### Opening waits (R188) -/

/-- The eight token slots of a record. -/
def Rec.toks (r : Rec) : List (BitVec 16) := (List.range 8).map r.tok

/-- The token slots whose waits are not satisfied. -/
def slotPending (s : State) (n : Fin 4) : BitVec 8 := tokPending s (Rec.toks s.sched.slot[n].rcd)

/-- The opening waits of the phase in a slot are satisfied: it moves to HOLD (R188, R194). -/
def execPhaseWaitsSatisfied (slot : Fin 4) (s : State) : Host.Outcome State Fault Refusal :=
  done (onlyIf (s.aon.st == .run && s.sched.slot[slot].st == .wait && slotPending s slot == 0)
    (fun s => s.onSlot slot fun p => { p with st := .hold }) s)

/-- The token timeout ends the phase in a slot (R86, R188). -/
def timeoutPhase (n : Fin 4) (s : State) : State :=
  let p := s.sched.slot[n]
  abortPhase n 0x31 .fault (report
    { code := 0x31, unit := BitVec.ofNat 12 n.val, pid := some (Rec.phaseId p.rcd),
      loc := ticketLoc p.ticket ((slotPending s n).setWidth 32) } s)

/-- PHASE_TOKEN_TIMEOUT (R188). -/
def execPhaseTokenTimeout (slot : Fin 4) (s : State) : Host.Outcome State Fault Refusal :=
  done (onlyIf
    (s.aon.st == .run && s.sched.slot[slot].st == .wait && s.trf.tokTimeout != 0 && slotPending s slot != 0)
    (timeoutPhase slot) s)

/-! ### Start (R194) -/

/-- A stream has had all its reads accepted. -/
def streamRead (r : Rec) (st : Stream) : Bool := st.next = r.steps && st.fifo.all fun b => b.wait.isNone

/-- An earlier phase has not handed shared ports or the loop-back path over: reads of its issues or entries have yet to
be accepted, or ABORT records to be acknowledged (R194). -/
def holdsBack (s : State) (q p : PSlot) : Bool :=
  let shared : BitVec 16 := Rec.ports q.rcd &&& Rec.ports p.rcd
  let meets := shared != 0 || (Rec.isLoop q.rcd && Rec.isLoop p.rcd)
  if q.st == .abort then (portsOf shared).any fun e => s.ports.port[e].abortTickets.contains q.ticket
  else meets && q.begun && !q.streams.all (streamRead q.rcd)

/-- The phase in a slot can move from HOLD to ISSUE (R194, R200). -/
def mayStart (s : State) (n : Fin 4) : Bool :=
  let p := s.sched.slot[n]
  s.aon.st == .run && p.st == .hold && !raiseWaits s &&
    (List.finRange 4).all fun m =>
      m = n || (!holdsBack s s.sched.slot[m] p && !(Rec.seqMode p.rcd && s.sched.slot[m].holdsSeq))

/-- The LFSRs of the 512 banks, loaded from a seed (R53, R54). -/
def loadLfsr (seed : BitVec 32) : SMap (BitVec 32) :=
  ((List.range 512).map fun b => (b, lfsrSeed seed b)).filter fun p => p.2 != 0

/-- The governor takes a phase that starts: its bents' accumulators are zero, its operating point binds (R194, R289,
R290). -/
def governStart (n : Fin 4) (s : State) : State :=
  latchOpc n (foldOver s.sched.slot[n].bents (fun b s => setAcc b.id 0 s) s)

/-- The start actions (R54, R166, R173, R194); the clip factor is tested again at the latch. -/
def startPhase (n : Fin 4) (s : State) : State :=
  let r : Rec := s.sched.slot[n].rcd
  if !sorOk s s.sched.slot[n] s.sinter.clip then refusePhase n 0x22 0 s
  else
    let s := s.onSinter fun k =>
      { k with lfsr := if r.sr then loadLfsr r.seed else k.lfsr, seqNext := if r.seqMode then 0 else k.seqNext }
    let s := s.onSlot n fun p =>
      { p with st := .issue, clip := s.sinter.clip, issueBclk := 0, energy := 0, veng := [], vsubs := [], stepMark := 0
               startNo := s.sched.starts, didxAsked := SMap.set 0 [] 0 (s.now + 1)
               streams := p.streams.map fun st => { st with asked := s.now + 1 } }
    let s := s.onSched fun c => { c with starts := c.starts + 1 }
    let s := governStart n s
    if portsTaken s n then s else loadRoutes n s

/-- PHASE_START: the reasons that bound before it have been noted, those that bind with it begin (R194, R315). -/
def execPhaseStart (slot : Fin 4) (s : State) : Host.Outcome State Fault Refusal :=
  doneGov (onlyIf (mayStart s slot) (startPhase slot) (noteBinding s))

/-! ### Interior boundaries (R201) -/

/-- Every bent of the phase stands at its interior boundary: the slot reports BOUND and the boundary counts (R201). -/
def execInteriorBoundary (slot : Fin 4) (s : State) : Host.Outcome State Fault Refusal :=
  let p := s.sched.slot[slot]
  doneGov (onlyIf (mayIssue s slot && p.bents.all (atBound s p) && !p.bents.isEmpty)
    (fun s => countSch 6 1 (s.onSlot slot fun p => { p with st := .bound })) s)

/-- A raise is applied or withdrawn: phases at interior boundaries go on (R201). -/
def releaseBounds (s : State) : State :=
  s.onSched fun c => { c with slot := c.slot.map fun p => if p.st == .bound then { p with st := .issue } else p }

/-! ### Finish (R195) -/

/-- Every condition of R195 holds for the phase in a slot. -/
def mayFinish (s : State) (n : Fin 4) : Bool :=
  let p := s.sched.slot[n]
  unitsOn s && (p.st == .drain || p.st == .fold) && phaseDrained s p && (!Rec.addsq p.rcd || p.folded)

/-- The token events of a phase that finishes (R189). -/
def finishEvents (n : Fin 4) (p : PSlot) : List TokEvent :=
  tokEvents (Rec.toks p.rcd) fun k i =>
    { code := 0x32, unit := BitVec.ofNat 12 n.val, mort := some i, pid := some (Rec.phaseId p.rcd),
      loc := ticketLoc p.ticket (BitVec.ofNat 32 k) }

/-- The phase in a slot finishes: its signals and releases are applied, and it leaves its slot (R189, R195). -/
def finishPhase (n : Fin 4) (s : State) : State :=
  let p := s.sched.slot[n]
  let s := applyTokens (finishEvents n p) s
  let s := s.onSched fun c => { c with event := if Rec.irq p.rcd then c.event ||| 1 else c.event }
  countSch 1 1 (leaveSlot n 0 s)

/-- PHASE_FINISH (R195). -/
def execPhaseFinish (slot : Fin 4) (s : State) : Host.Outcome State Fault Refusal :=
  done (onlyIf (mayFinish s slot) (finishPhase slot) s)

/-! ### Aborts (R196, R197) -/

/-- The last event of an aborted phase is over: its ABORT records are acknowledged and its updates are done (R196). -/
def abortOver (s : State) (n : Fin 4) : Bool :=
  let p := s.sched.slot[n]
  p.st == .abort && !inFlight s p.ticket && s.ports.port.toList.all fun q => !q.abortTickets.contains p.ticket

/-- PHASE_ABORT_COMPLETE (R196). -/
def execPhaseAbortComplete (slot : Fin 4) (s : State) : Host.Outcome State Fault Refusal :=
  done (onlyIf (unitsOn s && abortOver s slot)
    (fun s => leaveSlot slot s.sched.slot[slot].abortCode s) s)

/-- Aborts the phase in a slot by command, with code 0x37 (R196). -/
def abortByCommand (n : Fin 4) (s : State) : State :=
  let p := s.sched.slot[n]
  if p.st == .abort then s
  else
    abortPhase n 0x37 .command (report
      { code := 0x37, unit := BitVec.ofNat 12 n.val, pid := some (Rec.phaseId p.rcd), loc := ticketLoc p.ticket 0 } s)

/-- Counts aborted queued records (R196). -/
def noteAborts (code : BitVec 8) (n : Nat) (s : State) : State :=
  if n = 0 then s
  else s.onSched fun c => { c with event := c.event ||| 2, lastCode := code, count := bump c.count 3 n }

/-- Removes a queued record by command (R196). -/
def unqueue (q : QRec) (s : State) : State :=
  noteAborts 0x37 1 (report
    { code := 0x37, unit := 4, pid := some (Rec.phaseId q.rcd), loc := ticketLoc q.ticket 0 }
    (s.onSched fun c => { c with queue := c.queue.filter fun r => r.ticket != q.ticket }))

/-- The slot that holds a ticket. -/
def slotOfTicket (s : State) (t : BitVec 32) : Option (Fin 4) :=
  (List.finRange 4).find? fun n => s.sched.slot[n].st != .free && s.sched.slot[n].ticket == t

/-- Aborts the record with a ticket; false when there is none (R196). -/
def abortTicket (t : BitVec 32) (s : State) : Bool × State :=
  match s.sched.queue.find? fun q => q.ticket == t with
  | some q => (true, unqueue q s)
  | none =>
    match slotOfTicket s t with
    | some n => (true, abortByCommand n s)
    | none => (false, s)

/-- FLUSH: the queue is emptied, each record counted as aborted, code 0x37 once with their number as its repeat count
(R197). It is logged as that many occurrences one after the other: a log that is full counts each in DISCARDED and SEQ, a
masked code each in MASKED, an earlier entry of the same key takes each as a repeat; R197 speaks of a new entry alone
(DESIGN CHOICE, assumption 133). -/
def flushQueue (s : State) : State :=
  let n := s.sched.queue.length
  let s := noteAborts 0x37 n (s.onSched fun c => { c with queue := [] })
  foldUpTo n (fun _ s => report { code := 0x37, unit := 4 } s) s

/-- SCH_CMD_STATUS.CODE. -/
def schCode (c : BitVec 8) (s : State) : State := s.onSched fun k => { k with cmdCode := c }

/-- The report of a command that names no record: UNIT 4 for the queue, or the slot named, and the ticket (R205,
R370). -/
def noRecord (unit : BitVec 12) (t : BitVec 32) : Report := { code := 0x39, unit := unit, loc := ticketLoc t 0 }

/-- A schedule command is refused with code 0x39 (R205). -/
def schRefuse (unit : BitVec 12) (t : BitVec 32) (s : State) : State := report (noRecord unit t) (schCode 0x39 s)

/-- ABORT. -/
def schAbortOp (t : BitVec 32) (s : State) : State :=
  let r := abortTicket t s
  if r.1 then schCode 0 r.2 else schRefuse 4 t s

/-- ABORT_SLOT. -/
def schAbortSlotOp (n : Fin 4) (s : State) : State :=
  if s.sched.slot[n].st == .free then schRefuse (BitVec.ofNat 12 n.val) 0 s else schCode 0 (abortByCommand n s)

/-- QRESUME (R197). -/
def schQresumeOp (s : State) : State := schCode 0 (s.onSched fun c => { c with qhalt := false })

/-- A value of SCH_CMD with a reserved bit or operation. -/
def schReservedWord (v : W64) : Bool := v &&& 0xFFFF00000000FFF0 != 0 || 5 ≤ (field v 0 4).toNat

/-- What a write of SCH_CMD does. -/
def schWord (v : W64) (s : State) : State :=
  if !unitsOn s then s
  else if schReservedWord v then schRefuse 4 (field v 16 32) s
  else
    match (field v 0 4).toNat with
    | 0 => schCode 0 s
    | 1 => schAbortOp (field v 16 32) s
    | 2 => schAbortSlotOp (field v 16 2).toFin s
    | 3 => schCode 0 (flushQueue s)
    | _ => schQresumeOp s

/-- A schedule command: run with BUSY set after it, or dropped with LOST while BUSY (SCH_CMD). -/
def schGate (act : State → State) (s : State) : State :=
  unlessBusy s.sched.cmdBusy (fun s => s.onSched fun t => { t with cmdLost := true })
    (fun s => s.onSched fun t => { t with cmdBusy := true }) act s

/-- A schedule command through SCH_CMD. -/
def schCmd (src : Src) (act : State → State) (s : State) : State :=
  writeDropping src 0x60018 .host s.sched.cmdBusy (schGate fun s => onlyIf (unitsOn s) act s) s

/-- NOP. -/
def execSchNop (src : Src) (s : State) : Host.Outcome State Fault Refusal := done (schCmd src (schCode 0) s)

/-- ABORT (R196). -/
def execSchAbort (src : Src) (ticket : BitVec 32) (s : State) : Host.Outcome State Fault Refusal :=
  done (schCmd src (schAbortOp ticket) s)

/-- ABORT_SLOT (R196). -/
def execSchAbortSlot (src : Src) (slot : Fin 4) (s : State) : Host.Outcome State Fault Refusal :=
  done (schCmd src (schAbortSlotOp slot) s)

/-- FLUSH (R197). -/
def execSchFlush (src : Src) (s : State) : Host.Outcome State Fault Refusal :=
  done (schCmd src (fun s => schCode 0 (flushQueue s)) s)

/-- QRESUME (R197). -/
def execSchQresume (src : Src) (s : State) : Host.Outcome State Fault Refusal := done (schCmd src schQresumeOp s)

/-- A reserved schedule command: refused with code 0x39 (R205). -/
def execSchCmdReserved (src : Src) (raw : BitVec 64) (s : State) : Host.Outcome State Fault Refusal :=
  done (onlyIf (schReservedWord raw) (schCmd src (schWord raw)) s)

/-! ### Phase boundaries (R199) -/

/-- A phase stands at a phase boundary: every slot state but ISSUE (R199). -/
def PSlot.atBoundary (p : PSlot) : Bool := p.st != .issue

/-! ### Registers -/

/-- The code of SCH_SLOT.STATE. -/
def SlotState.code : SlotState → BitVec 4
  | .free => 0 | .check => 1 | .wait => 2 | .hold => 3 | .issue => 4 | .bound => 5 | .drain => 6 | .fold => 7
  | .abort => 8

/-- The first slot that has a property, as a field of two bits and a flag. -/
def slotField (s : State) (f : PSlot → Bool) : BitVec 2 × Bool :=
  match (List.finRange 4).find? fun n => f s.sched.slot[n] with
  | some n => (BitVec.ofNat 2 n.val, true)
  | none => (0, false)

/-- The loop-back path is held by a phase that has not handed it over. -/
def PSlot.holdsLoop (p : PSlot) : Bool :=
  Rec.isLoop p.rcd && p.begun && !p.streams.all (streamRead p.rcd)

/-- SCH_STATUS. -/
def schStatus (s : State) : W64 :=
  let c := s.sched
  let sq := slotField s PSlot.holdsSeq
  let lp := slotField s PSlot.holdsLoop
  let busy := (List.finRange 4).foldl (fun m n =>
    if c.slot[n].st != .free then m ||| ((1 : BitVec 4) <<< n.val) else m) 0
  (0 : BitVec 16) ++ c.lastCode ++ sq.1 ++ flagBits 1 sq.2 ++ lp.1 ++ flagBits 1 lp.2 ++ flagBits 1 (raiseWaits s) ++
    flagBits 1 c.qhalt ++ (0 : BitVec 12) ++ busy ++ (0 : BitVec 9) ++ BitVec.ofNat 7 c.queue.length

/-- SCH_SLOT. -/
def schSlot (p : PSlot) : W64 :=
  if p.st == .free then 0
  else
    let r : Rec := p.rcd
    p.ticket ++ r.ports ++ r.phaseId ++ (0 : BitVec 2) ++ flagBits 1 r.isLoop ++ flagBits 1 r.seqMode ++ p.st.code

/-- SCH_SLOT_WAIT. -/
def schWait (s : State) (n : Fin 4) : W64 :=
  let p := s.sched.slot[n]
  (0 : BitVec 16) ++ (if p.st == .wait then slotPending s n else 0) ++ (0 : BitVec 8) ++ p.waitBclk

/-- The registers at an offset of the schedule-engine sub-window. -/
def schInfo (off : Nat) : Option RegInfo :=
  match off with
  | 0x00 => some { owner := .both, other := 0x000000FFFFFFFFFF }
  | 0x08 => some { owner := .both, other := 0x0000FFFF000F007F }
  | 0x10 => some { owner := .host, rw := 0x3 }
  | 0x18 => some { owner := .host, other := 0x0000FFFFFFFF000F }
  | 0x20 => some { owner := .host, other := 0xFF0003 }
  | 0xA0 => some { owner := .both, other := 0xFFFFFFFF00FFFF00 }
  | 0xA8 => some { owner := .host, other := 0x7 }
  | 0x200 => some { owner := .host, other := 0x1 }
  | 0x208 => some { owner := .host, other := 0xFFFFFFFF00FF0003 }
  | _ =>
    if off % 8 != 0 then none
    else if 0x40 ≤ off && off < 0x60 then some { owner := .both, other := 0xFFFFFFFFFFFFFF3F }
    else if 0x60 ≤ off && off < 0x80 then some { owner := .both, other := 0x0000FFFFFFFFFFFF }
    else if 0x80 ≤ off && off < 0xA0 then some { owner := .both, other := 0x0000FF00FFFFFFFF }
    else if 0x100 ≤ off && off < 0x200 then some { owner := .host, rw := 0xFFFFFFFFFFFFFFFF }
    else if 0x400 ≤ off && off < 0x440 then some { owner := .host, rw := 0xFFFFFFFFFFFFFFFF }
    else none

/-- The slot a register of a bank of four belongs to. -/
def slotIx (off : Nat) : Fin 4 := Fin.ofNat 4 (off / 8)

/-- Reads a register of the schedule-engine sub-window. -/
def schRead (off : Nat) (s : State) : W64 :=
  let c := s.sched
  match off with
  | 0x00 => 0x00000008060C0440
  | 0x08 => schStatus s
  | 0x10 => (0 : BitVec 62) ++ flagBits 1 c.haltAbort ++ flagBits 1 c.haltRefuse
  | 0x20 => (0 : BitVec 40) ++ c.cmdCode ++ (0 : BitVec 14) ++ flagBits 1 c.cmdLost ++ flagBits 1 c.cmdBusy
  | 0xA0 => c.last
  | 0xA8 => c.event.setWidth 64
  | 0x208 => c.pushTicket ++ (0 : BitVec 8) ++ c.pushCode ++ (0 : BitVec 14) ++ flagBits 1 c.pushLost ++
      flagBits 1 c.pushBusy
  | _ =>
    if 0x40 ≤ off && off < 0x60 then schSlot c.slot[slotIx off]
    else if 0x60 ≤ off && off < 0x80 then BitVec.ofNat 64 c.slot[slotIx off].slowest
    else if 0x80 ≤ off && off < 0xA0 then schWait s (slotIx off)
    else if 0x100 ≤ off && off < 0x200 then wordOf c.pbuf ((off - 0x100) / 8)
    else if 0x400 ≤ off && off < 0x440 then c.count.get 0 ((off - 0x400) / 8)
    else 0

/-- Writes a register of the schedule-engine sub-window. -/
def schWrite (off : Nat) (v : W64) (s : State) : State :=
  match off with
  | 0x10 => s.onSched fun c => { c with haltRefuse := bitAt v 0, haltAbort := bitAt v 1 }
  | 0x18 => schGate (schWord v) s
  | 0x20 => s.onSched fun c => { c with cmdLost := c.cmdLost && !bitAt v 1 }
  | 0xA8 => s.onSched fun c => { c with event := c.event &&& ~~~field v 0 3 }
  | 0x200 => pushWrite v s
  | 0x208 => s.onSched fun c => { c with pushLost := c.pushLost && !bitAt v 1 }
  | _ =>
    if 0x100 ≤ off && off < 0x200 then s.onSched fun c => { c with pbuf := setWord c.pbuf ((off - 0x100) / 8) v }
    else if 0x400 ≤ off && off < 0x440 then s.onSched fun c => { c with count := c.count.set 0 ((off - 0x400) / 8) v }
    else s

end Sys2Proof.Machine
end

