-- ==== Sys2Proof/Machine/Cfg.lean ====
section
/-!
DEFINITION. Cfg.lean: the configuration sets and the raise (R362 to R366), and the main-domain registers of the boot
sub-window.
-/
namespace Sys2Proof.Machine

/-! ### CFG_RAISE (R363) -/

/-- CFG_STATUS.CODE. -/
def cfgCode (c : BitVec 8) (s : State) : State := s.onCfg fun k => { k with code := c }

/-- An operation is refused (R363, R367). -/
def cfgRefuse (c : BitVec 8) (s : State) : State := report { code := c } (cfgCode c s)

/-- A raise is refused in RESET, BOOT and FAULT (R363). -/
def raiseAllowed (s : State) : Bool := unitsOn s && s.aon.st != .boot

/-- RAISE: a raise becomes pending; with one pending it changes nothing (R363). -/
def raiseOp (s : State) : State :=
  if !raiseAllowed s then cfgRefuse 0x9A s
  else if s.cfg.pending then cfgCode 0 s
  else s.onCfg fun k => { k with code := 0, pending := true, forced := false, cmdAt := s.now }

/-- FORCE: the raise waits for nothing; a pending one turns into a forced one (R363). -/
def forceOp (s : State) : State :=
  if !raiseAllowed s then cfgRefuse 0x9A s
  else s.onCfg fun k =>
    { k with code := 0, pending := true, forced := true, cmdAt := if k.pending then k.cmdAt else s.now }

/-- CANCEL: the pending raise is withdrawn, and held phases proceed (R200, R363). -/
def cancelOp (s : State) : State :=
  if s.cfg.pending then releaseBounds (s.onCfg fun k => { k with code := 0, pending := false, forced := false })
  else cfgRefuse 0x9A s

/-- SYNC: every active value is copied into its shadow copy; refused while a raise is pending (R363). -/
def syncOp (s : State) : State :=
  if s.cfg.pending then cfgRefuse 0x9A s else s.onCfg fun k => { k with code := 0, shadow := k.active }

/-- A value of CFG_RAISE with a reserved bit or operation (R363). -/
def cfgReservedWord (v : W64) : Bool := v &&& 0xFFFFFFFFFFFFFFF0 != 0 || 5 ≤ (field v 0 4).toNat

/-- What a write of CFG_RAISE does. -/
def cfgWord (v : W64) (s : State) : State :=
  if cfgReservedWord v then cfgRefuse 0x9C s
  else
    match (field v 0 4).toNat with
    | 0 => cfgCode 0 s
    | 1 => raiseOp s
    | 2 => forceOp s
    | 3 => cancelOp s
    | _ => syncOp s

/-- A command of the configuration sets: run with BUSY set after it, or dropped with LOST while BUSY (R363). -/
def cfgGate (act : State → State) (s : State) : State :=
  unlessBusy s.cfg.busy (fun s => s.onCfg fun t => { t with lost := true })
    (fun s => s.onCfg fun t => { t with busy := true }) act s

/-- A command through CFG_RAISE (R363). -/
def cfgCmd (src : Src) (act : State → State) (s : State) : State := 
  writeDropping src 0x10100 .both s.cfg.busy (cfgGate act) s

/-- NOP (R363). -/
def execCfgNop (src : Src) (s : State) : Host.Outcome State Fault Refusal := done (cfgCmd src (cfgCode 0) s)

/-- RAISE (R363). -/
def execRaise (src : Src) (s : State) : Host.Outcome State Fault Refusal := done (cfgCmd src raiseOp s)

/-- FORCE (R363). -/
def execForce (src : Src) (s : State) : Host.Outcome State Fault Refusal := done (cfgCmd src forceOp s)

/-- CANCEL (R363). -/
def execCancel (src : Src) (s : State) : Host.Outcome State Fault Refusal := done (cfgCmd src cancelOp s)

/-- SYNC (R363). -/
def execSync (src : Src) (s : State) : Host.Outcome State Fault Refusal := done (cfgCmd src syncOp s)

/-- A reserved raise operation: code 0x9C (R363). -/
def execCfgRaiseReserved (src : Src) (raw : BitVec 64) (s : State) : Host.Outcome State Fault Refusal :=
  done (onlyIf (cfgReservedWord raw) (cfgCmd src (cfgWord raw)) s)

/-! ### The raise (R364) -/

/-- The pending raise can be applied: it is forced, or all four slots stand at a boundary (R199, R364, R366). -/
def raiseDue (s : State) : Bool :=
  unitsOn s && s.cfg.pending && (s.cfg.forced || s.sched.slot.toList.all PSlot.atBoundary)

/-- The slots whose phases issue, in the order in which the phases started. -/
def issuingByStart (s : State) : List (Fin 4) :=
  sortBy (fun a b => s.sched.slot[a].startNo < s.sched.slot[b].startNo)
    ((List.finRange 4).filter fun n => s.sched.slot[n].st == .issue || s.sched.slot[n].st == .bound)

/-- Every phase that issues takes its operating point from the new set, in the order of their starts: of two that name
one bent the later binds it, as it does at its start, one that waits for its routes too. A phase that has yet to start
takes it at its start, and one that drains issues no more (R200, R291, R364). -/
def latchAll (s : State) : State := foldOver (issuingByStart s) latchOpc s

/-- The two copies are exchanged in one BCLK; the raise counts, is stamped, and held phases proceed (R200, R364). -/
def applyRaise (s : State) : State :=
  let s := (holdGov s.cfg.active s).onCfg fun k =>
    { k with
      shadow := k.active, active := k.shadow, pending := false, forced := false, raises := k.raises + 1
      stamp := s.now, lastWait := satNat 32 (s.now.toNat - k.cmdAt.toNat) }
  latchAll (releaseBounds s)

/-- RAISE_APPLY (R364). -/
def execRaiseApply (s : State) : Host.Outcome State Fault Refusal := doneGov (onlyIf (raiseDue s) applyRaise s)

/-! ### Shadow writes (R365) -/

/-- A write of a shadow register while a raise is pending: DROPPED, code 0x9B (R365). -/
def shadowLocked (src : Src) (s : State) : State := report { code := 0x9B } (answer src .dropped 0 s)

/-! ### Registers -/

/-- The main-domain registers at an offset of the boot sub-window. -/
def cfgInfo (off : Nat) : Option RegInfo :=
  match off with
  | 0x100 => some { owner := .both, other := 0xF }
  | 0x108 => some { owner := .both, other := 0xFFFFFFFF00FF000F }
  | 0x110 => some { owner := .both, other := 0xFFFFFFFF }
  | 0x118 => some { owner := .both, other := 0xFFFFFFFFFFFFFFFF }
  | _ => none

/-- Reads one of them. -/
def cfgRead (off : Nat) (s : State) : W64 :=
  let k := s.cfg
  match off with
  | 0x108 => k.raises ++ (0 : BitVec 8) ++ k.code ++ (0 : BitVec 12) ++ flagBits 1 k.lost ++ flagBits 1 k.forced ++
      flagBits 1 k.pending ++ flagBits 1 k.busy
  | 0x110 => k.lastWait.setWidth 64
  | 0x118 => k.stamp
  | _ => 0

/-- Writes one of them. -/
def cfgWrite (off : Nat) (v : W64) (s : State) : State :=
  match off with
  | 0x100 => cfgGate (cfgWord v) s
  | 0x108 => s.onCfg fun k => { k with lost := k.lost && !bitAt v 3 }
  | _ => s

end Sys2Proof.Machine
end

