-- ==== Sys2Proof/Machine/ColBudget.lean ====
section
/-!
DEFINITION. ColBudget.lean: the exchange of budget between the earliest and the latest instance of a barrier (R313,
R314).
-/
namespace Sys2Proof.Machine

/-- GOV_SHIFT.EN. -/
def shiftEn (s : State) : Bool := bitAt s.gov.shiftCfg 0

/-- GOV_SHIFT.STEP, 1/8 W. -/
def shiftStep (s : State) : BitVec 16 := field s.gov.shiftCfg 32 16

/-- GOV_SHIFT.MIN_LATE in BCLK. -/
def minLate (s : State) : Nat := 64 * (field s.gov.shiftCfg 48 16).toNat

/-- GOV_CAP.ACCEPT. -/
def capAccepts (s : State) : Bool := bitAt (govCapWord s) 32

/-- Changes SHIFT by a signed amount; GOV_EVENT.SHIFT is set when it changes. -/
def addShift (x : Int) (s : State) : State :=
  if x = 0 then s
  else s.onGov fun g => { g with shift := BitVec.ofInt 16 (g.shift.toInt + x), event := g.event ||| 0x20 }

/-- SHIFT returns to 0 and the pool's replies are void at a change of epoch; no exchange is in flight (R314). -/
def clearShift (s : State) : State :=
  let s := addShift (-s.gov.shift.toInt) s
  (s.onGov fun g => { g with pool := [] }).onCol fun c =>
    { c with exchOn := false, relay := none, gaveTo := none, gaveUp := none }

/-- A BUDGET message: its scope and leg, its sender, its number, its barrier and its amounts. It goes as a packet whose
DIRN gives the scope and whose SEQ is that of the barrier, so that a ridge knows whose measures to go by: R256 and R314
give a BUDGET packet no use of SEQ (DESIGN CHOICE, assumption 139). -/
structure BudMsg where
  /-- Its exchange runs between dies. -/
  up : Bool
  /-- This leg of it runs within a ring. -/
  inner : Bool
  /-- Sender. -/
  src : BitVec 12
  /-- SUB: 1 TAKE, 2 TAKEN, 3 GIVE, 4 GIVEN. -/
  sub : BitVec 8
  /-- EXCH. -/
  exch : BitVec 16
  /-- SEQ of the barrier. -/
  seq : BitVec 16
  /-- AMOUNT. -/
  amt : BitVec 16
  /-- EFF_CAP of a reply. -/
  eff : BitVec 16 := 0
  /-- POWER of a reply. -/
  power : BitVec 16 := 0
  deriving DecidableEq, Repr

/-- What this instance gives up of an amount: as far as CAP_EFF stays at CAP_MIN, nothing while ACCEPT is clear. -/
def takeable (s : State) (amt : BitVec 16) : Nat :=
  if capAccepts s then min amt.toNat (capEff s - (field (profNow s 0) 16 16).toNat) else 0

/-- The exchange of a scope to which this instance gave and from which nothing has come back. -/
def gaveOf (s : State) (up : Bool) : Option (BitVec 16) := if up then s.col.gaveUp else s.col.gaveTo

/-- Notes to which exchange of a scope this instance gave. -/
def noteGave (up : Bool) (e : Option (BitVec 16)) (s : State) : State :=
  s.onCol fun c => if up then { c with gaveUp := e } else { c with gaveTo := e }

/-- What this instance accepts of an amount: all of what it gave to that exchange, else as far as CAP_MAX allows, nothing
while ACCEPT is clear. -/
def givable (s : State) (up : Bool) (exch amt : BitVec 16) : Nat :=
  if gaveOf s up = some exch then amt.toNat
  else if capAccepts s then min amt.toNat ((field (profNow s 0) 32 16).toNat - capEff s) else 0

/-- The reply of this instance to a message. -/
def budReply (s : State) (m : BudMsg) (sub : BitVec 8) (amt : Nat) : BudMsg :=
  { m with src := ownFid s, sub := sub, amt := BitVec.ofNat 16 amt, eff := satNat 16 (capEff s)
           power := field s.gov.power 32 16 }

/-- A reply from a member of this ring is recorded in GOV_POOL; a relayed one carries the relaying ridge as its sender and
names no rank of this ring (R313). -/
def notePool (m : BudMsg) (s : State) : State :=
  if onRing s m.src then
    s.onGov fun g => { g with pool := g.pool.set 0 (rankOf s m.src) ((1 : BitVec 1) ++ (0 : BitVec 31) ++ m.eff ++ m.power) }
  else s

/-- A message out of turn is dropped with code 0x7C (R314). -/
def budBad (s : State) : State := report { code := 0x7C } s

/-- The exchange that this instance runs waits for a reply and matches it: one from a member of its ring, or from another
ridge between dies. -/
def ownExchange (s : State) (m : BudMsg) : Bool :=
  s.col.exchOn && m.inner != m.up && s.col.exchUp == m.up && s.col.exch == m.exch &&
    (m.sub == 2) == (s.col.exchAmt == 0) && m.src == (if m.sub == 2 || s.col.exchBack then s.col.exchFrom else s.col.exchTo)

/-- What the instance that runs the exchange does next on a reply: the message it sends, and to whom (R313). -/
def exchangeNext (s : State) (m : BudMsg) : Option (BitVec 12 × BudMsg) × State :=
  let give (f : BitVec 12) (n : BitVec 16) : Option (BitVec 12 × BudMsg) :=
    some (f, { up := m.up, inner := m.inner, src := ownFid s, sub := 3, exch := m.exch, seq := m.seq, amt := n })
  let stop := s.onCol fun c => { c with exchOn := false }
  if m.sub == 2 then
    if m.amt == 0 then (none, stop)
    else (give s.col.exchTo m.amt, s.onCol fun c => { c with exchAmt := m.amt })
  else if s.col.exchBack || !m.amt.ult s.col.exchAmt then (none, stop)
  else (give s.col.exchFrom (s.col.exchAmt - m.amt), s.onCol fun c => { c with exchBack := true })

/-- A GIVE from the crown is what goes back to the member that gave: the ridge has passed the exchange's TAKE on, and in a
crown of one die, which is the earliest and the latest, a GIVE too (R313). -/
def givesBack (s : State) (m : BudMsg) : Bool :=
  s.col.relay.any fun r => r.crown == m.src && r.exch == m.exch && (s.col.ridges.length != 1 || r.fwd)

/-- The member to which a ridge passes a TAKE or a GIVE from the crown: the one that arrived earliest at that barrier for
a TAKE and for what comes back to it, else the latest (R313). -/
def relayTo (s : State) (m : BudMsg) : Option (BitVec 12) :=
  (s.col.lates.find? (·.1 == m.seq)).map fun p => if m.sub == 1 || givesBack s m then p.2.1 else p.2.2

/-- A member gives up what it can of a TAKE (R313). -/
def budTake (m : BudMsg) (s : State) : Option (BitVec 12 × BudMsg) × State :=
  let a := takeable s m.amt
  let s := addShift (-(a : Int)) s
  (some (m.src, budReply s m 2 a), noteGave m.up (if a = 0 then none else some m.exch) s)

/-- A member accepts what it can of a GIVE (R313). -/
def budGive (m : BudMsg) (s : State) : Option (BitVec 12 × BudMsg) × State :=
  let b := givable s m.up m.exch m.amt
  let s := addShift b s
  (some (m.src, budReply s m 4 b), noteGave m.up none s)

/-- A ridge passes the crown's TAKE or GIVE to a member of its ring (R313). -/
def budRelay (m : BudMsg) (s : State) : Option (BitVec 12 × BudMsg) × State :=
  match relayTo s m with
  | some f => (some (f, { m with inner := true, src := ownFid s }),
      s.onCol fun c => { c with relay := some { crown := m.src, exch := m.exch, fwd := m.sub == 3 } })
  | none => (none, budBad s)

/-- A ridge relays its member's reply to the crown (R313). -/
def budReturn (m : BudMsg) (s : State) : Option (BitVec 12 × BudMsg) × State :=
  match s.col.relay with
  | some r =>
    if m.up && m.inner && r.exch == m.exch && onRing s m.src then
      (some (r.crown, { m with inner := false, src := ownFid s }), notePool m s)
    else (none, budBad s)
  | none => (none, budBad s)

/-- What this instance does on a message addressed to it: the message that follows, with its destination (R313,
R314). -/
def budgetAct (m : BudMsg) (s : State) : Option (BitVec 12 × BudMsg) × State :=
  if m.sub == 1 || m.sub == 3 then
    if !m.inner then budRelay m s else if m.sub == 1 then budTake m s else budGive m s
  else if ownExchange s m then exchangeNext (if m.up then s else notePool m s) m
  else budReturn m s

/-- Carries messages until one leaves this instance or none follows; the ridge performs its own steps internally
(R313). -/
def budgetRun : Nat → Option (BitVec 12 × BudMsg) → State → State
  | _, none, s => s
  | 0, some _, s => s
  | n + 1, some (dest, m), s =>
    if dest == ownFid s then
      let r := budgetAct m s
      budgetRun n r.1 r.2
    else
      sendOn (linkFor s dest false)
        ({ ctlHdr s 0xD m.up dest with seq := m.seq }, .budget m.sub m.exch m.amt m.eff m.power) s

/-- A BUDGET packet reaches this instance (R313, R314). -/
def takeBudget (m : BudMsg) (s : State) : State :=
  if 1 ≤ m.sub.toNat && m.sub.toNat ≤ 4 then budgetRun 16 (some (ownFid s, m)) s else budBad s

/-- The element of a list with the greatest key, the last among equals. -/
def greatestBy {α : Type} (l : List α) (key : α → Nat) : Option α :=
  l.foldl (fun b a => match b with | none => some a | some c => if key c ≤ key a then some a else some c) none

/-- The earliest and the latest of some arrivals, each with the BCLK since the first (R313). -/
def earlyLate (l : List (BitVec 12 × Nat)) : Option (BitVec 12 × BitVec 12 × Nat) :=
  match leastBy l (·.2), greatestBy l (·.2) with
  | some a, some b => some (a.1, b.1, b.2 - a.2)
  | _, _ => none

/-- At the end of a barrier, of a scope and a SEQ, the ridge or the crown starts an exchange (R313). -/
def startExchange (up : Bool) (seq : BitVec 16) (l : List (BitVec 12 × Nat)) (s : State) : State :=
  match earlyLate l with
  | some (early, late, spread) =>
    if shiftEn s && 2 ≤ (verOf s up).toNat && minLate s ≤ spread && !s.col.exchOn then
      let s := s.onCol fun c =>
        { c with exch := c.exch + 1, exchOn := true, exchFrom := early, exchTo := late, exchAmt := 0,
                 exchBack := false, exchUp := up }
      budgetRun 16
        (some (early,
          { up := up, inner := !up, src := ownFid s, sub := 1, exch := s.col.exch, seq := seq, amt := shiftStep s })) s
    else s
  | none => s

end Sys2Proof.Machine
end

