-- ==== Sys2Proof/Machine/ColRun.lean ====
section
/-!
DEFINITION. ColRun.lean: the running collective: reduce-scatter and all-gather (R276 to R279), the norm (R280), the
barrier (R281), and the packets it takes (R273).
-/
namespace Sys2Proof.Machine

/-- Changes the running collective. -/
def onRun (f : CRun → CRun) (s : State) : State := s.onCol fun c => { c with run := c.run.map f }

/-! ### Beams (R276, R279) -/

/-- This member's beam v of the vector, read once through requester 3, is used (R279). -/
def takeOwn (r : CRun) (v : Nat) (s : State) : MarkedBeam × State :=
  ((r.own.get 0 v).extractLsb' 0 4353, onRun (fun r => { r with own := r.own.erase v }) s)

/-- A beam waits to be sent at ring step t. -/
def keepFwd (ccw : Bool) (t v : Nat) (b : MarkedBeam) (s : State) : State :=
  onRun (fun r => r.onSide ccw fun c => { c with fwd := c.fwd.set 0 (2 ^ 20 * t + v) ((1 : BitVec 1) ++ b) }) s

/-- A beam is to be written into MORT2 (R279). -/
def stageWrite (ccw : Bool) (v : Nat) (b : MarkedBeam) (s : State) : State :=
  onRun (fun r =>
    let i := CDesc.mort2 r.desc
    { r with writes := r.writes ++
        [{ job := { beam := (mortAt s i).beamAt (r.target ccw v), key := 2 ^ 20 * r.ticket.toNat + v, mort := i },
           data := b.extractLsb' 0 4352, poison := bitAt b 4352, client := .collective }] }) s

/-- A beam of this member's completed chunk: squared with TALLY, written, and kept for the all-gather (R276, R278). -/
def completeBeam (r : CRun) (ccw : Bool) (v : Nat) (b : MarkedBeam) (s : State) : State :=
  let s := if CDesc.tally r.desc then
      let q := (1 : BitVec 1) ++ BitVec.ofBool (bitAt b 4352) ++ colSquares (CDesc.fmt r.desc) (b.extractLsb' 0 4352)
      tallyChunks false (onRun (fun r => { r with squares := r.squares.set 0 v q }) s)
    else s
  let s := stageWrite ccw v b s
  if CDesc.op r.desc = 3 && r.n != 1 then keepFwd ccw (r.n - 1) v b s else s

/-- The sum of a received beam and this member's own; it carries poison if either does (R277). -/
def addOwn (r : CRun) (v : Nat) (b : MarkedBeam) (s : State) : MarkedBeam × State :=
  let p := takeOwn r v s
  let f := takeFree 4352 p.2
  (marked (colAdd (CDesc.fmt r.desc) f.1 (b.extractLsb' 0 4352) (p.1.extractLsb' 0 4352))
    (bitAt b 4352 || bitAt p.1 4352), f.2)

/-- One beam of a data packet of ring step t (R276). -/
def takeBeam (r : CRun) (ccw : Bool) (t v : Nat) (b : MarkedBeam) (s : State) : State :=
  if r.gathers t then
    let s := stageWrite ccw v b s
    if t + 1 < r.steps then keepFwd ccw (t + 1) v b s else s
  else
    let p := addOwn r v b s
    if t + 2 < r.n then keepFwd ccw (t + 1) v p.1 p.2 else completeBeam r ccw v p.1 p.2

/-- The direction of a packet's beams: by their place in the vector under BOTH (R276). -/
def CRun.ccwOf (r : CRun) (h : Hdr) : Bool :=
  if CDesc.dir r.desc = 2 then CDesc.count r.desc / 2 ≤ h.beam.toNat else CDesc.dir r.desc = 1

/-- The beams of a data packet are those its ring step brings to this member (R276). -/
def CRun.expects (r : CRun) (h : Hdr) : Bool :=
  let ccw := r.ccwOf h
  let k := h.beam.toNat - CDesc.half r.desc ccw
  k / r.chunk = r.chunkOf ccw (r.step ccw r.pos (-1)) h.step.toNat && k % r.chunk + h.nbeam.toNat ≤ r.chunk

/-- A data packet of the running collective (R276, R277). -/
def takeData (l : Fin 3) (r : CRun) (h : Hdr) (beams : List Beam) (s : State) : State :=
  if r.n = 1 || r.steps ≤ h.step.toNat then endMismatch l h s
  else if !r.expects h then countCol 4 (report (colReport 0x61 l.val r.ticket h.src) s)
  else
    let ccw := r.ccwOf h
    let s := foldOver beams.zipIdx (fun p s =>
      takeBeam r ccw h.step.toNat (h.beam.toNat + p.2) (marked p.1 (bitAt h.poison p.2)) s) s
    onRun (fun r => r.onSide ccw fun c => { c with got := c.got + beams.length }) s

/-- Each of k beams from place v of the vector on can be put by for its write: its bay has fewer beams of the collective
to write than one transfer carries. Without write grants the unit takes no more and holds its link; the spec gives the
number of beams it puts by no bound (R279; DESIGN CHOICE, assumption 140). -/
def CRun.roomFor (r : CRun) (s : State) (ccw : Bool) (v k : Nat) : Bool :=
  (List.range k).all fun i =>
    let b := bayIx ((mortAt s (CDesc.mort2 r.desc)).beamAt (r.target ccw (v + i)))
    countTrue r.writes (fun t => bayIx t.job.beam = b) < burstOf s b

/-- The beams of ring step t are written into MORT2 as they come: gathered, or this member's completed chunk (R276). -/
def CRun.stores (r : CRun) (t : Nat) : Bool := r.gathers t || r.n ≤ t + 2

/-- The unit holds what a data packet needs: each beam of its own that it has to add, and a place for each it has to
write. A packet without waits in the input buffer (R254, R279). -/
def CRun.canTake (r : CRun) (s : State) (h : Hdr) : Bool :=
  let t := h.step.toNat
  r.n = 1 || r.steps ≤ t || !r.expects h ||
    ((r.gathers t || (List.range h.nbeam.toNat).all fun k => r.holds (h.beam.toNat + k)) &&
      (!r.stores t || r.roomFor s (r.ccwOf h) h.beam.toNat h.nbeam.toNat))

/-! ### Sending (R258, R276, R279) -/

/-- The packet's beams have been sent. -/
def CRun.sent (r : CRun) (ccw : Bool) (k : Nat) : CRun :=
  r.onSide ccw fun c =>
    if c.sendOfs + k = r.chunk then { c with sendStep := c.sendStep + 1, sendOfs := 0 }
    else { c with sendOfs := c.sendOfs + k }

/-- Every beam of the next packet is at hand: its own beams read, in the first step, else the beams kept to send on. -/
def CRun.ready (r : CRun) (ccw : Bool) : Bool :=
  let c := r.side ccw
  (List.range (r.batch ccw)).all fun k =>
    let v := r.nextBeam ccw + k
    if c.sendStep = 0 then r.holds v else c.fwd.get 0 (2 ^ 20 * c.sendStep + v) != 0

/-- Takes beam v for a packet: its own in the first step, else from what was kept. -/
def pickBeam (r : CRun) (ccw : Bool) (v : Nat) (s : State) : MarkedBeam × State :=
  let c := r.side ccw
  let key := 2 ^ 20 * c.sendStep + v
  if c.sendStep = 0 then
    let p := takeOwn r v s
    (p.1, if CDesc.op r.desc = 2 then stageWrite ccw v p.1 p.2 else p.2)
  else
    ((c.fwd.get 0 key).extractLsb' 0 4353,
      onRun (fun r => r.onSide ccw fun c => { c with fwd := c.fwd.erase key }) s)

/-- Takes the beams of a packet in order. -/
def pickBeams (r : CRun) (ccw : Bool) (v : Nat) : Nat → State → List MarkedBeam × State
  | 0, s => ([], s)
  | k + 1, s =>
    let p := pickBeam r ccw v s
    let q := pickBeams r ccw (v + 1) k p.2
    (p.1 :: q.1, q.2)

/-- The POISON bits of a packet. -/
def poisonBits (l : List MarkedBeam) : BitVec 3 :=
  l.zipIdx.foldl (fun m p => if bitAt p.1 4352 then m ||| ((1 : BitVec 3) <<< p.2) else m) 0

/-- The next participant in a direction. -/
def CRun.partner (r : CRun) (s : State) (ccw : Bool) : BitVec 12 :=
  (participants s r.desc).getD (r.step ccw r.pos 1) 0

/-- The header of the next data packet (R256). -/
def dataHdr (s : State) (r : CRun) (ccw : Bool) : Hdr :=
  { runHdr s r 0 (r.partner s ccw) with
    dirn := if CDesc.uplink r.desc then 2 else if ccw then 1 else 0
    step := BitVec.ofNat 12 (r.side ccw).sendStep, nbeam := BitVec.ofNat 2 (r.batch ccw),
    beam := BitVec.ofNat 20 (r.nextBeam ccw) }

/-- The link of data packets in a direction; tunnelled packets go clockwise to the ridge (R270). -/
def dataLink (s : State) (r : CRun) (ccw : Bool) : Fin 3 :=
  linkFor s (r.partner s ccw) (ccw && !CDesc.uplink r.desc)

/-- Sends the next data packet of a direction. -/
def sendData (r : CRun) (ccw : Bool) (s : State) : State :=
  let h := dataHdr s r ccw
  let p := pickBeams r ccw (r.nextBeam ccw) (r.batch ccw) s
  let s := onRun (fun r => r.sent ccw h.nbeam.toNat) p.2
  drive (dataLink s r ccw) ({ h with poison := poisonBits p.1 }, .data (p.1.map fun b => b.extractLsb' 0 4352)) s

/-- The step of a collective of one participant: its own beams are the result (R276). -/
def localBeams (r : CRun) (ccw : Bool) (s : State) : State :=
  let k := r.batch ccw
  let s := foldUpTo k (fun j s =>
    let v := r.nextBeam ccw + j
    let p := takeOwn r v s
    if CDesc.op r.desc = 2 then stageWrite ccw v p.1 p.2 else completeBeam r ccw v p.1 p.2) s
  onRun (fun r => r.sent ccw k) s

/-- Collectives run in READY, RUN and PAUSE (R275). -/
def colRuns (s : State) : Bool := isLive s && s.aon.st != .ember

/-- The beams of the direction's next packet are written here too: its own chunk of an all-gather, or all of them with
one participant (R269, R276). -/
def CRun.keepsSent (r : CRun) (ccw : Bool) : Bool :=
  r.n = 1 || (CDesc.op r.desc = 2 && (r.side ccw).sendStep = 0)

/-- The direction has a packet to send, its beams at hand, with a place for each that is written here (R279). -/
def hasData (s : State) (r : CRun) (ccw : Bool) : Bool :=
  colRuns s && CDesc.isData r.desc && CDesc.uses r.desc ccw && (r.side ccw).sendStep < r.steps && r.ready ccw &&
    (!r.keepsSent ccw || r.roomFor s ccw (r.nextBeam ccw) (r.batch ccw))

/-- A packet of the direction can be sent now: the link has the credits, and a packet passing through that waits has had
the last turn (R254, R260). -/
def sendable (s : State) (r : CRun) (ccw : Bool) : Bool :=
  let k := s.aon.link[dataLink s r ccw]
  let p : Packet := (dataHdr s r ccw, .data [])
  hasData s r ccw && (r.n = 1 || (linkUp s (dataLink s r ccw) && k.affords p && !(k.queued p && k.lastOwn)))

/-- The unit's own data packet has the next turn on a link (R260). -/
def ownTurn (s : State) (l : Fin 3) : Bool :=
  s.col.run.any fun r =>
    r.n != 1 && !s.aon.link[l].lastOwn && [false, true].any fun ccw => dataLink s r ccw == l && hasData s r ccw

/-- The oldest packet of a class that waits for a link is driven if the credits suffice; a data packet, unless the
unit's own has its turn (R254, R260). -/
def drainTx (l : Fin 3) (control : Bool) (s : State) : State :=
  let k := s.aon.link[l]
  match k.txq.find? fun p => isControl p.1 == control with
  | some p =>
    if k.affords p.1 && (control || !ownTurn s l) then
      drive l p.1 (s.onLink l fun k => { k with txq := k.txq.erase p })
    else s
  | none => s

/-- A bypass that is to close does so once no packet waits for its output (R260). -/
def closeDue (l : Fin 3) (s : State) : State :=
  if s.aon.link[l].closing && s.aon.link[l].txq.isEmpty then
    (s.onLink l fun k => { k with closing := false }).onAon fun a =>
      { a with bypCw := a.bypCw || l = 0, bypCcw := a.bypCcw || l = 1 }
  else s

/-- A link sends what waits for it: control first (R260). -/
def drainLink (l : Fin 3) (s : State) : State :=
  if linkUp s l then closeDue l (drainTx l false (drainTx l true s)) else s

/-! ### Completion of a data operation (R271, R278) -/

/-- A direction has sent and received all. -/
def CRun.sideOver (r : CRun) (ccw : Bool) : Bool :=
  !CDesc.uses r.desc ccw ||
    ((r.side ccw).sendStep = r.steps && (r.n = 1 || (r.side ccw).got = r.steps * r.chunk))

/-- Every read has left its bank and every write is committed (R271). -/
def dataOver (r : CRun) : Bool :=
  CDesc.isData r.desc && r.sideOver false && r.sideOver true && r.writes.isEmpty

/-- COLLECTIVE_COMPLETE (R271). -/
def execCollectiveComplete (s : State) : Host.Outcome State Fault Refusal :=
  done (match s.col.run with
    | some r => onlyIf (colRuns s && dataOver r) (finishRun r) s
    | none => s)

/-! ### Norm (R280) -/

/-- This participant's partial, and whether it makes the norm invalid. -/
def normPartial (s : State) (d : CDesc) : W64 × Bool :=
  if d.nsrc then (s.col.tally, s.col.tallyPoison || f64NonFinite s.col.tally)
  else
    let v := s.sinter.tally.get 0 d.tidx
    (v, bitAt s.sinter.tallyPoison d.tidx || bitAt s.sinter.nonfinite d.tidx || f64NonFinite v)

/-- The sum of the values that a list of instances gave, in their order, and whether any of them is invalid. -/
def sumOf (order : List (BitVec 12)) (l : List (BitVec 12 × W64 × Bool)) : W64 × Bool :=
  let vs := order.filterMap fun f => (l.find? (·.1 == f)).map Prod.snd
  match vs with
  | [] => (0, false)
  | v :: vs => (vs.foldl (fun a w => f64Add a w.1) v.1, (v :: vs).any Prod.snd)

/-- Every instance of a list has given its value. -/
def allGave {α : Type} (order : List (BitVec 12)) (l : List (BitVec 12 × α)) : Bool :=
  order.all fun f => l.any (·.1 == f)

/-- The ridge passes its die's sum to the crown when every member's partial is there (R280). -/
def normAdvance (s : State) : State :=
  match s.col.run with
  | none => s
  | some r =>
    if CDesc.uplink r.desc && isRidge s && !r.sentUp && allGave (ringFids s) r.partials then
      let p := sumOf (ringFids s) r.partials
      let s := onRun (fun r => { r with sentUp := true }) s
      if isCrown s then onRun (fun r => { r with dieSums := r.dieSums ++ [(ownFid s, p)] }) s
      else sendOn (linkFor s (crownId s) false) (runHdr s r 6 (crownId s), .normUp p.1 p.2) s
    else s

/-- A partial of the ring, or a die's sum at the crown, has come (R280). -/
def takeNormUp (src : BitVec 12) (v : W64) (bad : Bool) (s : State) : State :=
  let e := (src, v, bad || f64NonFinite v)
  if onRing s src then
    normAdvance (onRun (fun r =>
      { r with partials := if r.partials.any (·.1 == src) then r.partials else r.partials ++ [e] }) s)
  else onRun (fun r => { r with dieSums := if r.dieSums.any (·.1 == src) then r.dieSums else r.dieSums ++ [e] }) s

/-- The norm's outcome at a participant (R174, R280). -/
def applyNorm (sum : W64) (clip : BitVec 32) (bad : Bool) (s : State) : State :=
  match s.col.run with
  | none => s
  | some r =>
    if bad then endRun 4 0x66 (report (colReport 0x66 3 r.ticket 0) s)
    else
      let s := s.onSinter fun k => { k with clip := clip, clipGen := k.clipGen + 1 }
      let s := s.onCol fun c =>
        { c with norm := sum, tally := if CDesc.nsrc r.desc then 0 else c.tally
                 tallyPoison := c.tallyPoison && !CDesc.nsrc r.desc }
      finishRun r s

/-- The order and the values of the sum that this instance makes: dies at the crown, members at a ridge. -/
def normTerms (s : State) (r : CRun) : List (BitVec 12) × List (BitVec 12 × W64 × Bool) :=
  if CDesc.uplink r.desc then (s.col.ridges.map Member.fid, r.dieSums) else (ringFids s, r.partials)

/-- Every value of the sum has come to the instance that makes it (R280). -/
def normReady (s : State) (r : CRun) : Bool :=
  CDesc.op r.desc = 4 && colRuns s && (if CDesc.uplink r.desc then isCrown s else isRidge s) &&
    allGave (normTerms s r).1 (normTerms s r).2

/-- The sum, the norm and the clip factor are computed and sent to every participant (R280). -/
def normResult (r : CRun) (s : State) : State :=
  let p := sumOf (normTerms s r).1 (normTerms s r).2
  let c := if p.2 then 0 else clipFactor p.1 (CDesc.maxNorm r.desc)
  applyNorm p.1 c p.2 (sendDown r 7 (.normDown p.1 c p.2) s)

/-- NORM_RESULT (R280). -/
def execNormResult (s : State) : Host.Outcome State Fault Refusal :=
  done (match s.col.run with
    | some r => onlyIf (normReady s r) (normResult r) s
    | none => s)

/-! ### Barrier (R281) -/

/-- The arrivals of a list of instances, as BCLK from the first, in their order. -/
def lateness (order : List (BitVec 12)) (l : List (BitVec 12 × BitVec 64)) : List (BitVec 12 × Nat) :=
  let vs := order.filterMap fun f => (l.find? (·.1 == f)).map fun p => (f, p.2.toNat)
  let first := ((leastBy vs (·.2)).map Prod.snd).getD 0
  vs.map fun p => (p.1, p.2 - first)

/-- COL_LATE or COL_CLATE after a barrier. -/
def lateWords (l : List (BitVec 12 × Nat)) : SMap W64 :=
  l.zipIdx.map fun p => (p.2, (1 : BitVec 1) ++ (0 : BitVec 15) ++ BitVec.ofNat 48 p.1.2)

/-- The ridge records its ring's arrivals (R281); COL_LATE reads zero at version 1 (R282). Of a barrier between dies it
keeps which members came earliest and latest, for the exchange that may follow (R313). -/
def recordLate (r : CRun) (s : State) : State :=
  let l := lateness (ringFids s) r.arrived
  let ends := if CDesc.uplink r.desc then (earlyLate l).toList.map fun p => (r.seq, p.1, p.2.1) else []
  if 2 ≤ (verOf s (CDesc.uplink r.desc)).toNat then
    s.onCol fun c => { c with late := lateWords l, lates := ends ++ c.lates.filter (·.1 != r.seq) }
  else s

/-- A participant is released: its slack, its slots, DONE (R281, R282). -/
def releaseBar (s : State) : State :=
  match s.col.run with
  | none => s
  | some r =>
    let s := if 2 ≤ (verOf s (CDesc.uplink r.desc)).toNat then
        s.onCol fun c => { c with slack := (s.now - r.startAt).setWidth 48 }
      else s
    finishRun r s

/-- The crown releases every ridge when every die has arrived (R281, R313). -/
def crownBar (s : State) : State :=
  match s.col.run with
  | none => s
  | some r =>
    let order := s.col.ridges.map Member.fid
    if isCrown s && allGave order r.dies then
      let l := lateness order r.dies
      let s := if 2 ≤ s.col.crownVer.toNat then s.onCol fun c => { c with clate := lateWords l } else s
      startExchange true r.seq l (releaseBar (sendDown r 9 (.barDown (CDesc.barId r.desc)) s))
    else s

/-- The ring's arrivals are complete: release under RING scope, else the die's arrival goes to the crown (R281). -/
def ringBar (r : CRun) (s : State) : State :=
  let s := recordLate r s
  if CDesc.uplink r.desc then
    let s := onRun (fun r => { r with sentUp := true }) s
    if isCrown s then crownBar (onRun (fun r => { r with dies := r.dies ++ [(ownFid s, s.now)] }) s)
    else sendOn (linkFor s (crownId s) false) (runHdr s r 8 (crownId s), .barUp (CDesc.barId r.desc)) s
  else
    startExchange false r.seq (lateness (ringFids s) r.arrived)
      (releaseBar (sendDown r 9 (.barDown (CDesc.barId r.desc)) s))

/-- The ridge acts when every member has arrived (R281). -/
def barAdvance (s : State) : State :=
  match s.col.run with
  | none => s
  | some r => if isRidge s && !r.sentUp && allGave (ringFids s) r.arrived then ringBar r s else s

/-- An arrival of a member, or of a die at the crown, stamped (R281). -/
def takeBarUp (src : BitVec 12) (stamp : BitVec 64) (s : State) : State :=
  if onRing s src then
    barAdvance (onRun (fun r =>
      { r with arrived := if r.arrived.any (·.1 == src) then r.arrived else r.arrived ++ [(src, stamp)] }) s)
  else
    crownBar (onRun (fun r =>
      { r with dies := if r.dies.any (·.1 == src) then r.dies else r.dies ++ [(src, stamp)] }) s)

/-! ### Packets of a collective (R257, R273) -/

/-- What becomes of a packet by its SEQ (R273). -/
inductive SeqVerdict where
  | act | wait | mismatch | drop
  deriving DecidableEq, Repr

/-- The SEQ test: of the running collective; of the next, which waits; any other (R273). A packet of a scope in which no
collective runs is of one no longer run (R275). -/
def seqVerdict (s : State) (h : Hdr) : SeqVerdict :=
  let up := h.dirn == 2
  match s.col.run with
  | some r =>
    if CDesc.uplink r.desc == up && h.seq == r.seq then .act
    else if h.seq == nextSeq s up then .wait
    else if CDesc.uplink r.desc == up then .mismatch
    else .drop
  | none => if h.seq == nextSeq s up then .wait else .drop

/-- KIND, OP, FORMAT and BAR_ID agree with the running collective, and the SEQ that an ABORT names in its payload too
(R273; that one: assumption 146). -/
def agrees (r : CRun) (h : Hdr) (p : Payload) : Bool :=
  let d : CDesc := r.desc
  h.op.toNat = d.op && h.fmt == d.fmt &&
    match p with
    | .data _ => d.isData
    | .normUp _ _ => d.op = 4
    | .normDown _ _ _ => d.op = 4
    | .barUp b => d.op = 5 && b == d.barId
    | .barDown b => d.op = 5 && b == d.barId
    | .abort b => b.seq == r.seq
    | _ => false

/-- A partner's ABORT ends the collective with its status; that of a TIMEOUT is logged here too, with code 0x65 (R274,
R377). -/
def takeAbort (r : CRun) (status : BitVec 4) (s : State) : State :=
  if status == 2 then endRun 2 0x65 (report (colReport 0x65 3 r.ticket 0) s) else endRun status 0 s

/-- A packet of the running collective takes effect. -/
def actOn (l : Fin 3) (r : CRun) (h : Hdr) (p : Payload) (stamp : BitVec 64) (s : State) : State :=
  match p with
  | .data beams => takeData l r h beams s
  | .normUp v bad => takeNormUp h.src v bad s
  | .normDown v c bad => applyNorm v c bad s
  | .barUp _ => takeBarUp h.src stamp s
  | .barDown _ => releaseBar s
  | .abort b => takeAbort r b.status s
  | _ => s

/-- A packet waits in its input buffer (R254, R273, R279). -/
def waitIn (l : Fin 3) (h : Hdr) (p : Payload) (stamp : BitVec 64) (s : State) : State :=
  s.onLink l fun k => { k with wait := k.wait ++ [(h, p, stamp)] }

/-- A data packet of the running collective has to wait: for a beam of its own, or behind one that waits (R279). -/
def mustWait (s : State) (l : Fin 3) (r : CRun) (h : Hdr) : Bool :=
  h.kind == 0 &&
    (!r.canTake s h || s.aon.link[l].wait.any fun w => w.1.kind == 0 && w.1.dirn == h.dirn && w.1.seq == h.seq)

/-- A packet of a collective addressed to this instance (R257, R273). -/
def takeCol (l : Fin 3) (h : Hdr) (p : Payload) (stamp : BitVec 64) (s : State) : State :=
  match seqVerdict s h, s.col.run with
  | .act, some r =>
    if !agrees r h p then endMismatch l h s
    else if mustWait s l r h then waitIn l h p stamp s
    else actOn l r h p stamp s
  | .wait, _ => waitIn l h p stamp s
  | .mismatch, _ => endMismatch l h s
  | _, _ => countCol 4 s

/-- The oldest packet of the running collective that waits in a link's input buffer takes effect if the beams it needs
are there (R279). -/
def serveLink (l : Fin 3) (s : State) : State :=
  match s.col.run with
  | none => s
  | some r =>
    match s.aon.link[l].wait.find? fun w => (w.1.dirn == 2) == CDesc.uplink r.desc && w.1.seq == r.seq with
    | some w =>
      if colRuns s && r.canTake s w.1 then
        actOn l r w.1 w.2.1 w.2.2 (s.onLink l fun k => { k with wait := k.wait.erase w })
      else s
    | none => s

/-- What waits for the beams at hand takes effect: a packet needs at least one of them, and a burst holds at most 64. -/
def serveLinks (s : State) : State :=
  foldUpTo 64 (fun _ s => foldOver (List.finRange 3) serveLink s) s

/-! ### Start (R268, R271, R273) -/

/-- The packets waiting for a collective leave the input buffers, in the order of their arrival. -/
def waitingFor (s : State) (up : Bool) (seq : BitVec 16) : List (Fin 3 × Hdr × Payload × BitVec 64) :=
  sortBy (fun a b => a.2.2.2.toNat < b.2.2.2.toNat) ((List.finRange 3).flatMap fun l =>
    (s.aon.link[l].wait.filter fun w => (w.1.dirn == 2) == up && w.1.seq == seq).map fun w => (l, w))

/-- Takes the waiting packets of a collective out of the input buffers. -/
def dropWaiting (p : Hdr → Bool) (s : State) : State :=
  s.onAon fun a => { a with link := a.link.map fun k => { k with wait := k.wait.filter fun w => !p w.1 } }

/-- The first act of a norm or a barrier: the partial or the arrival goes to the ridge (R280, R281). -/
def openRun (r : CRun) (s : State) : State :=
  let d : CDesc := r.desc
  if d.op = 4 then
    let p := normPartial s d
    if isRidge s then takeNormUp (ownFid s) p.1 p.2 s
    else sendOn 0 (runHdr s r 6 (ridgeFid s), .normUp p.1 p.2) s
  else if d.op = 5 then
    if isRidge s then takeBarUp (ownFid s) s.now s
    else sendOn 0 (runHdr s r 8 (ridgeFid s), .barUp d.barId) s
  else s

/-- A descriptor starts: it takes the next SEQ of its scope, and the packets that waited for it take effect (R273). -/
def startRun (q : CRec) (s : State) : State :=
  let d : CDesc := q.desc
  let up := d.uplink
  let ps := participants s d
  let seq := nextSeq s up
  let r : CRun :=
    { ticket := q.ticket, desc := d, seq := seq, n := ps.length, chunk := d.count / d.parts ps.length,
      pos := ps.findIdx (· == ownFid s), startAt := s.now }
  let s := s.onCol fun c =>
    { c with queue := c.queue.tail, headWait := 0, run := some r
             ringSeq := if up then c.ringSeq else c.ringSeq + 1
             crownSeq := if up then c.crownSeq + 1 else c.crownSeq }
  let ws := waitingFor s up seq
  let s := dropWaiting (fun h => (h.dirn == 2) == up && h.seq == seq) s
  foldOver ws (fun w s => takeCol w.1 w.2.1 w.2.2.1 w.2.2.2 s) (openRun r s)

/-- The head of the collective queue, when nothing runs and collectives may start (R273, R275). -/
def colHead (s : State) : Option CRec :=
  if colRuns s && s.col.run.isNone then s.col.queue.head? else none

/-- The descriptor's scope has left the epoch of its check (R268). -/
def isStale (s : State) (q : CRec) : Bool := q.epoch != epochOf s (CDesc.uplink q.desc)

/-- COLLECTIVE_START: a stale head ends; a head whose waits are satisfied starts (R268, R271). -/
def execCollectiveStart (s : State) : Host.Outcome State Fault Refusal :=
  done (match colHead s with
    | some q =>
      if isStale s q then endQueued q 5 0 s
      else onlyIf (tokPending s (CDesc.toks q.desc) == 0) (startRun q) s
    | none => s)

/-- COLLECTIVE_TOKEN_TIMEOUT (R86, R271). -/
def execCollectiveTokenTimeout (s : State) : Host.Outcome State Fault Refusal :=
  done (match colHead s with
    | some q =>
      onlyIf (s.aon.st == .run && s.trf.tokTimeout != 0 && !isStale s q && tokPending s (CDesc.toks q.desc) != 0)
        (fun s => endQueued q 2 0x65 (report (colReport 0x65 3 q.ticket 0) s)) s
    | none => s)

/-- PROGRESS_TIMEOUT (R274). -/
def execProgressTimeout (s : State) : Host.Outcome State Fault Refusal :=
  done (match s.col.run with
    | some r =>
      onlyIf (colRuns s && s.col.progress != 0)
        (fun s => endRunAbort 2 0x65 (report (colReport 0x65 3 r.ticket 0) s)) s
    | none => s)

end Sys2Proof.Machine
end

