-- ==== Sys2Proof/Machine/ColRing.lean ====
section
/-!
DEFINITION. ColRing.lean: ring and crown membership (R260 to R268), the route of a packet and what each kind does
(R256, R257, R264).
-/
namespace Sys2Proof.Machine

/-! ### Epochs (R265, R267, R282) -/

/-- The epoch number after one; 0 stands for none (R265). -/
def nextEpoch (e : BitVec 32) : BitVec 32 := if e + 1 = 0 then 1 else e + 1

/-- The lowest version of a list of members (R282). -/
def lowestVer (l : List Member) : BitVec 4 := ((leastBy l fun m => m.ver.toNat).map Member.ver).getD 0

/-- This instance's entry (R262). -/
def ownEntry (s : State) : Member := { fid := ownFid s, ver := 2 }

/-- A packet of this instance for a collective, other than its ABORT. -/
def isRunPacket (s : State) (r : CRun) (p : Packet) : Bool :=
  p.1.src == ownFid s && [(6 : BitVec 4), 7, 8, 9].contains p.1.kind && (p.1.dirn == 2) == CDesc.uplink r.desc &&
    p.1.seq == r.seq

/-- The running collective ends SHORT; this member sends no further packets for it (R267). The end is logged here (R377),
with code 0x6D: the spec gives it no code of its own, and names SHORT collectives beside that one (R283; DESIGN CHOICE,
assumption 141). -/
def endShort (s : State) : State :=
  match s.col.run with
  | none => s
  | some r =>
    (endRun 1 0x6D (report (colReport 0x6D 3 r.ticket 0) s)).onAon fun a =>
      { a with link := a.link.map fun k => { k with txq := k.txq.filter fun q => !isRunPacket s r q.1 } }

/-- A scope leaves its epoch: its running collective ends SHORT, its waiting packets are dropped (R257, R267). -/
def leaveEpoch (up : Bool) (s : State) : State :=
  let s := if s.col.run.any fun r => CDesc.uplink r.desc == up then endShort s else s
  let n := (s.aon.link.toList.map fun k => countTrue k.wait fun w => (w.1.dirn == 2) == up).sum
  (dropWaiting (fun h => (h.dirn == 2) == up) s).onCol fun c => { c with count := bump c.count 4 n }

/-- At version 1 the measures of barriers read zero (R282). -/
def clearMeasures (up : Bool) (ver : BitVec 4) (s : State) : State :=
  if ver == 1 then s.onCol fun c =>
    { c with slack := 0, late := [], clate := if up then [] else c.clate, lates := [] }
  else s

/-- A member takes a ring epoch, its rank and the agreed version (R262, R267, R314). -/
def takeEpoch (e : BitVec 32) (ver : BitVec 4) (table : List Member) (s : State) : State :=
  let s := clearShift (leaveEpoch false s)
  clearMeasures false ver (s.onCol fun c =>
    { c with epoch := e, ver := ver, members := table, ringSeq := 0, event := c.event ||| 8, joining := false
             joinLogged := false, admitting := false, cutOff := false, v1Seen := c.v1Seen || table.any (·.ver == 1) })

/-- A member takes a crown epoch and the crown order (R264, R267, R314); `own` says that its ridge is its own crown, so that
UPLINK scope means the ring (R264). -/
def takeCrown (e : BitVec 32) (ver : BitVec 4) (ridges : List Member) (own : Bool) (s : State) : State :=
  let s := clearShift (leaveEpoch true s)
  clearMeasures true ver (s.onCol fun c =>
    { c with crownEpoch := e, crownVer := ver, ridges := ridges, crownSeq := 0, event := c.event ||| 8, upRing := own
             lates := [] })

/-- A member of a ring that a CROWN_COMMIT names takes it. A ridge that is its own crown says so in DIRN, which is not 2:
R264 has the members take UPLINK scope for their ring and gives the packet no mark of it (DESIGN CHOICE, assumption
142). -/
def crownAt (h : Hdr) (e : BitVec 32) (ver : BitVec 4) (ridges : List Member) (s : State) : State :=
  if ridges.any fun m => m.ring.contains (ownFid s) then takeCrown e ver ridges (h.dirn != 2) s else s

/-! ### The scarf bypass (R259, R260) -/

/-- The bypass opens in both directions (R260). -/
def openBypass (s : State) : State :=
  s.onAon fun a =>
    { a with bypCw := false, bypCcw := false, link := a.link.map fun k => { k with closing := false } }

/-- The bypass closes at a packet boundary of each direction, once no packet waits for that output: nothing is lost
(R260; assumption 116). -/
def closePlanned (s : State) : State :=
  let mark (l : Fin 3) (s : State) : State :=
    closeDue l (s.onLink l fun k => { k with closing := k.closing || !bypassed s l })
  mark 1 (mark 0 s)

/-- This instance is no longer a member: its collectives end, it has no epoch (R262, R266, R314). -/
def noMember (s : State) : State :=
  (clearShift (leaveEpoch true (leaveEpoch false s))).onCol fun c =>
    { c with epoch := 0, ver := 0, members := [], ringSeq := 0, crownEpoch := 0, crownVer := 0, ridges := [],
             crownSeq := 0, upRing := false, admitting := false, proposal := none }

/-- This instance has left its ring by a LEAVE command: its bypass closes as planned (R260, R266). -/
def leaveRing (s : State) : State := closePlanned (noMember s)

/-- A closed bypass forwards a packet unchanged; `cut` says that it ends with BAD (R259). -/
def bypassOn (l : Fin 3) (p : Packet) (cut : Bool) (s : State) : State :=
  s.onLink l fun k => { k with out := k.out ++ [p], cut := if cut then k.cut ++ [k.out.length] else k.cut }

/-- A PROPOSE or COMMIT on the ring shows this instance to be no member: its bypass closes abruptly (R260). The bypass
passes that packet on unchanged, its LEAVE to the packet's ridge behind it: the spec does not say which comes first
(DESIGN CHOICE, assumption 147). -/
def leaveAt (l : Fin 3) (h : Hdr) (p : Payload) (s : State) : State :=
  let s := cutOutputs (giveBack l (h, p) (noMember s))
  tellLost (leaveTo h.src s) (if l = 2 then s else bypassOn l (h, p) false s)

/-- Sends JOIN; a closed bypass accepts it at a packet boundary (R260, R262). -/
def sendJoin (s : State) : State :=
  let p : Packet := (ctlHdr s 1 false (ridgeFid s), .join (ownEntry s))
  let s := s.onCol fun c => { c with joining := true, joinLogged := c.joinLogged && c.joining }
  if bypassed s 0 then countCol 0 (govEvent 12 1 (s.onLink 0 fun k => { k with out := k.out ++ [p] }))
  else sendOn 0 p s

/-! ### The crown (R264) -/

/-- Inserts a ridge in ascending fabric ID. -/
def putRidge (m : Member) (l : List Member) : List Member :=
  sortBy (fun a b => a.fid.toNat < b.fid.toNat) (l.filter (·.fid != m.fid) ++ [m])

/-- The crown advances its epoch and tells every ridge and its own ring (R264). -/
def crownAdvance (s : State) : State :=
  let t := s.col.dieTable
  let e := nextEpoch s.col.crownEpoch
  let p : Payload := .crownCommit e (lowestVer t) t
  let s := takeCrown e (lowestVer t) t false s
  foldOver ((t.map Member.fid).filter (· != ownFid s)) (fun f s => sendTo 0xC true f p s) (sendAround 0xC true p s)

/-- A die report at the crown: a report that changes the table advances the crown epoch; a 257th ridge is refused;
elsewhere it is dropped (R264). -/
def takeDieReport (l : Nat) (src : BitVec 12) (e : BitVec 32) (table : List Member) (s : State) : State :=
  let m : Member := { fid := src, ver := lowestVer table, ring := table.map Member.fid, repoch := e }
  let known := s.col.dieTable.any (·.fid == src)
  if !isCrown s then report (colReport 0x6C l 0 src) s
  else if !known && 256 ≤ s.col.dieTable.length then sendTo 5 true src (.refuse 0x6B) s
  else if s.col.dieTable.contains m then s
  else crownAdvance (s.onCol fun c => { c with dieTable := putRidge m c.dieTable })

/-- A ridge without UPL_EN that is its own crown already (R264). -/
def ownCrown (s : State) : Bool :=
  !uplEn s && s.col.upRing && s.col.crownEpoch == s.col.epoch && s.col.ridges.map Member.fid == [ownFid s]

/-- After a COMMIT the ridge reports to the crown; a ridge without UPL_EN is its own crown, its crown epoch its ring
epoch (R264). -/
def afterCommit (s : State) : State :=
  let c := s.col
  if uplEn s then
    if crownId s == ownFid s then takeDieReport 3 (ownFid s) c.epoch c.members s
    else sendOn 2 (ctlHdr s 0xB true (crownId s), .dieReport c.epoch c.members) s
  else
    let me : Member := { fid := ownFid s, ver := c.ver, ring := ringFids s, repoch := c.epoch }
    sendAround 0xC false (.crownCommit c.epoch c.ver [me]) (takeCrown c.epoch c.ver [me] true s)

/-! ### Proposals (R262, R265) -/

/-- The ridge proposes the next epoch with every cause that is pending, those of a proposal still in flight included,
and without an instance that was lost (R262, R265). -/
def proposeNow (lost : Option (BitVec 12)) (s : State) : State :=
  let c := s.col
  let admitted := (c.proposal.map (·.admitted)).getD [] ++ c.joins.map Member.fid
  let removed := (c.proposal.map (·.removed)).getD [] ++ c.leaves
  let q : Proposal :=
    { epoch := nextEpoch c.epoch, admitted := admitted.filter fun f => lost != some f
      removed := (removed.filter fun f => lost != some f) ++ lost.toList, order := [ownEntry s] }
  sendAround 2 false (.propose q) (s.onCol fun c => { c with proposal := some q, joins := [], leaves := [] })

/-- A PROPOSE that comes back is the one in flight: an earlier one, given up when an instance was lost, no longer counts
(R265; DESIGN CHOICE, assumption 148). -/
def inFlightProposal (s : State) (q : Proposal) : Bool :=
  s.col.proposal.any fun p => p.epoch == q.epoch && p.admitted == q.admitted && p.removed == q.removed

/-- The proposal has come back to the ridge: COMMIT goes round, the ridge takes the epoch (R262). -/
def commitProposal (q : Proposal) (s : State) : State :=
  let v := lowestVer q.order
  let s := sendAround 3 false (.commit q.epoch v q.order) (s.onCol fun c => { c with proposal := none })
  afterCommit (takeEpoch q.epoch v q.order s)

/-- A ridge meets a PROPOSE or COMMIT of another ridge: the higher fabric ID is a rafter from now on, outside that ring
(R260, R263). -/
def foreignRidge (l : Fin 3) (h : Hdr) (p : Payload) (s : State) : State :=
  if h.src.ult (ownFid s) then
    sendJoin (leaveAt l h p (s.onCol fun c => { c with conflict := true, joins := [], leaves := [] }))
  else report (colReport 0x6C l.val 0 h.src) s

/-- A JOIN at the ridge: refused by a packet round the ring, or pending in the order of arrival (R262, R263, R282). One
whose highest version is below 1, the lowest accepted (R6, COL_INFO.MIN_VER), is refused with the code of a refused JOIN
(DEDUCED, assumption 114). -/
def takeJoin (m : Member) (s : State) : State :=
  let c := s.col
  let coming := c.joins.map Member.fid ++ (c.proposal.map (·.admitted)).getD []
  if m.ver == 0 || c.v1Seen || 16 ≤ c.members.length + coming.length || onRing s m.fid || coming.contains m.fid then
    sendOn 0 (ctlHdr s 5 false m.fid, .refuse 0x6B) s
  else s.onCol fun c => { c with joins := c.joins ++ [m] }

/-- An instance is in the ring, or the proposal in flight admits it. -/
def inRing (s : State) (f : BitVec 12) : Bool := onRing s f || s.col.proposal.any fun p => p.admitted.contains f

/-- A LEAVE at the ridge: at once when an instance was lost, a proposal in flight given up for the new one, since it may
be lost in the instance that failed; else with the next proposal (R265, R282). -/
def takeLeave (l : Nat) (f : BitVec 12) (lost : Bool) (s : State) : State :=
  if !inRing s f || f == ownFid s then s
  else if lost then
    let s := report (colReport 0x6D l 0 f) s
    if s.col.v1Seen then s else proposeNow (some f) s
  else if s.col.v1Seen then s
  else s.onCol fun c => { c with leaves := insertNew c.leaves f }

/-- A REFUSE: its code is logged here, if it is one that the collective unit raises (R263, R264, R283). -/
def takeRefuse (l : Nat) (src : BitVec 12) (code : BitVec 8) (s : State) : State :=
  let s := s.onCol fun c => { c with joining := false }
  if 0x61 ≤ code.toNat && code.toNat ≤ 0x6E then report (colReport code l 0 src) s else s

/-! ### The route of a packet (R256, R257, R264) -/

/-- A packet goes on: on the ring in its direction, over UPL at the ridge when its DEST is on another die, clockwise
when it came from UPL (R264). A data packet lets the unit's own go first when that has its turn (R260). -/
def forward (l : Fin 3) (h : Hdr) (p : Payload) (s : State) : State :=
  let o := if l = 2 then 0 else linkFor s h.dest (l = 1)
  let q : Packet := ({ h with hops := h.hops + 1 }, p)
  if !isControl q && linkUp s o && ownTurn s o then keepFor (some l) o q s else sendFrom (some l) o q s

/-- A packet that goes around the ring goes on clockwise. -/
def forwardAround (l : Fin 3) (h : Hdr) (p : Payload) (s : State) : State :=
  sendFrom (some l) 0 ({ h with hops := h.hops + 1 }, p) s

/-- A packet for another instance passes; the own packet that comes back is dropped. -/
def pass (l : Fin 3) (h : Hdr) (p : Payload) (s : State) : State :=
  if h.src == ownFid s then s else forward l h p s

/-- EPOCH is the current epoch of the packet's scope (R257). -/
def epochOk (s : State) (h : Hdr) : Bool :=
  let e := epochOf s (h.dirn == 2)
  e != 0 && h.epoch == e.setWidth 16

/-- A packet of the current epoch takes effect; another is dropped and counted (R257). -/
def ifCurrent (h : Hdr) (act : State → State) (s : State) : State :=
  if epochOk s h then act s else countCol 4 s

/-- A packet addressed to this instance. -/
def takeUnicast (l : Fin 3) (h : Hdr) (p : Payload) (s : State) : State :=
  let s := countCol 3 s
  match p with
  | .refuse code => takeRefuse l.val h.src code s
  | .dieReport e t => takeDieReport l.val h.src e t s
  | .budget sub exch amt eff power =>
    ifCurrent h (takeBudget
      { up := h.dirn == 2, inner := h.dirn != 2 || onRing s h.src, src := h.src, sub := sub, exch := exch, seq := h.seq
        amt := amt, eff := eff, power := power }) s
  | _ => ifCurrent h (takeCol l h p s.now) s

/-- An epoch number is later than another, both wrapping (R265). -/
def laterEpoch (a b : BitVec 32) : Bool := 0 < (a - b).toInt

/-- A member of an epoch meets a PROPOSE or COMMIT that is not later than its own: its ridge has started again. It takes
part in nothing of that ridge until its own main reset, or until it is admitted anew (R377; assumption 143). -/
def metRestart (e : BitVec 32) (s : State) : State :=
  if s.col.epoch != 0 && !laterEpoch e s.col.epoch then s.onCol fun c => { c with cutOff := true } else s

/-- This instance takes part in a proposal: the proposal admits it, or follows its epoch (R262, R377). -/
def takesPart (s : State) (q : Proposal) : Bool :=
  q.admitted.contains (ownFid s) || (s.col.epoch != 0 && !s.col.cutOff && laterEpoch q.epoch s.col.epoch)

/-- A PROPOSE at an open bypass (R262, R263). -/
def proposeAt (l : Fin 3) (h : Hdr) (q : Proposal) (s : State) : State :=
  if isRidge s then
    if h.src == ownFid s then
      if inFlightProposal s q then commitProposal q (countCol 3 s) else s
    else foreignRidge l h (.propose q) s
  else
    let s := countCol 3 s
    if q.removed.contains (ownFid s) then leaveAt l h (.propose q) s
    else if takesPart s q then forwardAround l h (.propose { q with order := q.order ++ [ownEntry s] }) s
    else metRestart q.epoch (forwardAround l h (.propose q) s)

/-- A COMMIT at an open bypass (R262, R263). -/
def commitAt (l : Fin 3) (h : Hdr) (e : BitVec 32) (ver : BitVec 4) (table : List Member) (s : State) : State :=
  if isRidge s then if h.src == ownFid s then s else foreignRidge l h (.commit e ver table) s
  else
    let s := countCol 3 s
    let on := forwardAround l h (.commit e ver table)
    if table.any (·.fid == ownFid s) then takeEpoch e ver table (on s)
    else if s.col.epoch == 0 || (!s.col.cutOff && laterEpoch e s.col.epoch) then leaveAt l h (.commit e ver table) s
    else metRestart e (on s)

/-- A packet that visits every member of a ring: the ridge takes it from UPL and sends it round, members take it and
pass it on, and it ends where it entered the ring. -/
def roundTrip (l : Fin 3) (h : Hdr) (p : Payload) (act : State → State) (s : State) : State :=
  if isRidge s && l != 2 then s else act (countCol 3 (forwardAround l h p s))

/-- A sound packet at an open link. -/
def route (l : Fin 3) (h : Hdr) (p : Payload) (s : State) : State :=
  match p with
  | .join m => if isRidge s then takeJoin m (countCol 3 s) else pass l h p s
  | .leave lost => if isRidge s then takeLeave l.val h.src lost (countCol 3 s) else pass l h p s
  | .propose q => proposeAt l h q s
  | .commit e v t => commitAt l h e v t s
  | .crownCommit e v t => roundTrip l h p (crownAt h e v t) s
  | .normDown _ _ _ => roundTrip l h p (ifCurrent h (takeCol l h p s.now)) s
  | .barDown _ => roundTrip l h p (ifCurrent h (takeCol l h p s.now)) s
  | _ => if h.dest == ownFid s then takeUnicast l h p s else pass l h p s

/-- The header's fields are consistent: KIND names what the packet carries, DIRN is at most 2, NBEAM as many beams as it
carries (R256). -/
def hdrOk (h : Hdr) (p : Payload) : Bool :=
  h.dirn.toNat ≤ 2 && p.kind == some h.kind &&
    match p with
    | .data bs => h.nbeam != 0 && bs.length = h.nbeam.toNat
    | _ => h.nbeam == 0

/-- A packet is dropped as damaged (R257). -/
def dropPacket (code : BitVec 8) (l : Fin 3) (h : Hdr) (s : State) : State :=
  countCol 4 (report (colReport code l.val 0 h.src) s)

/-- A packet at the UPL of an instance that is not the uplink ridge: dropped as damaged (R404). -/
def strayPacket (l : Fin 3) (h : Hdr) (s : State) : State :=
  if l = 2 && unitsOn s && !(isRidge s && uplEn s) then dropPacket 0x61 l h s else s

/-- The collective unit is powered and its bypass may open: not in RESET, BOOT or FAULT (R259). -/
def mayOpen (s : State) : Bool := isLive s || s.aon.st == .purge

/-- A PROPOSE that admits this instance opens its bypass (R260). -/
def admits (s : State) (l : Fin 3) (p : Payload) : Option Proposal :=
  match p with
  | .propose q => if l = 0 && mayOpen s && q.admitted.contains (ownFid s) then some q else none
  | _ => none

/-- The unit behind a closed bypass observes a REFUSE addressed to it (R259, R263). -/
def observes (s : State) (h : Hdr) (p : Payload) : Bool :=
  match p with
  | .refuse _ => mainOn s && h.dest == ownFid s
  | _ => false

/-- A packet that the unit behind a closed bypass takes as it takes one at an open link: dropped with code 0x61 where its
header is malformed, else used by `act`, code 0x62 logged where a parity error hit its payload (R257). -/
def observed (l : Fin 3) (h : Hdr) (p : Payload) (bad : BitVec 3) (act : State → State) (s : State) : State :=
  if !hdrOk h p then dropPacket 0x61 l h s
  else act (if bad != 0 then report (colReport 0x62 l.val 0 h.src) s else s)

/-- A packet at a closed bypass: it passes unchanged, and the unit behind sees it (R257, R259, R260, R263). A PROPOSE with
a malformed header opens no bypass and passes too. -/
def closedPass (l : Fin 3) (h : Hdr) (p : Payload) (bad : BitVec 3) (s : State) : State :=
  match admits s l p with
  | some q =>
    if hdrOk h p then
      observed l h p bad (fun s =>
        forwardAround l h (.propose { q with order := q.order ++ [ownEntry s] })
          (countCol 3 ((openBypass (takeIn l (h, p) s)).onCol fun c => { c with admitting := true }))) s
    else dropPacket 0x61 l h (bypassOn l (h, p) false s)
  | none =>
    let s := bypassOn l (h, p) false s
    match p with
    | .refuse code =>
      if observes s h p then observed l h p bad (fun s => takeRefuse l.val h.src code (countCol 3 s)) s else s
    | _ => s

/-- A packet arrives at a link: a closed bypass passes it by `byp`, the open unit takes it into its input buffer and
goes on by `act`. Its sender holds a credit for each flit, so that the buffer has room (R254, R259). -/
def arrive (l : Fin 3) (p : Packet) (byp act : State → State) (s : State) : State :=
  if !aonOn s then s
  else if l != 2 && bypassed s l then byp s
  else if !linkUp s l then strayPacket l p.1 s
  else if !hasRoom s l p then s
  else act (takeIn l p s)

/-- A packet of a known kind arrives; `bad` names the beams that a payload parity error hit, and is not 0 when one hit a
control packet, which is used as it came (R257). -/
def recvPacket (l : Fin 3) (h : Hdr) (p : Payload) (bad : BitVec 3) (s : State) : State :=
  arrive l (h, p) (closedPass l h p bad)
    (fun s =>
      if !hdrOk h p then dropPacket 0x61 l h s
      else
        let s := if bad != 0 then report (colReport 0x62 l.val 0 h.src) s else s
        route l (if isControl (h, p) then h else { h with poison := h.poison ||| bad }) p s) s

/-- A control packet arrives; `bad` says that a parity error hit its payload (R257). -/
def recvControl (l : Fin 3) (h : Hdr) (p : Payload) (bad : Bool) (s : State) : State :=
  recvPacket l h p (flagBits 3 bad) s

/-! ### Packets, by kind -/

/-- A packet that is not read: a closed bypass passes it on, the open unit drops it, with code 0x63 where it ends with
BAD and 0x61 else (R257, R259). -/
def unreadable (l : Fin 3) (h : Hdr) (p : Payload) (cut : Bool) (s : State) : State :=
  arrive l (h, p) (bypassOn l (h, p) cut) (dropPacket (if cut then 0x63 else 0x61) l h) s

/-- DATA (R276, R277); cut, it is dropped (R257, R259). -/
def execData (link : Fin 3) (hdr : Hdr) (beams : List (BitVec 4352)) (bad : BitVec 3) (cut : Bool) (s : State) :
    Host.Outcome State Fault Refusal :=
  let h := { hdr with kind := 0 }
  done (if cut then unreadable link h (.data beams) true s else recvPacket link h (.data beams) bad s)

/-- JOIN (R262, R263). -/
def execJoin (link : Fin 3) (hdr : Arrival) (m : Member) (s : State) : Host.Outcome State Fault Refusal :=
  done (recvControl link { hdr.hdr with kind := 1 } (.join m) hdr.bad s)

/-- PROPOSE (R260, R262). -/
def execPropose (link : Fin 3) (hdr : Arrival) (p : Proposal) (s : State) : Host.Outcome State Fault Refusal :=
  done (recvControl link { hdr.hdr with kind := 2 } (.propose p) hdr.bad s)

/-- COMMIT (R262, R267). -/
def execCommit (link : Fin 3) (hdr : Arrival) (epoch : BitVec 32) (ver : BitVec 4) (table : List Member)
    (s : State) : Host.Outcome State Fault Refusal :=
  done (recvControl link { hdr.hdr with kind := 3 } (.commit epoch ver table) hdr.bad s)

/-- LEAVE of an instance, which SRC names (R256, R265). -/
def execLeave (link : Fin 3) (hdr : Arrival) (fid : BitVec 12) (lost : Bool) (s : State) :
    Host.Outcome State Fault Refusal :=
  done (recvControl link { hdr.hdr with kind := 4, src := fid } (.leave lost) hdr.bad s)

/-- REFUSE of an instance, which DEST names (R256, R263). -/
def execRefuse (link : Fin 3) (hdr : Arrival) (fid : BitVec 12) (code : BitVec 8) (s : State) :
    Host.Outcome State Fault Refusal :=
  done (recvControl link { hdr.hdr with kind := 5, dest := fid } (.refuse code) hdr.bad s)

/-- NORM_UP (R280). -/
def execNormUp (link : Fin 3) (hdr : Arrival) (value : BitVec 64) (invalid : Bool) (s : State) :
    Host.Outcome State Fault Refusal :=
  done (recvControl link { hdr.hdr with kind := 6 } (.normUp value invalid) hdr.bad s)

/-- NORM_DOWN (R280). -/
def execNormDown (link : Fin 3) (hdr : Arrival) (value : BitVec 64) (clip : BitVec 32) (invalid : Bool)
    (s : State) : Host.Outcome State Fault Refusal :=
  done (recvControl link { hdr.hdr with kind := 7 } (.normDown value clip invalid) hdr.bad s)

/-- BAR_UP (R281). -/
def execBarUp (link : Fin 3) (hdr : Arrival) (barId : BitVec 16) (s : State) :
    Host.Outcome State Fault Refusal :=
  done (recvControl link { hdr.hdr with kind := 8 } (.barUp barId) hdr.bad s)

/-- BAR_DOWN (R281). -/
def execBarDown (link : Fin 3) (hdr : Arrival) (barId : BitVec 16) (s : State) :
    Host.Outcome State Fault Refusal :=
  done (recvControl link { hdr.hdr with kind := 9 } (.barDown barId) hdr.bad s)

/-- ABORT (R273, R274). -/
def execAbort (link : Fin 3) (hdr : Arrival) (status : AbortBody) (s : State) :
    Host.Outcome State Fault Refusal :=
  done (recvControl link { hdr.hdr with kind := 0xA } (.abort status) hdr.bad s)

/-- DIE_REPORT (R264). -/
def execDieReport (link : Fin 3) (hdr : Arrival) (epoch : BitVec 32) (table : List Member) (s : State) :
    Host.Outcome State Fault Refusal :=
  done (recvControl link { hdr.hdr with kind := 0xB } (.dieReport epoch table) hdr.bad s)

/-- CROWN_COMMIT (R264, R267). -/
def execCrownCommit (link : Fin 3) (hdr : Arrival) (epoch : BitVec 32) (ver : BitVec 4) (ridges : List Member)
    (s : State) : Host.Outcome State Fault Refusal :=
  done (recvControl link { hdr.hdr with kind := 0xC } (.crownCommit epoch ver ridges) hdr.bad s)

/-- BUDGET TAKE (R313). -/
def execTake (link : Fin 3) (hdr : Arrival) (exch amt : BitVec 16) (s : State) :
    Host.Outcome State Fault Refusal :=
  done (recvControl link { hdr.hdr with kind := 0xD } (.budget 1 exch amt 0 0) hdr.bad s)

/-- BUDGET TAKEN (R313). -/
def execTaken (link : Fin 3) (hdr : Arrival) (exch amt effCap power : BitVec 16) (s : State) :
    Host.Outcome State Fault Refusal :=
  done (recvControl link { hdr.hdr with kind := 0xD } (.budget 2 exch amt effCap power) hdr.bad s)

/-- BUDGET GIVE (R313). -/
def execGive (link : Fin 3) (hdr : Arrival) (exch amt : BitVec 16) (s : State) :
    Host.Outcome State Fault Refusal :=
  done (recvControl link { hdr.hdr with kind := 0xD } (.budget 3 exch amt 0 0) hdr.bad s)

/-- BUDGET GIVEN (R313). -/
def execGiven (link : Fin 3) (hdr : Arrival) (exch amt effCap power : BitVec 16) (s : State) :
    Host.Outcome State Fault Refusal :=
  done (recvControl link { hdr.hdr with kind := 0xD } (.budget 4 exch amt effCap power) hdr.bad s)

/-- A BUDGET packet with a reserved SUB: dropped with code 0x7C where it is addressed (R314). -/
def execBudgetReservedSub (link : Fin 3) (hdr : Arrival) (sub : BitVec 8) (s : State) :
    Host.Outcome State Fault Refusal :=
  done (onlyIf (sub == 0 || 5 ≤ sub.toNat)
    (recvControl link { hdr.hdr with kind := 0xD } (.budget sub 0 0 0 0) hdr.bad) s)

/-- A reserved KIND, a damaged header, or a packet that ends with BAD: dropped, or passed on by a closed bypass (R257,
R259). -/
def execReservedPacket (link : Fin 3) (p : RawPacket) (bad : Bool) (s : State) : Host.Outcome State Fault Refusal :=
  done (unreadable link p.hdr (.raw p.flits) bad s)

/-- A packet's flits pass a closed bypass (R259). -/
def execBypassForward (link : Fin 3) (hdr : Hdr) (p : Payload) (s : State) : Host.Outcome State Fault Refusal :=
  done (onlyIf (aonOn s && link != 2 && bypassed s link) (closedPass link hdr p 0) s)

/-- A credit comes back to an output of the unit (R254). -/
def creditIn (l : Fin 3) (control : Bool) (s : State) : State :=
  drainLink l (s.onLink l fun k =>
    if control then { k with ctlCr := min 8 (k.ctlCr + 1) } else { k with dataCr := min 56 (k.dataCr + 1) })

/-- A closed bypass passes a credit back to its input (R259). -/
def creditThrough (l : Fin 3) (control : Bool) (s : State) : State :=
  s.onLink l fun k => if control then { k with backCtl := k.backCtl + 1 } else { k with backData := k.backData + 1 }

/-- LINK_CREDIT_RETURN (R254, R259). -/
def execLinkCreditReturn (link : Fin 3) (control : Bool) (s : State) : Host.Outcome State Fault Refusal :=
  done (if aonOn s && link != 2 && bypassed s link then creditThrough link control s
    else onlyIf (linkUp s link) (creditIn link control) s)

/-- JOIN_RETRY: an unanswered JOIN is sent again, the first one logged (R262). -/
def execJoinRetry (s : State) : Host.Outcome State Fault Refusal :=
  done (onlyIf (unitsOn s && s.col.joining && !s.col.admitting)
    (fun s => sendJoin (if s.col.joinLogged then s
      else report (colReport 0x6C 3 0 (ridgeFid s)) (s.onCol fun c => { c with joinLogged := true }))) s)

/-- JOIN_COMMIT_TIMEOUT: the joiner's bypass closes again and JOIN is sent again (R260). -/
def execJoinCommitTimeout (s : State) : Host.Outcome State Fault Refusal :=
  done (onlyIf (s.col.admitting && mayOpen s)
    (fun s => sendJoin (closePlanned (s.onCol fun c => { c with admitting := false }))) s)

/-- EPOCH_PROPOSE: the ridge proposes for the JOINs and planned LEAVEs that are pending, while its unit is not ACTIVE
(R265, R282). -/
def execEpochPropose (s : State) : Host.Outcome State Fault Refusal :=
  done (onlyIf
    (isRidge s && isLive s && linkUp s 0 && s.col.run.isNone && s.col.proposal.isNone && !s.col.v1Seen &&
      !(s.col.joins.isEmpty && s.col.leaves.isEmpty))
    (proposeNow none) s)

/-- PROPOSAL_UNANSWERED: the wiring does not close; the ring has no epoch (R255). The unit of an instance in FAULT is no
longer at work (R376). -/
def execProposalUnanswered (s : State) : Host.Outcome State Fault Refusal :=
  done (onlyIf (unitsOn s && isRidge s && s.col.proposal.isSome)
    (fun s => report (colReport 0x6C 3 0 (ownFid s)) ((clearShift s).onCol fun c =>
      { c with proposal := none, epoch := 0, ver := 0, members := [] })) s)

end Sys2Proof.Machine
end

