-- ==== Sys2Proof/Machine/TrfCmds.lean ====
section
/-!
DEFINITION. TrfCmds.lean: patrol scrub (R94 to R96), the end of a purge (R98), the CE counts and the registers of the
TRF sub-window.
-/
namespace Sys2Proof.Machine

/-! ### Patrol scrub (R94 to R96) -/

/-- The symbol positions corrected in at least SYM_THRESH lines of a bank in the pass, as keys of symHits (R96). -/
def symFaults (s : State) : List Nat :=
  let thr := (field s.cfg.active.scrub 16 4).toNat
  if thr = 0 then [] else (s.trf.symHits.filter fun p => thr ≤ p.2).map Prod.fst

/-- All bays have finished their lines: the pass count advances, code 0x0D is judged, the next pass begins (R94,
R96). -/
def execScrubPassComplete (s : State) : Host.Outcome State Fault Refusal :=
  done (onlyIf (scrubActive s && (List.finRange 32).all fun b => scrubAt s b == 32768)
    (fun s =>
      let faults := symFaults s
      let s := s.onTrf fun t =>
        { t with passes := t.passes + 1, lastPass := satNat 32 (s.now.toNat - t.passStart.toNat) }
      scrubRestart (foldOver faults (fun k s => report
        { code := 0x0D, unit := BitVec.ofNat 12 (k / 140), loc := eccLoc false false (k % 140) 0 } s) s)) s)

/-! ### CE counts (R96) -/

/-- A write of CE_BANK[n] sets the count and rearms code 0x01 (R96). -/
def setCeBank (n : Nat) (v : W64) (s : State) : State :=
  s.onTrf fun t => { t with ceBank := t.ceBank.set 0 n (field v 0 32), ceLogged := t.ceLogged.set false n false }

/-- A write of CE_BANK[n] (R96). -/
def execCeBankWrite (src : Src) (bank : Fin 512) (v : BitVec 64) (s : State) : Host.Outcome State Fault Refusal :=
  done (writeReg src (0x21000 + 8 * bank.val) .host (setCeBank bank.val v) s)

/-! ### Purge (R98) -/

/-- The purge begins (R98). -/
def purgeStart (s : State) : State := s.onTrf fun t => { t with purging := true, purgeStart := s.now }

/-- The purge's read-back of one line: a correction counts a CE, an uncorrectable line is code 0x0C, fatal (R98). -/
def purgeLine (p : Nat × LineErr) (s : State) : State :=
  let b := BitVec.ofNat 20 p.1
  let s := s.onTrf fun t => { t with errs := t.errs.set {} b.toNat p.2 }
  let r := readLine 0 p.2
  if r.ue then
    let s := s.onTrf fun t =>
      { t with ueTotal := satAdd t.ueTotal 1, purgeFails := satAdd t.purgeFails 1, verifyFail := true }
    fatal { code := 0x0C, unit := (bankOf b).setWidth 12, loc := eccLoc (r.c0 == .ue) (r.c1 == .ue) 0xFF b } s
  else if r.ce then countCe b r.lowSym s
  else s

/-- The commits of scrub and range clear that have begun end within the purge, whose zeros follow them (R98). -/
def dropCommits (s : State) : State :=
  let done_ (t : Staged) : Bool := match t.client with
    | .scrub => true
    | .clear _ => true
    | _ => false
  s.onArb fun a => { a with bay := a.bay.map fun y =>
    { y with bufs := (y.bufs.map fun l => l.filter fun t => !done_ t).filter fun l => !l.isEmpty } }

/-- Every line is written with zeros, the mortise table is cleared but for RETIRED entries outside BOOT, and the
tallies are cleared (R77, R98, R172, R382). -/
def purgeClear (s : State) : State :=
  let boot := s.aon.st == .boot
  let s := dropCommits (s.onTrf fun t =>
    { t with beams := [], errs := [], lost := false, purging := false, purgeFails := 0, verifyFail := false, clearAt := [],
             mort := if boot then [] else t.mort.filter fun p => p.2.st == .retired,
             purgeLast := satNat 32 (s.now.toNat - t.purgeStart.toNat) })
  let s := s.onSinter fun k => { k with tally := [], partials := [], partPoison := [], tallyPoison := 0 }
  s.onCol fun c => { c with tally := 0, tallyPoison := false }

/-- The state after the purge: FAULT after a fatal error; from PURGE, EMBER with a quench latched, else READY; in BOOT
FAULT when the load has failed (R23, R24, R98). -/
def purgeLeave (s : State) : State :=
  match s.aon.st with
  | .purge =>
    if s.aon.pendFatal || s.aon.fatalDue then enterFault (s.onAon fun a => { a with fatalDue := false })
    else if s.aon.qState == .latched then enterEmber s else setState .ready s
  | .boot =>
    if s.aon.pendFatal || s.aon.fatalDue || s.aon.seqr.failed then
      bootFault (s.onAon fun a => { a with fatalDue := false })
    else s
  | _ => s

/-! ### Registers of the TRF sub-window -/

/-- TRF_STATUS. -/
def trfStatus (s : State) : W64 :=
  let retired := (s.trf.mort.filter fun p => p.2.st == .retired).foldl (fun n p => n + p.2.len.toNat) 0
  BitVec.ofNat 32 retired ++ (0 : BitVec 5) ++ flagBits 1 (s.trf.mort.any fun p => p.2.st == .clearing) ++
    flagBits 1 (scrubActive s) ++ flagBits 1 s.trf.purging ++ (0 : BitVec 13) ++
    BitVec.ofNat 11 (countTrue s.trf.mort fun p => p.2.st != .invalid)

/-- The registers at an offset of the TRF sub-window: owner class and fields. -/
def trfInfo (off : Nat) : Option RegInfo :=
  match off with
  | 0x00 => some { owner := .both, other := 0x0000FFFFFFFFFFFF }
  | 0x08 => some { owner := .both, other := 0xFFFFFFFF070007FF }
  | 0x10 => some { owner := .host, rw := 0xFFFFF, sh := true }
  | 0x18 => some { owner := .both, other := 0xFFFFFFFFFFFFFFFF }
  | 0x20 => some { owner := .host, rw := 0xFFFFFFFF }
  | 0x28 => some { owner := .both, other := 0xFFFFFFFFFFFFFFFF }
  | 0x30 => some { owner := .host, rw := 0xFFFFFFFF }
  | 0x38 => some { owner := .both, other := 0x0000FFFFF80FFFFF }
  | 0x40 => some { owner := .both, other := 0xFFFFFFFF0000FF03 }
  | 0x100 => some { owner := .host, rw := 0x0FFFFFFFFFFFFFFF }
  | 0x108 => some { owner := .host, rw := 0xFFFF, other := 0x01FFFFFFFFFF0000 }
  | 0x110 => some { owner := .host, other := 0x03FF000F }
  | 0x118 => some { owner := .host, other := 0x00000FFF00FF0003 }
  | 0x8010 => some { owner := .both, other := 0xFFFFF }
  | _ =>
    if 0x1000 ≤ off && off < 0x2000 && off % 8 = 0 then
      some { owner := .host, rw := 0xFFFFFFFF, other := 0x0000FF0000000000 }
    else none

/-- Reads a register of the TRF sub-window; the reserved bits of MCMD_W0, kept for WRITE to judge (R79), read zero (R11,
R77). -/
def trfRead (off : Nat) (s : State) : W64 :=
  let t := s.trf
  match off with
  | 0x00 => 0x0000032002000800
  | 0x08 => trfStatus s
  | 0x10 => s.cfg.shadow.scrub
  | 0x18 => t.passes ++ t.lastPass
  | 0x20 => t.ceThresh.setWidth 64
  | 0x28 => t.ueTotal ++ t.ceTotal
  | 0x30 => t.tokTimeout.setWidth 64
  | 0x38 => t.ueLast
  | 0x40 => t.purgeLast ++ (0 : BitVec 16) ++ t.purgeFails ++ (0 : BitVec 6) ++ flagBits 1 t.verifyFail ++
      flagBits 1 t.purging
  | 0x100 => t.w0 &&& 0x0FFFFFFFFFFFFFFF
  | 0x108 => t.w1
  | 0x118 => (0 : BitVec 20) ++ t.refs ++ (0 : BitVec 8) ++ t.code ++ (0 : BitVec 14) ++ flagBits 1 t.mlost ++
      flagBits 1 t.mbusy
  | 0x8010 => s.cfg.active.scrub
  | _ =>
    if 0x1000 ≤ off && off < 0x2000 then
      let n := (off - 0x1000) / 8
      (0 : BitVec 16) ++ t.lastSym.get 0xFF n ++ (0 : BitVec 8) ++ t.ceBank.get 0 n
    else 0

/-- Writes a register of the TRF sub-window; its reserved bits are ignored, but those of MCMD_W0, which WRITE refuses
(R79). MCMD_W1 keeps what is written to its RO fields
[56:16] too: chapter 3 says of the two words 'Each is RW' and also speaks of 'the RO fields of MCMD_W1' (DESIGN CHOICE,
assumption 113). -/
def trfWrite (off : Nat) (v : W64) (s : State) : State :=
  match off with
  | 0x10 => s.onCfg fun c => { c with shadow := { c.shadow with scrub := v &&& 0xFFFFF } }
  | 0x20 => s.onTrf fun t => { t with ceThresh := field v 0 32 }
  | 0x30 => s.onTrf fun t => { t with tokTimeout := field v 0 32 }
  | 0x100 => s.onTrf fun t => { t with w0 := v }
  | 0x108 => s.onTrf fun t => { t with w1 := v &&& 0x01FFFFFFFFFFFFFF }
  | 0x110 => mcmdGate (mcmdWord v) s
  | 0x118 => s.onTrf fun t => { t with mlost := t.mlost && !bitAt v 1 }
  | _ => if 0x1000 ≤ off && off < 0x2000 then setCeBank ((off - 0x1000) / 8) v s else s

end Sys2Proof.Machine
end

