-- ==== Sys2Proof/Machine/Kill.lean ====
section
/-!
DEFINITION. Kill.lean: the job kill (R381 to R383) and the end of a purge (R98, R266).
-/
namespace Sys2Proof.Machine

/-- A job kill is accepted in READY, RUN, PAUSE and EMBER (R23, R381). -/
def killAllowed (s : State) : Bool := isLive s

/-- The counts of code 0xA0: phases, transfers and collectives, those in slots or running among them (R387). -/
def killLoc (s : State) : BitVec 64 :=
  (0 : BitVec 16) ++
    BitVec.ofNat 16 (s.sched.queue.length + countTrue s.sched.slot.toList (·.st != .free)) ++
    BitVec.ofNat 16 (s.layout.queue.length + countTrue s.layout.slot.toList (·.st != .free)) ++
    BitVec.ofNat 16 (s.col.queue.length + s.col.run.toList.length)

/-- Every phase is aborted and the phase queue emptied (R196, R381). -/
def killPhases (s : State) : State :=
  let s := noteAborts 0xA0 s.sched.queue.length (s.onSched fun c => { c with queue := [] })
  foldOver (List.finRange 4) (fun n s => abortPhase n 0xA0 .command s) s

/-- Every transfer is aborted and the layout queue emptied (R231, R381). -/
def killTransfers (s : State) : State :=
  let s := if s.layout.queue.isEmpty then s else noteLayAbort 0xA0 (s.onLayout fun l => { l with queue := [] })
  foldOver (List.finRange 8) (fun n s => abortTransfer n 0xA0 s) s

/-- The running collective ends ABORTED, its partners told, and the queued ones after it (R274, R381). -/
def killCols (s : State) : State := foldOver s.col.queue (fun q s => endQueued q 6 0xA0 s) (abortRun 0xA0 s)

/-- A job kill is accepted: 0 from the host, 1 from the vent port, 2 from LEAVE (R381, R387). -/
def jobKill (unit : BitVec 12) (s : State) : State :=
  let s := report { code := 0xA0, unit := unit, loc := killLoc s } s
  let s := killCols (killTransfers (killPhases s))
  let s := s.onCore fun c => { c with killHeads := c.ring.toList.map Ring.head }
  setState .purge (s.onAon fun a => { a with killed := true })

/-- KILL_PURGE_START: every phase and transfer slot is free (R381). -/
def execKillPurgeStart (s : State) : Host.Outcome State Fault Refusal :=
  done (onlyIf
    (s.aon.st == .purge && s.aon.killed && !anyPhase s && s.layout.slot.toList.all fun p => p.st == .free)
    (fun s => purgeStart (s.onAon fun a => { a with killed := false })) s)

/-- After its purge an instance that leaves sends LEAVE, on credits and in its turn as any packet (R254), and its bypass
closes once the packet is out (R266). -/
def purgeThenLeave (s : State) : State :=
  if s.col.leaving && s.aon.st != .fault then
    let s := sendOn 0 (ctlHdr s 4 false (ridgeFid s), .leave false) s
    leaveRing (s.onCol fun c => { c with leaving := false })
  else s

/-- PURGE_COMPLETE: the purge ends; `bad` holds the lines whose read-back differs from what was written (R98). -/
def execPurgeComplete (bad : List (Nat × LineErr)) (s : State) : Host.Outcome State Fault Refusal :=
  done (onlyIf (s.trf.purging && mainOn s)
    (fun s =>
      let s := govEvent 15 1048576 (govEvent 14 1048576 (purgeClear s))
      purgeThenLeave (purgeLeave (scrubRestart (foldOver bad purgeLine s)))) s)

end Sys2Proof.Machine
end

