-- ==== Sys2Proof/Machine/Col.lean ====
section
/-!
DEFINITION. Col.lean: the check and submission of collective descriptors (R271, R272), the collective commands
(R264, R266, R274) and the registers of the collective unit.
-/
namespace Sys2Proof.Machine

/-! ### The descriptor check (R272) -/

/-- The token slots are well formed (R179). -/
def CDesc.toksOk (d : CDesc) : Bool :=
  d.toks.all fun t =>
    field t 14 2 == 0 && tokKind t ≤ 4 && (tokKind t != 0 || (tokIx t == 0 && !tokPair t))

/-- MAX_NORM is finite and greater than zero. -/
def CDesc.maxNormOk (d : CDesc) : Bool :=
  !bitAt d.maxNorm 31 && field d.maxNorm 23 8 != 0xFF && d.maxNorm != 0

/-- Check 1 (R269, R272): the fields an operation does not use are zero. -/
def CDesc.structureOk (d : CDesc) : Bool :=
  1 ≤ d.op && d.op ≤ 5 && field d 12 4 == 0 && !bitAt d 23 && field d 26 6 == 0 && d.dir != 3 && d.toksOk &&
  field d 84 12 == 0 && field d 116 12 == 0 && field d 42 5 == 0 && field d 58 5 == 0 && d.extractLsb' 272 240 == 0 &&
  (if d.isData then
    (d.fmt == 3 || d.fmt == 0) && !d.nsrc && (!d.tally || d.op != 2) && d.tidx = 0 && 1 ≤ d.count &&
      d.count ≤ 0x100000 && d.maxNorm == 0 && d.barId == 0
   else
    d.fmt == 0 && !d.tally && d.dir = 0 && field d 32 96 == 0 && d.count = 0 &&
      (if d.op = 4 then d.maxNormOk && d.barId == 0 && (!d.nsrc || d.tidx = 0)
       else !d.nsrc && d.tidx = 0 && d.maxNorm == 0))

/-- Every ring of the crown epoch has as many members (R270). -/
def evenRings (s : State) : Bool :=
  match s.col.ridges with
  | [] => false
  | r :: rs => rs.all fun q => q.ring.length = r.ring.length

/-- Check 2 (R270, R272, R275, R282). -/
def CDesc.scopeOk (s : State) (d : CDesc) : Bool :=
  epochOf s d.uplink != 0 && onRing s (ownFid s) && (participants s d).contains (ownFid s) &&
    (2 ≤ (verOf s d.uplink).toNat || (d.op != 4 && !(d.isData && d.fmt == 3))) &&
    (!(d.uplink && d.isData) || evenRings s) && s.aon.st != .ember

/-- The beams an operation reads from MORT, and those it writes into MORT2 (R269). -/
def CDesc.lens (d : CDesc) (n : Nat) : Nat × Nat :=
  let part := d.count / n
  (if d.op = 2 then part else d.count, if d.op = 1 then part else d.count)

/-- A token slot of a kind covers a mortise or its twin. -/
def CDesc.waits (s : State) (d : CDesc) (kind : Nat) (i : BitVec 10) : Bool :=
  d.toks.any fun t => tokKind t = kind && (pairOf s i).contains (tokIx t)

/-- The guard rules (R189, R271). -/
def CDesc.guardOk (s : State) (d : CDesc) : Bool :=
  d.toks.all (fun t => !tokPair t || (tokKind t = 3 && (mortAt s (tokIx t)).twinV)) &&
    if d.unguarded then d.toks.all fun t => tokKind t = 0
    else !d.isData || (d.waits s 1 d.mort && d.waits s 2 d.mort2)

/-- The ranges of source and destination lie in their mortises and do not overlap. -/
def CDesc.rangesOk (s : State) (d : CDesc) (n : Nat) : Bool :=
  let m := mortAt s d.mort
  let m2 := mortAt s d.mort2
  let l := d.lens n
  let a := m.base.toNat + d.ofs
  let b := m2.base.toNat + d.ofs2
  rangeIn m d.ofs l.1 && rangeIn m2 d.ofs2 l.2 && !(a < b + l.2 && b < a + l.1)

/-- Check 4 (R269, R271, R272). -/
def CDesc.mortsOk (s : State) (d : CDesc) : Bool :=
  let n := (participants s d).length
  (colNames d).all (fun i => (mortAt s i).valid) && d.guardOk s &&
    (!d.isData ||
      (bitAt d 47 && bitAt d 63 && d.fmt == (mortAt s d.mort).fmt && d.fmt == (mortAt s d.mort2).fmt &&
        d.count % d.parts n = 0 && d.rangesOk s n))

/-- The collective check in its order; 0 passes (R272). -/
def colCheck (s : State) (d : CDesc) : BitVec 8 :=
  if !d.structureOk then 0x67
  else if !d.scopeOk s then 0x68
  else if (colNames d).any fun i => (mortAt s i).st == .retired then 0x07
  else if !d.mortsOk s then 0x69
  else if 8 ≤ s.col.queue.length then 0x6A
  else 0

/-- The report of a refused descriptor (R370). -/
def colRefusal (s : State) (code : BitVec 8) (d : CDesc) : Report :=
  if code == 0x07 then
    let i := ((colNames d).find? fun i => (mortAt s i).st == .retired).getD 0
    { code := code, mort := some i, loc := i.setWidth 64 }
  else colReport code 3 0 0

/-- A descriptor takes its place in the queue with the next ticket and the epoch of its scope (R268, R272). -/
def colAccept (d : CDesc) (s : State) : State :=
  s.onCol fun c =>
    { c with queue := c.queue ++ [{ ticket := c.nextTicket, desc := d, epoch := epochOf s d.uplink }]
             nextTicket := c.nextTicket + 1 }

/-- The scope of a descriptor: where the ridge is its own crown, UPLINK scope means its ring (R264). -/
def inScope (s : State) (d : CDesc) : CDesc := if s.col.upRing then BitVec.and d (~~~((1 : BitVec 512) <<< 16)) else d

/-- The check of a submitted descriptor in its scope, and its outcome (R264, R272). -/
def submitCol (d : CDesc) (s : State) : BitVec 8 × State :=
  let d := inScope s d
  let code := colCheck s d
  (code, if code == 0 then colAccept d s else report (colRefusal s code d) (colEvent 4 s))

/-! ### Commands -/

/-- COL_CMD_STATUS.CODE. -/
def colCode (c : BitVec 8) (s : State) : State := s.onCol fun k => { k with cmdCode := c }

/-- A collective command is refused with code 0x6E (R283). -/
def colCmdRefuse (t : BitVec 32) (s : State) : State := report (colReport 0x6E 3 t 0) (colEvent 4 (colCode 0x6E s))

/-- SUBMIT: the descriptor in COL_DBUF (R272). -/
def colSubmitOp (s : State) : State :=
  let t := s.col.nextTicket
  let r := submitCol s.col.dbuf s
  r.2.onCol fun c => { c with cmdCode := r.1, cmdTicket := if r.1 == 0 then t else c.cmdTicket }

/-- ABORT: the running or queued descriptor named ends ABORTED (R274). -/
def colAbortOp (t : BitVec 32) (s : State) : State :=
  if s.col.run.any (·.ticket == t) then colCode 0 (abortRun 0 s)
  else
    match s.col.queue.find? (·.ticket == t) with
    | some q => colCode 0 (endQueued q 6 0 s)
    | none => colCmdRefuse t s

/-- FLUSH: every queued descriptor ends ABORTED (R274). -/
def colFlushOp (s : State) : State := colCode 0 (foldOver s.col.queue (fun q s => endQueued q 6 0 s) s)

/-- JOIN: at the ridge its own JOIN is judged at once (R262, R263). -/
def colJoinOp (s : State) : State :=
  colCode 0 (if isRidge s then takeJoin (ownEntry s) s else sendJoin s)

/-- LEAVE is refused on the ridge, while a collective runs or is queued, after a version-1 COMMIT, and where a job kill
is (R266, R282, R381). -/
def leaveRefused (s : State) : Bool :=
  isRidge s || s.col.run.isSome || !s.col.queue.isEmpty || s.col.v1Seen || !killAllowed s

/-- LEAVE: a job kill, then LEAVE to the ridge (R266). -/
def colLeaveOp (s : State) : State :=
  if leaveRefused s then colCmdRefuse 0 s
  else colCode 0 (jobKill 2 (s.onCol fun c => { c with leaving := true }))

/-- A value of COL_CMD with a reserved bit or operation. -/
def colReservedWord (v : W64) : Bool := v &&& 0xFFFF00000000FFF0 != 0 || 6 ≤ (field v 0 4).toNat

/-- What a write of COL_CMD does. -/
def colWord (v : W64) (s : State) : State :=
  if !unitsOn s then s
  else if colReservedWord v then colCmdRefuse (field v 16 32) s
  else
    match (field v 0 4).toNat with
    | 0 => colCode 0 s
    | 1 => colSubmitOp s
    | 2 => colAbortOp (field v 16 32) s
    | 3 => colFlushOp s
    | 4 => colJoinOp s
    | _ => colLeaveOp s

/-- A collective command: run with BUSY set after it, or dropped with LOST while BUSY (COL_CMD). -/
def colGate (act : State → State) (s : State) : State :=
  unlessBusy s.col.cmdBusy (fun s => s.onCol fun t => { t with cmdLost := true })
    (fun s => s.onCol fun t => { t with cmdBusy := true }) act s

/-- A collective command through COL_CMD. -/
def colCmd (src : Src) (act : State → State) (s : State) : State :=
  writeDropping src 0x90180 .host s.col.cmdBusy (colGate fun s => onlyIf (unitsOn s) act s) s

/-- NOP. -/
def execColNop (src : Src) (s : State) : Host.Outcome State Fault Refusal := done (colCmd src (colCode 0) s)

/-- SUBMIT (R272). -/
def execColSubmit (src : Src) (s : State) : Host.Outcome State Fault Refusal := done (colCmd src colSubmitOp s)

/-- ABORT (R274). -/
def execColAbort (src : Src) (ticket : BitVec 32) (s : State) : Host.Outcome State Fault Refusal :=
  done (colCmd src (colAbortOp ticket) s)

/-- FLUSH (R274). -/
def execColFlush (src : Src) (s : State) : Host.Outcome State Fault Refusal := done (colCmd src colFlushOp s)

/-- JOIN (R262). -/
def execColJoin (src : Src) (s : State) : Host.Outcome State Fault Refusal := done (colCmd src colJoinOp s)

/-- LEAVE (R266). -/
def execColLeave (src : Src) (s : State) : Host.Outcome State Fault Refusal := done (colCmd src colLeaveOp s)

/-- A reserved collective command: refused with code 0x6E (R283). -/
def execColCmdReserved (src : Src) (raw : BitVec 64) (s : State) : Host.Outcome State Fault Refusal :=
  done (onlyIf (colReservedWord raw) (colCmd src (colWord raw)) s)

/-- HIER_CFG is not to be written: a collective is running or queued (R264). -/
def hierHeld (s : State) : Bool := s.col.run.isSome || !s.col.queue.isEmpty

/-- A write of HIER_CFG: dropped with code 0x6E while a collective is running or queued; a ridge that accepts it
reports to the crown it names, which is itself without UPL_EN (R264, assumption 24). -/
def writeHier (v : W64) (s : State) : State :=
  if hierHeld s then report (colReport 0x6E 3 0 0) s
  else
    let s := s.onCol fun c => { c with hier := field v 0 14 }
    if isRidge s && s.col.epoch != 0 && !ownCrown s then afterCommit s else s

/-- HIER_CFG_WRITE (R264). -/
def execHierCfgWrite (src : Src) (v : BitVec 64) (s : State) : Host.Outcome State Fault Refusal :=
  done (writeDropping src 0x90010 .host (hierHeld s) (writeHier v) s)

/-- The instance leaves BOOT: the ridge proposes epoch 1 with itself alone, a rafter with AUTO_JOIN sends JOIN (R261,
R262). -/
def colAfterBoot (s : State) : State :=
  if isRidge s then proposeNow none (openBypass s) else if bitAt s.col.hier 13 then sendJoin s else s

/-! ### Registers -/

/-- ROLE: 0 none, 1 rafter, 2 ridge, 3 crown. -/
def colRole (s : State) : BitVec 2 :=
  if !onRing s (ownFid s) then 0 else if isCrown s then 3 else if isRidge s then 2 else 1

/-- COL_STATUS. -/
def colStatus (s : State) : W64 :=
  let c := s.col
  c.epoch.setWidth 16 ++ c.crownEpoch.setWidth 16 ++ BitVec.ofNat 9 c.ridges.length ++ BitVec.ofNat 5 c.members.length ++
    BitVec.ofNat 4 (if onRing s (ownFid s) then rankOf s (ownFid s) else 0) ++ c.ver.setWidth 2 ++
    c.crownVer.setWidth 2 ++ colRole s ++ flagBits 1 (s.aon.bypCw && s.aon.bypCcw) ++ flagBits 1 c.run.isSome ++
    flagBits 1 c.conflict ++ (0 : BitVec 1) ++ BitVec.ofNat 4 c.queue.length

/-- COL_MEMBER[r]. -/
def colMember (s : State) (r : Nat) : W64 :=
  match s.col.members[r]? with
  | some m => (1 : BitVec 1) ++ (0 : BitVec 43) ++ m.ver ++ (0 : BitVec 4) ++ m.fid
  | none => 0

/-- The registers at an offset of the collective sub-window. -/
def colInfo (off : Nat) : Option RegInfo :=
  match off with
  | 0x000 => some { owner := .both, other := 0x0000FFFFFFFFFFFF }
  | 0x008 => some { owner := .both, other := 0x1FFF }
  | 0x010 => some { owner := .host, rw := 0x3FFF }
  | 0x018 => some { owner := .host, rw := 0xFFFFFFFF }
  | 0x020 => some { owner := .both, other := 0xFFFFFFFFFFFFFFEF }
  | 0x180 => some { owner := .host, other := 0x0000FFFFFFFF000F }
  | 0x188 => some { owner := .host, other := 0xFFFFFFFF00FF0003 }
  | 0x190 => some { owner := .both, other := 0xFFFFFFFFFFFFFF00 }
  | 0x198 => some { owner := .both, other := 0x0000FFFFFFFFFFFF }
  | 0x1A0 => some { owner := .both, other := 0xFFFFFFFFFFFFFFFF }
  | 0x1A8 => some { owner := .both, other := 0xFFFFFFFFFFFFFFFF }
  | 0x280 => some { owner := .host, other := 0xF }
  | _ =>
    if off % 8 != 0 then none
    else if 0x100 ≤ off && off < 0x140 then some { owner := .host, rw := 0xFFFFFFFFFFFFFFFF }
    else if 0x200 ≤ off && off < 0x280 then some { owner := .both, other := 0x80000000000F0FFF }
    else if 0x300 ≤ off && off < 0x340 then some { owner := .host, rw := 0xFFFFFFFFFFFFFFFF }
    else if 0x1000 ≤ off && off < 0x1080 then some { owner := .both, other := 0x8000FFFFFFFFFFFF }
    else if 0x1800 ≤ off && off < 0x2000 then some { owner := .both, other := 0x8000FFFFFFFFFFFF }
    else none

/-- Reads a register of the collective sub-window. -/
def colRead (off : Nat) (s : State) : W64 :=
  let c := s.col
  match off with
  | 0x000 => 0x0000010010080102
  | 0x008 => (0 : BitVec 51) ++ flagBits 1 s.aon.ridgeEn ++ s.aon.fabricId
  | 0x010 => c.hier.setWidth 64
  | 0x018 => c.progress.setWidth 64
  | 0x020 => colStatus s
  | 0x188 => c.cmdTicket ++ (0 : BitVec 8) ++ c.cmdCode ++ (0 : BitVec 14) ++ flagBits 1 c.cmdLost ++
      flagBits 1 c.cmdBusy
  | 0x190 => c.last
  | 0x198 => c.slack.setWidth 64
  | 0x1A0 => c.norm
  | 0x1A8 => c.tally
  | 0x280 => c.event.setWidth 64
  | _ =>
    if 0x100 ≤ off && off < 0x140 then wordOf c.dbuf ((off - 0x100) / 8)
    else if 0x200 ≤ off && off < 0x280 then colMember s ((off - 0x200) / 8)
    else if 0x300 ≤ off && off < 0x340 then c.count.get 0 ((off - 0x300) / 8)
    else if 0x1000 ≤ off && off < 0x1080 then c.late.get 0 ((off - 0x1000) / 8)
    else if 0x1800 ≤ off && off < 0x2000 then c.clate.get 0 ((off - 0x1800) / 8)
    else 0

/-- Writes a register of the collective sub-window. -/
def colWrite (off : Nat) (v : W64) (s : State) : State :=
  match off with
  | 0x010 => writeHier v s
  | 0x018 => s.onCol fun c => { c with progress := field v 0 32 }
  | 0x180 => colGate (colWord v) s
  | 0x188 => s.onCol fun c => { c with cmdLost := c.cmdLost && !bitAt v 1 }
  | 0x280 => s.onCol fun c => { c with event := c.event &&& ~~~field v 0 4 }
  | _ =>
    if 0x100 ≤ off && off < 0x140 then s.onCol fun c => { c with dbuf := setWord c.dbuf ((off - 0x100) / 8) v }
    else if 0x300 ≤ off && off < 0x340 then s.onCol fun c => { c with count := c.count.set 0 ((off - 0x300) / 8) v }
    else s

end Sys2Proof.Machine
end

