-- ==== Sys2Proof/Machine/Dbg.lean ====
section
/-!
DEFINITION. Dbg.lean: debug reads of the tile register file (R338, R384) and the debug sub-window.
-/
namespace Sys2Proof.Machine

/-! ### Starting a read -/

/-- DBG_STATUS.CODE. -/
def dbgCode (c : BitVec 8) (s : State) : State := s.onDbg fun d => { d with code := c }

/-- A debug read is refused with a code; UNIT 1 host, 2 vent, LOCATION the value written (R384, R387). -/
def dbgRefuse (src : Src) (v : W64) (s : State) : State :=
  report { code := 0xA1, unit := srcUnit src, loc := v } (dbgCode 0xA1 s)

/-- Debug reads of TRF contents are refused in FAULT and PURGE (R326, R338). -/
def dbgBlocked (s : State) : Bool := s.aon.st == .fault || s.aon.st == .purge

/-- The read starts. -/
def dbgStart (isRaw : Bool) (mort : BitVec 10) (beam : BitVec 20) (s : State) : State :=
  s.onDbg fun d => { d with code := 0, ue := false, ce := false, req := some (isRaw, mort, beam) }

/-- OP DATA: a mortise that is RETIRED is refused with code 0x07, one that is INVALID or a beam outside it with 0xA1
(R384). -/
def dbgData (src : Src) (v : W64) (mort : BitVec 10) (ofs : BitVec 20) (s : State) : State :=
  let m := mortAt s mort
  if m.st == .retired then report { code := 0x07, loc := mort.setWidth 64 } (dbgCode 0x07 s)
  else if m.st == .invalid || m.len.toNat ≤ ofs.toNat then dbgRefuse src v s
  else dbgStart false mort (m.beamAt ofs.toNat) s

/-- A value of DBG_CMD with a reserved bit or operation. -/
def dbgReservedWord (v : W64) : Bool := field v 30 32 != 0 || field v 62 2 == 3

/-- A value of DBG_CMD that asks for a read of TRF contents. -/
def dbgAsksRead (v : W64) : Bool := field v 62 2 == 1 || field v 62 2 == 2

/-- DBG_CMD as the unit takes it. -/
def dbgTake (src : Src) (v : W64) (s : State) : State :=
  if dbgReservedWord v then dbgRefuse src v s
  else
    match (field v 62 2).toNat with
    | 1 => dbgData src v (field v 20 10) (field v 0 20) s
    | 2 => dbgStart true 0 (field v 0 20) s
    | _ => dbgCode 0 s

/-- The vent port asks for a read without DEBUG_UNLOCK (R338). -/
def dbgNoUnlock (src : Src) (v : W64) (s : State) : Bool := src = .vent && dbgAsksRead v && !s.aon.bUnlock

/-- A write of DBG_CMD is refused: without DEBUG_UNLOCK, or in FAULT and PURGE (R326, R338). -/
def dbgTurned (src : Src) (v : W64) (s : State) : Bool := dbgNoUnlock src v s || (dbgAsksRead v && dbgBlocked s)

/-- It is answered REFUSED; code 0xA1 says that DEBUG_UNLOCK is wanted, with DBG_CMD as written (R338, R387). -/
def dbgTurn (src : Src) (v : W64) (s : State) : State :=
  let t := answer src .refused 0 s
  if dbgNoUnlock src v s then report { code := 0xA1, unit := srcUnit src, loc := v } t else t

/-- What a write of DBG_CMD that is not refused does: dropped with LOST while a read runs. -/
def dbgWord (src : Src) (v : W64) (s : State) : State :=
  unlessBusy s.dbg.req.isSome (fun s => s.onDbg fun d => { d with lost := true }) id (dbgTake src v) s

/-- A write of DBG_CMD. -/
def dbgGate (src : Src) (v : W64) (s : State) : State :=
  if dbgTurned src v s then writeUnless src 0xE0000 .both true (dbgTurn src v) (dbgWord src v) s
  else writeDropping src 0xE0000 .both s.dbg.req.isSome (dbgWord src v) s

/-- A debug command through DBG_CMD. -/
def dbgCmd (src : Src) (v : W64) (s : State) : Host.Outcome State Fault Refusal := done (dbgGate src v s)

/-- NOP (DBG_CMD). -/
def execDbgNop (src : Src) (s : State) : Host.Outcome State Fault Refusal := dbgCmd src 0 s

/-- DATA (R384). -/
def execDataRead (src : Src) (mort : BitVec 10) (ofs : BitVec 20) (s : State) : Host.Outcome State Fault Refusal :=
  dbgCmd src ((1 : BitVec 2) ++ (0 : BitVec 32) ++ mort ++ ofs) s

/-- RAW (R384). -/
def execRaw (src : Src) (beam : BitVec 20) (s : State) : Host.Outcome State Fault Refusal :=
  dbgCmd src ((2 : BitVec 2) ++ (0 : BitVec 42) ++ beam) s

/-- A reserved debug command: refused with code 0xA1 (DBG_CMD). -/
def execDbgCmdReserved (src : Src) (raw : BitVec 64) (s : State) : Host.Outcome State Fault Refusal :=
  done (onlyIf (dbgReservedWord raw) (dbgGate src raw) s)

/-! ### Registers of the debug sub-window -/

/-- The registers at an offset of the debug sub-window. -/
def dbgInfo (off : Nat) : Option RegInfo :=
  match off with
  | 0x00 => some { owner := .both, other := 0xC00000003FFFFFFF }
  | 0x08 => some { owner := .both, other := 0xFF000F }
  | 0x1000 => some { owner := .both, other := 0xFFFFFFFFFFFFFFFF }
  | 0x1008 => some { owner := .both, other := 0xFFFFFFFFFFFFFFFF }
  | _ =>
    if 0x100 ≤ off && off < 0x330 && off % 8 = 0 then some { owner := .both, other := 0xFFFFFFFFFFFFFFFF } else none

/-- Reads a register of the debug sub-window. -/
def dbgRead (off : Nat) (s : State) : W64 :=
  let d := s.dbg
  match off with
  | 0x08 => (0 : BitVec 40) ++ d.code ++ (0 : BitVec 12) ++ flagBits 1 d.ue ++ flagBits 1 d.ce ++ flagBits 1 d.lost ++
      flagBits 1 d.req.isSome
  | 0x1000 => 0x0000043000011800
  | 0x1008 => d.mtaReads ++ d.mtaRefused ++ (0 : BitVec 13) ++
      flagBits 1 (s.aon.dft || (s.aon.st == .fault && s.aon.bUnlock)) ++ flagBits 1 (d.ir != 0xF) ++ (0 : BitVec 1)
  | _ => if 0x100 ≤ off && off < 0x330 then wordOf d.data ((off - 0x100) / 8) else 0

/-- A read of DBG_DATA is refused: the host port in FAULT and PURGE, the vent port also without DEBUG_UNLOCK (R326,
R338). -/
def dbgReadRefused (src : Src) (off : Nat) (s : State) : Bool :=
  0x100 ≤ off && off < 0x330 && (dbgBlocked s || (src = .vent && !s.aon.bUnlock))

/-- Writes a register of the debug sub-window. -/
def dbgWrite (src : Src) (off : Nat) (v : W64) (s : State) : State :=
  match off with
  | 0x00 => dbgWord src v s
  | 0x08 => s.onDbg fun d => { d with lost := d.lost && !bitAt v 1 }
  | _ => s

end Sys2Proof.Machine
end

