-- ==== Sys2Proof/Machine/Err.lean ====
section
/-!
DEFINITION. Err.lean: the registers of the error-log sub-window: ERR_CMD, the log's entries and the masks (R369 to
R375).
-/
namespace Sys2Proof.Machine

/-! ### ERR_CMD -/

/-- POP takes the oldest entry out. -/
def popOp (s : State) : State := s.onLog fun l => { l with entries := l.entries.tail }

/-- CLEAR empties the log and keeps SEQ. -/
def clearOp (s : State) : State := s.onLog fun l => { l with entries := [] }

/-- A value of ERR_CMD that is ignored: a reserved bit, or OP 3. -/
def errReservedWord (v : W64) : Bool := v &&& 0xFFFFFFFFFFFFFFFC != 0 || field v 0 2 == 3

/-- What a write of ERR_CMD does. -/
def errWord (v : W64) (s : State) : State :=
  if errReservedWord v then s
  else
    match (field v 0 2).toNat with
    | 1 => popOp s
    | 2 => clearOp s
    | _ => s

/-- A log command through ERR_CMD. -/
def errCmd (src : Src) (act : State → State) (s : State) : Host.Outcome State Fault Refusal :=
  done (writeReg src 0xD0008 .both act s)

/-- NOP (ERR_CMD). -/
def execErrNop (src : Src) (s : State) : Host.Outcome State Fault Refusal := errCmd src id s

/-- POP (R375, ERR_CMD). -/
def execPop (src : Src) (s : State) : Host.Outcome State Fault Refusal := errCmd src popOp s

/-- CLEAR (ERR_CMD). -/
def execClear (src : Src) (s : State) : Host.Outcome State Fault Refusal := errCmd src clearOp s

/-- A reserved log command is ignored (ERR_CMD). -/
def execErrCmdReserved (src : Src) (raw : BitVec 64) (s : State) : Host.Outcome State Fault Refusal :=
  errCmd src (onlyIf (errReservedWord raw) (errWord raw)) s

/-! ### Registers of the error-log sub-window -/

/-- The words of an entry (R369). -/
def LogEntry.word (e : LogEntry) (w : Nat) : W64 :=
  match w with
  | 0 =>
    (0 : BitVec 6) ++ e.mortise ++ (0 : BitVec 7) ++ flagBits 1 e.pidV ++ e.phaseId ++ e.unit ++ (0 : BitVec 2) ++
      flagBits 1 e.mortV ++ flagBits 1 e.nested ++ e.cls ++ e.code
  | 1 => e.stamp
  | 2 => e.loc
  | _ => e.seq ++ e.rep

/-- The bits of ERR_MASK[k] that name a Fatal code (R373). -/
def fatalBits (k : Nat) : W64 :=
  (List.range 64).foldl (fun m i =>
    if isFatalCode (BitVec.ofNat 8 (64 * k + i)) then m ||| ((1 : W64) <<< i) else m) 0

/-- The bits of ERR_MASK[k] that hold a value. -/
def maskBits (k : Nat) : W64 := ~~~fatalBits k

/-- The registers at an offset of the error-log sub-window. -/
def errInfo (off : Nat) : Option RegInfo :=
  match off with
  | 0x00 => some { owner := .both, other := 0xFFFFFFFF000001FF }
  | 0x08 => some { owner := .both, other := 0x3 }
  | 0x10 => some { owner := .host, rw := 0xFFFFFFFFFFFFFFFF }
  | 0x40 | 0x48 | 0x50 | 0x58 => some { owner := .host, rw := 0xFFFFFFFFFFFFFFFF, sh := true }
  | 0x8040 | 0x8048 | 0x8050 | 0x8058 => some { owner := .both, other := 0xFFFFFFFFFFFFFFFF }
  | _ =>
    if 0x1000 ≤ off && off < 0x1800 && off % 8 = 0 then some { owner := .both, other := 0xFFFFFFFFFFFFFFFF } else none

/-- ERR_STATUS. -/
def errStatus (s : State) : W64 :=
  let l := s.log
  l.seq ++ (0 : BitVec 23) ++ flagBits 1 (l.entries.any fun e => e.cls == 3) ++ flagBits 1 (l.entries.any LogEntry.isOpen) ++
    BitVec.ofNat 7 l.entries.length

/-- Reads a register of the error-log sub-window; an entry at or beyond COUNT reads zero. -/
def errRead (off : Nat) (s : State) : W64 :=
  match off with
  | 0x00 => errStatus s
  | 0x10 => s.log.masked ++ s.log.discarded
  | _ =>
    if 0x40 ≤ off && off < 0x60 then s.cfg.shadow.errMask.get 0 ((off - 0x40) / 8)
    else if 0x8040 ≤ off && off < 0x8060 then s.cfg.active.errMask.get 0 ((off - 0x8040) / 8)
    else if 0x1000 ≤ off && off < 0x1800 then
      match s.log.entries[(off - 0x1000) / 0x20]? with
      | some e => e.word (off % 0x20 / 8)
      | none => 0
    else 0

/-- Writes a register of the error-log sub-window. -/
def errWrite (off : Nat) (v : W64) (s : State) : State :=
  match off with
  | 0x08 => errWord v s
  | 0x10 => s.onLog fun l => { l with masked := field v 32 32, discarded := field v 0 32 }
  | _ =>
    if 0x40 ≤ off && off < 0x60 then
      let k := (off - 0x40) / 8
      s.onCfg fun c => { c with shadow := { c.shadow with errMask := c.shadow.errMask.set 0 k (v &&& maskBits k) } }
    else s

end Sys2Proof.Machine
end

