-- ==== Sys2Proof/Machine/Host.lean ====
section
/-!
DEFINITION. Host.lean: block commands (R329), host ownership (R327), the watchdog (R322), bulk moves (R324), the
work-order rings' registers (R330), interrupts (R334), and the map of the control-core sub-window.
-/
namespace Sys2Proof.Machine

/-! ### Block commands (R23, R24, R26, R329) -/

/-- HOST_CMD_STATUS.CODE. -/
def hostCode (c : BitVec 8) (s : State) : State := s.onCore fun k => { k with cmdCode := c }

/-- A block command is refused with code 0x8C (R329). -/
def hostRefuse (src : Src) (s : State) : State :=
  report { code := 0x8C, unit := srcUnit src } (hostCode 0x8C s)

/-- PAUSE: from READY and RUN; no effect in PAUSE; discarded elsewhere (R24, R26). -/
def pauseOp (src : Src) (s : State) : State :=
  match s.aon.st with
  | .ready | .run => hostCode 0 (setState .pause s)
  | .pause => hostCode 0 s
  | _ => hostRefuse src s

/-- RESUME: to RUN if any slot holds a phase, else READY; no effect in READY and RUN; discarded elsewhere (R23,
R24). -/
def resumeOp (src : Src) (s : State) : State :=
  match s.aon.st with
  | .pause => hostCode 0 (setState (if anyPhase s then .run else .ready) s)
  | .ready | .run => hostCode 0 s
  | _ => hostRefuse src s

/-- KILL (R381). -/
def killOp (src : Src) (s : State) : State :=
  if killAllowed s then hostCode 0 (jobKill (if src = .vent then 1 else 0) s) else hostRefuse src s

/-- A value of HOST_CMD with a reserved bit or operation. -/
def hostReservedWord (v : W64) : Bool := v &&& 0xFFFFFFFFFFFFFFF0 != 0 || 4 ≤ (field v 0 4).toNat

/-- What a write of HOST_CMD does. -/
def hostWord (src : Src) (v : W64) (s : State) : State :=
  if hostReservedWord v then hostRefuse src s
  else
    match (field v 0 4).toNat with
    | 0 => hostCode 0 s
    | 1 => pauseOp src s
    | 2 => resumeOp src s
    | _ => killOp src s

/-- A block command: run with BUSY set after it, or dropped with LOST while BUSY (R329). -/
def hostGate (act : State → State) (s : State) : State :=
  unlessBusy s.core.cmdBusy (fun s => s.onCore fun t => { t with cmdLost := true })
    (fun s => s.onCore fun t => { t with cmdBusy := true }) act s

/-- A block command through HOST_CMD (R329). -/
def hostCmd (src : Src) (act : State → State) (s : State) : State :=
  writeDropping src 0xB0010 .both s.core.cmdBusy (hostGate act) s

/-- NOP. -/
def execHostCmdNop (src : Src) (s : State) : Host.Outcome State Fault Refusal := done (hostCmd src (hostCode 0) s)

/-- PAUSE (R26). -/
def execHostPause (src : Src) (s : State) : Host.Outcome State Fault Refusal := done (hostCmd src (pauseOp src) s)

/-- RESUME (R26). -/
def execHostResume (src : Src) (s : State) : Host.Outcome State Fault Refusal := done (hostCmd src (resumeOp src) s)

/-- KILL (R381). -/
def execHostKill (src : Src) (s : State) : Host.Outcome State Fault Refusal := done (hostCmd src (killOp src) s)

/-- A reserved block command: refused with code 0x8C (R329). -/
def execHostCmdReserved (src : Src) (raw : BitVec 64) (s : State) : Host.Outcome State Fault Refusal :=
  done (onlyIf (hostReservedWord raw) (hostCmd src (hostWord src raw)) s)

/-! ### Ownership (R327) -/

/-- A claim or release that another ID's ownership forbids: DROPPED, code 0x85 (R327, R328). -/
def ownDrop (src : Src) (s : State) : State := logDrop src (answer src .dropped 0 s)

/-- CLAIM for HP_REQ_ID; only the host port carries one (R327). -/
def claimOp (src : Src) (s : State) : State :=
  match src with
  | .host id =>
    if !s.core.owned then (endDrops src s).onCore fun c => { c with owned := true, ownerId := id }
    else if s.core.ownerId == id then endDrops src s
    else ownDrop src s
  | _ => endDrops src s

/-- RELEASE by the owner or the vent port (R327). -/
def releaseOp (src : Src) (s : State) : State :=
  match src with
  | .host id =>
    if s.core.owned && s.core.ownerId != id then ownDrop src s
    else (endDrops src s).onCore fun c => { c with owned := false }
  | .vent => (endDrops src s).onCore fun c => { c with owned := false }
  | .firmware => endDrops src s

/-- What a write of HOST_OWN does. -/
def ownWord (src : Src) (v : W64) (s : State) : State :=
  let s := if bitAt v 8 then claimOp src s else if bitAt v 9 then s else endDrops src s
  if bitAt v 9 then releaseOp src s else s

/-- HOST_CLAIM (R327). -/
def execHostClaim (src : Src) (s : State) : Host.Outcome State Fault Refusal :=
  done (writeReg src 0xB0008 .both (claimOp src) s)

/-- HOST_RELEASE (R327). -/
def execHostRelease (src : Src) (s : State) : Host.Outcome State Fault Refusal :=
  done (writeReg src 0xB0008 .both (releaseOp src) s)

/-! ### Watchdog (R322) -/

/-- A write of CORE_WDOG: KICK restarts the count (R322). -/
def wdogWord (v : W64) (s : State) : State :=
  s.onCore fun c =>
    { c with period := field v 0 32, wdog := if bitAt v 32 then 0 else c.wdog, wdogOut := c.wdogOut && !bitAt v 32 }

/-- The count reaches PERIOD: code 0x83, once for each count (R322). -/
def wdogFire (s : State) : State := fatal { code := 0x83 } (s.onCore fun c => { c with wdogOut := true })

/-- WDOG_KICK (R322). -/
def execWdogKick (src : Src) (v : BitVec 64) (s : State) : Host.Outcome State Fault Refusal :=
  done (writeReg src 0xB0020 .host (wdogWord v) s)

/-- WATCHDOG_EXPIRY: code 0x83, fatal; suspended in BOOT and FAULT, off at PERIOD 0 (R322). -/
def execWatchdogExpiry (s : State) : Host.Outcome State Fault Refusal :=
  done (onlyIf (unitsOn s && s.aon.st != .boot && s.core.period != 0 && !s.core.wdogOut) wdogFire s)

/-! ### Bulk moves (R324) -/

/-- The bytes of the TCM that a move uses. -/
def moveLen (kind count : Nat) : Nat := if kind < 2 then 544 * count else 64 * count

/-- Where a memory move goes; none when its window check fails (R224, R320, R324). -/
def moveWindow (s : State) (write : Bool) (addr : BitVec 52) (count : Nat) : Option WinSel :=
  winSelect s write addr.toNat (addr.toNat + 64 * count - 1)

/-- A move passes its checks (R324). -/
def moveOk (s : State) (kind count tcm : Nat) : Bool :=
  let a := s.core.moveAddr
  1 ≤ count && count ≤ (if kind < 2 then 8 else 72) && tcm + moveLen kind count ≤ tcmSize &&
    tcm % (if kind < 2 then 8 else 64) = 0 &&
    (if kind < 2 then
      let m := mortAt s (field a 20 10)
      m.valid && rangeIn m (field a 0 20).toNat count
     else
      a.toNat % 64 = 0 && a.toNat % 65536 + 64 * count ≤ 65536 && (moveWindow s (kind = 3) a count).isSome)

/-- The move starts. -/
def startMove (kind count : Nat) (tcm : BitVec 18) (s : State) : State :=
  let a := s.core.moveAddr
  let w := (moveWindow s (kind = 3) a count).getD {}
  s.onCore fun c =>
    { c with
      moveCode := 0, movePoison := false
      move := some
        { kind := BitVec.ofNat 2 kind, count := count, tcm := tcm, mort := field a 20 10, ofs := field a 0 20,
          daddr := a, paddr := if kind < 2 then 0 else w.phys a.toNat, left := if kind < 2 then List.range count else [] } }

/-- What a write of MOVE_CMD does: refused with code 0x8B, or the move starts; dropped with LOST while one runs
(R324). -/
def moveWord (src : Src) (v : W64) (s : State) : State :=
  let kind := (field v 62 2).toNat
  let count := (field v 32 7).toNat
  if s.core.move.isSome then s.onCore fun c => { c with moveLost := true }
  else if moveOk s kind count (field v 0 18).toNat then startMove kind count (field v 0 18) s
  else report { code := 0x8B, unit := srcUnit src } (s.onCore fun c => { c with moveCode := 0x8B })

/-- A write of MOVE_CMD of one kind. -/
def moveCmd (kind : BitVec 2) (src : Src) (raw : W64) (s : State) : Host.Outcome State Fault Refusal :=
  done (onlyIf (field raw 62 2 == kind)
    (writeDropping src 0xB0030 .host s.core.move.isSome (onlyIf (unitsOn s) (moveWord src raw))) s)

/-- MOVE_TCM_TO_TRF (R324). -/
def execMoveTcmToTrf (src : Src) (raw : BitVec 64) (s : State) : Host.Outcome State Fault Refusal :=
  moveCmd 0 src raw s

/-- MOVE_TRF_TO_TCM (R324). -/
def execMoveTrfToTcm (src : Src) (raw : BitVec 64) (s : State) : Host.Outcome State Fault Refusal :=
  moveCmd 1 src raw s

/-- MOVE_MEM_TO_TCM (R324). -/
def execMoveMemToTcm (src : Src) (raw : BitVec 64) (s : State) : Host.Outcome State Fault Refusal :=
  moveCmd 2 src raw s

/-- MOVE_TCM_TO_MEM (R324). -/
def execMoveTcmToMem (src : Src) (raw : BitVec 64) (s : State) : Host.Outcome State Fault Refusal :=
  moveCmd 3 src raw s

/-- A request of the move is presented and not yet accepted, or outstanding (R236, R237). -/
def moveWaits (s : State) : Bool :=
  (s.mem.req.toList.any fun r => r.any fun q => q.client == .move) ||
    s.mem.txns.any fun t => t.client == .move && !t.quar

/-- The move has moved all: its beams are read or committed, its request is accepted and answered (R324). -/
def moveOver (s : State) (m : MoveJob) : Bool :=
  if m.kind.toNat < 2 then m.left.isEmpty else m.started && !moveWaits s

/-- The move is complete: MOVE_STATUS shows whether it received poisoned or failed data (R324). -/
def endMove (s : State) : State := s.onCore fun c => { c with move := none, movePoison := c.move.any MoveJob.poison }

/-- MOVE_COMPLETE (R324). -/
def execMoveComplete (s : State) : Host.Outcome State Fault Refusal :=
  done (match s.core.move with
    | some m => onlyIf (unitsOn s && moveOver s m) endMove s
    | none => s)

/-! ### Work-order rings (R330) -/

/-- Changes ring r. -/
def modRing (r : Fin 4) (f : Ring → Ring) (s : State) : State :=
  s.onCore fun c => { c with ring := vmod c.ring r f }

/-- A ring register write is dropped with code 0x8A (R330). -/
def ringDrop (src : Src) (r : Fin 4) (s : State) : State :=
  report { code := 0x8A, unit := srcUnit src, loc := BitVec.ofNat 64 r.val } s

/-- A value of word 0 that is dropped (R330). -/
def ringHeld (s : State) (r : Fin 4) (v : W64) : Bool :=
  let k := s.core.ring[r]
  k.head != k.tail || field v 0 6 != 0

/-- A value of HEAD that is dropped (R330). -/
def bellHeld (s : State) (r : Fin 4) (v : W64) : Bool :=
  let k := s.core.ring[r]
  k.log2 == 0 || 2 ^ k.log2.toNat < (field v 0 32 - k.tail).toNat

/-- A write of word 0 (R330). -/
def ringConfig (src : Src) (r : Fin 4) (v : W64) (s : State) : State :=
  if ringHeld s r v then ringDrop src r s
  else modRing r (fun k => { k with log2 := field v 52 4, base := field v 0 52 }) s

/-- A write of HEAD, the doorbell (R330). -/
def ringBell (src : Src) (r : Fin 4) (v : W64) (s : State) : State :=
  if bellHeld s r v then ringDrop src r s
  else (modRing r (fun k => { k with head := field v 0 32 }) s).onCore fun c => { c with irqBell := true }

/-- The offset of word w of ring r. -/
def ringOff (r : Fin 4) (w : Nat) : Nat := 0xB0100 + 0x20 * r.val + 8 * w

/-- RING_CONFIG_WRITE (R330). -/
def execRingConfigWrite (src : Src) (r : Fin 4) (v : BitVec 64) (s : State) : Host.Outcome State Fault Refusal :=
  done (writeDropping src (ringOff r 0) .host (ringHeld s r v) (ringConfig src r v) s)

/-- DOORBELL (R330). -/
def execDoorbell (src : Src) (r : Fin 4) (v : BitVec 64) (s : State) : Host.Outcome State Fault Refusal :=
  done (writeDropping src (ringOff r 1) .host (bellHeld s r v) (ringBell src r v) s)

/-! ### Registers of the control-core sub-window -/

/-- CORE_STATUS.RUN. -/
def CoreRun.code : CoreRun → BitVec 2
  | .halted => 0 | .running => 1 | .wfi => 2

/-- The registers at an offset of the control-core sub-window. -/
def coreInfo (off : Nat) : Option RegInfo :=
  match off with
  | 0x00 => some { owner := .both, other := 0xFFFFFFFFFFFFF007 }
  | 0x08 => some { owner := .both, other := 0x80000000000003FF }
  | 0x10 => some { owner := .both, other := 0xF }
  | 0x18 => some { owner := .both, other := 0xFF0003 }
  | 0x20 => some { owner := .host, rw := 0xFFFFFFFF, other := 0x100000000 }
  | 0x28 => some { owner := .host, rw := 0xFFFFFFFFFFFFF }
  | 0x30 => some { owner := .host, other := 0xC000007F0003FFFF }
  | 0x38 => some { owner := .host, other := 0xFF0007 }
  | 0x40 => some { owner := .host, rw := 0xBBBBBBBB }
  | 0x48 => some { owner := .host, other := 0x1FF }
  | 0x50 => some { owner := .host, rw := 0x1FF }
  | 0x200 => some { owner := .host, other := 0xF }
  | _ =>
    if 0x100 ≤ off && off < 0x180 && off % 8 = 0 then
      match off % 0x20 / 8 with
      | 0 => some { owner := .host, rw := 0x00FFFFFFFFFFFFFF }
      | 1 => some { owner := .host, rw := 0xFFFFFFFF }
      | 2 => some { owner := .host, other := 0xFFFFFFFF }
      | _ => none
    else none

/-- The ring at an offset. -/
def ringAt (off : Nat) : Fin 4 := Fin.ofNat 4 ((off - 0x100) / 0x20)

/-- Reads a word of a ring. -/
def Ring.read (k : Ring) (w : Nat) : W64 :=
  match w with
  | 0 => (0 : BitVec 8) ++ k.log2 ++ k.base
  | 1 => k.head.setWidth 64
  | _ => k.tail.setWidth 64

/-- Reads a register of the control-core sub-window. -/
def coreRead (off : Nat) (s : State) : W64 :=
  let c := s.core
  match off with
  | 0x00 => c.lastPc ++ c.lastCause ++ c.tcmCe ++ (0 : BitVec 9) ++ flagBits 1 c.nest ++ c.run.code
  | 0x08 => flagBits 1 c.owned ++ (0 : BitVec 55) ++ c.ownerId
  | 0x18 => (0 : BitVec 40) ++ c.cmdCode ++ (0 : BitVec 14) ++ flagBits 1 c.cmdLost ++ flagBits 1 c.cmdBusy
  | 0x20 => c.period.setWidth 64
  | 0x28 => c.moveAddr.setWidth 64
  | 0x38 => (0 : BitVec 40) ++ c.moveCode ++ (0 : BitVec 13) ++ flagBits 1 c.movePoison ++ flagBits 1 c.moveLost ++
      flagBits 1 c.move.isSome
  | 0x40 => c.irqRoute
  | 0x48 => (irqSources s).setWidth 64
  | 0x50 => c.irqEn.setWidth 64
  | 0x200 => c.woEvent.setWidth 64
  | _ => if 0x100 ≤ off && off < 0x180 then c.ring[ringAt off].read (off % 0x20 / 8) else 0

/-- Writes a register of the control-core sub-window; TAIL is written by firmware only (R319). -/
def coreWrite (src : Src) (off : Nat) (v : W64) (s : State) : State :=
  match off with
  | 0x00 => s.onCore fun c => { c with nest := c.nest && !bitAt v 2 }
  | 0x08 => ownWord src v s
  | 0x10 => hostGate (hostWord src v) s
  | 0x18 => s.onCore fun c => { c with cmdLost := c.cmdLost && !bitAt v 1 }
  | 0x20 => wdogWord v s
  | 0x28 => s.onCore fun c => { c with moveAddr := field v 0 52 }
  | 0x30 => onlyIf (unitsOn s) (moveWord src v) s
  | 0x38 => s.onCore fun c => { c with moveLost := c.moveLost && !bitAt v 1 }
  | 0x40 => s.onCore fun c => { c with irqRoute := v &&& 0xBBBBBBBB }
  | 0x48 => s.onCore fun c =>
      { c with irqBell := c.irqBell && !bitAt v 8, irqState := c.irqState && !bitAt v 7, irqErr := c.irqErr && !bitAt v 5 }
  | 0x50 => s.onCore fun c => { c with irqEn := field v 0 9 }
  | 0x200 => s.onCore fun c => { c with woEvent := c.woEvent &&& ~~~field v 0 4 }
  | _ =>
    if 0x100 ≤ off && off < 0x180 then
      match off % 0x20 / 8 with
      | 0 => ringConfig src (ringAt off) v s
      | 1 => ringBell src (ringAt off) v s
      | 2 => if src = .firmware then modRing (ringAt off) (fun k => { k with tail := field v 0 32 }) s else s
      | _ => s
    else s

end Sys2Proof.Machine
end

