-- ==== Sys2Proof/Machine/Vent.lean ====
section
/-!
DEFINITION. Vent.lean: the registers of the vent sub-window: status, alerts and the mailbox (R335 to R340).
-/
namespace Sys2Proof.Machine

/-- The vent port's 7-bit address (R336). -/
def ventAddr (s : State) : BitVec 7 := 0x40 + (field s.aon.fabricId 0 4).setWidth 7

/-! ### The mailbox (R340) -/

/-- IN_DONE frees the inbound message and sets VENT_ALERT.IN_FREE; with no message it changes nothing (R340). -/
def inDoneOp (s : State) : State :=
  if s.aon.inFull then alertSet 0x40 (s.onAon fun a => { a with inFull := false }) else s

/-- OUT_POST posts MBOX_OUT; a second one while OUT_FULL is set is dropped with code 0x86 (R340). -/
def outPostOp (src : Src) (len : BitVec 6) (s : State) : State :=
  if s.aon.outFull then (if mainOn s then report { code := 0x86, unit := srcUnit src } s else s)
  else alertSet 0x01 (s.onAon fun a => { a with outLen := len, outFull := true })

/-- What a write of MBOX_CTL does. -/
def mboxWord (src : Src) (v : W64) (s : State) : State :=
  let s := if bitAt v 16 then inDoneOp s else s
  if bitAt v 17 then outPostOp src (field v 10 6) s else s.onAon fun a => { a with outLen := field v 10 6 }

/-- MBOX_CTL as it reads. -/
def mboxCtl (s : State) : W64 :=
  (0 : BitVec 48) ++ s.aon.outLen ++ flagBits 1 s.aon.outFull ++ flagBits 1 s.aon.inFull ++ (0 : BitVec 2) ++ s.aon.inLen

/-- IN_DONE (R340). -/
def execInDone (src : Src) (s : State) : Host.Outcome State Fault Refusal :=
  done (writeReg src 0xC0020 .both inDoneOp s)

/-- OUT_POST (R340). -/
def execOutPost (src : Src) (len : BitVec 6) (s : State) : Host.Outcome State Fault Refusal :=
  done (writeDropping src 0xC0020 .both s.aon.outFull (outPostOp src len) s)

/-! ### Registers of the vent sub-window -/

/-- VENT_STATUS. -/
def ventStatus (s : State) : W64 :=
  (0 : BitVec 16) ++ s.aon.vaddr ++ s.aon.pecErrs ++ (0 : BitVec 1) ++ ventAddr s ++ s.aon.ventLast

/-- The registers at an offset of the vent sub-window. -/
def ventInfo (off : Nat) : Option RegInfo :=
  match off with
  | 0x00 => some { owner := .both, other := 0x0000FFFFFFFF7FFF }
  | 0x08 => some { owner := .vent, rw := 0x1 }
  | 0x10 => some { owner := .both, other := 0x7F }
  | 0x18 => some { owner := .vent, rw := 0x7F }
  | 0x20 => some { owner := .both, rw := 0xFC00, other := 0x3033F }
  | 0x40 | 0x48 | 0x50 | 0x58 => some { owner := .both, other := 0xFFFFFFFFFFFFFFFF }
  | 0x60 | 0x68 | 0x70 | 0x78 => some { owner := .host, rw := 0xFFFFFFFFFFFFFFFF }
  | _ => none

/-- Reads a register of the vent sub-window. -/
def ventRead (off : Nat) (s : State) : W64 :=
  let a := s.aon
  match off with
  | 0x00 => ventStatus s
  | 0x08 => (flagBits 1 a.pecReq).setWidth 64
  | 0x10 => a.alert.setWidth 64
  | 0x18 => a.alertEn.setWidth 64
  | 0x20 => mboxCtl s
  | _ =>
    if 0x40 ≤ off && off < 0x60 then wordOf a.mboxIn ((off - 0x40) / 8)
    else if 0x60 ≤ off && off < 0x80 then wordOf a.mboxOut ((off - 0x60) / 8)
    else 0

/-- VENT_ALERT_EN is written: a bit that it newly selects asserts SMBALERT_N while pending (R339). -/
def alertEnable (v : BitVec 7) (s : State) : State :=
  alertSettle (s.onAon fun a =>
    { a with alertEn := v, smbalert := a.smbalert || (a.alert &&& v &&& ~~~a.alertEn) != 0 })

/-- Writes a register of the vent sub-window. -/
def ventWrite (src : Src) (off : Nat) (v : W64) (s : State) : State :=
  match off with
  | 0x08 => s.onAon fun a => { a with pecReq := bitAt v 0 }
  | 0x10 => alertSettle (s.onAon fun a => { a with alert := a.alert &&& ~~~field v 0 7 })
  | 0x18 => alertEnable (field v 0 7) s
  | 0x20 => mboxWord src v s
  | _ =>
    if 0x60 ≤ off && off < 0x80 then s.onAon fun a => { a with mboxOut := setWord a.mboxOut ((off - 0x60) / 8) v }
    else s

end Sys2Proof.Machine
end

