-- ==== Sys2Proof/Machine/Regs.lean ====
section
/-!
DEFINITION. Regs.lean: the register window (R17, R341): identity, capability descriptor, boot status, and the units'
sub-windows; reads and writes of it by the three initiators.
-/
namespace Sys2Proof.Machine

/-! ### Identity and capability descriptor (R3, R7) -/

/-- The identity register (R3). -/
def identity : W64 := 0x0A7E05D002000000

/-- CAP_DESC[w] (R7). -/
def capDesc (w : Nat) : W64 :=
  match w with
  | 0 => 0x040C020103020140
  | 1 => 0x00FF001F3FFF0004
  | 2 => 0x1020020000100000
  | 3 => 0x0100084004400400
  | 4 => 0x0820080404102000
  | 5 => 0x000001FF01000010
  | _ => 0

/-! ### Boot, block and clock status -/

/-- BLK_STATUS. -/
def blkStatus (s : State) : W64 :=
  s.aon.changes ++ (0 : BitVec 16) ++ s.aon.prev.code ++ (0 : BitVec 3) ++ flagBits 1 s.aon.pwrok ++ (0 : BitVec 4) ++
    s.aon.st.code

/-- BOOT_STATUS. -/
def bootStatus (s : State) : W64 :=
  let a := s.aon
  a.bSeq ++ a.bCode1 ++ a.bCode0 ++ a.bStep ++ flagBits 1 a.bUnlock ++ flagBits 1 a.bQuad ++ flagBits 1 a.bFallback ++
    flagBits 1 a.bLoaded ++ (0 : BitVec 2) ++ a.bSlot ++ (0 : BitVec 2) ++ a.bootSrc

/-- CLK_STATUS. -/
def clkStatus (s : State) : W64 :=
  let a := s.aon
  (0 : BitVec 16) ++ a.roMhz ++ (0 : BitVec 24) ++ flagBits 1 a.monFault ++ (0 : BitVec 5) ++ flagBits 1 a.pwrokChat ++
    flagBits 1 a.mrstChat

/-- The registers at an offset of the boot sub-window. -/
def bootInfo (off : Nat) : Option RegInfo :=
  match off with
  | 0x00 => some { owner := .both, other := 0xFFFFFFFF0000F10F }
  | 0x08 => some { owner := .both, other := 0xFFFFFFFFFFFFFF33 }
  | 0x10 => some { owner := .both, other := 0xFFFFFFFFFFFFFFFF }
  | 0x18 => some { owner := .both, other := 0xFFFFFFFFFFFFFFFF }
  | 0x20 => some { owner := .host, other := 0xFFFFFFFFFFFFFFFF }
  | 0x28 => some { owner := .both, other := 0x0000FFFF00000083 }
  | _ => cfgInfo off

/-- Reads a register of the boot sub-window. -/
def bootRead (off : Nat) (s : State) : W64 :=
  match off with
  | 0x00 => blkStatus s
  | 0x08 => bootStatus s
  | 0x10 => s.aon.boots ++ s.aon.bootLast
  | 0x18 => s.aon.imageId
  | 0x28 => clkStatus s
  | _ => cfgRead off s

/-- Writes a register of the boot sub-window. -/
def bootWrite (off : Nat) (v : W64) (s : State) : State :=
  match off with
  | 0x28 => s.onAon fun a => { a with pwrokChat := a.pwrokChat && !bitAt v 1, mrstChat := a.mrstChat && !bitAt v 0 }
  | _ => cfgWrite off v s

/-! ### The window (R341) -/

/-- The sub-window of an offset: 64 KiB each. -/
def subWindow (off : Nat) : Nat := off / 0x10000

/-- The offset in its sub-window. -/
def localOff (off : Nat) : Nat := off % 0x10000

/-- What the map gives an offset; none where no chapter assigns it (R17). -/
def regInfo (off : Nat) : Option RegInfo :=
  let o := localOff off
  if off % 8 != 0 then none
  else
    match subWindow off with
    | 0x0 =>
      if o = 0 || (0x100 ≤ o && o < 0x140) then some { owner := .both, other := 0xFFFFFFFFFFFFFFFF } else none
    | 0x1 => bootInfo o
    | 0x2 => trfInfo o
    | 0x3 => trussInfo o
    | 0x4 => portInfo o
    | 0x5 => sntInfo o
    | 0x6 => schInfo o
    | 0x7 => layInfo o
    | 0x8 => memInfo o
    | 0x9 => colInfo o
    | 0xA => govInfo o
    | 0xB => coreInfo o
    | 0xC => ventInfo o
    | 0xD => errInfo o
    | 0xE => dbgInfo o
    | _ => none

/-- The bits of a register's fields marked "image" (R16): those of the configuration set in both copies, and those of the
units' own registers. -/
def imageBits (off : Nat) : W64 :=
  let o := localOff off
  let set (p : Nat) : W64 := (regInfo p).elim 0 fun i => if i.sh then (if p = 0xA0120 then i.rw &&& ~~~0xFFFF else i.rw) else 0
  match subWindow off with
  | 0x9 => if o = 0x10 then 0x3FFF else 0
  | 0xA =>
    if [0x10, 0x20, 0x28, 0x30, 0x38].contains o || (0x300 ≤ o && o < 0x340) || (0x400 ≤ o && o < 0x4C0) then
      (regInfo off).elim 0 RegInfo.rw
    else if 0x8000 ≤ o then set (off - 0x8000)
    else set off
  | 0xB => if o = 0x20 then 0xFFFFFFFF else 0
  | _ => if 0x8000 ≤ o then set (off - 0x8000) else set off

/-- What the register at an offset holds; zero where none is assigned (R17). -/
def regHolds (off : Nat) (s : State) : W64 :=
  let o := localOff off
  if (regInfo off).isNone then 0
  else
    match subWindow off with
    | 0x0 => if o = 0 then identity else capDesc ((o - 0x100) / 8)
    | 0x1 => bootRead o s
    | 0x2 => trfRead o s
    | 0x3 => trussRead o s
    | 0x4 => portRead o s
    | 0x5 => sntRead o s
    | 0x6 => schRead o s
    | 0x7 => layRead o s
    | 0x8 => memRead o s
    | 0x9 => colRead o s
    | 0xA => govRead o s
    | 0xB => coreRead o s
    | 0xC => ventRead o s
    | 0xD => errRead o s
    | 0xE => dbgRead o s
    | _ => 0

/-- The boot sequencer has not loaded an image: fields marked "image" read zero (R16). -/
def imageDue (s : State) : Bool := s.aon.st == .boot && !s.aon.seqr.loaded

/-- What the register at an offset reads (R16, R17). -/
def regRead (off : Nat) (s : State) : W64 :=
  if imageDue s then regHolds off s &&& ~~~imageBits off else regHolds off s

/-- What a write that passed its checks does to the register at an offset. -/
def regEffect (src : Src) (off : Nat) (v : W64) (s : State) : State :=
  let o := localOff off
  match subWindow off with
  | 0x1 => bootWrite o v s
  | 0x2 => trfWrite o v s
  | 0x3 => trussWrite o v s
  | 0x4 => portWrite o v s
  | 0x5 => sntWrite o v s
  | 0x6 => schWrite o v s
  | 0x7 => layWrite o v s
  | 0x8 => memWrite o v s
  | 0x9 => colWrite o v s
  | 0xA => govWrite o v s
  | 0xB => coreWrite src o v s
  | 0xC => ventWrite src o v s
  | 0xD => errWrite o v s
  | 0xE => dbgWrite src o v s
  | _ => s

/-- The register at an offset turns away a write that has passed the checks: a shadow copy while a raise is pending
(R365), DBG_CMD where it is refused (R326, R338), BOOT_FIFO outside a host stream (R360). -/
def writeTurned (src : Src) (off : Nat) (i : RegInfo) (v : W64) (s : State) : Bool :=
  if off = 0xE0000 then dbgTurned src v s else off = 0x10020 || (i.sh && s.cfg.pending)

/-- How it is turned away. -/
def turnWrite (src : Src) (off : Nat) (v : W64) (s : State) : State :=
  if off = 0xE0000 then dbgTurn src v s else if off = 0x10020 then answer src .dropped 0 s else shadowLocked src s

/-- The unit of the register at an offset drops a write that has passed the checks: a command while it is BUSY, and the
values and moments at which a register's own rules drop one (R107, R245, R264, R316, R330, R340; assumption 149). -/
def unitDrops (off : Nat) (v : W64) (s : State) : Bool :=
  let o := localOff off
  match subWindow off with
  | 0x1 => o = 0x100 && s.cfg.busy
  | 0x2 => o = 0x110 && s.trf.mbusy
  | 0x3 => (o = 0x10 && s.truss.busy) || (0x4000 ≤ o && o < 0xC000 && bitAt s.truss.valid ((o - 0x4000) / 512))
  | 0x4 => o = 0x10 && s.ports.busy
  | 0x6 => (o = 0x18 && s.sched.cmdBusy) || (o = 0x200 && s.sched.pushBusy)
  | 0x7 => (o = 0x180 && s.layout.subBusy) || (o = 0x190 && s.layout.cmdBusy)
  | 0x8 => 0x1000 ≤ o && o < 0x1100 && !arbCfgOk v
  | 0x9 => (o = 0x180 && s.col.cmdBusy) || (o = 0x10 && hierHeld s)
  | 0xA => !isProfile o && govBad o v
  | 0xB =>
    (o = 0x10 && s.core.cmdBusy) || (o = 0x30 && s.core.move.isSome) ||
      (0x100 ≤ o && o < 0x180 && ((o % 0x20 = 0 && ringHeld s (ringAt o) v) || (o % 0x20 = 8 && bellHeld s (ringAt o) v)))
  | 0xC => o = 0x20 && bitAt v 17 && s.aon.outFull && !bitAt v 16
  | 0xE => o = 0 && s.dbg.req.isSome
  | _ => false

/-- A write of the window by an initiator: the checks of R326 to R328, those of the register itself, the effect; a write
of an unassigned offset is ignored (R17). -/
def regWrite (src : Src) (off : Nat) (v : W64) (s : State) : State :=
  match regInfo off with
  | some i =>
    if writeTurned src off i v s then writeUnless src off i.owner true (turnWrite src off v) (regEffect src off v) s
    else writeDropping src off i.owner (unitDrops off v s) (regEffect src off v) s
  | none => readReg src off (fun _ => 0) s

/-- A read of the window by an initiator. -/
def regAccess (src : Src) (off : Nat) (s : State) : State :=
  if stateVerdict src off s == .allow && subWindow off = 0xE && dbgReadRefused src (localOff off) s then
    answer src .refused 0 s
  else readReg src off (regRead off) s

/-- The register at an offset is a shadow copy. -/
def isShadow (off : Nat) : Bool := (regInfo off).any (·.sh)

/-- SHADOW_REGISTER_WRITE: a write of a register of the configuration set (R14, R365). -/
def execShadowRegisterWrite (src : Src) (off : BitVec 24) (v : BitVec 64) (s : State) :
    Host.Outcome State Fault Refusal :=
  done (onlyIf (isShadow off.toNat) (regWrite src off.toNat v) s)

end Sys2Proof.Machine
end

