-- ==== Sys2Proof/Machine/Boot.lean ====
section
/-!
DEFINITION. Boot.lean: the boot sequencer: discovery (R353), headers and slots (R359), the section table, loading and
undo (R356 to R358), the host stream (R360), and the end of BOOT (R351, R361).
-/
namespace Sys2Proof.Machine

/-- The boot sequencer is in a phase of a running BOOT. -/
def bootIn (s : State) (p : BootPhase) : Bool := s.aon.st == .boot && s.aon.rootclk && s.aon.seqr.phase == p

/-- BOOT_STATUS.STEP. -/
def bootStep (n : BitVec 4) (s : State) : State := s.onAon fun a => { a with bStep := n }

/-- The sequencer goes to a phase. -/
def bootGo (p : BootPhase) (s : State) : State := s.onSeqr fun q => { q with phase := p }

/-- The image source is the host stream (R350). -/
def fromHost (s : State) : Bool := s.aon.bootSrc == 3

/-- The number of the slot in UNIT and BOOT_STATUS: 2 for the host stream (R370). -/
def slotNo (s : State) : Nat := if fromHost s then 2 else ((s.aon.seqr.slots.head?).map Fin.val).getD 0

/-- The upper limit of LENGTH: one slot of the flash; a host stream has none of its own (R354). -/
def lengthLimit (s : State) : Nat := if fromHost s then 0x100000 else slotSize s.aon.seqr.density

/-! ### Failure (R357, R358, R361) -/

/-- A slot's failure is logged with its number and the image offset, and recorded in CODE0 or CODE1 (R357, R370). -/
def slotLog (slot : Nat) (code : BitVec 8) (at_ : Nat) (s : State) : State :=
  (report { code := code, unit := BitVec.ofNat 12 slot, loc := BitVec.ofNat 64 (at_ % 2 ^ 32) } s).onAon fun a =>
    if slot = 1 then { a with bCode1 := code } else { a with bCode0 := code }

/-- No slot remains: STEP reads FAILED, and FAULT follows once the purge has completed (R351, R361). -/
def bootFail (s : State) : State :=
  let s := bootStep 6 (s.onSeqr fun q => { q with phase := .failed, failed := true, slots := [] })
  if s.trf.purging || s.aon.st != .boot then s else bootFault s

/-- Tries the slots in order: a header that fails is logged with code 0x92 and the next is tried, FALLBACK set; the
first that passes has its section table read (R351, R357, R359). -/
def trySlots : List (Fin 2) → State → State
  | [], s => bootFail s
  | t :: ts, s =>
    let h : ImgHdr := if t = 0 then s.aon.seqr.hdr0 else s.aon.seqr.hdr1
    match h.fault (lengthLimit s) with
    | none => s.onSeqr fun q =>
        { q with phase := .table, slots := t :: ts, hdr := h, table := [], sect := 0, ofs := 0, part := []
                 crc := 0xFFFFFFFF, begun := false }
    | some a =>
      let s := slotLog t.val 0x92 a s
      trySlots ts (if ts.isEmpty then s else s.onAon fun a => { a with bFallback := true })

/-- The slot in progress has ended: the next is tried, FALLBACK set (R359). -/
def nextSlot (s : State) : State :=
  let ts := s.aon.seqr.slots.tail
  trySlots ts (if ts.isEmpty then s else s.onAon fun a => { a with bFallback := true })

/-- A check of the slot fails: logged; the load is undone if a section has begun to load, else the next slot is tried
(R357, R358). -/
def slotFail (code : BitVec 8) (at_ : Nat) (s : State) : State :=
  let s := slotLog (slotNo s) code at_ s
  if s.aon.seqr.begun then bootStep 4 (bootGo .undo s) else nextSlot s

/-- SLOT_UNDO_COMPLETE (R358). -/
def execSlotUndoComplete (s : State) : Host.Outcome State Fault Refusal :=
  done (onlyIf (bootIn s .undo) (fun s => nextSlot (undoLoad s)) s)

/-! ### Discovery and headers (R353, R359) -/

/-- The flash answers discovery: signature, major revision, basic table, 3-byte addresses, 2 MiB at least (R353). -/
def sfdpOk (r : SfdpResult) : Bool :=
  r.sig == 0x50444653 && r.major == 1 && r.bfpt && field r.w1 17 2 != 2 && 0x200000 ≤ densityOf r.w2

/-- 1-1-4 fast read can be used (R353). -/
def sfdpQuad (r : SfdpResult) : Bool := bitAt r.w1 22 && 15 ≤ r.words && (r.qe || r.qer == 0)

/-- The command that reads the SFDP header and the tables: 1-1-1 with a 3-byte address and 8 dummy clocks (R353). -/
def sfdpCmd : BitVec 8 := 0x5A

/-- The command that reads the status register holding the QE bit: 0x05, status register 1, for the requirement whose code
is 2, and 0x35, status register 2, for the others (R353; PRESUMED of JESD216, assumption 144). -/
def qeCmd (qer : BitVec 3) : BitVec 8 := if qer == 2 then 0x05 else 0x35

/-- The read that discovery chose: 1-1-4 with the instruction, mode clocks and wait states of word 3, or the single fast
read 0x0B with 8 dummy clocks (R353). -/
def chooseRead (r : SfdpResult) (q : BootSeq) : BootSeq :=
  if sfdpQuad r then
    { q with rdCmd := field r.w3 24 8, rdMode := field r.w3 21 3, rdWait := field r.w3 16 5 }
  else { q with rdCmd := 0x0B, rdMode := 0, rdWait := 8 }

/-- The flash address of the byte at an offset of a slot: slot 0 begins at 0, slot 1 at half of min(density, 16 MiB)
(R353). -/
def flashAddr (s : State) (slot : Fin 2) (ofs : Nat) : Nat :=
  (if slot = 0 then 0 else slotSize s.aon.seqr.density) + ofs

/-- Discovery ends: headers are read next; a failed attempt is retried, and the third is code 0x91, fatal (R353). -/
def discover (r : SfdpResult) (s : State) : State :=
  if sfdpOk r then
    bootStep 2 ((bootGo .headers (s.onSeqr fun q => chooseRead r { q with density := densityOf r.w2 })).onAon fun a =>
      { a with bQuad := sfdpQuad r })
  else if s.aon.seqr.attempts < 2 then
    s.onSeqr fun q => { q with attempts := q.attempts + 1, phase := .retry }
  else
    fatal { code := 0x91 } (bootStep 6 (s.onSeqr fun q => { q with attempts := 3, phase := .failed, failed := true }))

/-- FLASH_DISCOVERY (R353). -/
def execFlashDiscovery (r : SfdpResult) (s : State) : Host.Outcome State Fault Refusal :=
  done (onlyIf (bootIn s .discovery) (discover r) s)

/-- DISCOVERY_RETRY: 1 ms has passed (R353). -/
def execDiscoveryRetry (s : State) : Host.Outcome State Fault Refusal :=
  done (onlyIf (bootIn s .retry) (bootGo .discovery) s)

/-- The slots BOOT_SRC allows (R350). -/
def slotsAllowed (s : State) : List (Fin 2) := if s.aon.bootSrc == 2 then [0] else [0, 1]

/-- The slots to try in order: those whose headers pass MAGIC, FORMAT and LENGTH, the newer first (R359). -/
def slotOrder (limit : Nat) (allowed : List (Fin 2)) (h0 h1 : ImgHdr) : List (Fin 2) :=
  let l := allowed.filter fun t => (ImgHdr.quickFault limit (if t = 0 then h0 else h1)).isNone
  if l = [0, 1] && seqNewer (ImgHdr.seq h1) (ImgHdr.seq h0) then [1, 0] else l

/-- The headers are read: a slot that is not read further is logged with code 0x92, the others are tried (R351,
R359). -/
def readHeaders (h0 h1 : ImgHdr) (s : State) : State :=
  let s := s.onSeqr fun q => { q with hdr0 := h0, hdr1 := h1 }
  let s := foldOver (slotsAllowed s) (fun t s =>
    match ImgHdr.quickFault (lengthLimit s) (if t = 0 then h0 else h1) with
    | some a => slotLog t.val 0x92 a s
    | none => s) s
  trySlots (slotOrder (lengthLimit s) (slotsAllowed s) h0 h1) s

/-- SLOT_HEADERS_READ (R351, R359). -/
def execSlotHeadersRead (h0 h1 : BitVec 512) (s : State) : Host.Outcome State Fault Refusal :=
  done (onlyIf (bootIn s .headers && !fromHost s) (readHeaders h0 h1) s)

/-! ### The section table (R355, R357) -/

/-- The next section that loads, from number i on; the table's length when none does. -/
def nextSect (t : List ImgSect) (i : Nat) : Nat :=
  match (List.range t.length).find? fun k => i ≤ k && ((t[k]?).map ImgSect.loads).getD false with
  | some k => k
  | none => t.length

/-- The section table is read: HCRC (0x93), then R355 and RESET_PC (0x94); loading follows (R357). -/
def takeTable (bytes : List Byte) (s : State) : State :=
  let h : ImgHdr := s.aon.seqr.hdr
  let t := entriesOf bytes h.nsect
  if !hcrcOk h bytes then slotFail 0x93 0x3C s
  else
    match tableFault h t with
    | some a => slotFail 0x94 a s
    | none => bootStep 3 (s.onSeqr fun q => { q with phase := .load, table := t, sect := nextSect t 0, ofs := 0, part := [] })

/-- SECTION_TABLE_READ (R357). -/
def execSectionTableRead (bytes : List (BitVec 8)) (s : State) : Host.Outcome State Fault Refusal :=
  done (onlyIf (bootIn s .table && !fromHost s && bytes.length = 16 * ImgHdr.nsect s.aon.seqr.hdr) (takeTable bytes) s)

/-! ### Loading (R356, R357) -/

/-- A register write of the sequencer: through the register path, with no owner-class check; GOV_PROFILE, which only the
image loads, is written here (R300, R356). -/
def bootEffect (off : Nat) (v : W64) (s : State) : State :=
  if subWindow off = 0xA && isProfile (localOff off) then
    govSet (localOff off) (v &&& ((govInfo (localOff off)).map RegInfo.rw).getD 0) s
  else regEffect .firmware off v s

/-- A write to a shadow register sets the active copy too (R356). -/
def bootActive (off : Nat) (v : W64) (s : State) : State :=
  let t := regEffect .firmware off v { s with cfg := { s.cfg with shadow := s.cfg.active } }
  s.onCfg fun c => { c with active := t.cfg.shadow }

/-- A REGS entry is applied, or refused: an offset with bits above 23 or unassigned, a register without RW, SH or
image fields, a reserved bit, or the register's own write check, which logs its code as for any write (R356). -/
def bootReg (w v : W64) (s : State) : Bool × State :=
  if w >>> 24 != 0 then (false, s)
  else
    let off := w.toNat
    match regInfo off with
    | none => (false, s)
    | some i =>
      if i.rw == 0 || v &&& ~~~(i.rw ||| i.other) != 0 then (false, s)
      else
        let t := bootEffect off v s
        if t.log.raised.length != s.log.raised.length then (false, s.onLog fun l => { l with raised := t.log.raised })
        else (true, if i.sh then bootActive off v t else t)

/-- The load has succeeded: BOOT_STATUS and BOOT_IMAGE_ID report the image (R361). -/
def bootLoaded (s : State) : State :=
  let h : ImgHdr := s.aon.seqr.hdr
  let n := slotNo s
  (s.onSeqr fun q => { q with phase := .done, loaded := true }).onAon fun a =>
    { a with bSeq := h.seq, bUnlock := h.unlock, bLoaded := true, bSlot := BitVec.ofNat 2 n, imageId := h.imageId
             bStep := 5 }

/-- One byte of the current section arrives (R357). -/
def takeByte (b : Byte) (s : State) : State :=
  let q := s.aon.seqr
  if q.phase != .load then s
  else
    match q.table[q.sect]? with
    | none => s
    | some x =>
      let x : ImgSect := x
      let s := s.onSeqr fun q => { q with crc := crc32Byte q.crc b, ofs := q.ofs + 1, begun := true }
      let full := q.part ++ [b]
      let r : Bool × State :=
        if x.kind = 1 then (true, tcmWrite (x.dest + q.ofs) 1 b.toNat s)
        else if full.length < 16 then (true, s.onSeqr fun q => { q with part := full })
        else
          bootReg (BitVec.ofNat 64 (leNat (full.take 8))) (BitVec.ofNat 64 (leNat (full.drop 8)))
            (s.onSeqr fun q => { q with part := [] })
      match r with
      | (false, s) => slotFail 0x95 (x.offset + q.ofs / 16 * 16) s
      | (true, s) =>
        if q.ofs + 1 < x.length then s
        else
          let k := nextSect q.table (q.sect + 1)
          let s := s.onSeqr fun q => { q with sect := k, ofs := 0, part := [] }
          if k < q.table.length then s
          else if ~~~s.aon.seqr.crc == ImgHdr.icrc q.hdr then bootLoaded s
          else slotFail 0x96 0x20 s

/-- SECTION_DATA_RECEIVED: the next bytes of the sections, in table order (R351, R357). -/
def execSectionDataReceived (bytes : List (BitVec 8)) (s : State) : Host.Outcome State Fault Refusal :=
  done (onlyIf (bootIn s .load && !fromHost s) (foldOver bytes takeByte) s)

/-! ### The host stream (R360) -/

/-- Bytes off to off + n - 1 of the stream so far. -/
def streamBytes (s : State) (off n : Nat) : List Byte := (s.aon.seqr.stream.drop off).take n

/-- The payloads of the sections that load, in table order (R354). -/
def streamPayload (s : State) : List Byte :=
  (s.aon.seqr.table.filter ImgSect.loads).flatMap fun x => streamBytes s (ImgSect.offset x) (ImgSect.length x)

/-- Where the last section ends. -/
def streamEnd (t : List ImgSect) : Nat := t.foldl (fun n x => max n (x.offset + x.length)) 0

/-- The 64 header bytes have arrived: their checks (R357). -/
def streamHeader (s : State) : State :=
  let h : ImgHdr := BitVec.ofNat 512 (leNat (streamBytes s 0 64))
  let s := s.onSeqr fun q => { q with hdr := h }
  match h.fault (lengthLimit s) with
  | some a => slotFail 0x92 a s
  | none => bootGo .table s

/-- Eight bytes at image offset o are loaded if a section holds them (R356, R357). -/
def streamLoad (o : Nat) (v : W64) (s : State) : State :=
  match s.aon.seqr.table.find? fun x => ImgSect.loads x && ImgSect.offset x ≤ o && o < ImgSect.offset x + ImgSect.length x with
  | none => s
  | some x =>
    let x : ImgSect := x
    let s := s.onSeqr fun q => { q with begun := true }
    if x.kind = 1 then tcmWrite (x.dest + o - x.offset) 8 v.toNat s
    else if (o - x.offset) % 16 = 0 then s.onSeqr fun q => { q with part := leBytes 8 v.toNat }
    else
      match bootReg (BitVec.ofNat 64 (leNat s.aon.seqr.part)) v s with
      | (true, t) => t
      | (false, t) => slotFail 0x95 (o - 8) t

/-- ICRC is checked when the last section's last byte is consumed; the stream is complete with its LENGTH bytes
(R360). -/
def streamDone (s : State) : State :=
  let q := s.aon.seqr
  let n := q.stream.length
  if q.phase != .load then s
  else if n = streamEnd q.table && crc32c (streamPayload s) != ImgHdr.icrc q.hdr then slotFail 0x96 0x20 s
  else if ImgHdr.length q.hdr ≤ n then bootLoaded s
  else s

/-- The stream still takes writes: in BOOT from the host, no check failed, fewer than LENGTH bytes (R360). -/
def streamOpen (s : State) : Bool :=
  s.aon.st == .boot && fromHost s &&
    (match s.aon.seqr.phase with
      | .headers => true
      | .table | .load => s.aon.seqr.stream.length < ImgHdr.length s.aon.seqr.hdr
      | _ => false)

/-- Eight bytes of the stream are consumed (R360). -/
def streamWord (v : W64) (s : State) : State :=
  let o := s.aon.seqr.stream.length
  let s := s.onSeqr fun q => { q with stream := q.stream ++ leBytes 8 v.toNat }
  match s.aon.seqr.phase with
  | .headers => if o + 8 = 64 then streamHeader s else s
  | .table =>
    let n := 16 * ImgHdr.nsect s.aon.seqr.hdr
    if o + 8 = 64 + n then takeTable (streamBytes s 64 n) s else s
  | _ => streamDone (streamLoad o v s)

/-- A write of BOOT_FIFO: consumed, or dropped and answered DROPPED (R360). -/
def fifoWrite (src : Src) (v : W64) (s : State) : State :=
  writeUnless src 0x10020 .host (!streamOpen s) (answer src .dropped 0) (streamWord v) s

/-- BOOT_FIFO_WRITE (R360). -/
def execBootFifoWrite (src : Src) (v : BitVec 64) (s : State) : Host.Outcome State Fault Refusal :=
  done (fifoWrite src v s)

/-- The stream is ended: code 0x97, fatal; what it loaded is undone (R360, R361). -/
def streamTimeout (s : State) : State :=
  let n := s.aon.seqr.stream.length
  let s := if s.aon.seqr.begun then undoLoad s else s
  let s := bootStep 6 (s.onSeqr fun q => { q with phase := .failed, failed := true })
  fatal { code := 0x97, unit := 2, loc := BitVec.ofNat 64 n } (s.onAon fun a => { a with bCode0 := 0x97 })

/-- BOOT_STREAM_TIMEOUT: no write for 10 ms (R360). -/
def execBootStreamTimeout (s : State) : Host.Outcome State Fault Refusal :=
  done (onlyIf (aonOn s && s.aon.st == .boot && fromHost s && [BootPhase.headers, .table, .load].contains s.aon.seqr.phase)
    streamTimeout s)

/-! ### The end of BOOT (R351) -/

/-- The control core is released at RESET_PC (R323, R351). -/
def releaseCore (s : State) : State :=
  s.onCore fun c => { c with run := .running, pc := BitVec.ofNat 64 (ImgHdr.resetPc s.aon.seqr.hdr) }

/-- READY, or EMBER with a quench latched; the governor's ceilings follow the quench and the droop at once, scrub begins
its first pass, the ports leave RESET and the ring is joined (R23, R94, R141, R262, R290, R351). -/
def leaveBoot (s : State) : State :=
  let s := noteBootTime s
  let s := logChatter (if s.aon.qState == .latched then enterEmber s else setState .ready s)
  colAfterBoot (portsAfterBoot (scrubRestart (lowerCeilings (releaseCore s))))

/-- BOOT_COMPLETE: the load and the purge are done (R351). -/
def execBootComplete (s : State) : Host.Outcome State Fault Refusal :=
  doneGov (onlyIf (s.aon.st == .boot && s.aon.rootclk && !s.trf.purging && (s.aon.seqr.loaded || s.aon.seqr.failed))
    (fun s => if s.aon.seqr.loaded then leaveBoot s else bootFault s) s)

/-! ### The flash pins (R352, R399) -/

/-- SPI_OE, and each of SPI_IO_OE[3:0]: high in BOOT alone, any level without VAON (R352, R395, R399). -/
def spiOe (s : State) : BitVec 5 :=
  aonLevel .spi s (if s.aon.st == .boot then 0x1F else 0)

/-- SPI_SCK and SPI_CS_N between two commands of the sequencer: the clock idles low, the select is high (R352). -/
def spiIdle : Bool × Bool := (false, true)

/-! ### Writes of any register -/

/-- A write of the window; BOOT_FIFO takes the host stream (R341, R360). -/
def windowWrite (src : Src) (off : Nat) (v : W64) (s : State) : State :=
  if off = 0x10020 then fifoWrite src v s else regWrite src off v s

/-- REGISTER_WRITE: a write of any register (R13, R15, R326); with HP_REQ_WRITE low the host port's request is a read,
which has no row of its own (R325, R326; assumption 119). -/
def execRegisterWrite (src : Src) (off : BitVec 24) (v : Option (BitVec 64)) (s : State) :
    Host.Outcome State Fault Refusal :=
  doneGov (match v with
    | some v => windowWrite src off.toNat v s
    | none => regAccess src off.toNat s)

end Sys2Proof.Machine
end

