-- ==== Sys2Proof/Machine/Reset.lean ====
section
/-!
DEFINITION. Reset.lean: power, clock and reset events: VAON (R23, R395), ARST_N, MRST_N and PWROK_MAIN (R345 to R348),
the clock monitor (R344), CLK_SE (R401), and entering BOOT (R23, R351).
-/
namespace Sys2Proof.Machine

/-! ### What a reset clears and keeps (R346) -/

/-- The main domain is reset: its registers, queues, mortise table, error log, TCM and BCLK stamp; what the TRF stores is
not readable until BOOT purges it, and the test controller is not part of it (R346, R405). PERF_REQ reads 0x0 (R292),
GOV_STATUS its reset values, the host port's answer is gone, and the main-domain outputs go to their held levels (R403);
while a rail is out of its range beside PWROK_MAIN high, the ring outputs still take any level (R348). -/
def mainReset (s : State) : State :=
  let t := s.trf
  { s with
    log := {}, cfg := {}
    trf := { ({} : Trf) with beams := t.beams, errs := t.errs, lost := t.lost }
    truss := {}, ports := (portsReset s).ports, sinter := {}, sched := {}, layout := {}, mem := {}, arb := {}
    col := {}, gov := {}, core := {}
    dbg := tapKept s
    aon := { s.aon with
             killed := false, fatalDue := false, pendFatal := false, perfReq := 0, perfAck := false, seqr := {}
             hpRsp := 0, drive := match s.aon.drive with
               | .free k => .free k
               | _ => .held }
    time := { s.time with bclk := 0 } }

/-- A main reset is asserted: a ramp-down in progress is latched, the bypass closes, the block is in RESET (R23, R259,
R308, R346). -/
def toReset (s : State) : State := mainReset (closeBypass (setState .reset (latchAtReset s)))

/-- The main reset ends: the log is cleared (R369), the quench latch too if filtered QUENCH_N has been high for
1,125,000 ACLK (R310). -/
def endReset (s : State) : State :=
  let s := s.onLog fun _ => {}
  if s.aon.qState == .latched && s.aon.quenchN && 1125000 ≤ s.aon.qQuiet.toNat then
    s.onAon fun a => { a with qState := .clear, qLogDue := false }
  else s

/-- ARST_N is asserted: both domains are reset; the straps are kept until they are resampled, and the levels of the
static inputs stay (R346, R349). -/
def aonReset (s : State) : State :=
  let a := s.aon
  { mainReset s with
    trf := {}
    aon := { ({} : Aon) with
             vaon := a.vaon, rootclk := a.rootclk, clkSe := a.clkSe, mrstN := a.mrstN, pwrok := a.pwrok, dft := a.dft
             fabricId := a.fabricId, bootSrc := a.bootSrc, ridgeEn := a.ridgeEn, sensed := a.sensed
             drive := match a.drive with
               | .free k => .free k
               | _ => .held }
    time := { s.time with bclk := 0, root := 0 } }

/-! ### VAON (R23, R395) -/

/-- VAON_APPLIED: from OFF to RESET, ARST_N low (R23, R347; the levels of the inputs: assumption 6). -/
def execVaonApplied (s : State) : Host.Outcome State Fault Refusal :=
  done (onlyIf (!s.aon.vaon)
    (fun s => { ({} : State) with aon := { ({} : Aon) with clkSe := s.aon.clkSe }
                                  time := { ({} : Time) with free := s.time.free }, pending := s.pending }) s)

/-- VFAB or VSRM is still there when VAON falls: surely with PWROK_MAIN high; with it low the block cannot know, and a
free value says so (R348, R395; assumption 8). -/
def railsStay (s : State) : Bool := s.aon.pwrok || bitAt (Config.freeBits (s.time.free + 3) 1) 0

/-- Everything is lost. PERF_REQ and SMBALERT_N can take any level, as free values. With a rail still there every output
can, through `drive`; else the outputs of the main domain are low, IRQ[3:0] among them (R334, R395; assumption 8). -/
def powerOff (s : State) : State :=
  let k := s.time.free
  { ({} : State) with
    aon := { ({} : Aon) with
             vaon := false, st := .off, clkSe := s.aon.clkSe, drive := if railsStay s then .free k else .held
             perfReq := Config.freeBits (k + 1) 4, smbalert := bitAt (Config.freeBits (k + 2) 1) 0 }
    time := { ({} : Time) with free := k + 4 }, pending := s.pending }

/-- VAON_REMOVED: OFF (R23, R395). -/
def execVaonRemoved (s : State) : Host.Outcome State Fault Refusal := done (onlyIf s.aon.vaon powerOff s)

/-- RAIL_FALL_BEFORE_PWROK: a rail leaves its range while PWROK_MAIN is high; the main-domain outputs can take any level,
but for those that the isolation cells hold in RESET, and the TRF holds nothing defined (R348, R403; assumption 8). -/
def execRailFallBeforePwrok (s : State) : Host.Outcome State Fault Refusal :=
  done (onlyIf (s.aon.vaon && s.aon.pwrok)
    (fun s => { s with aon := { s.aon with drive := .free s.time.free }, trf := { s.trf with lost := true }
                       time := { s.time with free := s.time.free + 1 } }) s)

/-! ### ARST_N (R345, R346, R349) -/

/-- The reset inputs reach the block: VAON is present, and ROOTCLK clocks their synchronisers and filters, which freeze
when it stops (R343, R345). -/
def inputsOn (s : State) : Bool := s.aon.vaon && s.aon.rootclk

/-- ARST_N_ASSERT: a chattering ARST_N resets on each assertion and leaves no record (R345). -/
def execArstAssert (_chatter : Bool) (s : State) : Host.Outcome State Fault Refusal :=
  done (onlyIf (inputsOn s) aonReset s)

/-- ARST_N_DEASSERT: ARST_N has passed its filter; the straps are sampled (R345, R349). -/
def execArstDeassert (fabricId : BitVec 12) (bootSrc : BitVec 2) (ridgeEn : Bool) (s : State) :
    Host.Outcome State Fault Refusal :=
  done (onlyIf (s.aon.vaon && s.aon.rootclk && !s.aon.arstN)
    (fun s => s.onAon fun a => { a with arstN := true, fabricId := fabricId, bootSrc := bootSrc, ridgeEn := ridgeEn }) s)

/-! ### MRST_N and PWROK_MAIN (R345, R346, R348) -/

/-- MRST_N falls: RESET; a chattering input is recorded (R345, R346). -/
def mrstFall (chatter : Bool) (s : State) : State :=
  let s := s.onAon fun a => { a with mrstN := false }
  if aonOn s then
    (toReset s).onAon fun a => { a with mrstChat := a.mrstChat || chatter, chatLog := a.chatLog || chatter }
  else s

/-- MRST_N_ASSERT (R346). -/
def execMrstAssert (chatter : Bool) (s : State) : Host.Outcome State Fault Refusal :=
  done (onlyIf (inputsOn s) (mrstFall chatter) s)

/-- MRST_N_DEASSERT: MRST_N has passed its filter (R310, R345, R347). -/
def execMrstDeassert (s : State) : Host.Outcome State Fault Refusal :=
  done (onlyIf (s.aon.vaon && s.aon.rootclk && !s.aon.mrstN)
    (fun s => (if s.aon.arstN && !s.aon.dft then endReset s else s).onAon fun a => { a with mrstN := true }) s)

/-- PWROK_MAIN falls: RESET (R346, R348). -/
def pwrokLow (chatter : Bool) (s : State) : State :=
  let s := (s.onAon fun a => { a with pwrok := false, drive := if aonOn s then a.drive else .held }).onTrf fun t =>
    { t with lost := true }
  if aonOn s then
    (toReset s).onAon fun a =>
      { a with drive := .held, pwrokChat := a.pwrokChat || chatter, chatLog := a.chatLog || chatter }
  else s

/-- PWROK_MAIN_FALL (R348). -/
def execPwrokFall (chatter : Bool) (s : State) : Host.Outcome State Fault Refusal :=
  done (onlyIf (inputsOn s) (pwrokLow chatter) s)

/-- PWROK_MAIN_RISE: PWROK_MAIN has passed its filter (R345). -/
def execPwrokRise (s : State) : Host.Outcome State Fault Refusal :=
  done (onlyIf (s.aon.vaon && s.aon.rootclk) (fun s => s.onAon fun a => { a with pwrok := true }) s)

/-! ### Clocks (R343, R344, R401) -/

/-- CLK_SE_CHANGE: the receiver switches at once; what the clock monitor then sees leaves no record while the block is in
RESET (R401). -/
def execClkSeChange (level : Bool) (s : State) : Host.Outcome State Fault Refusal :=
  done (onlyIf s.aon.vaon
    (fun s => s.onAon fun a => { a with clkSe := level, seQuiet := a.seQuiet || (a.st == .reset && level != a.clkSe) }) s)

/-- ROOTCLK_STOP: the always-on domain stops with it; no register records it (R343). -/
def execRootclkStop (s : State) : Host.Outcome State Fault Refusal :=
  done (s.onAon fun a => { a with rootclk := false })

/-- A measurement lies outside the monitor's band (R344). -/
def outOfBand (mhz : BitVec 16) : Bool := mhz.toNat < 1620 || 7560 < mhz.toNat

/-- A measurement: published with a resolution of 8 MHz; at four or more in a row outside the band MON_FAULT is set and
code 0x98, fatal, raised where the log is powered (R344); in RESET after a change of CLK_SE nothing is recorded (R401). -/
def measureClock (mhz : BitVec 16) (s : State) : State :=
  let n := if outOfBand mhz then min 4 (s.aon.badMeas + 1) else 0
  let trips := n = 4 && !(s.aon.st == .reset && s.aon.seQuiet)
  let s := s.onAon fun a =>
    { a with roMhz := mhz &&& 0xFFF8, badMeas := n, monFault := a.monFault || trips }
  let s := if trips && s.aon.st == .boot && !s.trf.purging then undoLoad s else s
  if trips && mainOn s then fatal { code := 0x98 } s else s

/-- CLOCK_MONITOR_MEASURE (R344). -/
def execClockMonitorMeasure (mhz : BitVec 16) (s : State) : Host.Outcome State Fault Refusal :=
  done (onlyIf (aonOn s) (measureClock mhz) s)

/-! ### Entering BOOT (R23, R351, R361) -/

/-- ARST_N, MRST_N and PWROK_MAIN are high, outside DFT mode (R23, R347, R407). -/
def bootDue (s : State) : Bool := aonOn s && s.aon.st == .reset && s.aon.mrstN && s.aon.pwrok && !s.aon.dft

/-- BOOT begins: BOOT_STATUS and BOOT_IMAGE_ID return to their reset values, the BCLK stamp starts at zero, the purge, the
clear of the TCM and the sequencer start (R344, R351, R361, R403). -/
def enterBoot (s : State) : State :=
  let s := setState .boot s
  let host := fromHost s
  let s := s.onAon fun a =>
    { a with
      drive := match a.drive with
        | .free k => .free k
        | _ => .normal
      seQuiet := false, bSeq := 0, bCode1 := 0, bCode0 := 0, bStep := if host then 2 else 1, bUnlock := false
      bQuad := false, bFallback := false, bLoaded := false, bSlot := 3, imageId := 0, boots := satAdd a.boots 1
      seqr := { phase := if host then .headers else .discovery } }
  purgeStart { s with time := { s.time with bclk := 0, bootBclk := 0 }, core := { s.core with tcm := [] } }

/-- An ACLK edge: every sixteenth BCLK of the always-on branch (R21). -/
def aclkEdge (s : State) : Bool := s.time.root % 16 = 0

/-- BOOT_ENTRY, at an ACLK edge: there the main-domain clocks start (R21, R344, R351). -/
def execBootEntry (s : State) : Host.Outcome State Fault Refusal := done (onlyIf (bootDue s && aclkEdge s) enterBoot s)

end Sys2Proof.Machine
end

