-- ==== Sys2Proof/Machine/Dft.lean ====
section
/-!
DEFINITION. Dft.lean: DFT mode and the test controller (R405 to R407). What a test measures on the stack is an operand;
the order in which fields are shifted out is the model's (assumption 37).
-/
namespace Sys2Proof.Machine

/-! ### DFT mode (R407) -/

/-- DFT_MODE rises: the block treats MRST_N as asserted (R407). -/
def dftRise (s : State) : State :=
  let s := s.onAon fun a => { a with dft := true }
  if aonOn s then toReset s else s

/-- DFT_MODE_ASSERT (R407). -/
def execDftModeAssert (s : State) : Host.Outcome State Fault Refusal := done (onlyIf s.aon.vaon dftRise s)

/-- DFT_MODE_DEASSERT: the block leaves RESET as after any main reset (R407). -/
def execDftModeDeassert (s : State) : Host.Outcome State Fault Refusal :=
  done (onlyIf (s.aon.vaon && s.aon.dft)
    (fun s => (if aonOn s && s.aon.mrstN then endReset s else s).onAon fun a => { a with dft := false }) s)

/-! ### The test controller (R405, R406) -/

/-- The test controller takes instructions: TRST_N is high (R405). -/
def tapOn (s : State) : Bool := s.aon.vaon && s.aon.rootclk && s.dbg.trstN

/-- An instruction is loaded, and shifts bytes out on TDO; the bypass register is loaded with 0 (R405, R406). -/
def tapShift (code : BitVec 4) (out : List Byte) (s : State) : State :=
  s.onDbg fun d => { d with ir := code, shifted := out, bypass := false, tdo := [] }

/-- Bits shifted through the one-bit bypass register: each comes out on TDO one bit later (R406). -/
def bypassShift (tdi : List Bool) (s : State) : State :=
  s.onDbg fun d => { d with tdo := (d.bypass :: tdi).take tdi.length, bypass := (tdi.getLast?).getD d.bypass }

/-- The bits of a word as the tester shifts them in, the lowest first (assumption 37). -/
def bitsOf {w : Nat} (x : BitVec w) : List Bool := (List.range w).map (bitAt x)

/-- An instruction that acts as BYPASS: the bits that the tester shifts in pass the one-bit register, and nothing of the
block is shifted out (R406). -/
def tapIdle (code : BitVec 4) (tdi : List Bool) (s : State) : State := bypassShift tdi (tapShift code [] s)

/-- An instruction admitted in DFT mode only; elsewhere what the tester shifts in for it passes as in BYPASS (R406). -/
def inDft (code : BitVec 4) (tdi : List Bool) (act : State → State) (s : State) : Host.Outcome State Fault Refusal :=
  done (onlyIf (tapOn s) (fun s => if s.aon.dft then act s else tapIdle code tdi s) s)

/-- BOND_TEST: the opens and shorts it senses on one interface are shifted out (R406). -/
def execBondTest (iface : BitVec 8) (sense : List (BitVec 8)) (s : State) : Host.Outcome State Fault Refusal :=
  inDft 1 (bitsOf iface) (tapShift 1 (iface :: sense)) s

/-- The memory tier, counted from 0, on which a mat lies; none for a number that no mat has (R63). -/
def tierOf (mat : BitVec 8) : Option Nat :=
  if mat.toNat ≤ 46 then some 0 else if mat.toNat ≤ 93 then some 1 else if mat.toNat ≤ 139 then some 2 else none

/-- A failure lies in the tiers and banks selected (R406). -/
def selCovers (sel : TestSel) (bank : BitVec 9) (mat : BitVec 8) : Bool :=
  bitAt sel.banks bank.toNat && (tierOf mat).any (bitAt sel.tiers)

/-- MBIST_RUN: the march test's failures in the tiers and banks selected are kept; it leaves nothing defined in the TRF
(R406, R407). -/
def execMbistRun (sel : TestSel) (fails : List (BitVec 9 × BitVec 8 × BitVec 11 × BitVec 16)) (s : State) :
    Host.Outcome State Fault Refusal :=
  inDft 2 (bitsOf (sel.banks ++ sel.tiers))
    (fun s => ((tapShift 2 [] s).onDbg fun d => { d with mbist := fails.filter fun f => selCovers sel f.1 f.2.1 }).onTrf
      fun t => { t with lost := true }) s

/-- One failure as it is shifted out: bank, mat, line, symbol (R406). -/
def failBytes (f : BitVec 9 × BitVec 8 × BitVec 11 × BitVec 16) : List Byte :=
  leBytes 2 f.1.toNat ++ leBytes 1 f.2.1.toNat ++ leBytes 2 f.2.2.1.toNat ++ leBytes 2 f.2.2.2.toNat

/-- MBIST_RESULT: the failure list is shifted out (R406). -/
def execMbistResult (s : State) : Host.Outcome State Fault Refusal :=
  inDft 3 [] (fun s => tapShift 3 (s.dbg.mbist.flatMap failBytes) s) s

/-- MTA_READ is admitted: DFT mode, or FAULT with DEBUG_UNLOCK (R406, R407). -/
def mtaAdmitted (s : State) : Bool := s.aon.dft || (s.aon.st == .fault && s.aon.bUnlock)

/-- The 560 stored bytes of a beam, uncorrected; free where nothing is defined (R384, R406; assumption 10). -/
def mtaBytes (b : BitVec 20) (s : State) : List Byte × State :=
  if s.trf.lost then
    let r := takeFree 4480 s
    (leBytes 560 r.1.toNat, r.2)
  else (leBytes 560 (storedLine (storedBeam s b) (lineErr s b)).toNat, s)

/-- An MTA_READ that is not admitted is counted, while the main domain holds the count (R406). -/
def noteRefused (code : BitVec 4) (s : State) : State :=
  s.onDbg fun d => { d with mtaRefused := if code == 4 && mainOn s then satAdd d.mtaRefused 1 else d.mtaRefused }

/-- MTA_READ: served and counted, or refused and counted; the counts lie in the main domain (R406, R407). -/
def mtaOp (b : BitVec 20) (s : State) : State :=
  if mtaAdmitted s then
    let r := mtaBytes b s
    (tapShift 4 r.1 r.2).onDbg fun d => { d with mtaReads := if mainOn s then satAdd d.mtaReads 1 else d.mtaReads }
  else noteRefused 4 (tapIdle 4 (bitsOf b) s)

/-- MTA_READ (R406, R407). -/
def execMtaRead (beam : BitVec 20) (s : State) : Host.Outcome State Fault Refusal :=
  done (onlyIf (tapOn s) (mtaOp beam) s)

/-- What sensor or monitor i reads, beside the level that stands for one that no command has told (assumption 150). -/
def sensedByte (s : State) (open_ : BitVec 160) (i : Nat) : Byte :=
  let v := s.aon.sensed.get 0 i
  if bitAt v 8 then v.setWidth 8 else open_.extractLsb' (8 * i) 8

/-- The four sensor readings and the sixteen slacks: what the sensors and the path monitors read now, whatever the governor
has taken of it (R406, R407; assumption 150). -/
def monBytes (s : State) : List Byte × State :=
  let r := takeFree 160 s
  ((List.range 20).map (sensedByte s r.1), r.2)

/-- MON_READ: in every state with VAON and ROOTCLK (R406, R407). -/
def execMonRead (s : State) : Host.Outcome State Fault Refusal :=
  done (onlyIf (tapOn s) (fun s => let r := monBytes s; tapShift 5 r.1 r.2) s)

/-- PWR_TEST: the resistances it measures are shifted out (R406). -/
def execPwrTest (result : List (BitVec 16)) (s : State) : Host.Outcome State Fault Refusal :=
  inDft 6 [] (tapShift 6 (result.flatMap fun r => leBytes 2 r.toNat)) s

/-- TRST_N falls: the test controller is reset, BYPASS is its instruction, and none is loaded while it is low (R404,
R405; IEEE 1149.1, assumption 37). -/
def tapReset (s : State) : State := (tapShift 0xF [] s).onDbg fun d => { d with trstN := false }

/-- A code acts as BYPASS: BYPASS itself, the reserved codes, and those that the mode does not admit (R406). -/
def actsAsBypass (s : State) (code : BitVec 4) : Bool :=
  match code.toNat with
  | 1 | 2 | 3 | 6 => !s.aon.dft
  | 4 => !mtaAdmitted s
  | 5 => false
  | _ => true

/-- BYPASS, and the codes that act as it, with TRST_N at a level: low it resets the controller (R405, R406). -/
def execTapBypass (op : BypassOp) (s : State) : Host.Outcome State Fault Refusal :=
  done (onlyIf (s.aon.vaon && s.aon.rootclk)
    (fun s =>
      if !op.trstN then tapReset s
      else onlyIf (actsAsBypass s op.code)
        (fun s => noteRefused op.code (tapIdle op.code op.tdi (s.onDbg fun d => { d with trstN := true }))) s) s)

end Sys2Proof.Machine
end

