-- ==== Sys2Proof/Machine/RvDecode.lean ====
section
/-!
DEFINITION. RvDecode.lean: the words of the control core's instructions: fields, immediates, and the 32-bit form of
each compressed instruction of RV64C (R317; the RISC-V encodings are PRESUMED, assumption 15).
-/
namespace Sys2Proof.Machine

/-! ### Fields and immediates of a 32-bit instruction -/

/-- rd. -/
def rvRd (w : BitVec 32) : BitVec 5 := field w 7 5
/-- rs1. -/
def rvRs1 (w : BitVec 32) : BitVec 5 := field w 15 5
/-- rs2. -/
def rvRs2 (w : BitVec 32) : BitVec 5 := field w 20 5
/-- funct3. -/
def rvF3 (w : BitVec 32) : Nat := (field w 12 3).toNat
/-- funct7. -/
def rvF7 (w : BitVec 32) : Nat := (field w 25 7).toNat
/-- The I-type immediate. -/
def immI (w : BitVec 32) : W64 := (field w 20 12).signExtend 64
/-- The S-type immediate. -/
def immS (w : BitVec 32) : W64 := (field w 25 7 ++ field w 7 5).signExtend 64
/-- The B-type immediate. -/
def immB (w : BitVec 32) : W64 :=
  (field w 31 1 ++ field w 7 1 ++ field w 25 6 ++ field w 8 4 ++ (0 : BitVec 1)).signExtend 64
/-- The U-type immediate. -/
def immU (w : BitVec 32) : W64 := (field w 12 20 ++ (0 : BitVec 12)).signExtend 64
/-- The J-type immediate. -/
def immJ (w : BitVec 32) : W64 :=
  (field w 31 1 ++ field w 12 8 ++ field w 20 1 ++ field w 21 10 ++ (0 : BitVec 1)).signExtend 64

/-! ### Building 32-bit words -/

/-- An R-type word. -/
def mkR (f7 : BitVec 7) (rs2 rs1 : BitVec 5) (f3 : BitVec 3) (rd : BitVec 5) (op : BitVec 7) : BitVec 32 :=
  f7 ++ rs2 ++ rs1 ++ f3 ++ rd ++ op
/-- An I-type word. -/
def mkI (imm : BitVec 12) (rs1 : BitVec 5) (f3 : BitVec 3) (rd : BitVec 5) (op : BitVec 7) : BitVec 32 :=
  imm ++ rs1 ++ f3 ++ rd ++ op
/-- An S-type word. -/
def mkS (imm : BitVec 12) (rs2 rs1 : BitVec 5) (f3 : BitVec 3) : BitVec 32 :=
  field imm 5 7 ++ rs2 ++ rs1 ++ f3 ++ field imm 0 5 ++ (0x23 : BitVec 7)
/-- A branch word; the offset in bits [12:0]. -/
def mkB (imm : BitVec 13) (rs2 rs1 : BitVec 5) (f3 : BitVec 3) : BitVec 32 :=
  field imm 12 1 ++ field imm 5 6 ++ rs2 ++ rs1 ++ f3 ++ field imm 1 4 ++ field imm 11 1 ++ (0x63 : BitVec 7)
/-- A JAL word; the offset in bits [20:0]. -/
def mkJ (imm : BitVec 21) (rd : BitVec 5) : BitVec 32 :=
  field imm 20 1 ++ field imm 1 10 ++ field imm 11 1 ++ field imm 12 8 ++ rd ++ (0x6F : BitVec 7)

/-! ### Compressed instructions -/

/-- A register x8 to x15 of a three-bit field. -/
def rvcReg (c : BitVec 16) (lo : Nat) : BitVec 5 := (1 : BitVec 2) ++ field c lo 3
/-- The six-bit immediate of most CI forms, sign-extended. -/
def rvcImm6 (c : BitVec 16) : BitVec 12 := (field c 12 1 ++ field c 2 5).signExtend 12
/-- The shift amount of the CI and CB shift forms. -/
def rvcShamt (c : BitVec 16) : BitVec 6 := field c 12 1 ++ field c 2 5
/-- The offset of C.LW and C.SW. -/
def rvcOffW (c : BitVec 16) : BitVec 12 := ((field c 5 1 ++ field c 10 3 ++ field c 6 1 ++ (0 : BitVec 2)).setWidth 12)
/-- The offset of C.LD and C.SD. -/
def rvcOffD (c : BitVec 16) : BitVec 12 := ((field c 5 2 ++ field c 10 3 ++ (0 : BitVec 3)).setWidth 12)

/-- Quadrant 0. -/
def expand0 (c : BitVec 16) : Option (BitVec 32) :=
  let rd := rvcReg c 2
  let rs := rvcReg c 7
  match (field c 13 3).toNat with
  | 0 =>
    let imm : BitVec 12 := (field c 7 4 ++ field c 11 2 ++ field c 5 1 ++ field c 6 1 ++ (0 : BitVec 2)).setWidth 12
    if imm = 0 then none else some (mkI imm 2 0 rd 0x13)
  | 2 => some (mkI (rvcOffW c) rs 2 rd 0x03)
  | 3 => some (mkI (rvcOffD c) rs 3 rd 0x03)
  | 6 => some (mkS (rvcOffW c) rd rs 2)
  | 7 => some (mkS (rvcOffD c) rd rs 3)
  | _ => none

/-- The arithmetic forms of quadrant 1. -/
def expandArith (c : BitVec 16) : Option (BitVec 32) :=
  let rd := rvcReg c 7
  let rs2 := rvcReg c 2
  match (field c 10 2).toNat with
  | 0 => some (mkI ((0 : BitVec 6) ++ rvcShamt c) rd 5 rd 0x13)
  | 1 => some (mkI ((0x10 : BitVec 6) ++ rvcShamt c) rd 5 rd 0x13)
  | 2 => some (mkI (rvcImm6 c) rd 7 rd 0x13)
  | _ =>
    match (field c 12 1).toNat, (field c 5 2).toNat with
    | 0, 0 => some (mkR 0x20 rs2 rd 0 rd 0x33)
    | 0, 1 => some (mkR 0 rs2 rd 4 rd 0x33)
    | 0, 2 => some (mkR 0 rs2 rd 6 rd 0x33)
    | 0, _ => some (mkR 0 rs2 rd 7 rd 0x33)
    | _, 0 => some (mkR 0x20 rs2 rd 0 rd 0x3B)
    | _, 1 => some (mkR 0 rs2 rd 0 rd 0x3B)
    | _, _ => none

/-- The offset of C.J. -/
def rvcOffJ (c : BitVec 16) : BitVec 21 :=
  (field c 12 1 ++ field c 8 1 ++ field c 9 2 ++ field c 6 1 ++ field c 7 1 ++ field c 2 1 ++ field c 11 1 ++
    field c 3 3 ++ (0 : BitVec 1)).signExtend 21

/-- The offset of C.BEQZ and C.BNEZ. -/
def rvcOffB (c : BitVec 16) : BitVec 13 :=
  (field c 12 1 ++ field c 5 2 ++ field c 2 1 ++ field c 10 2 ++ field c 3 2 ++ (0 : BitVec 1)).signExtend 13

/-- C.LUI and C.ADDI16SP. -/
def expandLui (c : BitVec 16) : Option (BitVec 32) :=
  let rd : BitVec 5 := field c 7 5
  if rd = 2 then
    let imm : BitVec 12 :=
      (field c 12 1 ++ field c 3 2 ++ field c 5 1 ++ field c 2 1 ++ field c 6 1 ++ (0 : BitVec 4)).signExtend 12
    if imm = 0 then none else some (mkI imm 2 0 2 0x13)
  else if rvcShamt c = 0 then none
  else some (((rvcShamt c).signExtend 20) ++ rd ++ (0x37 : BitVec 7))

/-- Quadrant 1. -/
def expand1 (c : BitVec 16) : Option (BitVec 32) :=
  let rd : BitVec 5 := field c 7 5
  match (field c 13 3).toNat with
  | 0 => some (mkI (rvcImm6 c) rd 0 rd 0x13)
  | 1 => if rd = 0 then none else some (mkI (rvcImm6 c) rd 0 rd 0x1B)
  | 2 => some (mkI (rvcImm6 c) 0 0 rd 0x13)
  | 3 => expandLui c
  | 4 => expandArith c
  | 5 => some (mkJ (rvcOffJ c) 0)
  | 6 => some (mkB (rvcOffB c) 0 (rvcReg c 7) 0)
  | _ => some (mkB (rvcOffB c) 0 (rvcReg c 7) 1)

/-- The forms of quadrant 2 with funct3 100: C.JR, C.MV, C.EBREAK, C.JALR, C.ADD. -/
def expandMove (c : BitVec 16) : Option (BitVec 32) :=
  let rd : BitVec 5 := field c 7 5
  let rs2 : BitVec 5 := field c 2 5
  match bitAt c 12, decide (rs2 = 0), decide (rd = 0) with
  | false, true, true => none
  | false, true, false => some (mkI 0 rd 0 0 0x67)
  | false, false, _ => some (mkR 0 rs2 0 0 rd 0x33)
  | true, true, true => some 0x00100073
  | true, true, false => some (mkI 0 rd 0 1 0x67)
  | true, false, _ => some (mkR 0 rs2 rd 0 rd 0x33)

/-- Quadrant 2. -/
def expand2 (c : BitVec 16) : Option (BitVec 32) :=
  let rd : BitVec 5 := field c 7 5
  let rs2 : BitVec 5 := field c 2 5
  match (field c 13 3).toNat with
  | 0 => some (mkI ((0 : BitVec 6) ++ rvcShamt c) rd 1 rd 0x13)
  | 2 =>
    if rd = 0 then none
    else some (mkI ((field c 2 2 ++ field c 12 1 ++ field c 4 3 ++ (0 : BitVec 2)).setWidth 12) 2 2 rd 0x03)
  | 3 =>
    if rd = 0 then none
    else some (mkI ((field c 2 3 ++ field c 12 1 ++ field c 5 2 ++ (0 : BitVec 3)).setWidth 12) 2 3 rd 0x03)
  | 4 => expandMove c
  | 6 => some (mkS ((field c 7 2 ++ field c 9 4 ++ (0 : BitVec 2)).setWidth 12) rs2 2 2)
  | 7 => some (mkS ((field c 7 3 ++ field c 10 3 ++ (0 : BitVec 3)).setWidth 12) rs2 2 3)
  | _ => none

/-- The 32-bit form of a compressed instruction; none for an illegal one, the floating-point forms among them
(R317). -/
def expandC (c : BitVec 16) : Option (BitVec 32) :=
  match (field c 0 2).toNat with
  | 0 => expand0 c
  | 1 => expand1 c
  | _ => expand2 c

end Sys2Proof.Machine
end

