-- ==== Sys2Proof/Machine/Riscv.lean ====
section
/-!
DEFINITION. Riscv.lean: the control core: RV64IMAC with Zicsr (R317), its address map (R318), the register path (R319),
the memory aperture (R320), traps (R321) and the custom-0 instructions (R202). What the manual takes from RISC-V by name
is PRESUMED (assumption 15).
-/
namespace Sys2Proof.Machine

/-! ### Arithmetic -/

/-- OP and OP-IMM by funct3; `alt` is bit 30 (SUB, SRA). -/
def rvAlu (f3 : Nat) (alt : Bool) (a b : W64) : W64 :=
  match f3 with
  | 0 => if alt then a - b else a + b
  | 1 => a <<< (field b 0 6).toNat
  | 2 => if a.slt b then 1 else 0
  | 3 => if a.ult b then 1 else 0
  | 4 => a ^^^ b
  | 5 => if alt then a.sshiftRight (field b 0 6).toNat else a >>> (field b 0 6).toNat
  | 6 => a ||| b
  | _ => a &&& b

/-- The 32-bit forms of ADD, SUB and the shifts, sign-extended. -/
def rvAluW (f3 : Nat) (alt : Bool) (a b : W64) : W64 :=
  let x : BitVec 32 := field a 0 32
  let y : BitVec 32 := field b 0 32
  let n := (field b 0 5).toNat
  (match f3 with
    | 0 => if alt then x - y else x + y
    | 1 => x <<< n
    | _ => if alt then x.sshiftRight n else x >>> n).signExtend 64

/-- Signed and unsigned division: by zero all ones, the one overflow gives the dividend. -/
def rvDiv {w : Nat} (signed : Bool) (a b : BitVec w) : BitVec w :=
  if b = 0 then BitVec.allOnes w else if signed then a.sdiv b else a.udiv b

/-- The remainder: by zero the dividend. -/
def rvRem {w : Nat} (signed : Bool) (a b : BitVec w) : BitVec w :=
  if b = 0 then a else if signed then a.srem b else a.umod b

/-- The M extension, 64 bits. -/
def rvMul (f3 : Nat) (a b : W64) : W64 :=
  match f3 with
  | 0 => a * b
  | 1 => BitVec.ofInt 64 (a.toInt * b.toInt / 2 ^ 64)
  | 2 => BitVec.ofInt 64 (a.toInt * (b.toNat : Int) / 2 ^ 64)
  | 3 => BitVec.ofNat 64 (a.toNat * b.toNat / 2 ^ 64)
  | 4 => rvDiv true a b
  | 5 => rvDiv false a b
  | 6 => rvRem true a b
  | _ => rvRem false a b

/-- The M extension, 32 bits, sign-extended; none for an unassigned funct3. -/
def rvMulW (f3 : Nat) (a b : W64) : Option W64 :=
  let x : BitVec 32 := field a 0 32
  let y : BitVec 32 := field b 0 32
  match f3 with
  | 0 => some ((x * y).signExtend 64)
  | 4 => some ((rvDiv true x y).signExtend 64)
  | 5 => some ((rvDiv false x y).signExtend 64)
  | 6 => some ((rvRem true x y).signExtend 64)
  | 7 => some ((rvRem false x y).signExtend 64)
  | _ => none

/-- A branch is taken, by funct3; none for an unassigned one. -/
def rvTaken (f3 : Nat) (a b : W64) : Option Bool :=
  match f3 with
  | 0 => some (a == b)
  | 1 => some (a != b)
  | 4 => some (a.slt b)
  | 5 => some (!a.slt b)
  | 6 => some (a.ult b)
  | 7 => some (!a.ult b)
  | _ => none

/-! ### Steps of the core -/

/-- The pc goes to an address, the instruction retired. -/
def jumpTo (a : W64) (s : State) : State := s.onCore fun c => { c with pc := a, minstret := c.minstret + 1 }

/-- A result is written and the instruction retires. -/
def writeBack (rd : BitVec 5) (v : W64) (len : Nat) (s : State) : State := retire len (setX rd v s)

/-- An illegal instruction: cause 2, mtval its bits (R317). -/
def rvIllegal (bits : W64) (s : State) : State := takeException 2 bits s

/-! ### The address map (R318) -/

/-- n bytes at an address lie in the TCM. -/
def inTcm (a : W64) (n : Nat) : Bool := a.toNat + n ≤ tcmSize

/-- An address lies in the register window. -/
def inWindow (a : W64) : Bool := 0x10000000 ≤ a.toNat && a.toNat < 0x11000000

/-- An address lies in the memory aperture. -/
def inAperture (a : W64) : Bool := field a 52 12 == 0x001

/-- The offset in the register window. -/
def windowOff (a : W64) : Nat := a.toNat - 0x10000000

/-- The descriptor address of an aperture address. -/
def apertureAddr (a : W64) : BitVec 52 := field a 0 52

/-- The window entry of an aperture access of one granule (R224, R320). -/
def apertureWindow (s : State) (write : Bool) (a : W64) : Option WinSel :=
  let d := (apertureAddr a).toNat
  winSelect s write d (d + 7)

/-- The physical address of the granule of an aperture access. -/
def aperturePhys (w : WinSel) (a : W64) : BitVec 52 := w.phys ((apertureAddr a).toNat / 64 * 64)

/-- A load through the aperture: refused by its window, code 0x84 and an access fault; without a free core tag the core
stalls; else one request of one granule, and the core stalls until its data returns (R320). -/
def apertureLoad (rd : BitVec 5) (a : W64) (len : Nat) (tag : BitVec 13) (s : State) : State :=
  match apertureWindow s false a with
  | none => takeException 5 a (logAperture s)
  | some w =>
    let p := aperturePhys w a
    if memOn s && tagFree s .load tag && s.mem.req[(memPort p).toFin].isNone then
      (openAtOnce (memPort p).toFin { client := .load, len := 1, paddr := p, tag := tag } s).onCore fun c =>
        { c with apLoad := some (rd, tag), apAddr := a, apLen := len }
    else s

/-- The granule of an aperture store: 8 bytes under their byte enables (R320). -/
def storeGran (a v : W64) : BitVec 577 :=
  let k := a.toNat % 64
  (0 : BitVec 1) ++ (0xFF : BitVec 64).shiftLeft k ++ (v.setWidth 512).shiftLeft (8 * k)

/-- A store through the aperture is posted; the 17th, or one without a free core tag, stalls (R320). -/
def apertureStore (a v : W64) (len : Nat) (tag : BitVec 13) (s : State) : State :=
  match apertureWindow s true a with
  | none => takeException 7 a (logAperture s)
  | some w =>
    let p := aperturePhys w a
    if memOn s && tagFree s .store tag && s.mem.req[(memPort p).toFin].isNone && s.core.posted.length < 16 then
      let s := openAtOnce (memPort p).toFin
        { client := .store, write := true, len := 1, paddr := p, tag := tag, wg := [storeGran a v] } s
      retire len (s.onCore fun c => { c with posted := c.posted ++ [{ aperture := true, tag := tag }] })
    else s

/-- What the register path reads: debug reads of TRF contents that the state refuses read zero (R319, R326). -/
def pathRead (a : W64) (s : State) : W64 :=
  let off := windowOff a
  if subWindow off = 0xE && dbgReadRefused .firmware (localOff off) s then 0 else regRead off s

/-- A load of 2^k bytes, sign- or zero-extended, without the TCM's code errors. -/
def rvLoad (k : Nat) (unsigned : Bool) (rd : BitVec 5) (a : W64) (len : Nat) (tag : BitVec 13) (s : State) : State :=
  let n := 2 ^ k
  if s.core.postFault != 0 then takePostFault s
  else if a.toNat % n != 0 then takeException 4 a s
  else if inTcm a n then
    let v := tcmRead s a.toNat n
    writeBack rd (if unsigned then BitVec.ofNat 64 v else (BitVec.ofNat (8 * n) v).signExtend 64) len s
  else if k = 3 && inWindow a then writeBack rd (pathRead a s) len s
  else if k = 3 && inAperture a then apertureLoad rd a len tag s
  else takeException 5 a s

/-- A store of 2^k bytes. -/
def rvStore (k : Nat) (a v : W64) (len : Nat) (tag : BitVec 13) (s : State) : State :=
  let n := 2 ^ k
  if a.toNat % n != 0 then takeException 6 a s
  else if inTcm a n then retire len (tcmWrite a.toNat n v.toNat s)
  else if k = 3 && inWindow a then retire len (regWrite .firmware (windowOff a) v s)
  else if k = 3 && inAperture a then apertureStore a v len tag s
  else takeException 7 a s

/-! ### Atomics -/

/-- The operation of an AMO by funct5 on w bits; none for an unassigned one. -/
def amoOp {w : Nat} (f5 : Nat) (m x : BitVec w) : Option (BitVec w) :=
  match f5 with
  | 0x01 => some x
  | 0x00 => some (m + x)
  | 0x04 => some (m ^^^ x)
  | 0x0C => some (m &&& x)
  | 0x08 => some (m ||| x)
  | 0x10 => some (if m.slt x then m else x)
  | 0x14 => some (if m.slt x then x else m)
  | 0x18 => some (if m.ult x then m else x)
  | 0x1C => some (if m.ult x then x else m)
  | _ => none

/-- LR: the word is loaded and the reservation held. -/
def rvLr (k : Nat) (rd : BitVec 5) (a : W64) (s : State) : State :=
  let n := 2 ^ k
  if s.core.postFault != 0 then takePostFault s
  else if a.toNat % n != 0 then takeException 4 a s
  else if inTcm a n then
    writeBack rd ((BitVec.ofNat (8 * n) (tcmRead s a.toNat n)).signExtend 64) 4
      (s.onCore fun c => { c with resv := some a.toNat })
  else takeException 5 a s

/-- SC: stores and answers 0 while the reservation of the address is held, else answers 1; the reservation ends. -/
def rvSc (k : Nat) (rd : BitVec 5) (a v : W64) (s : State) : State :=
  let n := 2 ^ k
  if a.toNat % n != 0 then takeException 6 a s
  else if inTcm a n then
    let ok := s.core.resv == some a.toNat
    let s := s.onCore fun c => { c with resv := none }
    if ok then writeBack rd 0 4 (tcmWrite a.toNat n v.toNat s) else writeBack rd 1 4 s
  else takeException 7 a s

/-- An AMO: the old value to rd, the operation's result to memory. -/
def rvAmo (k f5 : Nat) (rd : BitVec 5) (a v bits : W64) (s : State) : State :=
  let n := 2 ^ k
  let old : BitVec (8 * n) := BitVec.ofNat (8 * n) (tcmRead s a.toNat n)
  match amoOp f5 old (v.setWidth (8 * n)) with
  | none => rvIllegal bits s
  | some r =>
    if s.core.postFault != 0 then takePostFault s
    else if a.toNat % n != 0 then takeException 6 a s
    else if inTcm a n then writeBack rd (old.signExtend 64) 4 (tcmWrite a.toNat n r.toNat s)
    else takeException 7 a s

/-- The A extension (R317). -/
def rvAtomic (w : BitVec 32) (s : State) : State :=
  let k := rvF3 w
  let a := getX s (rvRs1 w)
  let v := getX s (rvRs2 w)
  let f5 := (field w 27 5).toNat
  if k != 2 && k != 3 then rvIllegal (w.setWidth 64) s
  else if f5 = 2 then (if rvRs2 w = 0 then rvLr k (rvRd w) a s else rvIllegal (w.setWidth 64) s)
  else if f5 = 3 then rvSc k (rvRd w) a v s
  else rvAmo k f5 (rvRd w) a v (w.setWidth 64) s

/-! ### CSRs (R317) -/

/-- misa: RV64, A, C, I, M. -/
def misaVal : W64 := 0x8000000000001105

/-- What a CSR reads; none for one the table does not list. -/
def csrRead (n : BitVec 12) (s : State) : Option W64 :=
  let c := s.core
  match n.toNat with
  | 0x300 => some c.mstatus
  | 0x301 => some misaVal
  | 0x304 => some c.mie
  | 0x305 => some c.mtvec
  | 0x340 => some c.mscratch
  | 0x341 => some c.mepc
  | 0x342 => some c.mcause
  | 0x343 => some c.mtval
  | 0x344 => some (mipOf s)
  | 0xB00 => some c.mcycle
  | 0xB02 => some c.minstret
  | 0xF11 => some 0
  | 0xF12 => some 0
  | 0xF13 => some 0x0200
  | 0xF14 => some 0
  | _ => none

/-- Writes a CSR: the fields the core holds (R317). -/
def csrWrite (n : BitVec 12) (v : W64) (s : State) : State :=
  s.onCore fun c =>
    match n.toNat with
    | 0x300 => { c with mstatus := (v &&& 0x88) ||| 0x1800 }
    | 0x304 => { c with mie := v &&& 0x800 }
    | 0x305 => { c with mtvec := v &&& 0xFFFFFFFFFFFFFFFC }
    | 0x340 => { c with mscratch := v }
    | 0x341 => { c with mepc := v &&& 0xFFFFFFFFFFFFFFFE }
    | 0x342 => { c with mcause := v }
    | 0x343 => { c with mtval := v }
    | 0xB00 => { c with mcycle := v }
    | 0xB02 => { c with minstret := v - 1 }
    | _ => c

/-- A CSR instruction: funct3 gives the operation, rs1 the register or the immediate; a read-only CSR that is written,
or one not listed, is illegal (R317). minstret is written so that it reads the value once the instruction retires. -/
def rvCsr (w : BitVec 32) (s : State) : State :=
  let n : BitVec 12 := field w 20 12
  let f3 := rvF3 w
  let x := if bitAt w 14 then (rvRs1 w).setWidth 64 else getX s (rvRs1 w)
  let writes := f3 % 4 = 1 || rvRs1 w != 0
  match csrRead n s with
  | none => rvIllegal (w.setWidth 64) s
  | some old =>
    if f3 % 4 = 0 || (writes && field n 10 2 == 3) then rvIllegal (w.setWidth 64) s
    else
      let v := if f3 % 4 = 1 then x else if f3 % 4 = 2 then old ||| x else old &&& ~~~x
      writeBack (rvRd w) old 4 (if writes then csrWrite n v s else s)

/-! ### FENCE, WFI, MRET and the rest of SYSTEM -/

/-- FENCE waits until every posted store has completed; a fault one left is taken here (R317, R320). -/
def fenceOp (s : State) : State :=
  if s.core.postFault != 0 then takePostFault s else if s.core.posted.isEmpty then retire 4 s else s

/-- WFI stalls the core until mip & mie has a bit set (R317). -/
def wfiOp (s : State) : State := retire 4 (s.onCore fun c => { c with run := .wfi })

/-- SYSTEM: ECALL, EBREAK, MRET, WFI and the CSR instructions. -/
def rvSystem (w : BitVec 32) (s : State) : State :=
  if rvF3 w != 0 then rvCsr w s
  else if w = 0x00000073 then takeException 11 0 s
  else if w = 0x00100073 then takeException 3 s.core.pc s
  else if w = 0x30200073 then leaveTrap s
  else if w = 0x10500073 then wfiOp s
  else rvIllegal (w.setWidth 64) s

/-! ### The schedule-engine instructions (R202) -/

/-- The record at a TCM address. -/
def tcmRecord (a : Nat) (s : State) : BitVec 2048 := BitVec.ofNat 2048 (tcmRead s a 256)

/-- A push from a bad address: code 0x30, and nothing is read (R191, R202). -/
def pushBad (s : State) : State := noteRefusal 0x30 (report { code := 0x30, unit := 4 } s)

/-- PH.PUSH: its result and the state after it. -/
def pushOp (a : W64) (s : State) : W64 × State :=
  let t := s.sched.nextTicket
  let r := if a.toNat % 8 = 0 && inTcm a 256 then pushRecord (tcmRecord a.toNat s) s else (0x30, pushBad s)
  ((if r.1 == 0 then t else 0) ++ (0 : BitVec 16) ++ BitVec.ofNat 8 r.2.sched.queue.length ++ r.1, r.2)

/-- PH.PUSH (R202). -/
def phPushOp (rd rs1 : BitVec 5) (s : State) : State :=
  let r := pushOp (getX s rs1) s
  writeBack rd r.1 4 r.2

/-- PH.STAT (R202). -/
def phStatOp (rd rs1 : BitVec 5) (s : State) : State :=
  let x := getX s rs1
  writeBack rd (if bitAt x 2 then schStatus s else schSlot s.sched.slot[(field x 0 2).toFin]) 4 s

/-- TOK.READ (R202). -/
def tokReadOp (rd rs1 : BitVec 5) (s : State) : State := writeBack rd (mortW1 s (field (getX s rs1) 0 10)) 4 s

/-- PH.ABORT (R202); one that names no record is refused with code 0x39, which is logged (R205, R371). -/
def phAbortOp (rd rs1 : BitVec 5) (s : State) : State :=
  let t : BitVec 32 := field (getX s rs1) 0 32
  let r := abortTicket t s
  writeBack rd (if r.1 then 0 else 0x39) 4 (if r.1 then r.2 else report (noRecord 4 t) s)

/-- The custom-0 opcode (R202). -/
def rvCustom (w : BitVec 32) (s : State) : State :=
  if rvF7 w != 0 then rvIllegal (w.setWidth 64) s
  else
    match rvF3 w with
    | 0 => phPushOp (rvRd w) (rvRs1 w) s
    | 1 => phStatOp (rvRd w) (rvRs1 w) s
    | 2 => tokReadOp (rvRd w) (rvRs1 w) s
    | 3 => phAbortOp (rvRd w) (rvRs1 w) s
    | _ => rvIllegal (w.setWidth 64) s

/-! ### One instruction -/

/-- OP-IMM and OP-IMM-32; the shifts check their upper bits. -/
def rvOpImm (w : BitVec 32) (is32 : Bool) (bits : W64) (len : Nat) (s : State) : State :=
  let f3 := rvF3 w
  let a := getX s (rvRs1 w)
  let top := if is32 then (rvF7 w) else (field w 26 6).toNat
  let alt := if is32 then 0x20 else 0x10
  if f3 = 1 && top != 0 then rvIllegal bits s
  else if f3 = 5 && top != 0 && top != alt then rvIllegal bits s
  else if is32 && f3 != 0 && f3 != 1 && f3 != 5 then rvIllegal bits s
  else
    let sra := f3 = 5 && top = alt
    writeBack (rvRd w) (if is32 then rvAluW f3 sra a (immI w) else rvAlu f3 sra a (immI w)) len s

/-- OP and OP-32, the M extension among them. -/
def rvOp (w : BitVec 32) (is32 : Bool) (bits : W64) (len : Nat) (s : State) : State :=
  let f3 := rvF3 w
  let a := getX s (rvRs1 w)
  let b := getX s (rvRs2 w)
  match rvF7 w with
  | 0x01 =>
    if is32 then
      match rvMulW f3 a b with
      | some v => writeBack (rvRd w) v len s
      | none => rvIllegal bits s
    else writeBack (rvRd w) (rvMul f3 a b) len s
  | 0x00 =>
    if is32 then
      if f3 = 0 || f3 = 1 || f3 = 5 then writeBack (rvRd w) (rvAluW f3 false a b) len s else rvIllegal bits s
    else writeBack (rvRd w) (rvAlu f3 false a b) len s
  | 0x20 =>
    if f3 = 0 || f3 = 5 then
      writeBack (rvRd w) (if is32 then rvAluW f3 true a b else rvAlu f3 true a b) len s
    else rvIllegal bits s
  | _ => rvIllegal bits s

/-- Executes a 32-bit instruction, or the 32-bit form of a compressed one; `bits` are those fetched and `len` their
bytes. -/
def rvExec (w : BitVec 32) (bits : W64) (len : Nat) (s : State) : State :=
  let pc := s.core.pc
  match (field w 0 7).toNat with
  | 0x37 => writeBack (rvRd w) (immU w) len s
  | 0x17 => writeBack (rvRd w) (pc + immU w) len s
  | 0x6F => jumpTo (pc + immJ w) (setX (rvRd w) (pc + BitVec.ofNat 64 len) s)
  | 0x67 =>
    if rvF3 w = 0 then
      jumpTo ((getX s (rvRs1 w) + immI w) &&& 0xFFFFFFFFFFFFFFFE) (setX (rvRd w) (pc + BitVec.ofNat 64 len) s)
    else rvIllegal bits s
  | 0x63 =>
    match rvTaken (rvF3 w) (getX s (rvRs1 w)) (getX s (rvRs2 w)) with
    | some true => jumpTo (pc + immB w) s
    | some false => retire len s
    | none => rvIllegal bits s
  | 0x03 =>
    if rvF3 w = 7 then rvIllegal bits s
    else rvLoad (rvF3 w % 4) (4 ≤ rvF3 w) (rvRd w) (getX s (rvRs1 w) + immI w) len (lowTag s) s
  | 0x23 =>
    if 4 ≤ rvF3 w then rvIllegal bits s
    else rvStore (rvF3 w) (getX s (rvRs1 w) + immS w) (getX s (rvRs2 w)) len (lowTag s) s
  | 0x13 => rvOpImm w false bits len s
  | 0x1B => rvOpImm w true bits len s
  | 0x33 => rvOp w false bits len s
  | 0x3B => rvOp w true bits len s
  | 0x0F => if rvF3 w = 0 then fenceOp s else rvIllegal bits s
  | 0x2F => rvAtomic w s
  | 0x73 => rvSystem w s
  | 0x0B => rvCustom w s
  | _ => rvIllegal bits s

/-- Fetches at the pc from the TCM and executes; a fetch outside the TCM is an access fault (R318). -/
def fetchExec (s : State) : State :=
  let pc := s.core.pc
  if !inTcm pc 2 then takeException 1 pc s
  else
    let c : BitVec 16 := BitVec.ofNat 16 (tcmRead s pc.toNat 2)
    if field c 0 2 != 3 then
      match expandC c with
      | some w => rvExec w (c.setWidth 64) 2 s
      | none => rvIllegal (c.setWidth 64) s
    else if !inTcm pc 4 then takeException 1 (pc + 2) s
    else
      let w : BitVec 32 := BitVec.ofNat 32 (tcmRead s pc.toNat 4)
      rvExec w (w.setWidth 64) 4 s

/-- CORE_INSTRUCTION: one instruction is fetched and executed; `upset` are the code errors its TCM reads meet: a
corrected one is counted, an uncorrectable one is fatal (R317, R323). -/
def execCoreInstruction (upset : BitVec 2) (s : State) : Host.Outcome State Fault Refusal :=
  doneGov (onlyIf (coreReady s)
    (fun s => if 2 ≤ upset.toNat then tcmFatal s else fetchExec (if upset = 1 then countTcmCe s else s)) s)

/-! ### The rows of single instructions -/

/-- PH.PUSH (R202). -/
def execPhPush (rd rs1 : BitVec 5) (s : State) : Host.Outcome State Fault Refusal :=
  done (onlyIf (coreReady s) (phPushOp rd rs1) s)

/-- PH.STAT (R202). -/
def execPhStat (rd rs1 : BitVec 5) (s : State) : Host.Outcome State Fault Refusal :=
  done (onlyIf (coreReady s) (phStatOp rd rs1) s)

/-- TOK.READ (R202). -/
def execTokRead (rd rs1 : BitVec 5) (s : State) : Host.Outcome State Fault Refusal :=
  done (onlyIf (coreReady s) (tokReadOp rd rs1) s)

/-- PH.ABORT (R202). -/
def execPhAbort (rd rs1 : BitVec 5) (s : State) : Host.Outcome State Fault Refusal :=
  doneGov (onlyIf (coreReady s) (phAbortOp rd rs1) s)

/-- The exceptions the core can take: fetch, illegal instruction, breakpoint, load, store, environment call. -/
def isCause (c : BitVec 8) : Bool := c.toNat ≤ 7 || c == 11

/-- CORE_EXCEPTION: an exception is taken (R318, R321). -/
def execCoreException (cause : BitVec 8) (tval : BitVec 64) (s : State) : Host.Outcome State Fault Refusal :=
  done (onlyIf (coreReady s && isCause cause) (takeException cause.toNat tval) s)

/-- The machine external interrupt can be taken: pending, enabled, and MIE set (R317). -/
def irqDue (s : State) : Bool := coreReady s && meip s && bitAt s.core.mie 11 && bitAt s.core.mstatus 3

/-- CORE_INTERRUPT: the machine external interrupt is taken (R317, R321). -/
def execCoreInterrupt (s : State) : Host.Outcome State Fault Refusal := done (onlyIf (irqDue s) (enterTrap irqCause 0) s)

/-- MRET (R321). -/
def execMret (s : State) : Host.Outcome State Fault Refusal := done (onlyIf (coreReady s) leaveTrap s)

/-- WFI (R317). -/
def execWfi (s : State) : Host.Outcome State Fault Refusal := done (onlyIf (coreReady s) wfiOp s)

/-- FENCE (R317, R320). -/
def execFence (s : State) : Host.Outcome State Fault Refusal := done (onlyIf (coreReady s) fenceOp s)

/-- The bytes of an instruction, compressed or not. -/
def rvLen (rvc : Bool) : Nat := if rvc then 2 else 4

/-- REGISTER_PATH_LOAD: LD from the register window (R318, R319). -/
def execRegisterPathLoad (rd rs1 : BitVec 5) (imm : BitVec 12) (rvc : Bool) (s : State) :
    Host.Outcome State Fault Refusal :=
  let a := getX s rs1 + imm.signExtend 64
  done (onlyIf (coreReady s && inWindow a) (rvLoad 3 false rd a (rvLen rvc) 0) s)

/-- REGISTER_PATH_STORE: SD to the register window (R318, R319). -/
def execRegisterPathStore (rs1 rs2 : BitVec 5) (imm : BitVec 12) (rvc : Bool) (s : State) :
    Host.Outcome State Fault Refusal :=
  let a := getX s rs1 + imm.signExtend 64
  doneGov (onlyIf (coreReady s && inWindow a) (rvStore 3 a (getX s rs2) (rvLen rvc) 0) s)

/-- APERTURE_LOAD: LD through the memory aperture, on the tag named (R318, R320). -/
def execApertureLoad (rd rs1 : BitVec 5) (imm : BitVec 12) (rvc : Bool) (tag : BitVec 13) (s : State) :
    Host.Outcome State Fault Refusal :=
  let a := getX s rs1 + imm.signExtend 64
  done (onlyIf (coreReady s && inAperture a) (rvLoad 3 false rd a (rvLen rvc) tag) s)

/-- APERTURE_STORE: SD through the memory aperture, on the tag named (R318, R320). -/
def execApertureStore (rs1 rs2 : BitVec 5) (imm : BitVec 12) (rvc : Bool) (tag : BitVec 13) (s : State) :
    Host.Outcome State Fault Refusal :=
  let a := getX s rs1 + imm.signExtend 64
  done (onlyIf (coreReady s && inAperture a) (rvStore 3 a (getX s rs2) (rvLen rvc) tag) s)

end Sys2Proof.Machine
end

