-- ==== Sys2Proof/Machine/SideCmds.lean ====
section
/-!
DEFINITION. SideCmds.lean: the beats and commits of the side-port paths (R70, R244), the scrub's
interval (R94), the sending of a collective's packets (R276) and the end of a debug read (R384).
-/
namespace Sys2Proof.Machine

/-- The next beat of a bay stages a beam of the bulk move, read from the TCM (R324). -/
def readsTcm (s : State) (bay : Fin 32) : Bool :=
  s.arb.bay[bay].owner.any fun g => g.client == .move && g.write && beatFree s g

/-- SIDE_PORT_BEAT (R244); a beam that comes from the TCM may meet its code errors (R323), and what waited for the beams
delivered to the running collective goes on (R273, R279). -/
def execSidePortBeat (bay : Fin 32) (upset : BeatErr) (s : State) : Host.Outcome State Fault Refusal :=
  done (serveLinks (sideBeat bay upset.line (if readsTcm s bay then tcmUpset upset.tcm s else s)))

/-- STAGING_COMMIT (R70, R244): once no primary-port work takes the bank (R68); what waited for a place of the running
collective's beams goes on (R279). -/
def execStagingCommit (bay : Fin 32) (s : State) : Host.Outcome State Fault Refusal :=
  done (match commitHead s bay with
    | some t =>
      onlyIf (unitsOn s && !primaryAt s (bankIx t.job.beam))
        (fun s =>
          let s := advanceTransfers (commitOne bay t s)
          if t.client == .collective then serveLinks s else s) s
    | none => s)

/-- The first beam of its own that a direction's next packet sends and the unit does not hold, as a side-port read. -/
def lackingJob (s : State) (r : CRun) (ccw : Bool) : Option Job :=
  if CDesc.isData r.desc && CDesc.uses r.desc ccw then
    ((((List.range (r.batch ccw)).filterMap (r.toSend ccw)).filter (!r.holds ·)).head?).map (r.ownJob s ccw)
  else none

/-- A beam that the next packet lacks is read, when requester 3 has its bay's path and the bank is free, else at a later
SIDE_PORT_BEAT (R244, R279). -/
def readLacking (r : CRun) (ccw : Bool) (upset : LineErr) (s : State) : State :=
  match lackingJob s r ccw with
  | some j => onlyIf (colRuns s && unitsOn s) (fun s => serveLinks (serveNow (bayIx j.beam) .colOut upset s)) s
  | none => s

/-- The direction sends its next packet, if it can (R258, R276). -/
def sendNext (ccw : Bool) (s : State) : State :=
  match s.col.run with
  | some r => onlyIf (sendable s r ccw) (if r.n = 1 then localBeams r ccw else sendData r ccw) s
  | none => s

/-- COLLECTIVE_PACKET_SEND: what the packet still lacks of the member's own beams is read, and the packet is sent when
its beams are at hand (R258, R276, R279). -/
def execCollectivePacketSend (ccw : Bool) (upset : LineErr) (s : State) : Host.Outcome State Fault Refusal :=
  done (match s.col.run with
    | some r => sendNext ccw (readLacking r ccw upset s)
    | none => s)

/-- SCRUB_READ: a bay's scrub interval expires; requester 6 asks for the path, and reads the line at once when it gets it
and the bank is free, else at its later SIDE_PORT_BEAT (R94, R244, R246). -/
def execScrubRead (bay : Fin 32) (upset : LineErr) (s : State) : Host.Outcome State Fault Refusal :=
  done (onlyIf (scrubActive s && scrubAt s bay < 32768)
    (fun s => serveNow bay .scrub upset (s.onBay bay fun y => { y with scrubDue := true })) s)

/-- DEBUG_READ_COMPLETE: requester 7 reads in the beam's bay when it has the path and the bank is free (R243, R244,
R384). -/
def execDebugReadComplete (upset : LineErr) (s : State) : Host.Outcome State Fault Refusal :=
  done (match s.dbg.req with
    | some (_, _, b) => onlyIf (unitsOn s) (serveNow (bayIx b) .debug upset) s
    | none => s)

end Sys2Proof.Machine
end

