-- ==== Sys2Proof/Machine/VentCmds.lean ====
section
/-!
DEFINITION. VentCmds.lean: the commands of the vent port (R335 to R340).
-/
namespace Sys2Proof.Machine

/-! ### PEC (R335) -/

/-- One bit of the CRC-8 x^8 + x^2 + x + 1. -/
def crc8Bit (c : BitVec 8) : BitVec 8 := if bitAt c 7 then (c <<< 1) ^^^ (0x07 : BitVec 8) else c <<< 1

/-- One byte of the CRC-8, the high bit first. -/
def crc8Byte (c b : BitVec 8) : BitVec 8 :=
  crc8Bit (crc8Bit (crc8Bit (crc8Bit (crc8Bit (crc8Bit (crc8Bit (crc8Bit (c ^^^ b))))))))

/-- The packet error code of a transaction's bytes. -/
def pecOf (l : List Byte) : Byte := l.foldl crc8Byte 0

/-- The address byte for a write. -/
def addrByte (s : State) : Byte := ventAddr s ++ (0 : BitVec 1)

/-- The bytes the target returns to command `code`, with the PEC where the controller clocks it (R335, R337). -/
def ventReturn (code : Byte) (pec : Bool) (data : List Byte) (s : State) : State :=
  let all := [addrByte s, code, addrByte s ||| 1] ++ data
  s.onAon fun a => { a with ventOut := if pec then data ++ [pecOf all] else data }

/-- The bytes of a Block Read: the count, then the data. -/
def blockReturn (code : Byte) (pec : Bool) (data : List Byte) (s : State) : State :=
  ventReturn code pec (BitVec.ofNat 8 data.length :: data) s

/-! ### What every transaction passes (R337) -/

/-- VENT_STATUS.LAST. -/
def ventCode (c : BitVec 8) (s : State) : State := s.onAon fun a => { a with ventLast := c }

/-- Code 0x87, where the log is powered. -/
def ventEvent (s : State) : State := if mainOn s then report { code := 0x87, unit := 2 } s else s

/-- A write is applied only when its PEC is right, or absent while PEC_REQ is clear; a wrong PEC is counted, logged
and NACKed (R337). -/
def withPec (pec : Option Bool) (act : State → State) (s : State) : State :=
  if !aonOn s then s
  else
    match pec with
    | some true => act s
    | some false => ventEvent (ventCode 4 (s.onAon fun a => { a with pecErrs := satAdd a.pecErrs 1 }))
    | none => if s.aon.pecReq then ventCode 4 s else act s

/-- VADDR moves on (R336). -/
def ventAdvance (s : State) : State := s.onAon fun a => { a with vaddr := a.vaddr + 8 }

/-! ### The commands (R336) -/

/-- SET_ADDR. -/
def setAddrOp (addr : BitVec 24) (s : State) : State :=
  if field addr 0 3 != 0 then ventCode 6 s else ventCode 0 (s.onAon fun a => { a with vaddr := addr })

/-- A Block Write is applied only with the byte count the table requires: any other is BAD_LEN (R337). Where its PEC is
wrong too, the PEC is judged first (DESIGN CHOICE, assumption 120). -/
def withCount (count : BitVec 8) (n : Nat) (act : State → State) (s : State) : State :=
  if count.toNat = n then act s else ventCode 3 s

/-- SET_ADDR: bytes 0 to 2 are the offset (R336). -/
def execSetAddr (addr : BlockWrite 24) (pec : Option Bool) (s : State) :
    Host.Outcome State Fault Refusal :=
  done (withPec pec (withCount addr.count 4 (setAddrOp addr.data)) s)

/-- WRITE64: the register at VADDR is written, and VADDR moves on (R336). -/
def write64Op (v : BitVec 64) (s : State) : State := ventAdvance (regWrite .vent s.aon.vaddr.toNat v s)

/-- WRITE64 (R336). -/
def execWrite64 (v : BlockWrite 64) (pec : Option Bool) (s : State) :
    Host.Outcome State Fault Refusal :=
  doneGov (withPec pec (withCount v.count 8 (write64Op v.data)) s)

/-- READ64: a read that is not OK returns zeros (R336, R337). -/
def read64Op (pec : Bool) (s : State) : State :=
  let t := regAccess .vent s.aon.vaddr.toNat s
  let v := if t.aon.ventLast == 0 then regRead s.aon.vaddr.toNat s else 0
  ventAdvance (blockReturn 3 pec (leBytes 8 v.toNat) t)

/-- READ64 (R336). -/
def execRead64 (pec : Bool) (s : State) : Host.Outcome State Fault Refusal := done (onlyIf (aonOn s) (read64Op pec) s)

/-- STATUS returns the status of the last completed transaction, and completes with OK itself (R336). -/
def execStatus (pec : Bool) (s : State) : Host.Outcome State Fault Refusal :=
  done (onlyIf (aonOn s) (fun s => ventCode 0 (ventReturn 4 pec [s.aon.ventLast] s)) s)

/-- MBOX_PUT fills MBOX_IN, refused while IN_FULL is set (R340). -/
def mboxPutOp (bytes : List Byte) (s : State) : State :=
  if bytes.length = 0 || 32 < bytes.length then ventCode 3 s
  else if s.aon.inFull then ventCode 5 s
  else ventCode 0 (s.onAon fun a =>
    { a with mboxIn := BitVec.ofNat 256 (leNat bytes), inLen := BitVec.ofNat 6 bytes.length, inFull := true })

/-- MBOX_PUT (R340). -/
def execMboxPut (bytes : List (BitVec 8)) (pec : Option Bool) (s : State) : Host.Outcome State Fault Refusal :=
  done (withPec pec (mboxPutOp bytes) s)

/-- The outbound message: OUT_LEN bytes of MBOX_OUT, none while OUT_FULL is clear. MBOX_OUT has 32 bytes; the spec
states none beyond (assumption 33). -/
def outMessage (s : State) : List Byte × State :=
  let n := if s.aon.outFull then s.aon.outLen.toNat else 0
  let r := takeFree 248 s
  if n ≤ 32 then (leBytes n s.aon.mboxOut.toNat, s) else (leBytes 32 s.aon.mboxOut.toNat ++ leBytes (n - 32) r.1.toNat, r.2)

/-- MBOX_GET returns the message, and clears OUT_FULL when its transaction ends with a STOP (R340). -/
def mboxGetOp (ends : ReadEnd) (s : State) : State :=
  let r := outMessage s
  ventCode 0 ((blockReturn 6 ends.pec r.1 r.2).onAon fun a => { a with outFull := a.outFull && !ends.stop })

/-- MBOX_GET (R340). -/
def execMboxGet (ends : ReadEnd) (s : State) : Host.Outcome State Fault Refusal :=
  done (onlyIf (aonOn s) (mboxGetOp ends) s)

/-- A command code the port does not know. -/
def ventReserved (code : BitVec 8) : Bool := code == 0 || 7 ≤ code.toNat

/-- VENT_RESERVED_COMMAND: a transaction that names an unknown command code, or whose protocol is not implemented, is
NACKed at the command byte, with code 0x87 (R335, R336). -/
def execVentReservedCommand (call : VentCall) (s : State) : Host.Outcome State Fault Refusal :=
  done (onlyIf (aonOn s && (ventReserved call.code || call.badProtocol)) ventEvent s)

/-- The address byte returned to the Alert Response Address; its lowest bit is not stated (assumption 34). -/
def alertReturn (s : State) : State :=
  let r := takeFree 1 s
  r.2.onAon fun a => { a with ventOut := [ventAddr s ++ r.1], smbalert := false }

/-- ALERT_RESPONSE: the target that wins the arbitration returns its address byte and releases SMBALERT_N (R339). -/
def execAlertResponse (wins : Bool) (s : State) : Host.Outcome State Fault Refusal :=
  done (onlyIf (aonOn s && s.aon.smbalert && wins) alertReturn s)

/-- SMBUS_CLOCK_LOW_TIMEOUT: the target releases the bus and abandons the transaction; an abandoned transaction
applies nothing (R335, R337). -/
def execSmbusClockLowTimeout (s : State) : Host.Outcome State Fault Refusal := done s

end Sys2Proof.Machine
end

