-- ==== Sys2Proof/Machine/Wo.lean ====
section
/-!
DEFINITION. Wo.lean: work orders as the reference firmware serves them: their fields (R331), serving one (R332), its
completion (R333), and the work orders a job kill ends (R381).
-/
namespace Sys2Proof.Machine

/-- A work order: 64 bytes (R331). -/
abbrev Wo := BitVec 512

/-! ### Fields (R331) -/

/-- OPCODE. -/
def Wo.opcode (w : Wo) : Nat := byteField w 1 1
/-- FLAGS.IRQ. -/
def Wo.irq (w : Wo) : Bool := bitAt w 16
/-- SEQ. -/
def Wo.seq (w : Wo) : BitVec 32 := field w 32 32
/-- LIST: the descriptor address of the first object. -/
def Wo.list (w : Wo) : Nat := byteField w 0x10 8
/-- COUNT. -/
def Wo.count (w : Wo) : Nat := byteField w 0x18 4
/-- CPL. -/
def Wo.cpl (w : Wo) : Nat := byteField w 0x20 8

/-- COUNT lies in its range: 1 to 4,096 objects, zero for FENCE and NOP (R331). -/
def Wo.countOk (w : Wo) : Bool := if w.opcode ≤ 3 then 1 ≤ w.count && w.count ≤ 4096 else w.count = 0

/-- A work order that is not refused: FORMAT 2, a defined OPCODE, reserved fields zero, fields in range (R331,
R332). -/
def Wo.ok (w : Wo) : Bool :=
  byteField w 0 1 = 2 && 1 ≤ w.opcode && w.opcode ≤ 5 && field w 17 15 == 0 && w.list < 2 ^ 52 && w.list % 64 = 0 &&
    w.countOk && byteField w 0x1C 4 = 0 && w.cpl < 2 ^ 52 && w.cpl % 16 = 0 && byteField w 0x28 24 = 0

/-! ### The rings -/

/-- The rings in the order of the next visit. -/
def ringOrder (s : State) : List (Fin 4) := [s.core.rrNext, s.core.rrNext + 1, s.core.rrNext + 2, s.core.rrNext + 3]

/-- The ring the firmware visits next: the next that is not empty (R332). -/
def ringDue (s : State) : Option (Fin 4) := (ringOrder s).find? fun r => s.core.ring[r].head != s.core.ring[r].tail

/-- The firmware serves the rings (R332). -/
def woServes (s : State) : Bool := isLive s && s.core.run != .halted && s.aon.rootclk

/-- The work order at a ring's TAIL is one that an accepted kill ends: TAIL has not reached the HEAD that stood then
(R381). -/
def woKilled (s : State) (r : Fin 4) : Bool :=
  match s.core.killHeads[r.val]? with
  | some h => let d := (h - s.core.ring[r].tail).toNat; 1 ≤ d && d < 2 ^ 31
  | none => false

/-! ### Fetching (R324, R330, R332) -/

/-- The kind-2 moves that fetch n granules at a descriptor address: of up to 72, none across a 64 KiB boundary, each its
address and length (R324, R332). -/
def fetchRuns : Nat → Nat → Nat → List (Nat × Nat)
  | 0, _, _ => []
  | fuel + 1, a, n =>
    if n = 0 then []
    else
      let k := min (min n 72) ((65536 - a % 65536) / 64)
      (a, k) :: fetchRuns fuel (a + 64 * k) (n - k)

/-- Granules of an object, the first lowest (R10). -/
def granules {w : Nat} (x : BitVec w) : List (BitVec 512) := (List.range (w / 512)).map fun i => x.extractLsb' (512 * i) 512

/-- Beat b of some granules. -/
def granBeat (gs : List (BitVec 512)) (b : Nat) : BitVec 2048 :=
  gs.getD (4 * b + 3) 0 ++ gs.getD (4 * b + 2) 0 ++ gs.getD (4 * b + 1) 0 ++ gs.getD (4 * b) 0

/-- A move of the firmware can start: none runs, and the port and a core tag are free (R320, R324). -/
def fetchFree (s : State) (p : BitVec 52) : Bool :=
  memOn s && s.core.move.isNone && tagFree s .move (lowTag s) && s.mem.req[(memPort p).toFin].isNone

/-- A kind-2 move runs: its request, its beats, the last with a status, its end. Where in the TCM the firmware keeps what
it fetches is its own affair: a free address (assumption 122). -/
def fetchMove (a : BitVec 52) (p : BitVec 52) (gs : List (BitVec 512)) (status : BitVec 2) (s : State) : State :=
  let port := (memPort p).toFin
  let tag := lowTag s
  let buf := takeFree 12 s
  let job : MoveJob :=
    { kind := 2, count := gs.length, tcm := BitVec.ofNat 18 (64 * (buf.1.toNat % (4097 - gs.length))), daddr := a
      paddr := p, started := true }
  let s := buf.2.onCore fun c => { c with moveAddr := a, moveCode := 0, movePoison := false, move := some job }
  let s := openAtOnce port { client := .move, len := gs.length, paddr := p, tag := tag } s
  let last := (gs.length + 3) / 4 - 1
  endMove (foldUpTo (last + 1)
    (fun b s => respond port tag (takeBeat port (granBeat gs b) (if b = last then status else 0)) s) s)

/-- One fetch of the firmware: refused with code 0x8B by the window check, waiting while a move cannot start, else done
(R320, R324, R332). The result is none while it waits, else whether it was done. -/
def fetchRun (a : BitVec 52) (gs : List (BitVec 512)) (status : BitVec 2) (s : State) : Option Bool × State :=
  match moveWindow s false a gs.length with
  | none => (some false, report { code := 0x8B } (s.onCore fun c => { c with moveAddr := a, moveCode := 0x8B }))
  | some w =>
    if fetchFree s (w.phys a.toNat) then (some true, fetchMove a (w.phys a.toNat) gs status s) else (none, s)

/-- The moves of a fetch one after another; the first that waits or is refused ends it. -/
def fetchAll (status : BitVec 2) : List (Nat × Nat) → List (BitVec 512) → State → Option Bool × State
  | [], _, s => (some true, s)
  | r :: rs, gs, s =>
    let f := fetchRun (BitVec.ofNat 52 r.1) (gs.take r.2) status s
    if f.1 = some true then fetchAll status rs (gs.drop r.2) f.2 else f

/-- Where a ring's next work order stands: slot TAIL mod 2^LOG2 from BASE (R330). -/
def ringSlot (k : Ring) : BitVec 52 := k.base + BitVec.ofNat 52 (64 * (k.tail.toNat % 2 ^ k.log2.toNat))

/-- The work order the firmware serves on a ring: the one in progress, or the next, which it fetches from its slot; none
while the fetch waits or is refused, and it is tried again (R330, R332; assumption 122). -/
def woTake (r : Fin 4) (wo : Wo) (status : BitVec 2) (s : State) : Option WoRun × State :=
  if !woServes s then (none, s)
  else
    match s.core.wo with
    | some k => (if k.ring = r && !k.done then some k else none, s)
    | none =>
      if ringDue s = some r then
        let f := fetchRun (ringSlot s.core.ring[r]) [wo] status s
        (if f.1 = some true then some { ring := r, wo := wo } else none, f.2)
      else (none, s)

/-- The firmware's progress is kept. -/
def setWo (k : WoRun) (s : State) : State := s.onCore fun c => { c with wo := some k }

/-- The work order ends with a code; its completion record is due (R333). -/
def endWo (k : WoRun) (code : BitVec 8) (s : State) : State := setWo { k with code := code, done := true } s

/-! ### Objects (R332) -/

/-- The codes of a full queue, retried until the object is accepted (R332). -/
def isFullCode (c : BitVec 8) : Bool := c == 0x38 || c == 0x48 || c == 0x6A

/-- A record by PH.PUSH: its code, its ticket, the state (R202, R332). -/
def giveRecord (x : BitVec 2048) (s : State) : BitVec 8 × BitVec 32 × State :=
  let r := pushRecord x s
  (r.1, s.sched.nextTicket, r.2)

/-- A tensor descriptor through LAY_DBUF and LAY_SUBMIT. -/
def giveDesc (x : BitVec 1024) (s : State) : BitVec 8 × BitVec 32 × State :=
  let t := hostSubmit (s.onLayout fun l => { l with dbuf := x })
  (t.layout.subCode, s.layout.nextTicket, t)

/-- A collective descriptor through COL_DBUF and SUBMIT. -/
def giveCol (x : BitVec 512) (s : State) : BitVec 8 × BitVec 32 × State :=
  let t := colSubmitOp (s.onCol fun c => { c with dbuf := x })
  (t.col.cmdCode, s.col.nextTicket, t)

/-- Fetches the objects from the first not yet accepted, as many as one move carries, unless they have been (R324,
R332). -/
def fetchObjs {w : Nat} (k : WoRun) (l : List (BitVec w)) (s : State) : Option Bool × WoRun × State :=
  if k.accepted < k.fetched then (some true, k, s)
  else
    let n := min l.length (72 / (w / 512))
    let f := fetchAll 0 (fetchRuns 3 (Wo.list k.wo + w / 8 * k.accepted) (n * (w / 512))) ((l.take n).flatMap granules) s
    (f.1, { k with fetched := k.accepted + n }, f.2)

/-- Submits the objects from the first not yet accepted, each batch once it is fetched: a full queue keeps the work order
waiting there, any other refusal stops it at that object (R332); a refused fetch stops it with code 0x8B (assumption
122). -/
def giveAll {w : Nat} (give : BitVec w → State → BitVec 8 × BitVec 32 × State) : List (BitVec w) → WoRun → State → State
  | [], k, s => endWo k 0 s
  | x :: xs, k, s =>
    let f := fetchObjs k (x :: xs) s
    match f.1 with
    | none => setWo k f.2.2
    | some false => endWo k 0x8B f.2.2
    | some true =>
      let r := give x f.2.2
      let k := f.2.1
      if r.1 == 0 then
        giveAll give xs { k with accepted := k.accepted + 1, first := if k.accepted = 0 then r.2.1 else k.first } r.2.2
      else if isFullCode r.1 then setWo k r.2.2
      else endWo k r.1 r.2.2

/-- Serves a work order of objects; one that a kill ends completes with code 0xA0, submitting none (R332, R381). Nothing
happens on operands that are not the row's. -/
def serveObjects {w : Nat} (op : Nat) (ring : Fin 4) (wo : Wo) (objs : List (BitVec w)) (poison : Bool)
    (give : BitVec w → State → BitVec 8 × BitVec 32 × State) (s : State) : State :=
  let t := woTake ring wo 0 s
  match t.1 with
  | none => if poison then s else t.2
  | some k =>
    if Wo.opcode k.wo != op || !Wo.ok k.wo || poison || objs.length != Wo.count k.wo then s
    else if woKilled t.2 ring then endWo k 0xA0 t.2
    else giveAll give (objs.drop k.accepted) k t.2

/-- WO_RECORDS (R332). -/
def execWoRecords (ring : Fin 4) (wo : BitVec 512) (objs : List (BitVec 2048)) (poison : Bool) (s : State) :
    Host.Outcome State Fault Refusal := done (serveObjects 1 ring wo objs poison giveRecord s)

/-- WO_DESCS (R332). -/
def execWoDescs (ring : Fin 4) (wo : BitVec 512) (objs : List (BitVec 1024)) (poison : Bool) (s : State) :
    Host.Outcome State Fault Refusal := done (serveObjects 2 ring wo objs poison giveDesc s)

/-- WO_COLLECTIVES (R332). -/
def execWoCollectives (ring : Fin 4) (wo : BitVec 512) (objs : List (BitVec 512)) (poison : Bool) (s : State) :
    Host.Outcome State Fault Refusal := done (serveObjects 3 ring wo objs poison giveCol s)

/-! ### FENCE, NOP and a refused work order (R332) -/

/-- FENCE can complete: every queue and slot is empty and no collective is ACTIVE (R332). -/
def fenceMet (s : State) : Bool :=
  s.sched.queue.isEmpty && !anyPhase s && s.layout.queue.isEmpty && s.layout.slot.toList.all (·.st == .free) &&
    s.col.queue.isEmpty && s.col.run.isNone

/-- Serves a work order without objects: it ends when `met` holds. -/
def serveBare (op : Nat) (ring : Fin 4) (wo : Wo) (met : State → Bool) (s : State) : State :=
  let t := woTake ring wo 0 s
  match t.1 with
  | none => t.2
  | some k =>
    if Wo.opcode k.wo != op || !Wo.ok k.wo then s
    else if woKilled t.2 ring then endWo k 0xA0 t.2
    else if met t.2 then endWo k 0 t.2
    else setWo k t.2

/-- WO_FENCE (R332). -/
def execWoFence (ring : Fin 4) (wo : BitVec 512) (s : State) : Host.Outcome State Fault Refusal :=
  done (serveBare 4 ring wo fenceMet s)

/-- WO_NOP (R332). -/
def execWoNop (ring : Fin 4) (wo : BitVec 512) (s : State) : Host.Outcome State Fault Refusal :=
  done (serveBare 5 ring wo (fun _ => true) s)

/-- A work order the firmware refuses: malformed, or fetched with poison (R332). -/
def refuseWo (ring : Fin 4) (wo : Wo) (status : BitVec 2) (s : State) : State :=
  let t := woTake ring wo status s
  match t.1 with
  | none => t.2
  | some k =>
    if Wo.ok k.wo && status == 0 then s
    else if woKilled t.2 ring then endWo k 0xA0 t.2
    else endWo k 0x88 (report { code := 0x88 } t.2)

/-- WO_REFUSED (R332, R342). -/
def execWoRefused (ring : Fin 4) (wo : BitVec 512) (status : BitVec 2) (s : State) :
    Host.Outcome State Fault Refusal :=
  done (refuseWo ring wo status s)

/-! ### Completion (R333) -/

/-- The 16-byte completion record (R333). -/
def WoRun.record (k : WoRun) : BitVec 128 :=
  BitVec.ofNat 32 k.accepted ++ k.first ++ (0 : BitVec 24) ++ k.code ++ Wo.seq k.wo

/-- A completion record's 8 bytes at a descriptor address, as a granule with byte enables. -/
def cplGran (a : Nat) (v : W64) : BitVec 577 :=
  let k := a % 64
  (0 : BitVec 1) ++ (0xFF : BitVec 64).shiftLeft k ++ (v.setWidth 512).shiftLeft (8 * k)

/-- One aperture store of the record, from its request to its response (R239, R320, R333). -/
def cplStore (w : WinSel) (a : Nat) (v : W64) (ok : Bool) (s : State) : State :=
  let p := w.phys (a / 64 * 64)
  let port := (memPort p).toFin
  let tag := lowTag s
  let s := openAtOnce port { client := .core, write := true, len := 1, paddr := p, tag := tag, wg := [cplGran a v] } s
  let s := match writeNow s port with
    | some d => sendBeat d s
    | none => s
  respond port tag (writeAnswer port (if ok then 0 else 2)) s

/-- The window of a work order's completion record (R320, R331). -/
def cplWindow (s : State) (w : Wo) : Option WinSel :=
  if w.cpl < 2 ^ 52 && w.cpl % 16 = 0 then winSelect s true w.cpl (w.cpl + 15) else none

/-- The record's stores can go: a core tag and the port are free and no data of an earlier write is due there (R239), or
the window refuses them; else the core stalls (R320, R333). -/
def cplReady (s : State) (k : WoRun) : Bool :=
  match cplWindow s k.wo with
  | none => true
  | some w =>
    let port : Fin 8 := (memPort (w.phys (Wo.cpl k.wo / 64 * 64))).toFin
    memOn s && tagFree s .core (lowTag s) && s.mem.req[port].isNone && (writeNow s port).isNone

/-- The completion record is written: two aperture stores; a refused window or a failed write is code 0x84 (R320,
R333). -/
def writeCpl (k : WoRun) (ok : Bool) (s : State) : State :=
  let a := Wo.cpl k.wo
  match cplWindow s k.wo with
  | none => logAperture s
  | some w =>
    let s := cplStore w (a + 8) (wordOf k.record 1) ok (cplStore w a (wordOf k.record 0) true s)
    if ok then s else logAperture s

/-- The work order is complete: its record is written, TAIL advances, WO_EVENT is set for IRQ, and the firmware turns to
the next ring (R332, R333). -/
def completeWo (k : WoRun) (ok : Bool) (s : State) : State :=
  let s := modRing k.ring (fun q => { q with tail := q.tail + 1 }) (writeCpl k ok s)
  s.onCore fun c =>
    { c with wo := none, rrNext := k.ring + 1
             woEvent := if Wo.irq k.wo then c.woEvent ||| ((1 : BitVec 4) <<< k.ring.val) else c.woEvent }

/-- WO_COMPLETION (R333). -/
def execWoCompletion (ok : Bool) (s : State) : Host.Outcome State Fault Refusal :=
  done (match s.core.wo with
    | some k => onlyIf (woServes s && k.done && cplReady s k) (completeWo k ok) s
    | none => s)

end Sys2Proof.Machine
end

