-- ==== Sys2Proof/Machine/Dispatch.lean ====
section
/-! DEFINITION. Dispatch.lean: one arm per command, each a direct call of the command's meaning. -/
namespace Sys2Proof.Machine

def exec (i : Instr) (s : State) : Host.Outcome State Fault Refusal :=
  match i with
  | .vaonApplied => Sys2Proof.Machine.execVaonApplied s
  | .vaonRemoved => Sys2Proof.Machine.execVaonRemoved s
  | .arstAssert chatter => Sys2Proof.Machine.execArstAssert chatter s
  | .arstDeassert fabricId bootSrc ridgeEn => Sys2Proof.Machine.execArstDeassert fabricId bootSrc ridgeEn s
  | .mrstAssert chatter => Sys2Proof.Machine.execMrstAssert chatter s
  | .mrstDeassert => Sys2Proof.Machine.execMrstDeassert s
  | .pwrokFall chatter => Sys2Proof.Machine.execPwrokFall chatter s
  | .pwrokRise => Sys2Proof.Machine.execPwrokRise s
  | .clkSeChange level => Sys2Proof.Machine.execClkSeChange level s
  | .clockMonitorMeasure mhz => Sys2Proof.Machine.execClockMonitorMeasure mhz s
  | .bootEntry => Sys2Proof.Machine.execBootEntry s
  | .purgeComplete bad => Sys2Proof.Machine.execPurgeComplete bad s
  | .flashDiscovery r => Sys2Proof.Machine.execFlashDiscovery r s
  | .discoveryRetry => Sys2Proof.Machine.execDiscoveryRetry s
  | .slotHeadersRead h0 h1 => Sys2Proof.Machine.execSlotHeadersRead h0 h1 s
  | .sectionTableRead bytes => Sys2Proof.Machine.execSectionTableRead bytes s
  | .sectionDataReceived bytes => Sys2Proof.Machine.execSectionDataReceived bytes s
  | .slotUndoComplete => Sys2Proof.Machine.execSlotUndoComplete s
  | .bootComplete => Sys2Proof.Machine.execBootComplete s
  | .bootFifoWrite src v => Sys2Proof.Machine.execBootFifoWrite src v s
  | .bootStreamTimeout => Sys2Proof.Machine.execBootStreamTimeout s
  | .hostCmdNop src => Sys2Proof.Machine.execHostCmdNop src s
  | .hostPause src => Sys2Proof.Machine.execHostPause src s
  | .hostResume src => Sys2Proof.Machine.execHostResume src s
  | .hostKill src => Sys2Proof.Machine.execHostKill src s
  | .hostCmdReserved src raw => Sys2Proof.Machine.execHostCmdReserved src raw s
  | .killPurgeStart => Sys2Proof.Machine.execKillPurgeStart s
  | .mcmdNop src idx => Sys2Proof.Machine.execMcmdNop src idx s
  | .mcmdRead src idx => Sys2Proof.Machine.execMcmdRead src idx s
  | .mcmdWrite src idx => Sys2Proof.Machine.execMcmdWrite src idx s
  | .mcmdFree src idx => Sys2Proof.Machine.execMcmdFree src idx s
  | .mcmdSetEmpty src idx => Sys2Proof.Machine.execMcmdSetEmpty src idx s
  | .mcmdSetFull src idx => Sys2Proof.Machine.execMcmdSetFull src idx s
  | .mcmdRetire src idx => Sys2Proof.Machine.execMcmdRetire src idx s
  | .mcmdAckUe src idx => Sys2Proof.Machine.execMcmdAckUe src idx s
  | .mcmdClearPoison src idx => Sys2Proof.Machine.execMcmdClearPoison src idx s
  | .mcmdReserved src raw => Sys2Proof.Machine.execMcmdReserved src raw s
  | .rangeClearComplete idx => Sys2Proof.Machine.execRangeClearComplete idx s
  | .scrubRead bay upset => Sys2Proof.Machine.execScrubRead bay upset s
  | .scrubPassComplete => Sys2Proof.Machine.execScrubPassComplete s
  | .ceBankWrite src bank v => Sys2Proof.Machine.execCeBankWrite src bank v s
  | .bsNop src n => Sys2Proof.Machine.execBsNop src n s
  | .bsValidate src n => Sys2Proof.Machine.execBsValidate src n s
  | .bsInvalidate src n => Sys2Proof.Machine.execBsInvalidate src n s
  | .bsReserved src raw => Sys2Proof.Machine.execBsReserved src raw s
  | .braceWordWrite src n w v => Sys2Proof.Machine.execBraceWordWrite src n w v s
  | .operandRead slot stream upset parity => Sys2Proof.Machine.execOperandRead slot stream upset parity s
  | .indexRead slot stream upset parity => Sys2Proof.Machine.execIndexRead slot stream upset parity s
  | .gatherEntry slot stream => Sys2Proof.Machine.execGatherEntry slot stream s
  | .gatherRead id upset parity => Sys2Proof.Machine.execGatherRead id upset parity s
  | .issueDelivery slot bent => Sys2Proof.Machine.execIssueDelivery slot bent s
  | .braceSetSwitch slot => Sys2Proof.Machine.execBraceSetSwitch slot s
  | .operandCredit port => Sys2Proof.Machine.execOperandCredit port s
  | .drain port tag data poison parity framing => Sys2Proof.Machine.execDrain port tag data poison parity framing s
  | .cap port rec parity => Sys2Proof.Machine.execCap port rec parity s
  | .ack port rec parity => Sys2Proof.Machine.execAck port rec parity s
  | .abortRecordSend port => Sys2Proof.Machine.execAbortRecordSend port s
  | .drainNetworkEntry port => Sys2Proof.Machine.execDrainNetworkEntry port s
  | .epPresentRise port chatter => Sys2Proof.Machine.execEpPresentRise port chatter s
  | .epPresentFall port chatter => Sys2Proof.Machine.execEpPresentFall port chatter s
  | .epFaultAssert port edge => Sys2Proof.Machine.execEpFaultAssert port edge s
  | .trainingTimeout port => Sys2Proof.Machine.execTrainingTimeout port s
  | .operandStallTimeout port => Sys2Proof.Machine.execOperandStallTimeout port s
  | .drainStallTimeout port => Sys2Proof.Machine.execDrainStallTimeout port s
  | .abortAckTimeout port => Sys2Proof.Machine.execAbortAckTimeout port s
  | .portCmdNop src port => Sys2Proof.Machine.execPortCmdNop src port s
  | .portRetrain src port => Sys2Proof.Machine.execPortRetrain src port s
  | .portOffline src port => Sys2Proof.Machine.execPortOffline src port s
  | .portOnline src port => Sys2Proof.Machine.execPortOnline src port s
  | .portCmdReserved src raw => Sys2Proof.Machine.execPortCmdReserved src raw s
  | .portResetEnd port => Sys2Proof.Machine.execPortResetEnd port s
  | .sinterUpdateEnqueue source => Sys2Proof.Machine.execSinterUpdateEnqueue source s
  | .sinterRead bank upset => Sys2Proof.Machine.execSinterRead bank upset s
  | .sinterCombine bank parity => Sys2Proof.Machine.execSinterCombine bank parity s
  | .sequencerRelease slot => Sys2Proof.Machine.execSequencerRelease slot s
  | .sinterHotQueue bank run => Sys2Proof.Machine.execSinterHotQueue bank run s
  | .tallyFoldComplete n => Sys2Proof.Machine.execTallyFoldComplete n s
  | .tallyNop src n => Sys2Proof.Machine.execTallyNop src n s
  | .tallyClear src n => Sys2Proof.Machine.execTallyClear src n s
  | .tallyFold src n => Sys2Proof.Machine.execTallyFold src n s
  | .tallyCmdReserved src raw => Sys2Proof.Machine.execTallyCmdReserved src raw s
  | .sntHotWrite src v => Sys2Proof.Machine.execSntHotWrite src v s
  | .phPush rd rs1 => Sys2Proof.Machine.execPhPush rd rs1 s
  | .phStat rd rs1 => Sys2Proof.Machine.execPhStat rd rs1 s
  | .tokRead rd rs1 => Sys2Proof.Machine.execTokRead rd rs1 s
  | .phAbort rd rs1 => Sys2Proof.Machine.execPhAbort rd rs1 s
  | .schPush src raw => Sys2Proof.Machine.execSchPush src raw s
  | .recordAdmit => Sys2Proof.Machine.execRecordAdmit s
  | .admissionCheck slot => Sys2Proof.Machine.execAdmissionCheck slot s
  | .phaseWaitsSatisfied slot => Sys2Proof.Machine.execPhaseWaitsSatisfied slot s
  | .phaseStart slot => Sys2Proof.Machine.execPhaseStart slot s
  | .phaseTokenTimeout slot => Sys2Proof.Machine.execPhaseTokenTimeout slot s
  | .interiorBoundary slot => Sys2Proof.Machine.execInteriorBoundary slot s
  | .phaseFinish slot => Sys2Proof.Machine.execPhaseFinish slot s
  | .phaseAbortComplete slot => Sys2Proof.Machine.execPhaseAbortComplete slot s
  | .schNop src => Sys2Proof.Machine.execSchNop src s
  | .schAbort src ticket => Sys2Proof.Machine.execSchAbort src ticket s
  | .schAbortSlot src slot => Sys2Proof.Machine.execSchAbortSlot src slot s
  | .schFlush src => Sys2Proof.Machine.execSchFlush src s
  | .schQresume src => Sys2Proof.Machine.execSchQresume src s
  | .schCmdReserved src raw => Sys2Proof.Machine.execSchCmdReserved src raw s
  | .laySubmit src raw => Sys2Proof.Machine.execLaySubmit src raw s
  | .transferSlotEntry => Sys2Proof.Machine.execTransferSlotEntry s
  | .transferWaitsSatisfied slot => Sys2Proof.Machine.execTransferWaitsSatisfied slot s
  | .tileBufferGrant slot => Sys2Proof.Machine.execTileBufferGrant slot s
  | .transferTokenTimeout slot => Sys2Proof.Machine.execTransferTokenTimeout slot s
  | .transferComplete slot => Sys2Proof.Machine.execTransferComplete slot s
  | .transferAbortComplete slot => Sys2Proof.Machine.execTransferAbortComplete slot s
  | .layNop src => Sys2Proof.Machine.execLayNop src s
  | .layAbort src ticket => Sys2Proof.Machine.execLayAbort src ticket s
  | .layFlush src => Sys2Proof.Machine.execLayFlush src s
  | .layCmdReserved src raw => Sys2Proof.Machine.execLayCmdReserved src raw s
  | .memRequestAccept port tag => Sys2Proof.Machine.execMemRequestAccept port tag s
  | .memWriteBeat port => Sys2Proof.Machine.execMemWriteBeat port s
  | .memReadBeat port tag data status last => Sys2Proof.Machine.execMemReadBeat port tag data status last s
  | .memWriteResponse port tag status => Sys2Proof.Machine.execMemWriteResponse port tag status s
  | .memTimeout tag => Sys2Proof.Machine.execMemTimeout tag s
  | .sidePortBeat bay upset => Sys2Proof.Machine.execSidePortBeat bay upset s
  | .stagingCommit bay => Sys2Proof.Machine.execStagingCommit bay s
  | .arbitrationDecision bay pick => Sys2Proof.Machine.execArbitrationDecision bay pick s
  | .preemption bay by_ => Sys2Proof.Machine.execPreemption bay by_ s
  | .backoffExpiry bay req => Sys2Proof.Machine.execBackoffExpiry bay req s
  | .data link hdr beams bad cut => Sys2Proof.Machine.execData link hdr beams bad cut s
  | .join link hdr m => Sys2Proof.Machine.execJoin link hdr m s
  | .propose link hdr p => Sys2Proof.Machine.execPropose link hdr p s
  | .commit link hdr epoch ver table => Sys2Proof.Machine.execCommit link hdr epoch ver table s
  | .leave link hdr fid lost => Sys2Proof.Machine.execLeave link hdr fid lost s
  | .refuse link hdr fid code => Sys2Proof.Machine.execRefuse link hdr fid code s
  | .normUp link hdr value invalid => Sys2Proof.Machine.execNormUp link hdr value invalid s
  | .normResult => Sys2Proof.Machine.execNormResult s
  | .normDown link hdr value clip invalid => Sys2Proof.Machine.execNormDown link hdr value clip invalid s
  | .barUp link hdr barId => Sys2Proof.Machine.execBarUp link hdr barId s
  | .barDown link hdr barId => Sys2Proof.Machine.execBarDown link hdr barId s
  | .abort link hdr status => Sys2Proof.Machine.execAbort link hdr status s
  | .dieReport link hdr epoch table => Sys2Proof.Machine.execDieReport link hdr epoch table s
  | .crownCommit link hdr epoch ver ridges => Sys2Proof.Machine.execCrownCommit link hdr epoch ver ridges s
  | .take link hdr exch amt => Sys2Proof.Machine.execTake link hdr exch amt s
  | .taken link hdr exch amt effCap power => Sys2Proof.Machine.execTaken link hdr exch amt effCap power s
  | .give link hdr exch amt => Sys2Proof.Machine.execGive link hdr exch amt s
  | .given link hdr exch amt effCap power => Sys2Proof.Machine.execGiven link hdr exch amt effCap power s
  | .reservedPacket link p bad => Sys2Proof.Machine.execReservedPacket link p bad s
  | .linkCreditReturn link control => Sys2Proof.Machine.execLinkCreditReturn link control s
  | .bypassForward link hdr p => Sys2Proof.Machine.execBypassForward link hdr p s
  | .joinRetry => Sys2Proof.Machine.execJoinRetry s
  | .joinCommitTimeout => Sys2Proof.Machine.execJoinCommitTimeout s
  | .epochPropose => Sys2Proof.Machine.execEpochPropose s
  | .colNop src => Sys2Proof.Machine.execColNop src s
  | .colSubmit src => Sys2Proof.Machine.execColSubmit src s
  | .colAbort src ticket => Sys2Proof.Machine.execColAbort src ticket s
  | .colFlush src => Sys2Proof.Machine.execColFlush src s
  | .colJoin src => Sys2Proof.Machine.execColJoin src s
  | .colLeave src => Sys2Proof.Machine.execColLeave src s
  | .colCmdReserved src raw => Sys2Proof.Machine.execColCmdReserved src raw s
  | .hierCfgWrite src v => Sys2Proof.Machine.execHierCfgWrite src v s
  | .collectiveStart => Sys2Proof.Machine.execCollectiveStart s
  | .collectivePacketSend ccw upset => Sys2Proof.Machine.execCollectivePacketSend ccw upset s
  | .collectiveComplete => Sys2Proof.Machine.execCollectiveComplete s
  | .collectiveTokenTimeout => Sys2Proof.Machine.execCollectiveTokenTimeout s
  | .progressTimeout => Sys2Proof.Machine.execProgressTimeout s
  | .governorEvaluation act => Sys2Proof.Machine.execGovernorEvaluation act s
  | .perfAckFall chatter => Sys2Proof.Machine.execPerfAckFall chatter s
  | .perfAckRise chatter => Sys2Proof.Machine.execPerfAckRise chatter s
  | .perfAckFallTimeout => Sys2Proof.Machine.execPerfAckFallTimeout s
  | .perfAckRiseTimeout => Sys2Proof.Machine.execPerfAckRiseTimeout s
  | .sensorRefresh t0 t1 t2 t3 => Sys2Proof.Machine.execSensorRefresh t0 t1 t2 t3 s
  | .thermInAssert n chatter => Sys2Proof.Machine.execThermInAssert n chatter s
  | .thermInRelease n chatter => Sys2Proof.Machine.execThermInRelease n chatter s
  | .droopAssert chatter => Sys2Proof.Machine.execDroopAssert chatter s
  | .droopRelease chatter => Sys2Proof.Machine.execDroopRelease chatter s
  | .inputStuckTimeout which => Sys2Proof.Machine.execInputStuckTimeout which s
  | .quenchAssert chatter => Sys2Proof.Machine.execQuenchAssert chatter s
  | .quenchRelease chatter => Sys2Proof.Machine.execQuenchRelease chatter s
  | .quenchLatch => Sys2Proof.Machine.execQuenchLatch s
  | .instanceCold => Sys2Proof.Machine.execInstanceCold s
  | .staggerEnd => Sys2Proof.Machine.execStaggerEnd s
  | .rampStep => Sys2Proof.Machine.execRampStep s
  | .hintExpiry => Sys2Proof.Machine.execHintExpiry s
  | .trimEvaluation slacks => Sys2Proof.Machine.execTrimEvaluation slacks s
  | .pathMonitorZero reading => Sys2Proof.Machine.execPathMonitorZero reading s
  | .coreInstruction upset => Sys2Proof.Machine.execCoreInstruction upset s
  | .coreException cause tval => Sys2Proof.Machine.execCoreException cause tval s
  | .coreInterrupt => Sys2Proof.Machine.execCoreInterrupt s
  | .mret => Sys2Proof.Machine.execMret s
  | .wfi => Sys2Proof.Machine.execWfi s
  | .fence => Sys2Proof.Machine.execFence s
  | .registerPathLoad rd rs1 imm rvc => Sys2Proof.Machine.execRegisterPathLoad rd rs1 imm rvc s
  | .registerPathStore rs1 rs2 imm rvc => Sys2Proof.Machine.execRegisterPathStore rs1 rs2 imm rvc s
  | .apertureLoad rd rs1 imm rvc tag => Sys2Proof.Machine.execApertureLoad rd rs1 imm rvc tag s
  | .apertureStore rs1 rs2 imm rvc tag => Sys2Proof.Machine.execApertureStore rs1 rs2 imm rvc tag s
  | .watchdogExpiry => Sys2Proof.Machine.execWatchdogExpiry s
  | .wdogKick src v => Sys2Proof.Machine.execWdogKick src v s
  | .moveTcmToTrf src raw => Sys2Proof.Machine.execMoveTcmToTrf src raw s
  | .moveTrfToTcm src raw => Sys2Proof.Machine.execMoveTrfToTcm src raw s
  | .moveMemToTcm src raw => Sys2Proof.Machine.execMoveMemToTcm src raw s
  | .moveTcmToMem src raw => Sys2Proof.Machine.execMoveTcmToMem src raw s
  | .moveComplete => Sys2Proof.Machine.execMoveComplete s
  | .hostClaim src => Sys2Proof.Machine.execHostClaim src s
  | .hostRelease src => Sys2Proof.Machine.execHostRelease src s
  | .registerWrite src off v => Sys2Proof.Machine.execRegisterWrite src off v s
  | .shadowRegisterWrite src off v => Sys2Proof.Machine.execShadowRegisterWrite src off v s
  | .ringConfigWrite src r v => Sys2Proof.Machine.execRingConfigWrite src r v s
  | .doorbell src r v => Sys2Proof.Machine.execDoorbell src r v s
  | .woRecords ring wo objs poison => Sys2Proof.Machine.execWoRecords ring wo objs poison s
  | .woDescs ring wo objs poison => Sys2Proof.Machine.execWoDescs ring wo objs poison s
  | .woCollectives ring wo objs poison => Sys2Proof.Machine.execWoCollectives ring wo objs poison s
  | .woFence ring wo => Sys2Proof.Machine.execWoFence ring wo s
  | .woNop ring wo => Sys2Proof.Machine.execWoNop ring wo s
  | .woRefused ring wo status => Sys2Proof.Machine.execWoRefused ring wo status s
  | .woCompletion ok => Sys2Proof.Machine.execWoCompletion ok s
  | .setAddr addr pec => Sys2Proof.Machine.execSetAddr addr pec s
  | .write64 v pec => Sys2Proof.Machine.execWrite64 v pec s
  | .read64 pec => Sys2Proof.Machine.execRead64 pec s
  | .status pec => Sys2Proof.Machine.execStatus pec s
  | .mboxPut bytes pec => Sys2Proof.Machine.execMboxPut bytes pec s
  | .mboxGet ends => Sys2Proof.Machine.execMboxGet ends s
  | .ventReservedCommand call => Sys2Proof.Machine.execVentReservedCommand call s
  | .alertResponse wins => Sys2Proof.Machine.execAlertResponse wins s
  | .smbusClockLowTimeout => Sys2Proof.Machine.execSmbusClockLowTimeout s
  | .inDone src => Sys2Proof.Machine.execInDone src s
  | .outPost src len => Sys2Proof.Machine.execOutPost src len s
  | .cfgNop src => Sys2Proof.Machine.execCfgNop src s
  | .raise src => Sys2Proof.Machine.execRaise src s
  | .force src => Sys2Proof.Machine.execForce src s
  | .cancel src => Sys2Proof.Machine.execCancel src s
  | .sync src => Sys2Proof.Machine.execSync src s
  | .cfgRaiseReserved src raw => Sys2Proof.Machine.execCfgRaiseReserved src raw s
  | .raiseApply => Sys2Proof.Machine.execRaiseApply s
  | .errNop src => Sys2Proof.Machine.execErrNop src s
  | .pop src => Sys2Proof.Machine.execPop src s
  | .clear src => Sys2Proof.Machine.execClear src s
  | .errCmdReserved src raw => Sys2Proof.Machine.execErrCmdReserved src raw s
  | .dbgNop src => Sys2Proof.Machine.execDbgNop src s
  | .dataRead src mort ofs => Sys2Proof.Machine.execDataRead src mort ofs s
  | .raw src beam => Sys2Proof.Machine.execRaw src beam s
  | .dbgCmdReserved src raw => Sys2Proof.Machine.execDbgCmdReserved src raw s
  | .debugReadComplete upset => Sys2Proof.Machine.execDebugReadComplete upset s
  | .dftModeAssert => Sys2Proof.Machine.execDftModeAssert s
  | .dftModeDeassert => Sys2Proof.Machine.execDftModeDeassert s
  | .bondTest iface sense => Sys2Proof.Machine.execBondTest iface sense s
  | .mbistRun sel fails => Sys2Proof.Machine.execMbistRun sel fails s
  | .mbistResult => Sys2Proof.Machine.execMbistResult s
  | .mtaRead beam => Sys2Proof.Machine.execMtaRead beam s
  | .monRead => Sys2Proof.Machine.execMonRead s
  | .pwrTest result => Sys2Proof.Machine.execPwrTest result s
  | .tapBypass op => Sys2Proof.Machine.execTapBypass op s
  | .rootclkStop => Sys2Proof.Machine.execRootclkStop s
  | .railFallBeforePwrok => Sys2Proof.Machine.execRailFallBeforePwrok s
  | .reservedDrainKind port => Sys2Proof.Machine.execReservedDrainKind port s
  | .budgetReservedSub link hdr sub => Sys2Proof.Machine.execBudgetReservedSub link hdr sub s
  | .proposalUnanswered => Sys2Proof.Machine.execProposalUnanswered s

end Sys2Proof.Machine
end

