-- ==== Sys2Proof/Machine/Tick.lean ====
section
/-!
DEFINITION. Tick.lean: one BCLK in which no command waits: what counts with the clock (assumption 2).
-/
namespace Sys2Proof.Machine

/-! ### The always-on branch (R21, R344) -/

/-- GOV_QUENCH.QUIET counts ACLK, 16 BCLK each, while filtered QUENCH_N is high (R310). -/
def tickQuiet (s : State) : State :=
  if s.aon.quenchN && s.time.root % 16 = 0 then s.onAon fun a => { a with qQuiet := satAdd a.qQuiet 1 } else s

/-- The always-on BCLK branch. -/
def tickRoot (s : State) : State := tickQuiet { s with time := { s.time with root := s.time.root + 1 } }

/-! ### The main domain -/

/-- The BCLK stamp, the length of BOOT, and mcycle, which counts CCLK, two BCLK each (R12, R21, R317). -/
def tickStamp (s : State) : State :=
  let s := { s with time := { s.time with
               bclk := s.time.bclk + 1
               bootBclk := if s.aon.st == .boot then s.time.bootBclk + 1 else s.time.bootBclk } }
  if bitAt s.time.bclk 0 then s else s.onCore fun c => { c with mcycle := c.mcycle + 1 }

/-- A CCLK in which the control core does not wait for an interrupt is an event; every eighth BCLK closes a sub-period of
the counts (R284, R285). -/
def tickEvents (s : State) : State :=
  let s := if bitAt s.time.bclk 0 || s.core.run == .wfi then s else govEvent 13 1 s
  if field s.time.bclk 0 3 != 0 then s
  else
    (s.onGov fun g => { g with subs := (g.cur :: g.subs).take 14400, cur := [] }).onSched fun c =>
      { c with slot := c.slot.map fun p => { p with vsubs := (p.veng :: p.vsubs).take 14400, veng := [] } }

/-- The commands taken in a CCLK are done at its end: every BUSY clears (R81, R108, R329, R363; assumption 12). -/
def tickBusy (s : State) : State :=
  if bitAt s.time.bclk 0 then s
  else
    { s with
      trf := { s.trf with mbusy := false }
      truss := { s.truss with busy := false }
      ports := { s.ports with busy := false }
      sched := { s.sched with cmdBusy := false, pushBusy := false }
      layout := { s.layout with subBusy := false, cmdBusy := false }
      col := { s.col with cmdBusy := false }
      core := { s.core with cmdBusy := false }
      cfg := { s.cfg with busy := false } }

/-- The watchdog counts CCLK outside BOOT and FAULT; at PERIOD, in units of 1,024, code 0x83 is fatal (R322). -/
def tickWdog (s : State) : State :=
  if bitAt s.time.bclk 0 || s.aon.st == .boot || s.aon.st == .fault || s.core.period == 0 then s
  else
    let s := s.onCore fun c => { c with wdog := c.wdog + 1 }
    if !s.core.wdogOut && 1024 * s.core.period.toNat ≤ s.core.wdog then wdogFire s else s

/-- Opening waits are counted in RUN, of phases, transfers and the head of the collective queue (R86, R188, R226,
R271). -/
def tickWaits (s : State) : State :=
  if s.aon.st != .run then s
  else
    let n := countTrue s.sched.slot.toList (·.st == .wait)
    let s := countSch 4 n (s.onSched fun c =>
      { c with slot := c.slot.map fun p => if p.st == .wait then { p with waitBclk := satAdd p.waitBclk 1 } else p })
    let s := s.onLayout fun l =>
      { l with slot := l.slot.map fun p => if p.st == .wait then { p with waitBclk := satAdd p.waitBclk 1 } else p }
    if s.col.run.isNone && !s.col.queue.isEmpty then s.onCol fun c => { c with headWait := satAdd c.headWait 1 } else s

/-- Phases in ISSUE count their BCLK, those held there by PAUSE too (R199, R296); the head record waits for a free slot
(SCH_COUNT). -/
def tickSched (s : State) : State :=
  let s := s.onSched fun c =>
    { c with slot := c.slot.map fun p => if p.st == .issue then { p with issueBclk := p.issueBclk + 1 } else p }
  if unitsOn s && !s.sched.queue.isEmpty && (freeSlot s).isNone then countSch 7 1 s else s

/-- The sequencer holds the oldest beam of a port's buffer although it is ready (R166, R168). -/
def seqHoldsPort (s : State) (e : Fin 16) : Bool :=
  match s.ports.port[e].buf with
  | b :: _ => windowHolds s e b && (portUpdates s e b).isSome
  | [] => false

/-- The sequencer holds the oldest beam of a loop-back path although it is ready (R166, R168). -/
def seqHoldsLoop (s : State) (n : Fin 4) : Bool :=
  let p := s.sched.slot[n]
  match p.streams, p.bents with
  | [st], [bt] =>
    (match st.side, st.fifo with
     | .loop, b :: _ =>
       p.sequenced && b.wait.isNone && s.sinter.seqNext + 2048 ≤ bt.steps - st.fifo.length &&
         (loopUpdates s p n (bt.steps - st.fifo.length) b).isSome
     | _, _ => false)
  | _, _ => false

/-- The sequencer holds a beam that is ready at its source (R168). -/
def seqHolds (s : State) : Bool := (List.finRange 16).any (seqHoldsPort s) || (List.finRange 4).any (seqHoldsLoop s)

/-- Full sinter queues, a beam the sequencer holds, full drain buffers (R168, SNT_COUNT, PORT_COUNT). -/
def tickQueues (s : State) : State :=
  let full := countTrue s.sinter.queue fun q => q.2.length = 8
  let held := if seqHolds s then 1 else 0
  let s := s.onSinter fun k => { k with count := bump (bump k.count 3 full) 8 held }
  s.onPorts fun t => { t with port := t.port.map fun q =>
    if q.buf.length = 32 then { q with count := bump q.count 4 1 } else q }

/-- Memory requests, beats and commits, and ring outputs that wait (MEM_COUNT, ARB_COUNT, COL_COUNT); the ports present
their next requests (R236), the owners of the bays their next beats (R246), and each output sends a flit and takes up what
its credits allow (R254). -/
def tickPaths (s : State) : State :=
  let m := countTrue (List.finRange 8) (reqValid s)
  let b := countTrue s.arb.bay.toList fun y => y.owner.isSome || !y.bufs.isEmpty
  let l := countTrue s.aon.link.toList fun k => !k.txq.isEmpty
  let s := foldOver (List.finRange 8) (presentNext lowTag) (countMem 9 m s)
  let s := s.onArb fun a => { a with count := bump a.count 3 b }
  let s := foldOver (List.finRange 32) presentBeat s
  let s := s.onCol fun c => { c with count := bump c.count 7 l }
  let s := s.onAon fun a => { a with link := a.link.map fun k => { k with sending := k.sending - 1 } }
  foldOver (List.finRange 3) drainLink s

/-- The quench ramp-down falls with the clock, and the reasons that bind are counted (R308, R315). -/
def tickGov (s : State) : State :=
  let s := if s.aon.qState == .ramp then lowerCeilings (s.onGov fun g => { g with qT := g.qT + 1 }) else s
  let on := bindingNow s
  s.onGov fun g =>
    { g with rdur := (List.range 9).foldl (fun m n => if bitAt on n then m.modify 0 n (satAdd · 1) else m) g.rdur }

/-- One BCLK of the main domain; in FAULT only its stamp runs on (R376). -/
def tickMain (s : State) : State :=
  let s := tickWdog (tickBusy (tickStamp s))
  if unitsOn s then tickGov (tickEvents (tickPaths (tickQueues (tickSched (tickWaits s))))) else s

/-- One BCLK (assumption 2). -/
def tick (s : State) : State :=
  if !aonOn s then s
  else
    let s := tickRoot s
    if mainOn s then tickMain s else s

/-- The step on an empty queue. -/
def execIdle (s : State) : Host.Outcome State Fault Refusal := doneGov (tick s)

end Sys2Proof.Machine
end

