-- ==== Sys2Proof/Machine/Step.lean ====
section
/-!
DEFINITION. Step.lean: one step of the block takes the command at the front of the queue; with none waiting one BCLK
passes (assumption 2).
-/
namespace Sys2Proof.Machine

/-- One step: the command at the front of the queue, on the state with the queue's rest; an empty queue lets one BCLK
pass (assumption 2). -/
def step (s : State) : Host.Outcome State Fault Refusal :=
  match s.pending with
  | [] => execIdle s
  | c :: cs => exec c { s with pending := cs }

/-- The state with the command a table word spells put at the front of its queue; unchanged where the word spells
none. -/
def State.withFetchWord (s : State) (nbits w : Nat) : State :=
  match decodeTableWord nbits w with
  | some c => { s with pending := c :: s.pending }
  | none => s

end Sys2Proof.Machine
end

