-- ==== Sys2Proof/Machine/Pins.lean ====
section
/-!
DEFINITION. Pins.lean: the levels of the macro's outputs (R398 to R403): what each unit gives to its own, through the
isolation cells, and any level where the spec leaves them so (R348, R395).
-/
namespace Sys2Proof.Machine

/-! ### Main-domain outputs -/

/-- Mm_REQ_VALID, WRITE, ADDR, LEN and TAG, from the highest bit down (R235). -/
def memReqPins (s : State) (port : Fin 8) : BitVec 68 :=
  let o := s.mem.out.get {} port.val
  outLevel (.memReq port) s (flagBits 1 (reqValid s port) ++ flagBits 1 o.reqWrite ++ o.reqAddr ++ o.reqLen ++ o.reqTag)

/-- Mm_WD_VALID, DATA, BE, POISON and LAST, from the highest bit down (R235). -/
def memDataPins (s : State) (port : Fin 8) : BitVec 2307 :=
  let o := wdOut s port
  outLevel (.memData port) s
    (flagBits 1 (wdValid s port) ++ o.wdData ++ o.wdBe ++ flagBits 1 o.wdPoison ++ flagBits 1 o.wdLast)

/-- Ep_RST_N: high in TRAINING and AGREED alone (R141, R403). -/
def engResetPin (s : State) (e : Fin 16) : BitVec 1 :=
  let st := (portAt s e).st
  outLevel (.engReset e) s (flagBits 1 (st == .training || st == .agreed))

/-- A record of the operand channel as the signals of R125 carry it, in the order of its table. -/
def OpRec.word (r : OpRec) : BitVec 8820 :=
  r.kind ++ r.a ++ r.b ++ r.apar ++ r.bpar ++ r.afmt ++ r.bfmt ++ flagBits 1 r.aPoison ++ flagBits 1 r.bPoison ++
    r.ascale ++ r.bscale ++ r.ctl

/-- The operand channel of a port: the record it last drove, else idle, zeros (R125, R141, R403). -/
def engOpsPins (s : State) (e : Fin 16) : BitVec 8820 :=
  outLevel (.engOps e) s (((portAt s e).out.map OpRec.word).getD 0)

/-- HP_RSP_STATUS and HP_RSP_DATA of the last answer (R325, R403). -/
def hostPins (s : State) : BitVec 66 := outLevel .host s s.aon.hpRsp

/-- OCLK_O and HP_CLK run, as they do outside RESET and OFF; held low they do not (R400, R403). -/
def portClocksRun (s : State) : Bool := mainOn s && s.aon.drive == .normal

/-! ### The ring outputs -/

/-- X_OUT_DATA while an output half presents a flit (R254, R348, R403). -/
def ringPins (s : State) (l : Fin 3) (flit : BitVec 1024) : BitVec 1024 := linkLevel (.ring l) s flit

/-! ### Always-on outputs (R399) -/

/-- SMBALERT_PD: high while SMBALERT_N is asserted (R399). -/
def smbAlertPin (s : State) : BitVec 1 := aonLevel .smbus s (flagBits 1 s.aon.smbalert)

/-- PERF_REQ (R292, R399). -/
def perfReqPins (s : State) : BitVec 4 := aonLevel .perf s s.aon.perfReq

/-- The bits that the last instruction shifted out on TDO, oldest first (R405, R406). -/
def tdoBits (s : State) : List Bool :=
  if s.dbg.shifted.isEmpty then s.dbg.tdo else s.dbg.shifted.flatMap fun b => (List.range 8).map (bitAt b)

/-- TDO after the last of them (R405). -/
def tdoPin (s : State) : BitVec 1 := aonLevel .tdo s (flagBits 1 (((tdoBits s).getLast?).getD false))

end Sys2Proof.Machine
end

