-- ==== Sys2Proof/Safety.lean ====
section
/-!
DEFINITION. Safety.lean: the words claims are made in: what a step may leave behind, which parts of the state a command
touches, when a command completes, and what a safe run is.
-/
namespace Sys2Proof.Machine

/-- The parts of the state, one for each unit. -/
inductive Part where
  | log | cfg | trf | truss | ports | sinter | sched | layout | mem | arb | col | gov | core | dbg | aon | time
  deriving DecidableEq, Repr

/-- Two states agree in a part. -/
def SamePart (s t : State) : Part → Prop
  | .log => t.log = s.log
  | .cfg => t.cfg = s.cfg
  | .trf => t.trf = s.trf
  | .truss => t.truss = s.truss
  | .ports => t.ports = s.ports
  | .sinter => t.sinter = s.sinter
  | .sched => t.sched = s.sched
  | .layout => t.layout = s.layout
  | .mem => t.mem = s.mem
  | .arb => t.arb = s.arb
  | .col => t.col = s.col
  | .gov => t.gov = s.gov
  | .core => t.core = s.core
  | .dbg => t.dbg = s.dbg
  | .aon => t.aon = s.aon
  | .time => t.time = s.time

/-- From s to t nothing changes outside the parts listed; the queue of waiting commands is no part and never changes. -/
def OnlyIn (ps : List Part) (s t : State) : Prop := t.pending = s.pending ∧ ∀ p, p ∉ ps → SamePart s t p

/-- A command answers a next state of which `post` holds. -/
def Completes (c : Instr) (s : State) (post : State → Prop) : Prop := ∃ t, exec c s = .next t ∧ post t

/-- Nothing raised within a step is left over: no code on its way to the log and no fatal error to act on. -/
def Quiet (s : State) : Prop := s.log.raised = [] ∧ s.aon.fatalDue = false

/-- READY holds no phase, and RUN something to run (R23). -/
def StateFits (s : State) : Prop :=
  (s.aon.st = .ready → anyPhase s = false) ∧
    (s.aon.st = .run → anyPhase s = true ∨ s.sched.queue ≠ [] ∨ drainsDone s = false)

/-- WFI does not outlast an enabled external interrupt (R317). -/
def WakesOnTime (s : State) : Prop := s.core.run = .wfi → ¬ (meip s = true ∧ bitAt s.core.mie 11 = true)

/-- What every step leaves: nothing raised, a block state that fits what the units hold, and no core asleep over an
interrupt. -/
def Settled (s : State) : Prop := Quiet s ∧ StateFits s ∧ WakesOnTime s

/-- The sparse tables of the tile register file, all nine of them, are in their canonical form. -/
def TrfCanonical (s : State) : Prop :=
  s.trf.beams.wf 0 = true ∧ s.trf.errs.wf {} = true ∧ s.trf.mort.wf {} = true ∧ s.trf.ceBank.wf 0 = true ∧
    s.trf.lastSym.wf 0xFF = true ∧ s.trf.ceLogged.wf false = true ∧ s.trf.scrubPos.wf 0 = true ∧
    s.trf.symHits.wf 0 = true ∧ s.trf.clearAt.wf 0 = true

/-- The error log holds at most its 64 entries (R369). -/
def LogFits (s : State) : Prop := s.log.entries.length ≤ 64

/-- A safe run: n commands from s all answer, and none leads to FAULT (R24). -/
def SafeRun : Nat → State → Prop
  | 0, s => s.aon.st ≠ .fault
  | n + 1, s => s.aon.st ≠ .fault ∧ ∃ t, step s = .next t ∧ SafeRun n t

/-- The initiator's write reaches a main-domain register of an owner class: the firmware runs, no other host's claim
keeps the host out, the vent port's domain is up, and the owner class admits the initiator (R15, R22, R319, R327,
R338). -/
def Writes (src : Src) (o : Owner) (s : State) : Prop :=
  match src with
  | .firmware => o ≠ .vent ∧ mainOn s = true ∧ s.core.run ≠ .halted
  | .host id => o ≠ .vent ∧ mainOn s = true ∧ s.aon.st ≠ .boot ∧ (s.core.owned = false ∨ s.core.ownerId = id)
  | .vent => o ≠ .host ∧ aonOn s = true ∧ mainOn s = true

/-- The state that the effect of a write starts from: its access is answered OK, and ends its source's episode of dropped
writes unless the register's unit drops it (R328). -/
def answered (src : Src) (off : Nat) (drops : Bool) (s : State) : State :=
  if drops then answer src .ok 0 s else accept src off s

/-- The registers whose RW fields take any value written to them and keep it: those of the window but brace words, HIER_CFG,
MBOX_CTL, ARB_CFG, the ceilings of the governor, the ring configurations and GOV_PROFILE, whose writes are checked, and ERR_MASK, whose
bits of Fatal codes read zero (R13). -/
def plainReg (off : Nat) : Bool :=
  let o := localOff off
  (regInfo off).any (fun i => i.rw != 0) &&
    match subWindow off with
    | 0x3 => o < 0x4000
    | 0x8 => !(0x1000 ≤ o && o < 0x1100)
    | 0x9 => o != 0x10
    | 0xA => !isProfile o && !govBad o 0x7F7F7F7F7F7F7F7F
    | 0xB => o < 0x100
    | 0xC => o != 0x20
    | 0xD => o = 0x10
    | _ => true

/-- The part of the state that the plain registers of a sub-window stand in; those of the configuration set stand in its
shadow. -/
def regPart (off : Nat) : Part :=
  if isShadow off then .cfg
  else
    match subWindow off with
    | 0x2 => .trf
    | 0x3 => .truss
    | 0x4 => .ports
    | 0x5 => .sinter
    | 0x6 => .sched
    | 0x7 => .layout
    | 0x8 => if 0x200 ≤ localOff off then .arb else .mem
    | 0x9 => .col
    | 0xA => .gov
    | 0xB => .core
    | 0xC => .aon
    | _ => .log

/-- A mortise command that is refused with a code: the log has its report, MCMD_STATUS the code, and no entry has changed
(R78, R100). -/
def MortiseRefused (src : Src) (i : BitVec 10) (code : BitVec 8) (s t : State) : Prop :=
  t = settle ((mcmdRefuse code i (accept src 0x20110 s)).onTrf fun r => { r with mbusy := true }) ∧ t.trf.code = code ∧
    ∀ j, mortAt t j = mortAt s j

/-- A mortise command that is not refused: code 0, the entries of the pair changed by f, and nothing else but the
answer of the access (R78). -/
def MortiseDone (src : Src) (i : BitVec 10) (f : Mortise → Mortise) (s t : State) : Prop :=
  t = (accept src 0x20110 s).onTrf (fun r => { r with code := 0, mbusy := true, mort := t.trf.mort }) ∧
    (∀ j ∈ pairOf s i, mortAt t j = f (mortAt s j)) ∧ ∀ j, j ∉ pairOf s i → mortAt t j = mortAt s j

end Sys2Proof.Machine
end

