-- ==== Sys2Proof/Certificates/Slice0/Obligations.lean ====
section
/-!
DEFINITION. Obligations.lean: the statements for the provers, family by family. A statement that rests on the model's
own choice says so and names the log entry.
-/
open Sys2Proof Sys2Proof.Machine

/-- Step with a command at the front of the queue is exec of that command on the state with the queue's rest. -/
def Obligations.StepRunsTheFrontCommand : Prop :=
  ∀ (c : Instr) (cs : List Instr) (s : State), s.pending = c :: cs → step s = exec c { s with pending := cs }

/-- With no command waiting a step is one BCLK: the block's clock counts on, and the main domain's where it runs, in
which the commands taken in a CCLK are done at its end (R21, R81; what a step on an empty queue is: assumption 2;
BUSY until the next CCLK edge: assumption 12). -/
def Obligations.EmptyQueueTicks : Prop :=
  ∀ s : State, s.pending = [] →
    (aonOn s = true → ∃ t, step s = .next t ∧ t.pending = [] ∧ t.time.root = s.time.root + 1 ∧
      t.time.bclk = (if mainOn s then s.time.bclk + 1 else s.time.bclk) ∧ t.trf.beams = s.trf.beams ∧
      t.sched.queue = s.sched.queue ∧ t.layout.queue = s.layout.queue ∧
      (mainOn s = true → bitAt (s.time.bclk + 1) 0 = false → t.trf.mbusy = false ∧ t.truss.busy = false ∧
        t.ports.busy = false ∧ t.sched.cmdBusy = false ∧ t.sched.pushBusy = false ∧ t.layout.subBusy = false ∧
        t.layout.cmdBusy = false ∧ t.col.cmdBusy = false ∧ t.core.cmdBusy = false ∧ t.cfg.busy = false)) ∧
    (aonOn s = false → ∃ t, step s = .next t ∧ t.pending = [] ∧ t.time = s.time)

/-- Every step answers a next state, and a settled one: no code is left unlogged and no fatal error unacted on, READY
holds no phase and RUN something to run, and no core sleeps over its interrupt (R23, R24, R317, R371). -/
def Obligations.EveryStepSettles : Prop :=
  ∀ s : State, ∃ t, step s = .next t ∧ Settled t

/-- The state after reset is settled, its tables canonical, its log empty, its queue of commands empty. What
registers of each unit read after reset (R3, R16). -/
def Obligations.ResetIsSettledAndReadsItsValues : Prop :=
  (Settled State.reset ∧ TrfCanonical State.reset ∧ LogFits State.reset ∧ State.reset.pending = [] ∧
    State.reset.aon.st = .reset ∧ ∀ i, (mortAt State.reset i).st = .invalid) ∧
  ((∀ p ∈ ([(0x000000, 0x0A7E05D002000000), (0x010000, 1), (0x010008, 0x30), (0x020000, 0x0000032002000800),
      (0x020020, 0x100), (0x020030, 0x001B7740), (0x030000, 0x0000401004004008), (0x040008, 0x0100000080000400),
      (0x050008, 0x1000), (0x050010, 0x3F800000), (0x060000, 0x00000008060C0440), (0x070000, 0x0000010020080400),
      (0x080008, 0x0036EE80), (0x090018, 0x001B7740), (0x090020, 0x80), (0x0A0018, 0x40), (0x0B0050, 0x100),
      (0x0C0018, 0x0C), (0x0D0000, 0), (0x0E1000, 0x0000043000011800)] : List (Nat × BitVec 64)),
    regRead p.1 State.reset = p.2) ∧
  (∀ n : Fin 512, regRead (0x021000 + 8 * n.val) State.reset = 0x0000FF0000000000) ∧
  (∀ e : Fin 16, regRead (0x040100 + 8 * e.val) State.reset = 1) ∧
  ∀ b : Fin 17, regRead (0x0A0700 + 8 * b.val) State.reset = 0x0F400040)

/-- The hash is one-to-one: the beam at a bank and line lies there, and no other (R65). -/
def Obligations.TheBeamMapIsOneToOne : Prop :=
  (∀ (bank : BitVec 9) (line : BitVec 11),
    (beamAt bank line).extractLsb' 9 11 = line ∧ (beamAt bank line).extractLsb' 0 9 = bank ^^^ line.extractLsb' 0 9 ∧
      bankOf (beamAt bank line) = bank ∧ lineOf (beamAt bank line) = line) ∧
  ∀ b c : BitVec 20, beamAt (bankOf b) (lineOf b) = b ∧ (bankOf b = bankOf c → lineOf b = lineOf c → b = c)

/-- NOP and READ of the mortise table, and a mortise command while BUSY, which is dropped with LOST (R78, R81; BUSY
until the next CCLK edge: assumption 12). The mortise commands that change a pair: what they write, and that nothing
else changes (R78, R83, R84, R92, R99); that FREE keeps the entry's other fields is assumption 32's, and what counts
as a reference assumption 13's; UE_PEND of a twin is either half's, assumption 48. WRITE registers an entry, and its
partner where it makes a twin (R79, R83). -/
def Obligations.MortiseCommandsTakeEffect : Prop :=
  (∀ (src : Src) (i : BitVec 10) (s : State), Settled s → Writes src .host s →
    let taken := accept src 0x20110 s
    (s.trf.mbusy = false →
      exec (.mcmdNop src i) s = .next (taken.onTrf fun t => { t with code := 0, mbusy := true }) ∧
      exec (.mcmdRead src i) s = .next (taken.onTrf fun t =>
        { t with code := 0, mbusy := true, w0 := (mortAt s i).w0, w1 := mortW1 s i, refs := satNat 12 (mortRefs s i) })) ∧
    (s.trf.mbusy = true → ∀ c ∈ [Instr.mcmdNop src i, .mcmdRead src i, .mcmdWrite src i, .mcmdFree src i, .mcmdSetEmpty src i,
      .mcmdSetFull src i, .mcmdRetire src i, .mcmdAckUe src i, .mcmdClearPoison src i],
      exec c s = .next ((answer src .ok 0 s).onTrf fun t => { t with mlost := true }))) ∧
  (∀ (src : Src) (i : BitVec 10) (s : State), Settled s → Writes src .host s → s.trf.mbusy = false →
    (mortAt s i).valid = true →
    (pairRefd s i = false → Completes (.mcmdFree src i) s (MortiseDone src i
      (fun e => { e with st := .invalid, poison := false, uePend := false, poisonSeq := none }) s)) ∧
    (pairRefd s i = false → Completes (.mcmdSetEmpty src i) s (MortiseDone src i (fun e =>
      { e with pleft := e.pcount, cleft := e.ccount, st := if e.clear then .clearing else .empty,
               poison := e.poison && !e.clear, poisonSeq := if e.clear then none else e.poisonSeq }) s)) ∧
    ((∀ j ∈ pairOf s i, mortRefs s j = 0 ∧ (mortAt s j).st ≠ .clearing) →
      Completes (.mcmdSetFull src i) s (MortiseDone src i
        (fun e => { e with st := .full, pleft := 0, cleft := e.ccount }) s)) ∧
    (mortRefs s i = 0 → (mortAt s i).twinV = false →
      Completes (.mcmdRetire src i) s (MortiseDone src i (fun e => { e with st := .retired }) s)) ∧
    Completes (.mcmdAckUe src i) s (MortiseDone src i (fun e => { e with uePend := false }) s) ∧
    (pairRefd s i = false → pairUe s i = false → Completes (.mcmdClearPoison src i) s
      (MortiseDone src i (fun e => { e with poison := false, poisonSeq := none }) s))) ∧
  (∀ (src : Src) (i : BitVec 10) (s : State), Settled s → Writes src .host s → s.trf.mbusy = false →
    writeCheck s i (newEntry s.trf.w0 s.trf.w1) = 0 →
    Completes (.mcmdWrite src i) s fun t =>
      t = (accept src 0x20110 s).onTrf (fun r => { r with code := 0, mbusy := true, mort := t.trf.mort }) ∧
      mortAt t i = newEntry s.trf.w0 s.trf.w1 ∧
      (bitAt s.trf.w0 58 = true → mortAt t (field s.trf.w0 48 10) =
        { mortAt s (field s.trf.w0 48 10) with twin := i, twinV := true }) ∧
      ∀ j, j ≠ i → (bitAt s.trf.w0 58 = false ∨ j ≠ field s.trf.w0 48 10) → mortAt t j = mortAt s j)

/-- A refused mortise command reports its code and changes no entry, for every refusal of R78 and R79: an INVALID or
RETIRED entry, one that is referenced, CLEARING or paired, a wrong WRITE, a CLEAR_POISON over an unacknowledged
error; and a command written while BUSY is dropped with LOST set and changes no entry (R81). Of the model's reading,
not the spec's words: what counts as a reference (assumption 13), that the report's MORTISE names the entry, an
INVALID one too (assumptions 31 and 60), BUSY after a refusal (assumption 12), and which code stands where several
refusals hold (assumption 129). A word of MCMD_CMD with a reserved operation or bit is refused with code 0x08, and
changes no entry (R78; one that names a RETIRED entry: assumption 130). -/
def Obligations.RefusedMortiseCommandsChangeNoEntry : Prop :=
  (∀ (src : Src) (i : BitVec 10) (s : State), Settled s → Writes src .host s →
    (s.trf.mbusy = true →
      ∀ c ∈ [Instr.mcmdNop src i, .mcmdRead src i, .mcmdWrite src i, .mcmdFree src i, .mcmdSetEmpty src i,
          .mcmdSetFull src i, .mcmdRetire src i, .mcmdAckUe src i, .mcmdClearPoison src i],
        exec c s = .next ((answer src .ok 0 s).onTrf fun r => { r with mlost := true })) ∧
    (s.trf.mbusy = false →
      let refused (c : Instr) (code : BitVec 8) : Prop := Completes c s (MortiseRefused src i code s)
      let st := (mortAt s i).st
      (writeCheck s i (newEntry s.trf.w0 s.trf.w1) ≠ 0 →
        refused (.mcmdWrite src i) (writeCheck s i (newEntry s.trf.w0 s.trf.w1))) ∧
      (st = .retired → refused (.mcmdWrite src i) 0x07) ∧
      (∀ c ∈ [Instr.mcmdFree src i, .mcmdSetEmpty src i, .mcmdSetFull src i, .mcmdRetire src i, .mcmdAckUe src i,
          .mcmdClearPoison src i], (st = .invalid → refused c 0x08) ∧ (st = .retired → refused c 0x07)) ∧
      ((mortAt s i).valid = true →
        (pairRefd s i = true → ∀ c ∈ [Instr.mcmdFree src i, .mcmdSetEmpty src i, .mcmdClearPoison src i],
          refused c 0x0B) ∧
        ((∃ j ∈ pairOf s i, otherRefs s j ≠ 0) → refused (.mcmdSetFull src i) 0x0B) ∧
        ((∀ j ∈ pairOf s i, otherRefs s j = 0) → (∃ j ∈ pairOf s i, (mortAt s j).st = .clearing) →
          refused (.mcmdSetFull src i) 0x08) ∧
        ((mortAt s i).twinV = true → refused (.mcmdRetire src i) 0x0A) ∧
        ((mortAt s i).twinV = false → mortRefs s i ≠ 0 → refused (.mcmdRetire src i) 0x0B) ∧
        (pairRefd s i = false → pairUe s i = true → refused (.mcmdClearPoison src i) 0x08)))) ∧
  (∀ (src : Src) (raw : BitVec 64) (s : State), Settled s → Writes src .host s → s.trf.mbusy = false →
    mcmdReservedWord raw = true →
    Completes (.mcmdReserved src raw) s (MortiseRefused src (field raw 16 10) 0x08 s))

/-- A range clear ends in EMPTY once the last beam of its range is committed, and not before; its beats stage zero
beams, and a commit in a bay notes how far it has come there (R97; side-port order and commits: R244; that the model
keeps how far each bay has come, and that the end is a command of its own: assumption 19). When its interval expires
and nothing else wants the bay, scrub reads one line, moves on by one and changes no stored beam; a corrected beam is
staged for its write-back; the end of a pass counts it, judges code 0x0D and starts the next (R94, R96; that one
command decides the path and takes the beat: assumption 20; code 0x0D's location, with beam 0: assumption 51). A
write of CE_BANK sets that bank's count and rearms its code 0x01, and nothing else (R96). -/
def Obligations.LinesAreClearedAndScrubbed : Prop :=
  ((∀ (i : BitVec 10) (s : State), Settled s →
    (clearOver s i = true → isLive s = true → (mortAt s i).st = .clearing →
      Completes (.rangeClearComplete i) s fun t =>
        t = s.onTrf (fun r => { r with mort := t.trf.mort, clearAt := t.trf.clearAt }) ∧
        mortAt t i = { mortAt s i with st := .empty } ∧ (∀ j, j ≠ i → mortAt t j = mortAt s j) ∧
        ∀ b : Fin 32, clearNext t i.toNat b = 0) ∧
    (clearOver s i = false → exec (.rangeClearComplete i) s = .next s)) ∧
  (∀ (s : State) (i : BitVec 10) (j : Job), (jobData s (.clear i) j).extractLsb' 0 4352 = 0) ∧
  ∀ (b : Fin 32) (i : BitVec 10) (x : Staged) (ts : List Staged) (bs : List (List Staged)) (s : State),
    unitsOn s = true → s.arb.bay[b].bufs = (x :: ts) :: bs → x.client = .clear i → (mortAt s i).st = .clearing →
    primaryAt s (bankIx x.job.beam) = false → Completes (.stagingCommit b) s fun t =>
      storedBeam t x.job.beam = x.data ∧ lineErr t x.job.beam = {} ∧
        clearNext t i.toNat (bayIx x.job.beam) = x.job.key + 1) ∧
  ((∀ (bay : Fin 32) (u : LineErr) (s : State),
    let b := scrubBeam bay (scrubAt s bay)
    let y := s.arb.bay[bay]
    unitsOn s = true → scrubActive s = true → scrubAt s bay < 32768 → y.owner = none → y.bufs.length < 2 →
    inBackoff s bay 6 = false → clearUses s bay = false → (∀ r : Fin 8, r ≠ 6 → requesting s bay r = false) →
    sideReadFree s b = true →
    Completes (.scrubRead bay u) s fun t =>
      t.trf.scrubPos.get 0 bay.val = scrubAt s bay + 1 ∧
      (∀ c : Fin 32, c ≠ bay → t.trf.scrubPos.get 0 c.val = s.trf.scrubPos.get 0 c.val) ∧
      t.trf.beams = s.trf.beams ∧ (∀ c, c ≠ b → lineErr t c = lineErr s c) ∧ t.trf.passes = s.trf.passes ∧
      let r := readLine (storedBeam s b) (lineErr s b)
      (u = {} → r.ue = false → t.arb.bay[bay].bufs = if r.ce then
        y.bufs ++ [[{ job := { beam := b, key := scrubAt s bay, mort := 0 }, data := r.beam, poison := false,
                      client := .scrub }]] else y.bufs)) ∧
  ∀ s : State, Settled s → scrubActive s = true → (∀ b : Fin 32, scrubAt s b = 32768) →
    Completes .scrubPassComplete s fun t =>
      t.trf = { s.trf with passes := s.trf.passes + 1, lastPass := satNat 32 (s.now.toNat - s.trf.passStart.toNat),
                           scrubPos := [], symHits := [], passStart := s.now } ∧
      ∀ k, symFaults s = [k] → isMasked s 0x0D = false → s.log.entries = [] → t.log.entries = [entryOf s
        { code := 0x0D, unit := BitVec.ofNat 12 (k / 140), loc := eccLoc false false (k % 140) 0 }]) ∧
  (∀ (src : Src) (bank : Fin 512) (v : BitVec 64) (s : State), Settled s → Writes src .host s →
    Completes (.ceBankWrite src bank v) s fun t =>
      t = (accept src (0x21000 + 8 * bank.val) s).onTrf
        (fun r => { r with ceBank := t.trf.ceBank, ceLogged := t.trf.ceLogged }) ∧
      t.trf.ceBank.get 0 bank.val = field v 0 32 ∧ t.trf.ceLogged.get false bank.val = false ∧
      ∀ n, n ≠ bank.val → t.trf.ceBank.get 0 n = s.trf.ceBank.get 0 n ∧
        t.trf.ceLogged.get false n = s.trf.ceLogged.get false n)

/-- A purge leaves zero beams everywhere, no mortise but the retired ones (none in BOOT), no tally, and the state R23
names. A line whose read-back is uncorrectable is reported with code 0x0C, sets VERIFY_FAIL and leads to FAULT, the
purge being over; one that is corrected is counted. The purge that ends a LEAVE then sends LEAVE to the ridge, and
the instance is no member and its bypass closed once the packet is out (R77, R98, R172, R266, R382). The purge of a
job kill begins when every slot is free, and changes nothing yet (R381). -/
def Obligations.PurgeClearsTheFile : Prop :=
  (∀ (bad : List (Nat × LineErr)) (s : State), Settled s → s.trf.purging = true → mainOn s = true →
    let spoiled := bad.any fun p => (readLine 0 p.2).ue
    let fails := s.aon.pendFatal || spoiled
    Completes (.purgeComplete bad) s fun t =>
      (∀ b, storedBeam t b = 0 ∧ ((∀ p ∈ bad, BitVec.ofNat 20 p.1 ≠ b) → lineErr t b = {})) ∧ t.trf.purging = false ∧
      t.trf.lost = false ∧ t.trf.clearAt = [] ∧
      (spoiled = false → t.trf.purgeFails = 0 ∧ t.trf.verifyFail = false) ∧
      (spoiled = true → t.trf.verifyFail = true ∧ t.trf.purgeFails ≠ 0) ∧
      (∀ (b : BitVec 20) e, bad = [(b.toNat, e)] → let r := readLine 0 e
        (r.ue = true → s.log.entries = [] → ∃ x ∈ t.log.entries, x.code = 0x0C ∧
          x.loc = eccLoc (r.c0 == .ue) (r.c1 == .ue) 0xFF b) ∧
        (s.aon.st = .purge → r.ue = false → r.ce = true → t.trf.ceTotal = satAdd s.trf.ceTotal 1)) ∧
      (∀ p ∈ t.trf.mort, s.aon.st ≠ .boot ∧ p.2.st = .retired) ∧
      t.sinter.tally = [] ∧ t.sinter.partials = [] ∧ (s.col.leaving = false ∨ s.col.run = none → t.col.tally = 0) ∧
      (s.aon.st = .purge ∨ s.aon.st = .boot → fails = true → t.aon.st = .fault) ∧
      (s.aon.st = .purge → fails = false → s.aon.qState = .latched → t.aon.st = .ember) ∧
      (s.aon.st = .purge → fails = false → s.aon.qState ≠ .latched → anyPhase s = false → t.aon.st = .ready) ∧
      (s.aon.st = .boot → fails = false → s.aon.seqr.failed = false → t.aon.st = .boot) ∧
      (s.col.leaving = true → s.aon.st = .purge → fails = false → linkUp s 0 = true →
        s.aon.link[(0 : Fin 3)].txq = [] → 1 ≤ s.aon.link[(0 : Fin 3)].ctlCr →
        t.aon.link[(0 : Fin 3)].out = s.aon.link[(0 : Fin 3)].out ++ [(ctlHdr s 4 false (ridgeFid s), .leave false)] ∧
          t.aon.link[(0 : Fin 3)].ctlCr = s.aon.link[(0 : Fin 3)].ctlCr - 1 ∧ t.aon.bypCw = true ∧
          t.col.members = [] ∧ t.col.epoch = 0 ∧ t.col.leaving = false)) ∧
  (∀ s : State, Settled s → s.aon.st = .purge → s.aon.killed = true → anyPhase s = false →
    (∀ p ∈ s.layout.slot.toList, p.st = .free) →
    exec .killPurgeStart s = .next ((s.onAon fun a => { a with killed := false }).onTrf fun r =>
      { r with purging := true, purgeStart := s.now }))

/-- Every command, and every step, keeps the nine sparse tables of the tile register file canonical, and the reset
state has them so: the beams, the symbol errors, the mortise table, the counts of CE_BANK, its symbols and what it
has logged, the places of the scrub, the symbol counts of its pass, and how far range clears have come (R77, R94 to
R98). -/
def Obligations.TrfCommandsKeepTheCanonicalForm : Prop :=
  TrfCanonical State.reset ∧
  (∀ (c : Instr) (s t : State), TrfCanonical s → exec c s = .next t → TrfCanonical t) ∧
  ∀ s t : State, TrfCanonical s → step s = .next t → TrfCanonical t

/-- A reported code, within one step: masked, it is only counted; met by an entry with the same code, unit, mortise
and location, it adds to that entry's repeat count; else it is appended while there is room, pending interrupt source
5, and discarded and counted when the log is full and the code is not fatal; a dropped write adds to the entry of its
source's drops until a write of that source succeeds (R328, R371 to R374; the sources' episodes: assumption 55).
Every command, and every step, keeps the log within its 64 entries, as it is at reset, and settling takes no entry
out but for a fatal one (R369, R372). ERR_CMD: NOP and the reserved value change nothing, POP takes the oldest entry,
CLEAR all; the counts stay (R374). -/
def Obligations.ReportsReachTheLog : Prop :=
  (∀ (r : Report) (s : State), Settled s → r.code ≠ 0x0E → isFatalCode r.code = false →
    let t := settle (report r s)
    let again := s.log.entries.map fun e => if e.matches r then { e with rep := satAdd e.rep 1 } else e
    let episode (q : BitVec 32) := s.log.entries.map fun e =>
      if e.code == r.code && e.seq == q then { e with rep := satAdd e.rep 1 } else e
    (isMasked s r.code = true → t.log = { s.log with masked := satAdd s.log.masked 1 }) ∧
    (∀ k q, isMasked s r.code = false → r.drop = some k → s.log.drops[k] = some q →
      t.log = { s.log with entries := episode q }) ∧
    (∀ k, isMasked s r.code = false → r.drop = some k → s.log.drops[k] = none →
      s.log.entries.any (·.matches r) = false → s.log.entries.length < 64 → t.log = { s.log with
        entries := s.log.entries ++ [entryOf s r], seq := s.log.seq + 1, drops := s.log.drops.set k (some s.log.seq) }) ∧
    (isMasked s r.code = false → r.drop = none →
      (s.log.entries.any (·.matches r) = true → t.log = { s.log with entries := again }) ∧
      (s.log.entries.any (·.matches r) = false → s.log.entries.length < 64 →
        t.log = { s.log with entries := s.log.entries ++ [entryOf s r], seq := s.log.seq + 1 } ∧
          t.core.irqErr = true ∧ ((entryOf s r).isOpen = true → bitAt t.aon.alert 5 = true)) ∧
      (s.log.entries.any (·.matches r) = false → 64 ≤ s.log.entries.length →
        t.log = { s.log with seq := s.log.seq + 1, discarded := satAdd s.log.discarded 1 }))) ∧
  (LogFits State.reset ∧ (∀ (c : Instr) (s t : State), LogFits s → exec c s = .next t → LogFits t) ∧
  (∀ s t : State, LogFits s → step s = .next t → LogFits t) ∧
  ∀ s : State, LogFits s → LogFits (settle s) ∧
    ((∀ r ∈ s.log.raised, isFatalCode r.code = false) → s.aon.fatalDue = false →
      s.log.entries.length ≤ (settle s).log.entries.length ∧
      ∀ (i : Nat) (e : LogEntry), s.log.entries[i]? = some e →
        ∃ n, (settle s).log.entries[i]? = some { e with rep := n })) ∧
  (∀ (src : Src) (s : State), Settled s → Writes src .both s →
    let taken := accept src 0xD0008 s
    exec (.errNop src) s = .next taken ∧
    exec (.pop src) s = .next (taken.onLog fun l => { l with entries := l.entries.tail }) ∧
    exec (.clear src) s = .next (taken.onLog fun l => { l with entries := [] }) ∧
    ∀ raw, exec (.errCmdReserved src raw) s = .next taken)

/-- VAON brings the block from OFF to RESET and takes it back, when PERF_REQ and SMBALERT_N can take any level, and
so can every output while a rail is still present, which PWROK_MAIN high tells and a free value where it is low; else
those of the main domain are low, IRQ[3:0] among them. A rail that falls frees the outputs of the main domain, but
for those that the isolation cells hold in RESET, and what the TRF stores (R23, R334, R346, R348, R395, R403; the
levels and lost contents: assumptions 6, 8 and 10). The outputs of the main domain are low while the isolation cells
hold them, in RESET after a rail has fallen early too; else they carry what their units give: the host port's last
answer, and Ep_RST_N, which is high in TRAINING and AGREED alone (R141, R325, R348, R403). The clock events: the
reference clock's stop freezes the reset inputs; CLK_SE switches the receiver; the monitor publishes each
measurement, and the fourth in a row outside its band is fatal, but leaves no record in RESET after a change of
CLK_SE (R343, R344, R401). DFT mode holds the block in RESET (R407). -/
def Obligations.PowerAndClockEvents : Prop :=
  (∀ s : State,
    (s.aon.vaon = false → exec .vaonApplied s = .next
      { ({} : State) with aon := { ({} : Aon) with clkSe := s.aon.clkSe }
                          time := { ({} : Time) with free := s.time.free }, pending := s.pending }) ∧
    (s.aon.vaon = true → Completes .vaonRemoved s fun t =>
      t.aon.st = .off ∧ t.aon.vaon = false ∧ t.aon.drive = (if railsStay s then .free s.time.free else .held) ∧
        (s.aon.pwrok = true → railsStay s = true) ∧
        irqLines t = (if railsStay s then Config.pinBits s.time.free 0 .irq 4 else 0) ∧
        t.aon.perfReq = Config.freeBits (s.time.free + 1) 4 ∧
        t.time.free = s.time.free + 4 ∧ t.trf = {} ∧ t.log = {} ∧ t.pending = s.pending) ∧
    (s.aon.vaon = true → s.aon.pwrok = true → Settled s →
      let t : State :=
        { s with aon := { s.aon with drive := .free s.time.free }, trf := { s.trf with lost := true }
                 time := { s.time with free := s.time.free + 1 } }
      exec .railFallBeforePwrok s = .next t ∧
        irqLines t = (if s.aon.st = .reset then 0 else Config.pinBits s.time.free s.time.root .irq 4))) ∧
  (∀ s : State,
    (s.aon.drive = .held ∨ (s.aon.st = .reset ∧ s.aon.drive ≠ .normal) → irqLines s = 0 ∧ hostPins s = 0 ∧
      ∀ (port : Fin 8) (e : Fin 16),
        memReqPins s port = 0 ∧ memDataPins s port = 0 ∧ engResetPin s e = 0 ∧ engOpsPins s e = 0) ∧
    (s.aon.drive = .normal → hostPins s = s.aon.hpRsp ∧
      ∀ e : Fin 16, engResetPin s e = 1 ↔ (portAt s e).st = .training ∨ (portAt s e).st = .agreed)) ∧
  (∀ s : State, Settled s →
    exec .rootclkStop s = .next (s.onAon fun a => { a with rootclk := false }) ∧
    (s.aon.rootclk = false → ∀ chatter, exec (.arstAssert chatter) s = .next s ∧
      exec (.mrstAssert chatter) s = .next s ∧ exec (.pwrokFall chatter) s = .next s) ∧
    (s.aon.vaon = true → ∀ level, exec (.clkSeChange level) s = .next (s.onAon fun a =>
      { a with clkSe := level, seQuiet := a.seQuiet || (a.st == .reset && level != a.clkSe) })) ∧
    (aonOn s = true → ∀ mhz : BitVec 16,
      (1620 ≤ mhz.toNat → mhz.toNat ≤ 7560 → exec (.clockMonitorMeasure mhz) s =
        .next (s.onAon fun a => { a with roMhz := mhz &&& 0xFFF8, badMeas := 0 })) ∧
      (mhz.toNat < 1620 ∨ 7560 < mhz.toNat →
        (s.aon.badMeas < 3 → exec (.clockMonitorMeasure mhz) s =
          .next (s.onAon fun a => { a with roMhz := mhz &&& 0xFFF8, badMeas := s.aon.badMeas + 1 })) ∧
        (3 ≤ s.aon.badMeas →
          (isLive s = true → Completes (.clockMonitorMeasure mhz) s fun t =>
            t.aon.monFault = true ∧ t.aon.st = .fault) ∧
          (s.aon.st = .reset → s.aon.seQuiet = true → exec (.clockMonitorMeasure mhz) s =
            .next (s.onAon fun a => { a with roMhz := mhz &&& 0xFFF8, badMeas := 4 })))))) ∧
  (∀ s : State, s.aon.vaon = true →
    (aonOn s = true → Completes .dftModeAssert s fun t => t.aon.dft = true ∧ t.aon.st = .reset ∧
      t.trf.beams = s.trf.beams) ∧
    (Settled s → s.aon.dft = true → Completes .dftModeDeassert s fun t =>
      t.aon.dft = false ∧ t.aon.st = s.aon.st ∧ OnlyIn [.aon, .log] s t))

/-- ARST_N resets both domains and keeps the straps until it rises, when they are sampled (R345, R346, R349; the
reset values of the core: assumptions 5 and 16). MRST_N and PWROK_MAIN reset the main domain alone: the stored beams,
the quench latch that is set, the mailbox and the straps stay, and the outputs are held low, but for a rail that fell
before PWROK_MAIN (R310, R345, R346, R348, R403); what a fall of PWROK_MAIN leaves of the stored beams is marked lost
(assumptions 10 and 88), and the core's registers take the values of assumptions 5 and 16. -/
def Obligations.ResetsClearTheirDomains : Prop :=
  (∀ s : State, s.aon.vaon = true → s.aon.rootclk = true →
    (∀ chatter, Completes (.arstAssert chatter) s fun t =>
      t.aon.st = .reset ∧ t.aon.arstN = false ∧ t.log = {} ∧ t.cfg = {} ∧ t.trf = {} ∧ t.truss = {} ∧ t.sinter = {} ∧
        t.sched = {} ∧ t.layout = {} ∧ t.mem = {} ∧ t.arb = {} ∧ t.col = {} ∧ t.gov = {} ∧ t.core = {} ∧
        t.ports = (portsReset s).ports ∧ t.aon.alert = 0 ∧ t.aon.hpRsp = 0 ∧ t.aon.sensed = s.aon.sensed ∧ t.aon.qState = .clear ∧ t.aon.mboxIn = 0 ∧
        t.aon.fabricId = s.aon.fabricId ∧ t.aon.bootSrc = s.aon.bootSrc ∧ t.aon.ridgeEn = s.aon.ridgeEn ∧
        t.time.bclk = 0) ∧
    ∀ id src ridge, Settled s → s.aon.arstN = false →
      exec (.arstDeassert id src ridge) s = .next (s.onAon fun a =>
        { a with arstN := true, fabricId := id, bootSrc := src, ridgeEn := ridge })) ∧
  (∀ s : State, s.aon.vaon = true →
    (let kept : Drive := match s.aon.drive with
       | .free k => .free k
       | _ => .held
     let cleared (t : State) : Prop :=
      t.aon.st = .reset ∧ t.cfg = {} ∧ t.truss = {} ∧ t.sinter = {} ∧ t.sched = {} ∧ t.layout = {} ∧ t.mem = {} ∧
        t.arb = {} ∧ t.col = {} ∧ t.gov = {} ∧ t.core = {} ∧ t.log = {} ∧ t.trf.mort = [] ∧
        t.trf.beams = s.trf.beams ∧ t.time.bclk = 0 ∧ t.aon.perfReq = 0 ∧ t.aon.hpRsp = 0 ∧
        t.aon.mboxOut = s.aon.mboxOut ∧ t.aon.fabricId = s.aon.fabricId ∧
        (s.aon.qState = .latched → t.aon.qState = .latched)
     aonOn s = true →
      (∀ chatter, Completes (.mrstAssert chatter) s fun t =>
        cleared t ∧ t.aon.drive = kept ∧ t.aon.mrstN = false ∧ t.aon.mrstChat = (s.aon.mrstChat || chatter)) ∧
      (∀ chatter, Completes (.pwrokFall chatter) s fun t =>
        cleared t ∧ t.aon.drive = .held ∧ t.aon.pwrok = false ∧ t.trf.lost = true ∧ t.aon.pwrokChat = (s.aon.pwrokChat || chatter))) ∧
    (Settled s → s.aon.rootclk = true →
      exec .pwrokRise s = .next (s.onAon fun a => { a with pwrok := true }) ∧
      (s.aon.mrstN = false → Completes .mrstDeassert s fun t =>
        t.aon.mrstN = true ∧ t.aon.st = s.aon.st ∧ OnlyIn [.aon, .log] s t ∧
        (s.aon.arstN = true → s.aon.dft = false → t.log = {} ∧
          (s.aon.qState = .latched → s.aon.quenchN = true → 1125000 ≤ s.aon.qQuiet.toNat →
            t.aon.qState = .clear)))))

/-- BOOT is entered at an ACLK edge when ARST_N, MRST_N and PWROK_MAIN are high outside DFT mode: its status starts
afresh, the purge and the sequencer start (R21, R23, R344, R351, R361). BOOT ends in READY with the core running at
RESET_PC, in EMBER while a quench is latched, in FAULT when the load has failed, with LOADED clear, STEP at FAILED
and the TCM zero (R23, R310, R351, R361). -/
def Obligations.BootBeginsAndEnds : Prop :=
  (∀ s : State, Settled s → bootDue s = true →
    (aclkEdge s = true → Completes .bootEntry s fun t =>
      t.aon.st = .boot ∧ t.aon.prev = .reset ∧ t.aon.boots = satAdd s.aon.boots 1 ∧ t.aon.bSlot = 3 ∧
        t.aon.bLoaded = false ∧ t.aon.imageId = 0 ∧ ((∀ k, s.aon.drive ≠ .free k) → t.aon.drive = .normal) ∧ t.core.tcm = [] ∧ t.trf.purging = true ∧
        t.time.bclk = 0 ∧ t.aon.seqr.phase = (if fromHost s then .headers else .discovery)) ∧
    (aclkEdge s = false → exec .bootEntry s = .next s)) ∧
  (∀ s : State, Settled s → s.aon.st = .boot → s.aon.rootclk = true → s.trf.purging = false →
    (s.aon.seqr.loaded = true → Completes .bootComplete s fun t =>
      t.core.run = .running ∧ t.core.pc = BitVec.ofNat 64 (ImgHdr.resetPc s.aon.seqr.hdr) ∧
      (s.aon.qState = .latched → t.aon.st = .ember) ∧
      (s.aon.qState ≠ .latched → anyPhase s = false → t.aon.st = .ready)) ∧
    (s.aon.seqr.loaded = false → s.aon.seqr.failed = true → Completes .bootComplete s fun t =>
      t.aon.st = .fault ∧ t.core.run = .halted ∧ t.aon.bLoaded = false ∧ t.aon.bStep = 6 ∧ t.core.tcm = []))

/-- Flash discovery finds the flash and chooses its read command, with the mode clocks and dummy clocks of it, tries
again, or fails for good after three attempts (R353; the density: assumption 35). With the slot headers read, the
slots that pass MAGIC, FORMAT and LENGTH are tried in R359's order, the newer SEQ first: the table of the first whose
header passes every check is read next; only with none has the load failed (R354, R357, R359; the density that bounds
LENGTH: assumption 35). -/
def Obligations.BootFindsItsImage : Prop :=
  (∀ s : State, Settled s →
    (∀ r, bootIn s .discovery = true →
      (sfdpOk r = true → Completes (.flashDiscovery r) s fun t =>
        t.aon.seqr.phase = .headers ∧ t.aon.seqr.density = densityOf r.w2 ∧ t.aon.bQuad = sfdpQuad r ∧
          t.aon.seqr.rdCmd = (if sfdpQuad r then field r.w3 24 8 else 0x0B) ∧
          t.aon.seqr.rdMode = (if sfdpQuad r then field r.w3 21 3 else 0) ∧
          t.aon.seqr.rdWait = (if sfdpQuad r then field r.w3 16 5 else 8) ∧
          flashAddr t 0 0 = 0 ∧ flashAddr t 1 0 = min (densityOf r.w2) 0x1000000 / 2 ∧
          t.aon.bStep = 2 ∧ OnlyIn [.aon] s t) ∧
      (sfdpOk r = false → s.aon.seqr.attempts < 2 → Completes (.flashDiscovery r) s fun t =>
        t.aon.seqr.phase = .retry ∧ t.aon.seqr.attempts = s.aon.seqr.attempts + 1 ∧ OnlyIn [.aon] s t) ∧
      (sfdpOk r = false → 2 ≤ s.aon.seqr.attempts → Completes (.flashDiscovery r) s fun t =>
        t.aon.seqr.phase = .failed ∧ t.aon.seqr.failed = true ∧ t.aon.bStep = 6 ∧
          t.aon.st = if s.trf.purging then .boot else .fault)) ∧
    (bootIn s .retry = true → Completes .discoveryRetry s fun t =>
      t.aon.seqr.phase = .discovery ∧ OnlyIn [.aon] s t)) ∧
  (∀ (h0 h1 : BitVec 512) (s : State), Settled s → bootIn s .headers = true → fromHost s = false →
    let limit := lengthLimit s
    let header := fun n : Fin 2 => if n = 0 then h0 else h1
    let order := slotOrder limit (slotsAllowed s) h0 h1
    (slotsAllowed s = [0, 1] → ImgHdr.quickFault limit h0 = none → ImgHdr.quickFault limit h1 = none →
      order = if seqNewer (ImgHdr.seq h1) (ImgHdr.seq h0) then [1, 0] else [0, 1]) ∧
    (∀ n, (order.find? fun n => (ImgHdr.fault limit (header n)).isNone) = some n →
      Completes (.slotHeadersRead h0 h1) s fun t =>
        t.aon.seqr.phase = .table ∧ t.aon.seqr.slots.head? = some n ∧ t.aon.seqr.hdr = header n ∧
          t.aon.seqr.hdr0 = h0 ∧ t.aon.seqr.hdr1 = h1 ∧ t.aon.seqr.begun = false ∧ t.aon.st = .boot ∧
          OnlyIn [.aon, .log, .core] s t) ∧
    ((∀ n ∈ order, ImgHdr.fault limit (header n) ≠ none) → Completes (.slotHeadersRead h0 h1) s fun t =>
      t.aon.seqr.phase = .failed ∧ t.aon.seqr.failed = true ∧ t.aon.bStep = 6 ∧
        t.aon.st = if s.trf.purging then .boot else .fault))

/-- A good section table starts the load; a bad HCRC fails the slot with code 0x93, a bad entry or RESET_PC with code
0x94, recorded for the slot (R355, R357). A byte of a TCM section lands at its place in the TCM; a REGS entry waits
for its sixteenth byte and is then applied, or fails the slot with code 0x95; after a section's last byte the next
that loads begins; after the last of all, a right ICRC ends the load with BOOT_STATUS and BOOT_IMAGE_ID set, and a
wrong one fails the slot with code 0x96 (R356, R357, R361). A REGS entry is refused for a bit above 23, an unassigned
offset, a register without RW, SH or image fields, a reserved bit, or a code its own write raises; any other is
written without the owner-class check, and a shadow register's active copy with it (R356; that the code the entry's
own write raises is reported besides 0x95: assumption 87). -/
def Obligations.BootLoadsItsSections : Prop :=
  (∀ (bytes : List (BitVec 8)) (s : State), Settled s → bootIn s .table = true → fromHost s = false →
    bytes.length = 16 * ImgHdr.nsect s.aon.seqr.hdr →
    let table := entriesOf bytes (ImgHdr.nsect s.aon.seqr.hdr)
    let failsWith (code : BitVec 8) (place : Nat) : Prop := Completes (.sectionTableRead bytes) s fun t =>
      t = settle (slotFail code place s) ∧ (s.aon.seqr.begun = false →
        (∀ n ∈ s.aon.seqr.slots.tail, n.val ≠ slotNo s) → if slotNo s = 1 then t.aon.bCode1 = code else t.aon.bCode0 = code)
    (hcrcOk s.aon.seqr.hdr bytes = true → tableFault s.aon.seqr.hdr table = none →
      Completes (.sectionTableRead bytes) s fun t =>
        t.aon.seqr.phase = .load ∧ t.aon.seqr.table = table ∧ t.aon.seqr.sect = nextSect table 0 ∧ t.aon.bStep = 3 ∧
          OnlyIn [.aon] s t) ∧
    (hcrcOk s.aon.seqr.hdr bytes = false → failsWith 0x93 0x3C) ∧
    (∀ place, hcrcOk s.aon.seqr.hdr bytes = true → tableFault s.aon.seqr.hdr table = some place → failsWith 0x94 place)) ∧
  (∀ (b : BitVec 8) (x : ImgSect) (s : State), Settled s → bootIn s .load = true → fromHost s = false →
    s.aon.seqr.table[s.aon.seqr.sect]? = some x →
    let q := s.aon.seqr
    let crc := crc32Byte q.crc b
    let k := nextSect q.table (q.sect + 1)
    let begun := s.onSeqr fun q => { q with crc := crc, ofs := q.ofs + 1, begun := true }
    let entry := q.part ++ [b]
    let r := bootReg (BitVec.ofNat 64 (leNat (entry.take 8))) (BitVec.ofNat 64 (leNat (entry.drop 8)))
      (begun.onSeqr fun q => { q with part := [] })
    let landed (t : State) : Prop := t.core.tcm.get 0 (ImgSect.dest x + q.ofs) = b ∧
      ∀ a, a ≠ ImgSect.dest x + q.ofs → t.core.tcm.get 0 a = s.core.tcm.get 0 a
    let failed (code : BitVec 8) (t : State) : Prop :=
      t.aon.seqr.phase = .undo ∧ t.aon.bStep = 4 ∧ 
        if slotNo s = 1 then t.aon.bCode1 = code else t.aon.bCode0 = code
    (ImgSect.kind x = 1 → q.ofs + 1 < ImgSect.length x → Completes (.sectionDataReceived [b]) s fun t =>
      landed t ∧ t.aon.seqr.ofs = q.ofs + 1 ∧ t.aon.seqr.sect = q.sect ∧ t.aon.seqr.crc = crc ∧
        OnlyIn [.aon, .core] s t) ∧
    (ImgSect.kind x = 1 → q.ofs + 1 = ImgSect.length x → k < q.table.length →
      Completes (.sectionDataReceived [b]) s fun t =>
        landed t ∧ t.aon.seqr.sect = k ∧ t.aon.seqr.ofs = 0 ∧ t.aon.seqr.part = [] ∧ t.aon.seqr.crc = crc ∧
          t.aon.seqr.phase = .load ∧ OnlyIn [.aon, .core] s t) ∧
    (ImgSect.kind x = 1 → q.ofs + 1 = ImgSect.length x → k = q.table.length → ~~~crc = ImgHdr.icrc q.hdr →
      Completes (.sectionDataReceived [b]) s fun t =>
        landed t ∧ t.aon.seqr.phase = .done ∧ t.aon.seqr.loaded = true ∧ t.aon.bLoaded = true ∧ t.aon.bStep = 5 ∧
          t.aon.bSlot = BitVec.ofNat 2 (slotNo s) ∧ t.aon.imageId = ImgHdr.imageId q.hdr ∧
          t.aon.bUnlock = ImgHdr.unlock q.hdr ∧ t.aon.bSeq = ImgHdr.seq q.hdr ∧ OnlyIn [.aon, .core] s t) ∧
    (ImgSect.kind x = 1 → q.ofs + 1 = ImgSect.length x → k = q.table.length → ~~~crc ≠ ImgHdr.icrc q.hdr →
      Completes (.sectionDataReceived [b]) s (failed 0x96)) ∧
    (ImgSect.kind x = 2 → entry.length < 16 → q.ofs + 1 < ImgSect.length x →
      Completes (.sectionDataReceived [b]) s fun t =>
        t.aon.seqr.part = entry ∧ t.aon.seqr.ofs = q.ofs + 1 ∧ t.aon.seqr.crc = crc ∧ OnlyIn [.aon] s t) ∧
    (ImgSect.kind x = 2 → entry.length = 16 → r.1 = true → q.ofs + 1 < ImgSect.length x →
      exec (.sectionDataReceived [b]) s = .next (settle r.2)) ∧
    (ImgSect.kind x = 2 → entry.length = 16 → r.1 = false → Completes (.sectionDataReceived [b]) s (failed 0x95))) ∧
  (∀ (w v : BitVec 64) (s : State),
    let bad := w >>> 24 ≠ 0 ∨ regInfo w.toNat = none ∨
      ∃ i, regInfo w.toNat = some i ∧ (i.rw = 0 ∨ v &&& ~~~(i.rw ||| i.other) ≠ 0)
    (bad → bootReg w v s = (false, s)) ∧
    (∀ i, ¬ bad → regInfo w.toNat = some i →
      let t := bootEffect w.toNat v s
      (t.log.raised.length = s.log.raised.length →
        bootReg w v s = (true, if i.sh then bootActive w.toNat v t else t)) ∧
      (t.log.raised.length ≠ s.log.raised.length →
        bootReg w v s = (false, s.onLog fun l => { l with raised := t.log.raised }))))

/-- Undoing a slot clears the TCM and returns every register of the main domain outside the boot and error-log sub-
windows to its reset value; the purge, what the TRF stores, the mortise table, the test controller and what the path
monitors read stay; then the next slot is tried (R358; that the error-log sub-window's mask is among the registers
reset: assumption 36). BOOT_FIFO takes the image in stream order from the host: the header is checked at its 64th
byte, the table at its last, a section's words go to the TCM; a write that the stream does not take is dropped; a
stream that stalls fails BOOT with code 0x97 (R357, R360). -/
def Obligations.BootUndoesAndStreams : Prop :=
  (∀ s : State, Settled s → bootIn s .undo = true → Completes .slotUndoComplete s fun t =>
    t.cfg.shadow = {} ∧ t.cfg.active = {} ∧ t.truss = {} ∧ t.ports = (portsReset s).ports ∧ t.sinter = {} ∧
      t.sched = {} ∧ t.layout = {} ∧ t.mem = {} ∧ t.arb = {} ∧ t.col = {} ∧ t.gov = { ({} : Gov) with slack := s.gov.slack } ∧
      { t.core with irqErr := false, irqState := false } = {} ∧ t.dbg = tapKept s ∧
      t.trf = { ({} : Trf) with
        beams := s.trf.beams, errs := s.trf.errs, lost := s.trf.lost, mort := s.trf.mort, purging := s.trf.purging
        purgeStart := s.trf.purgeStart, purgeLast := s.trf.purgeLast, purgeFails := s.trf.purgeFails
        verifyFail := s.trf.verifyFail } ∧
      (t.aon.seqr.phase = .table ∨ t.aon.seqr.phase = .failed)) ∧
  ((∀ s : State, Settled s → s.aon.st = .boot → fromHost s = true →
    (∀ id v, mainOn s = true → s.core.owned = false →
      let q := s.aon.seqr
      let o := q.stream.length
      let bytes := q.stream ++ leBytes 8 v.toNat
      let h : ImgHdr := BitVec.ofNat 512 (leNat (bytes.take 64))
      let n := 16 * ImgHdr.nsect q.hdr
      let payload := (bytes.drop 64).take n
      let table := entriesOf payload (ImgHdr.nsect q.hdr)
      (q.phase = .headers → o < 56 →
        exec (.bootFifoWrite (.host id) v) s = .next ((accept (.host id) 0x10020 s).onSeqr fun q =>
          { q with stream := bytes })) ∧
      (q.phase = .headers → o = 56 → ImgHdr.fault 0x100000 h = none →
        Completes (.bootFifoWrite (.host id) v) s fun t =>
          t.aon.seqr.phase = .table ∧ t.aon.seqr.hdr = h ∧ t.aon.seqr.stream = bytes) ∧
      (q.phase = .headers → o = 56 → ImgHdr.fault 0x100000 h ≠ none → q.begun = false → q.slots = [] →
        Completes (.bootFifoWrite (.host id) v) s fun t => t.aon.seqr.failed = true ∧ t.aon.bCode0 = 0x92) ∧
      (q.phase = .table → o < ImgHdr.length q.hdr → o + 8 = 64 + n → hcrcOk q.hdr payload = true →
        tableFault q.hdr table = none → Completes (.bootFifoWrite (.host id) v) s fun t =>
          t.aon.seqr.phase = .load ∧ t.aon.seqr.table = table ∧ t.aon.seqr.stream = bytes) ∧
      (q.phase = .load → o < ImgHdr.length q.hdr → ∀ x : ImgSect, o + 8 < streamEnd q.table →
        o + 8 < ImgHdr.length q.hdr →
        (q.table.find? fun x => ImgSect.loads x && ImgSect.offset x ≤ o &&
          o < ImgSect.offset x + ImgSect.length x) = some x → ImgSect.kind x = 1 → ImgSect.offset x ≤ o →
        Completes (.bootFifoWrite (.host id) v) s fun t =>
          t.aon.seqr.begun = true ∧ t.aon.seqr.phase = .load ∧
            ∀ i < 8, t.core.tcm.get 0 (ImgSect.dest x + o - ImgSect.offset x + i) = v.extractLsb' (8 * i) 8)) ∧
    (aonOn s = true → s.aon.seqr.phase = .headers ∨ s.aon.seqr.phase = .table ∨ s.aon.seqr.phase = .load →
      Completes .bootStreamTimeout s fun t =>
        t.aon.seqr.phase = .failed ∧ t.aon.seqr.failed = true ∧ t.aon.bStep = 6 ∧ t.aon.bCode0 = 0x97 ∧
          t.aon.st = if s.trf.purging then .boot else .fault)) ∧
  ∀ (s : State) id v, Settled s → mainOn s = true → s.core.owned = false → streamOpen s = false →
    Completes (.bootFifoWrite (.host id) v) s fun t =>
      t.aon.hpRsp = (1 : BitVec 2) ++ (0 : BitVec 64) ∧ t.aon.seqr = s.aon.seqr)

/-- The test controller's instructions: what each shifts out where the mode admits it, and elsewhere, as for BYPASS
and the reserved codes, what the tester shifts in passes the one-bit register, which starts at 0; MON_READ shifts out
what the sensors and monitors read, in every state; a low TRST_N resets the controller (R405, R406, R407; the order
on TDO, and what IEEE 1149.1 gives: assumption 37; readings: assumption 150). -/
def Obligations.TestControllerInstructions : Prop :=
  ∀ s : State, Settled s →
    let shift (code : BitVec 4) (out : List (BitVec 8)) : State :=
      s.onDbg fun d => { d with ir := code, shifted := out, bypass := false, tdo := [] }
    let idle (code : BitVec 4) (tdi : List Bool) : State :=
      s.onDbg fun d => { d with ir := code, shifted := [], tdo := (false :: tdi).take tdi.length
                                bypass := (tdi.getLast?).getD false }
    let refused (code : BitVec 4) (t : State) : State := t.onDbg fun d =>
      { d with mtaRefused := if code = 4 ∧ mainOn s = true then satAdd s.dbg.mtaRefused 1 else s.dbg.mtaRefused }
    (tapOn s = true →
      (∀ iface sense, exec (.bondTest iface sense) s =
        .next (if s.aon.dft then shift 1 (iface :: sense) else idle 1 (bitsOf iface))) ∧
      (∀ sel fails, exec (.mbistRun sel fails) s = .next (if s.aon.dft then
          ((shift 2 []).onDbg fun d => { d with mbist := fails.filter fun f => selCovers sel f.1 f.2.1 }).onTrf fun t =>
            { t with lost := true }
        else idle 2 (bitsOf (sel.banks ++ sel.tiers)))) ∧
      (exec .mbistResult s =
        .next (if s.aon.dft then shift 3 (s.dbg.mbist.flatMap failBytes) else idle 3 [])) ∧
      (∀ result, exec (.pwrTest result) s =
        .next (if s.aon.dft then shift 6 (result.flatMap fun r => leBytes 2 r.toNat) else idle 6 [])) ∧
      (exec .monRead s = .next { shift 5 ((List.range 20).map fun i =>
          if bitAt (s.aon.sensed.get 0 i) 8 then (s.aon.sensed.get 0 i).setWidth 8
          else (Config.freeBits s.time.free 160).extractLsb' (8 * i) 8) with
        time := { s.time with free := s.time.free + 1 } }) ∧
      (∀ b, mtaAdmitted s = false → exec (.mtaRead b) s = .next (refused 4 (idle 4 (bitsOf b)))) ∧
      (∀ b, mtaAdmitted s = true → s.trf.lost = false → Completes (.mtaRead b) s fun t =>
        t.dbg.ir = 4 ∧ t.dbg.shifted = leBytes 560 (storedLine (storedBeam s b) (lineErr s b)).toNat ∧
          t.dbg.mtaReads = (if mainOn s then satAdd s.dbg.mtaReads 1 else s.dbg.mtaReads) ∧ OnlyIn [.dbg] s t)) ∧
    (s.aon.vaon = true → s.aon.rootclk = true → ∀ (code : BitVec 4) (tdi : List Bool),
      (code ≠ 5 → (code = 4 → mtaAdmitted s = false) → (code ∈ [1, 2, 3, 6] → s.aon.dft = false) →
        exec (.tapBypass ⟨code, true, tdi⟩) s =
          .next ((refused code (idle code tdi)).onDbg fun d => { d with trstN := true })) ∧
      exec (.tapBypass ⟨code, false, tdi⟩) s = .next (s.onDbg fun d =>
        { d with trstN := false, ir := 0xF, shifted := [], tdo := [], bypass := false }))

/-- The block commands NOP, PAUSE and RESUME (R23, R24, R26, R329); BUSY follows each (assumption 12). A job kill
leads to PURGE from every state that admits it; a reserved block command is refused with code 0x8C (R329, R381). -/
def Obligations.BlockCommandsTakeEffect : Prop :=
  (∀ (src : Src) (s : State), Settled s → Writes src .both s → s.core.cmdBusy = false →
    let refused : State :=
      settle ((hostRefuse src (accept src 0xB0010 s)).onCore fun c => { c with cmdBusy := true })
    exec (.hostCmdNop src) s = .next ((accept src 0xB0010 s).onCore fun c =>
      { c with cmdCode := 0, cmdBusy := true }) ∧
    (s.aon.st = .ready ∨ s.aon.st = .run → Completes (.hostPause src) s fun t =>
      t.aon.st = .pause ∧ t.aon.prev = s.aon.st ∧ t.aon.changes = satAdd s.aon.changes 1 ∧ t.core.cmdCode = 0 ∧
        t.core.irqState = true ∧ OnlyIn [.log, .aon, .core, .arb, .col] s t) ∧
    (s.aon.st = .pause → Completes (.hostResume src) s fun t =>
      t.aon.st = (if anyPhase s then .run else .ready) ∧ t.aon.prev = .pause ∧ t.core.cmdCode = 0 ∧
        OnlyIn [.log, .aon, .core, .arb, .col] s t) ∧
    (s.aon.st = .pause → Completes (.hostPause src) s fun t => t.aon.st = .pause ∧ t.core.cmdCode = 0) ∧
    (s.aon.st = .ready ∨ s.aon.st = .run → Completes (.hostResume src) s fun t =>
      t.aon.st = s.aon.st ∧ t.core.cmdCode = 0) ∧
    (s.aon.st = .ember ∨ s.aon.st = .fault ∨ s.aon.st = .purge →
      exec (.hostPause src) s = .next refused ∧ exec (.hostResume src) s = .next refused)) ∧
  (∀ (src : Src) (s : State), Quiet s → Writes src .both s → s.core.cmdBusy = false →
    (isLive s = true → Completes (.hostKill src) s fun t =>
      t.aon.st = .purge ∧ t.aon.killed = true ∧ t.core.cmdCode = 0) ∧
    ∀ raw, hostReservedWord raw = true → Completes (.hostCmdReserved src raw) s fun t =>
      t = settle ((hostRefuse src (accept src 0xB0010 s)).onCore fun c => { c with cmdBusy := true }) ∧
        t.core.cmdCode = 0x8C)

/-- HOST_OWN is taken by the first host that claims it and given back by its owner or the vent port, and nothing else
changes; another host's claim or release is dropped (R327, R328; that RELEASE keeps OWNER_ID: assumption 32). A write
of CORE_WDOG sets the period and, with KICK, restarts the count; the watchdog's expiry is fatal, once for each count
(R24, R322). -/
def Obligations.OwnershipAndWatchdog : Prop :=
  (∀ s : State, Settled s →
    let freed (src : Src) : Host.Outcome State Fault Refusal :=
      .next ((endDrops src (answer src .ok 0 s)).onCore fun c => { c with owned := false })
    (∀ id, Writes (.host id) .both s → s.core.owned = false →
      exec (.hostClaim (.host id)) s = .next ((endDrops (.host id) (answer (.host id) .ok 0 s)).onCore fun c =>
        { c with owned := true, ownerId := id })) ∧
    (∀ id, Writes (.host id) .both s → exec (.hostRelease (.host id)) s = freed (.host id)) ∧
    (Writes .vent .both s → exec (.hostRelease .vent) s = freed .vent) ∧
    ∀ id, mainOn s = true → s.aon.st ≠ .boot → s.core.owned = true → s.core.ownerId ≠ id →
      let kept (t : State) : Prop := t.core.owned = true ∧ t.core.ownerId = s.core.ownerId ∧ t.aon.hpRsp = (1#2) ++ (0 : BitVec 64)
      Completes (.hostClaim (.host id)) s kept ∧ Completes (.hostRelease (.host id)) s kept) ∧
  ((∀ (src : Src) (v : BitVec 64) (s : State), Settled s → Writes src .host s →
    exec (.wdogKick src v) s = .next ((accept src 0xB0020 s).onCore fun c =>
      { c with period := field v 0 32, wdog := if bitAt v 32 then 0 else c.wdog,
               wdogOut := c.wdogOut && !bitAt v 32 })) ∧
  ∀ s : State, mainOn s = true → s.core.period ≠ 0 →
    (s.core.wdogOut = false →
      (isLive s = true → Completes .watchdogExpiry s fun t => t.aon.st = .fault ∧ t.core.run = .halted) ∧
      (s.aon.st = .purge → Completes .watchdogExpiry s fun t =>
        t.aon.st = .purge ∧ t.aon.pendFatal = true ∧ t.core.wdogOut = true)) ∧
    (Settled s → s.core.wdogOut = true → exec .watchdogExpiry s = .next s))

/-- A bulk move that passes its checks starts, keeping its kind, count and addresses; its end leaves the unit free
(R324). -/
def Obligations.BulkMovesStartAndEnd : Prop :=
  (∀ (src : Src) (raw : BitVec 64) (s : State), Settled s → Writes src .host s → unitsOn s = true →
    s.core.move = none →
    moveOk s (field raw 62 2 : BitVec 2).toNat (field raw 32 7 : BitVec 7).toNat (field raw 0 18 : BitVec 18).toNat
      = true →
    let started (t : State) : Prop :=
      t = (accept src 0xB0030 s).onCore (fun c => { c with moveCode := 0, movePoison := false, move := t.core.move }) ∧
      ∃ m, t.core.move = some m ∧ m.kind = field raw 62 2 ∧ m.count = (field raw 32 7 : BitVec 7).toNat ∧
        m.tcm = field raw 0 18 ∧ m.daddr = s.core.moveAddr ∧ m.started = false ∧ m.poison = false ∧
        (m.kind.toNat < 2 → m.mort = field s.core.moveAddr 20 10 ∧ m.ofs = field s.core.moveAddr 0 20 ∧
          m.left = List.range m.count)
    ((field raw 62 2 : BitVec 2) = 0 → Completes (.moveTcmToTrf src raw) s started) ∧
    ((field raw 62 2 : BitVec 2) = 1 → Completes (.moveTrfToTcm src raw) s started) ∧
    ((field raw 62 2 : BitVec 2) = 2 → Completes (.moveMemToTcm src raw) s started) ∧
    ((field raw 62 2 : BitVec 2) = 3 → Completes (.moveTcmToMem src raw) s started)) ∧
  ∀ (m : MoveJob) (s : State), Settled s → unitsOn s = true → s.core.move = some m → moveOver s m = true →
    exec .moveComplete s = .next (s.onCore fun c => { c with move := none, movePoison := m.poison })

/-- A ring is set up while it is empty, and its doorbell moves HEAD and raises interrupt source 8; a setting of a
ring that is not empty, or of a BASE not on 64 bytes, and a doorbell of a ring without slots or past them are dropped
with code 0x8A, and change no ring, and their source's episode of dropped writes goes on (R328, R330, R334; LOG2 13
to 15: assumption 72). The completion of a work order advances the ring's TAIL, sets WO_EVENT where the order asks
for it, and turns the firmware to the next ring (R332, R333). -/
def Obligations.RingsAndCompletions : Prop :=
  (∀ (src : Src) (r : Fin 4) (v : BitVec 64) (s : State), Settled s → Writes src .host s →
    let k := s.core.ring[r]
    let fits : Prop := k.log2 ≠ 0 ∧ ((field v 0 32 : BitVec 32) - k.tail).toNat ≤ 2 ^ k.log2.toNat
    let dropped (t : State) : Prop :=
      t = settle (report { code := 0x8A, unit := srcUnit src, loc := BitVec.ofNat 64 r.val } (answer src .ok 0 s)) ∧
        t.core.ring = s.core.ring
    (k.head = k.tail → (field v 0 6 : BitVec 6) = 0 →
      exec (.ringConfigWrite src r v) s = .next ((accept src (ringOff r 0) s).onCore fun c =>
        { c with ring := vmod c.ring r fun k => { k with log2 := field v 52 4, base := field v 0 52 } })) ∧
    (k.head ≠ k.tail ∨ (field v 0 6 : BitVec 6) ≠ 0 → Completes (.ringConfigWrite src r v) s dropped) ∧
    (fits → exec (.doorbell src r v) s = .next (wakeCore ((accept src (ringOff r 1) s).onCore fun c =>
      { c with ring := vmod c.ring r fun k => { k with head := field v 0 32 }, irqBell := true }))) ∧
    (¬ fits → Completes (.doorbell src r v) s dropped)) ∧
  (∀ (ok : Bool) (k : WoRun) (s : State), woServes s = true → s.core.wo = some k → k.done = true →
    cplReady s k = true → Completes (.woCompletion ok) s fun t =>
      t.core.wo = none ∧ t.core.rrNext = k.ring + 1 ∧
      t.core.ring[k.ring].tail = s.core.ring[k.ring].tail + 1 ∧
      t.core.ring[k.ring].head = s.core.ring[k.ring].head ∧
      (∀ r : Fin 4, r ≠ k.ring → t.core.ring[r] = s.core.ring[r]) ∧
      t.core.woEvent =
        (if Wo.irq k.wo then s.core.woEvent ||| ((1 : BitVec 4) <<< k.ring.val) else s.core.woEvent))

/-- The firmware fetches the work order at the next ring's TAIL slot by a kind-2 move, and serves a NOP, a FENCE that
is met, a work order it refuses, and one of any kind that a kill ends (R324, R330, R332, R381; where in the TCM the
fetch lands, and what a fetch that waits does: assumption 122). A work order that has been fetched submits its
objects in order: one accepted takes the next ticket and the last of them ends it with code 0 and the first ticket;
one refused ends it with the refusal's code; on a full queue it waits at that object (R332; the order of the
firmware's steps: assumption 84). -/
def Obligations.WorkOrdersAreServed : Prop :=
  (∀ (r : Fin 4) (wo : BitVec 512) (status : BitVec 2) (w : WinSel) (s : State), woServes s = true → s.core.wo = none →
    ringDue s = some r →
    let a := ringSlot s.core.ring[r]
    moveWindow s false a 1 = some w → fetchFree s (w.phys a.toNat) = true →
    let ended (code : BitVec 8) (t : State) : Prop :=
      t.core.wo = some { ring := r, wo := wo, code := code, done := true } ∧ t.core.move = none ∧
        t.core.ring = s.core.ring ∧ t.mem.txns = s.mem.txns ∧ t.sched.queue = s.sched.queue ∧
        t.layout.queue = s.layout.queue ∧ t.col.queue = s.col.queue
    (Wo.ok wo = true →
      (Wo.opcode wo = 5 → Completes (.woNop r wo) s (ended (if woKilled s r then 0xA0 else 0))) ∧
      (Wo.opcode wo = 4 → woKilled s r = true ∨ fenceMet s = true →
        Completes (.woFence r wo) s (ended (if woKilled s r then 0xA0 else 0))) ∧
      (woKilled s r = true →
        (∀ objs, Wo.opcode wo = 1 → objs.length = Wo.count wo →
          Completes (.woRecords r wo objs false) s (ended 0xA0)) ∧
        (∀ objs, Wo.opcode wo = 2 → objs.length = Wo.count wo →
          Completes (.woDescs r wo objs false) s (ended 0xA0)) ∧
        ∀ objs, Wo.opcode wo = 3 → objs.length = Wo.count wo →
          Completes (.woCollectives r wo objs false) s (ended 0xA0))) ∧
    (Wo.ok wo = false ∨ status ≠ 0 →
      Completes (.woRefused r wo status) s (ended (if woKilled s r then 0xA0 else 0x88)))) ∧
  (∀ (k : WoRun) (wo : BitVec 512) (s : State), woServes s = true → s.core.wo = some k → k.done = false →
    woKilled s k.ring = false → Wo.ok k.wo = true →
    let took (first : BitVec 32) (k : WoRun) : WoRun :=
      { k with accepted := k.accepted + 1, first := if k.accepted = 0 then first else k.first }
    let ends (code : BitVec 8) (k : WoRun) : WoRun :=
      if isFullCode code then k else { k with code := code, done := true }
    let one (r : BitVec 8 × BitVec 32 × State) (t : State) : Prop :=
      t.core.wo = some (if r.1 == 0 then { took r.2.1 k with code := 0, done := true } else ends r.1 k)
    let two (r q : BitVec 8 × BitVec 32 × State) (t : State) : Prop :=
      t.core.wo = some (if r.1 != 0 then ends r.1 k else if q.1 == 0 then
        { took q.2.1 (took r.2.1 k) with code := 0, done := true } else ends q.1 (took r.2.1 k))
    (k.accepted + 1 ≤ k.fetched →
      (∀ objs x, Wo.opcode k.wo = 1 → objs.length = Wo.count k.wo → objs.drop k.accepted = [x] →
        Completes (.woRecords k.ring wo objs false) s (one (giveRecord x s))) ∧
      (∀ objs x, Wo.opcode k.wo = 2 → objs.length = Wo.count k.wo → objs.drop k.accepted = [x] →
        Completes (.woDescs k.ring wo objs false) s (one (giveDesc x s))) ∧
      ∀ objs x, Wo.opcode k.wo = 3 → objs.length = Wo.count k.wo → objs.drop k.accepted = [x] →
        Completes (.woCollectives k.ring wo objs false) s (one (giveCol x s))) ∧
    (k.accepted + 2 ≤ k.fetched →
      (∀ objs x y, Wo.opcode k.wo = 1 → objs.length = Wo.count k.wo → objs.drop k.accepted = [x, y] →
        Completes (.woRecords k.ring wo objs false) s
          (two (giveRecord x s) (giveRecord y (giveRecord x s).2.2))) ∧
      (∀ objs x y, Wo.opcode k.wo = 2 → objs.length = Wo.count k.wo → objs.drop k.accepted = [x, y] →
        Completes (.woDescs k.ring wo objs false) s (two (giveDesc x s) (giveDesc y (giveDesc x s).2.2))) ∧
      ∀ objs x y, Wo.opcode k.wo = 3 → objs.length = Wo.count k.wo → objs.drop k.accepted = [x, y] →
        Completes (.woCollectives k.ring wo objs false) s (two (giveCol x s) (giveCol y (giveCol x s).2.2))))

/-- The commands of the vent port that move no register: SET_ADDR, STATUS, the mailbox, whose read frees the outbox
when it ends with a STOP, the alert response, a wrong or missing PEC, a wrong byte count, and an unknown command code
or protocol (R335 to R340; what a missing PEC and STATUS leave in LAST: assumption 77; the lowest bit of the alert's
byte: assumption 34; a wrong PEC judged before the count: assumption 120). READ64 returns the register at VADDR,
lowest byte first, WRITE64 writes any register there that the vent port may write, is dropped where it may not, and
refused where DBG_CMD asks for a read that is not admitted; each moves VADDR on by 8, a dropped or refused write too
(R15, R336, R337, R338; assumption 78). The mailbox registers: IN_DONE frees the inbox and alerts, OUT_POST posts a
message and alerts; one on a full outbox is dropped with code 0x86 (R339, R340; an IN_DONE of an empty inbox:
assumption 76). -/
def Obligations.VentTransactionsTakeEffect : Prop :=
  (∀ s : State, Settled s → aonOn s = true →
    let good (pec : Option Bool) : Prop := pec = some true ∨ (pec = none ∧ s.aon.pecReq = false)
    let last (code : BitVec 8) : State := s.onAon fun a => { a with ventLast := code }
    let nacked (t : State) : Prop := t.aon.ventLast = 4 ∧ t.aon.pecErrs = satAdd s.aon.pecErrs 1 ∧
      t.aon.vaddr = s.aon.vaddr ∧ t.aon.mboxIn = s.aon.mboxIn ∧ t.trf = s.trf ∧ t.cfg = s.cfg
    (∀ addr pec, good pec → exec (.setAddr ⟨addr, 4⟩ pec) s = .next (s.onAon fun a =>
      if field addr 0 3 != (0 : BitVec 3) then { a with ventLast := 6 } else { a with ventLast := 0, vaddr := addr })) ∧
    (∀ addr count pec, good pec → count ≠ 4 → exec (.setAddr ⟨addr, count⟩ pec) s = .next (last 3)) ∧
    (∀ v count pec, good pec → count ≠ 8 → Completes (.write64 ⟨v, count⟩ pec) s fun t =>
      t.aon = (last 3).aon ∧ OnlyIn [.aon, .gov, .core] s t) ∧
    (∀ addr count, Completes (.setAddr ⟨addr, count⟩ (some false)) s nacked) ∧
    (∀ v count, Completes (.write64 ⟨v, count⟩ (some false)) s nacked) ∧
    (∀ bytes, Completes (.mboxPut bytes (some false)) s nacked) ∧
    (s.aon.pecReq = true → (∀ addr count, exec (.setAddr ⟨addr, count⟩ none) s = .next (last 4)) ∧
      ∀ bytes, exec (.mboxPut bytes none) s = .next (last 4)) ∧
    (exec (.status false) s = .next (s.onAon fun a => { a with ventLast := 0, ventOut := [s.aon.ventLast] })) ∧
    (∀ bytes pec, good pec → 1 ≤ bytes.length → bytes.length ≤ 32 → s.aon.inFull = false →
      exec (.mboxPut bytes pec) s = .next (wakeCore (s.onAon fun a =>
        { a with ventLast := 0, mboxIn := BitVec.ofNat 256 (leNat bytes), inLen := BitVec.ofNat 6 bytes.length,
                 inFull := true }))) ∧
    (∀ bytes pec, good pec → 1 ≤ bytes.length → bytes.length ≤ 32 → s.aon.inFull = true →
      exec (.mboxPut bytes pec) s = .next (last 5)) ∧
    (∀ bytes pec, good pec → bytes.length = 0 ∨ 32 < bytes.length → exec (.mboxPut bytes pec) s = .next (last 3)) ∧
    (s.aon.outFull = true → s.aon.outLen.toNat ≤ 32 → ∀ stop, exec (.mboxGet ⟨false, stop⟩) s = .next (s.onAon fun a =>
      { a with ventLast := 0, outFull := !stop,
               ventOut := BitVec.ofNat 8 s.aon.outLen.toNat :: leBytes s.aon.outLen.toNat s.aon.mboxOut.toNat })) ∧
    (s.aon.outFull = false → ∀ stop, exec (.mboxGet ⟨false, stop⟩) s =
      .next (s.onAon fun a => { a with ventLast := 0, ventOut := [0] })) ∧
    (s.aon.smbalert = true → Completes (.alertResponse true) s fun t =>
      t.aon.smbalert = false ∧ ∃ b : BitVec 1, t.aon.ventOut = [ventAddr s ++ b]) ∧
    (exec (.alertResponse false) s = .next s) ∧
    (∀ code bad, ventReserved code = true ∨ bad = true → exec (.ventReservedCommand ⟨code, bad⟩) s =
      .next (if mainOn s then settle (report { code := 0x87, unit := 2 } s) else s)) ∧
    exec .smbusClockLowTimeout s = .next s) ∧
  (∀ s : State, Settled s → aonOn s = true → mainOn s = true →
    let off := s.aon.vaddr.toNat
    (dbgReadRefused .vent (localOff off) s = false ∨ subWindow off ≠ 0xE → Completes (.read64 false) s fun t =>
      t.aon.vaddr = s.aon.vaddr + 8 ∧ t.aon.ventLast = 0 ∧
        t.aon.ventOut = 8 :: leBytes 8 (regRead off s).toNat ∧ OnlyIn [.aon] s t) ∧
    (dbgReadRefused .vent (localOff off) s = true → subWindow off = 0xE → Completes (.read64 false) s fun t =>
      t.aon.vaddr = s.aon.vaddr + 8 ∧ t.aon.ventLast = 2 ∧ t.aon.ventOut = 8 :: leBytes 8 0 ∧ OnlyIn [.aon] s t) ∧
    (∀ v, off = 0xE0000 → dbgTurned .vent v s = true → Completes (.write64 ⟨v, 8⟩ (some true)) s fun t =>
      t.aon.vaddr = s.aon.vaddr + 8 ∧ t.aon.ventLast = 2 ∧ t.dbg = s.dbg ∧ OnlyIn [.aon, .core, .gov, .log] s t) ∧
    (∀ i v, regInfo off = some i → i.owner ≠ .host → writeTurned .vent off i v s = false →
      exec (.write64 ⟨v, 8⟩ (some true)) s =
        .next (settle (noteBinding (ventAdvance (regEffect .vent off v (answered .vent off (unitDrops off v s) s)))))) ∧
    (∀ i v, regInfo off = some i → i.owner ≠ .host → i.sh = false → plainReg off = true →
      Completes (.write64 ⟨v, 8⟩ (some true)) s fun t => t.aon.vaddr = s.aon.vaddr + 8 ∧ t.aon.ventLast = 0 ∧
        OnlyIn [regPart off, .aon, .core, .gov, .log] s t) ∧
    (∀ i v, regInfo off = some i → i.owner = .host → Completes (.write64 ⟨v, 8⟩ (some true)) s fun t =>
      t.aon.vaddr = s.aon.vaddr + 8 ∧ t.aon.ventLast = 1 ∧ OnlyIn [.aon, .core, .gov, .log] s t)) ∧
  (∀ (src : Src) (s : State), Settled s → Writes src .both s →
    (s.aon.inFull = true → Completes (.inDone src) s fun t =>
      t.aon.inFull = false ∧ t.aon.alert = s.aon.alert ||| 0x40 ∧ t.aon.mboxIn = s.aon.mboxIn ∧
        OnlyIn [.aon, .log] s t) ∧
    (s.aon.inFull = false → exec (.inDone src) s = .next (accept src 0xC0020 s)) ∧
    (s.aon.outFull = false → ∀ len, Completes (.outPost src len) s fun t =>
      t.aon.outFull = true ∧ t.aon.outLen = len ∧ t.aon.alert = s.aon.alert ||| 0x01 ∧
        t.aon.mboxOut = s.aon.mboxOut ∧ OnlyIn [.aon, .log] s t) ∧
    (s.aon.outFull = true → ∀ len, exec (.outPost src len) s =
      .next (settle (report { code := 0x86, unit := srcUnit src } (answer src .ok 0 s)))))

/-- A register write reaches its register: every register of the map takes its effect when its initiator may write
it; a plain register reads back what its RW fields were given, and no other plain register changes; ARB_CFG, the
governor's ceilings and ERR_MASK take what their own checks let through. A shadow register is not written while a
raise is pending, nor DBG_CMD while it refuses a read; a write of an unassigned offset is ignored, one of the wrong
owner class dropped, and one that its register's unit drops ends no episode of drops; with HP_REQ_WRITE low the
request is a read (R13, R14, R15, R17, R245, R300, R316, R325, R328, R365, R373; the read: assumption 119; which
drops: assumption 149). The mirror of a shadow register reads the active value and ignores writes (R14). -/
def Obligations.RegisterWritesReachTheirRegister : Prop :=
  (∀ (src : Src) (off : BitVec 24) (v : BitVec 64) (s : State),
    let o := off.toNat
    let held (t : State) : BitVec 64 := regHolds o t
    (∀ i, Settled s → Writes src i.owner s → regInfo o = some i → o ≠ 0x10020 →
      (o = 0xE0000 → dbgTurned src v s = true → Completes (.registerWrite src off (some v)) s fun t =>
        t.dbg = s.dbg ∧ OnlyIn [.aon, .gov, .core, .log] s t ∧ (src = .vent → t.aon.ventLast = 2)) ∧
      (writeTurned src o i v s = false → exec (.registerWrite src off (some v)) s =
        .next (settle (noteBinding (regEffect src o v (answered src o (unitDrops o v s) s))))) ∧
      (i.sh = true → s.cfg.pending = false → exec (.shadowRegisterWrite src off v) s =
        .next (settle (regEffect src o v (answered src o (unitDrops o v s) s)))) ∧
      (i.sh = true → s.cfg.pending = true → (Completes (.registerWrite src off (some v)) s fun t => t.cfg = s.cfg) ∧
        Completes (.shadowRegisterWrite src off v) s fun t => t.cfg = s.cfg)) ∧
    (∀ i, regInfo o = some i → plainReg o = true →
      held (regEffect src o v s) &&& i.rw = v &&& i.rw ∧ OnlyIn [regPart o] s (regEffect src o v s) ∧
        ∀ p, plainReg p = true → p ≠ o → regHolds p (regEffect src o v s) = regHolds p s) ∧
    (∀ b : Fin 32, o = 0x81000 + 8 * b.val →
      (arbCfgOk v = true → held (regEffect src o v s) = v &&& 0x0000007F00FFFFFF) ∧
      (arbCfgOk v = false → regEffect src o v s = report { code := 0x52, unit := BitVec.ofNat 12 b.val } s)) ∧
    (∀ i, subWindow o = 0xA → regInfo o = some i → i.rw ≠ 0 →
      (isProfile (localOff o) = true → regEffect src o v s = s) ∧
      (isProfile (localOff o) = false → govBad (localOff o) v = true → regEffect src o v s = report { code := 0x79 } s) ∧
      (isProfile (localOff o) = false → govBad (localOff o) v = false → held (regEffect src o v s) &&& i.rw = v &&& i.rw)) ∧
    (∀ k : Fin 4, o = 0xD0040 + 8 * k.val → held (regEffect src o v s) = v &&& maskBits k.val) ∧
    (Settled s → Writes src .both s →
      (regInfo o = none → Completes (.registerWrite src off (some v)) s fun t => OnlyIn [.aon, .gov, .core] s t) ∧
      (∀ i, regInfo o = some i → ownerDrops src i.owner = true →
        Completes (.registerWrite src off (some v)) s fun t =>
          OnlyIn [.aon, .gov, .core, .log] s t ∧ (src = .vent → t.aon.ventLast = 1)) ∧
      (subWindow o ≠ 0xE → Completes (.registerWrite src off none) s fun t =>
        OnlyIn [.aon, .gov, .core] s t ∧ ∀ id, src = .host id → t.aon.hpRsp = (0 : BitVec 2) ++ regRead o s))) ∧
  (∀ (off : Nat) (s : State), isShadow off = true →
    localOff off < 0x8000 ∧
    regRead (off + 0x8000) s = regRead off { s with cfg := { s.cfg with shadow := s.cfg.active } } ∧
    ∀ src v, regEffect src (off + 0x8000) v s = s)

/-- CFG_RAISE: RAISE and FORCE make a raise pending, CANCEL ends it, SYNC copies the active set; each that R363
refuses is refused with code 0x9A, a reserved value with 0x9C; a command while BUSY is lost; none touches the active
set (R363 to R365; that FORCE keeps the age of a pending raise: assumption 79; BUSY until the next CCLK edge:
assumption 12). A raise that is due exchanges the sets in one step: the active set becomes the shadow's and the
shadow the old active one (R364). -/
def Obligations.RaisesExchangeTheSets : Prop :=
  (∀ (src : Src) (s : State), Settled s → Writes src .both s →
    let taken := accept src 0x10100 s
    let refused (code : BitVec 8) (c : Instr) : Prop :=
      exec c s = .next (settle ((cfgRefuse code taken).onCfg fun k => { k with busy := true }))
    (s.cfg.busy = false →
      (exec (.cfgNop src) s = .next (taken.onCfg fun k => { k with code := 0, busy := true })) ∧
      (raiseAllowed s = true → s.cfg.pending = false → exec (.raise src) s = .next (taken.onCfg fun k =>
        { k with code := 0, pending := true, forced := false, cmdAt := s.now, busy := true })) ∧
      (raiseAllowed s = true → s.cfg.pending = true → exec (.raise src) s = .next (taken.onCfg fun k =>
        { k with code := 0, busy := true })) ∧
      (raiseAllowed s = true → exec (.force src) s = .next (taken.onCfg fun k =>
        { k with code := 0, pending := true, forced := true, busy := true
                 cmdAt := if k.pending then k.cmdAt else s.now })) ∧
      (raiseAllowed s = false → refused 0x9A (.raise src) ∧ refused 0x9A (.force src)) ∧
      (s.cfg.pending = true → Completes (.cancel src) s fun t =>
        t.cfg = { s.cfg with code := 0, pending := false, forced := false, busy := true }) ∧
      (s.cfg.pending = false → refused 0x9A (.cancel src)) ∧
      (s.cfg.pending = false → exec (.sync src) s = .next (taken.onCfg fun k =>
        { k with code := 0, shadow := k.active, busy := true })) ∧
      (s.cfg.pending = true → refused 0x9A (.sync src)) ∧
      (∀ raw, cfgReservedWord raw = true → refused 0x9C (.cfgRaiseReserved src raw))) ∧
    (s.cfg.busy = true → ∀ c ∈ [Instr.cfgNop src, .raise src, .force src, .cancel src, .sync src],
      exec c s = .next ((answer src .ok 0 s).onCfg fun k => { k with lost := true }))) ∧
  (∀ s : State, Settled s → raiseDue s = true → Completes .raiseApply s fun t =>
    t.cfg = { s.cfg with shadow := s.cfg.active, active := s.cfg.shadow, pending := false, forced := false,
                         raises := s.cfg.raises + 1, stamp := s.now,
                         lastWait := satNat 32 (s.now.toNat - s.cfg.cmdAt.toNat) } ∧
      t.trf.beams = s.trf.beams ∧ t.sched.queue = s.sched.queue)

/-- DBG_CMD starts a read of a beam of a mortise or of any beam. A RETIRED mortise is refused with code 0x07, an
INVALID one or a beam outside it with 0xA1; FAULT and PURGE refuse a read, and so does the vent port while the block
is locked, with code 0xA1 and DBG_CMD as written; a command during a read is lost (R326, R338, R384, R387; that NOP
leaves CODE 0: assumption 32). A debug read takes the path of its bay when no other requester competes for it, or has
it, and with its bank free ends with the beam, or the whole stored line, in DBG_DATA; it changes no stored beam (R68,
R244, R246, R384; that one command decides an idle path and takes its beat, and which client is picked: assumptions
17 and 20). -/
def Obligations.DebugReadsStartAndDeliver : Prop :=
  (∀ (src : Src) (s : State), Settled s → Writes src .both s →
    let taken := accept src 0xE0000 s
    let refusedRead (c : Instr) : Prop := Completes c s fun t => t.dbg = s.dbg ∧
      (∀ id, src = .host id → t.aon.hpRsp = (2 : BitVec 2) ++ (0 : BitVec 64)) ∧ (src = .vent → t.aon.ventLast = 2)
    (s.dbg.req = none → dbgBlocked s = false → (src = .vent → s.aon.bUnlock = true) →
      (exec (.dbgNop src) s = .next (taken.onDbg fun d => { d with code := 0 })) ∧
      (∀ mort ofs, (mortAt s mort).valid = true → ofs.toNat < (mortAt s mort).len.toNat →
        exec (.dataRead src mort ofs) s = .next (taken.onDbg fun d =>
          { d with code := 0, ue := false, ce := false,
                   req := some (false, mort, (mortAt s mort).beamAt ofs.toNat) })) ∧
      (∀ mort ofs, (mortAt s mort).st = .retired → Completes (.dataRead src mort ofs) s fun t =>
        t = settle (report { code := 0x07, loc := mort.setWidth 64 } (dbgCode 0x07 taken)) ∧
          t.dbg = { s.dbg with code := 0x07 }) ∧
      (∀ mort ofs, (mortAt s mort).st = .invalid ∨
          ((mortAt s mort).st ≠ .retired ∧ (mortAt s mort).len.toNat ≤ ofs.toNat) →
        Completes (.dataRead src mort ofs) s fun t => t.dbg = { s.dbg with code := 0xA1 }) ∧
      (∀ beam, exec (.raw src beam) s = .next (taken.onDbg fun d =>
        { d with code := 0, ue := false, ce := false, req := some (true, 0, beam) })) ∧
      (∀ raw, dbgReservedWord raw = true → Completes (.dbgCmdReserved src raw) s fun t =>
        t.dbg = { s.dbg with code := 0xA1 })) ∧
    (dbgBlocked s = true → (src = .vent → s.aon.bUnlock = true) → ∀ mort ofs beam,
      refusedRead (.dataRead src mort ofs) ∧ refusedRead (.raw src beam)) ∧
    (src = .vent → s.aon.bUnlock = false → ∀ mort ofs beam,
      let noted (v : BitVec 64) : Host.Outcome State Fault Refusal :=
        .next (settle (report { code := 0xA1, unit := 2, loc := v } (answer src .refused 0 s)))
      refusedRead (.dataRead src mort ofs) ∧ refusedRead (.raw src beam) ∧
        exec (.dataRead src mort ofs) s = noted ((1 : BitVec 2) ++ (0 : BitVec 32) ++ mort ++ ofs) ∧
        exec (.raw src beam) s = noted ((2 : BitVec 2) ++ (0 : BitVec 42) ++ beam)) ∧
    (s.dbg.req.isSome = true → dbgBlocked s = false → (src = .vent → s.aon.bUnlock = true) → ∀ mort ofs,
      exec (.dataRead src mort ofs) s = .next ((answer src .ok 0 s).onDbg fun d => { d with lost := true }))) ∧
  (∀ (isRaw : Bool) (mort : BitVec 10) (b : BitVec 20) (s : State), Settled s → unitsOn s = true →
    reqAdmitted s 7 = true → sideReadFree s b = true → s.dbg.req = some (isRaw, mort, b) →
    ((s.arb.bay[bayIx b].owner = none ∧ contenders s (bayIx b) = [7]) ∨
      ∃ key, s.arb.bay[bayIx b].owner =
        some { req := 7, client := .debug, write := false, jobs := [{ beam := b, key := key, mort := mort }] }) →
    Completes (.debugReadComplete {}) s fun t =>
      t.dbg.req = none ∧ t.trf.beams = s.trf.beams ∧ t.trf.errs = s.trf.errs ∧
      (isRaw = true → t.dbg.data = storedLine (storedBeam s b) (lineErr s b)) ∧
      (isRaw = false → t.dbg.data = (readLine (storedBeam s b) (lineErr s b)).beam.setWidth 4480 ∧
        t.dbg.ue = (readLine (storedBeam s b) (lineErr s b)).ue))

/-- The brace-set commands validate and invalidate a set; each that R108 or R109 refuses leaves the sets as they are,
with code 0x10 or 0x12; a command while BUSY is lost (R107 to R110; BUSY until the next CCLK edge: assumption 12).
The switch of a brace set loads the routes of its ports (R123). -/
def Obligations.BraceSetsAndTheirSwitch : Prop :=
  (∀ (src : Src) (n : BitVec 6) (s : State), Settled s → Writes src .host s →
    let taken := accept src 0x30010 s
    let ended (valid : BitVec 64) : Host.Outcome State Fault Refusal :=
      .next (taken.onTruss fun t =>
        { t with code := 0, refs := satNat 8 (braceRefs s n), valid := valid, busy := true })
    let refused (code : BitVec 8) (c : Instr) : Prop := Completes c s fun t =>
      t.truss = { s.truss with code := code, refs := satNat 8 (braceRefs s n), busy := true }
    (s.truss.busy = false →
      exec (.bsNop src n) s = ended s.truss.valid ∧
      (bitAt s.truss.valid n.toNat = true → exec (.bsValidate src n) s = ended s.truss.valid) ∧
      (bitAt s.truss.valid n.toNat = false → braceOk s n.toNat = true →
        exec (.bsValidate src n) s = ended (putBit64 s.truss.valid n.toNat true)) ∧
      (bitAt s.truss.valid n.toNat = false → braceOk s n.toNat = false → refused 0x10 (.bsValidate src n)) ∧
      (braceRefs s n = 0 → exec (.bsInvalidate src n) s = ended (putBit64 s.truss.valid n.toNat false)) ∧
      (braceRefs s n ≠ 0 → refused 0x12 (.bsInvalidate src n)) ∧
      (∀ raw, bsReservedWord raw = true → Completes (.bsReserved src raw) s fun t =>
        t.truss.code = 0x12 ∧ t.truss.valid = s.truss.valid ∧ t.truss.words = s.truss.words)) ∧
    (s.truss.busy = true → ∀ c ∈ [Instr.bsNop src n, .bsValidate src n, .bsInvalidate src n],
      exec c s = .next ((answer src .ok 0 s).onTruss fun t => { t with lost := true }))) ∧
  (∀ (slot : Fin 4) (b : Bent) (s : State), unitsOn s = true → s.sched.slot[slot].st = .issue →
    s.sched.slot[slot].switched = false → portsTaken s slot = false → s.sched.slot[slot].bents = [b] →
    let route : Route := { active := true, slot := BitVec.ofNat 2 slot.val, bent := BitVec.ofNat 5 b.id,
                           brace := Rec.brace s.sched.slot[slot].rcd }
    Completes (.braceSetSwitch slot) s fun t =>
      t.sched.slot[slot].switched = true ∧
      (b.id = 16 → t.truss.loopRoute = route ∧ t.truss.route = s.truss.route) ∧
      (b.id ≠ 16 → (∀ e ∈ portsOf b.ports, t.truss.route.get {} e.val = route) ∧
        ∀ e : Fin 16, e ∉ portsOf b.ports → t.truss.route.get {} e.val = s.truss.route.get {} e.val))

/-- The words of a brace set are written only while it is INVALID: a write to a VALID set is dropped, whatever the
masks and the log's room; its report is code 0x11, and further drops add to that entry's repeat count (R107). -/
def Obligations.BraceWordsAreWrittenWhileInvalid : Prop :=
  (∀ s, regHolds 0x30020 s = s.truss.valid) ∧
  ∀ (src : Src) (n w : BitVec 6) (v : BitVec 64) (s : State), Settled s → Writes src .host s →
    let off := 0x34000 + 0x200 * n.toNat + 8 * w.toNat
    let dropped : Report := { code := 0x11, loc := BitVec.ofNat 64 n.toNat }
    (bitAt s.truss.valid n.toNat = false → exec (.braceWordWrite src n w v) s =
      .next ((accept src off s).onTruss fun t =>
        { t with words := t.words.set 0 (64 * n.toNat + w.toNat) (v &&& braceMask w.toNat) })) ∧
    (bitAt s.truss.valid n.toNat = true → Completes (.braceWordWrite src n w v) s fun t =>
      t = settle (report dropped (answer src .ok 0 s)) ∧ t.truss = s.truss) ∧
    (bitAt s.truss.valid n.toNat = true → isMasked s 0x11 = false →
      (s.log.entries.any (·.matches dropped) = false → s.log.entries.length < 64 →
        Completes (.braceWordWrite src n w v) s fun t => t.log.entries = s.log.entries ++ [entryOf s dropped]) ∧
      (s.log.entries.any (·.matches dropped) = true →
        Completes (.braceWordWrite src n w v) s fun t =>
          t.log.entries = s.log.entries.map fun e => if e.matches dropped then { e with rep := satAdd e.rep 1 } else e))

/-- An operand read that is first at its bank takes the stream's next beam, scaled where the stream asks for it, or
the fill beam outside the mortise, and changes no stored beam; poison comes with it from its mortise or from a parity
error, which is counted (R68, R112, R116, R117). An index read that is first at its bank brings the 128 further
entries of the beam it names, or, outside the mortise, entries that are all masked; the drain's index beam joins
those of its phase, and a port's read that is still the next keeps its age (R68, R120, R182, R184, R185; the tie
between reads of one class: assumption 125). A gather entry joins its stream's beams: the fill beam when its index is
masked or out of range, the beam of a finished read of BASE + i, or a place that waits for that read, which is new
where none is in the window; the read is answered at its bank, for every entry that waits for it. A loop-back entry
uses up an admission (R117 to R119, R289; the poison of a fill beam: assumption 99). -/
def Obligations.StreamsAreFilled : Prop :=
  (∀ (slot : Fin 4) (k : Nat) (st : Stream) (parity : Bool) (s : State), streamAt s slot k = some st →
    mayIssue s slot = true → operandReady s.sched.slot[slot] st = true → operandFirst s slot st = true →
    let p := s.sched.slot[slot]
    let m := streamMort p st
    let b := BitVec.ofNat 20 (operandBeam p st st.next)
    let line := readLine (storedBeam s b) (lineErr s b)
    Completes (.operandRead slot k {} parity) s fun t =>
      t.trf.beams = s.trf.beams ∧ t.trf.errs = s.trf.errs ∧
      (parity = true → t.truss.count.get 0 5 = satAdd (s.truss.count.get 0 5) 1) ∧
      ∃ v : SBeam, streamAt t slot k =
          some { st with next := st.next + 1, fifo := st.fifo ++ [v], asked := s.now + 1 } ∧ v.wait = none ∧
        ((mortAt s m).holds b = false → v.data = fillBeam (mortAt s m).fmt (streamFill p st) ∧
          v.poison = (isPoisoned s m || parity)) ∧
        ((mortAt s m).holds b = true → v.data = scaleFor s p st line.beam ∧
          (line.ue = false → v.poison = (isPoisoned s m || parity)))) ∧
  (∀ (slot : Fin 4) (k : Nat) (parity : Bool) (s : State), unitsOn s = true →
    let p := s.sched.slot[slot]
    let beamRead (i : BitVec 10) (b base : Nat) (x : IdxBeam) : Prop :=
      x.base = base ∧ x.next = 0 ∧ (parity = true → x.poison = true) ∧
        x.data = if (mortAt s i).holds (BitVec.ofNat 20 b) then
          (readLine (storedBeam s (BitVec.ofNat 20 b)) (lineErr s (BitVec.ofNat 20 b))).beam else 0
    (∀ st, streamAt s slot k = some st → mayIssue s slot = true → indexReady p st = true →
      readFirst s (Rec.mIx p.rcd .idx) (indexBeam p st) (st.order slot) = true →
      Completes (.indexRead slot k {} parity) s fun t =>
        t.trf.beams = s.trf.beams ∧
        ∃ x : IdxBeam, beamRead (Rec.mIx p.rcd .idx) (indexBeam p st) st.idxNext x ∧
          streamAt t slot k =
            some { st with idxNext := st.idxNext + 128, idxBeams := st.idxBeams ++ [x], asked := s.now + 1 }) ∧
    (streamAt s slot k = none → (∀ st ∈ p.streams, st.side ≠ .loop) → mayIndex s slot = true →
      let port := k - p.streams.length
      ∀ step, nextDidx s slot port = some step →
      readFirst s (Rec.mIx p.rcd .didx) (didxBeam p port step) (didxOrder s slot port) = true →
      Completes (.indexRead slot k {} parity) s fun t => t.trf.beams = s.trf.beams ∧
        ∃ x : IdxBeam, beamRead (Rec.mIx p.rcd .didx) (didxBeam p port step) (didxKey p port step) x ∧
          t.sched.slot[slot].didx = p.didx ++ [x] ∧
          ∀ q, nextDidx t slot q = nextDidx s slot q →
            t.sched.slot[slot].didxAsked.get 0 q = p.didxAsked.get 0 q)) ∧
  ((∀ (slot : Fin 4) (k : Nat) (st : Stream) (x : IdxBeam) (xs : List IdxBeam) (parity : Bool) (s : State),
    unitsOn s = true → streamAt s slot k = some st → st.idxBeams = x :: xs → mayIssue s slot = true →
    entryReady s slot st = true →
    let p := s.sched.slot[slot]
    let m := mortAt s (Rec.mIx p.rcd .src)
    let i := intElem x.data x.next
    let b := m.beamAt i.toNat
    let inRange := elemValid 7 x.data x.next = true ∧ 0 ≤ i ∧ i < m.len.toNat
    (st.side = .loop → Completes (.gatherEntry slot ⟨k, parity⟩) s fun t => t.trf.beams = s.trf.beams ∧
      t.sched.slot[slot].lbLeft = p.lbLeft - 1 ∧
      t.sched.slot[slot].bents = p.bents.map fun b => { b with steps := b.steps + 1 }) ∧
    (st.side ≠ .loop → Completes (.gatherEntry slot ⟨k, parity⟩) s fun t => t.trf.beams = s.trf.beams ∧
      ∃ (st' : Stream) (v : SBeam), streamAt t slot k = some st' ∧ st'.next = st.next + 1 ∧ st'.fifo = st.fifo ++ [v] ∧
        (¬ inRange → v = { fillFor s p st with poison := (fillFor s p st).poison || x.poison || parity } ∧
          t.truss.reads = s.truss.reads) ∧
        (inRange → ∀ g, readOf s b = some g → t.truss.reads = s.truss.reads ∧ v.read = some g.id ∧
          (g.done = true → v.data = scaleFor s p st g.data ∧ v.wait = none ∧
            v.poison = (x.poison || g.poison || parity)) ∧
          (g.done = false → v.wait = some g.id ∧ v.poison = (x.poison || parity))) ∧
        (inRange → readOf s b = none → v.wait = some s.truss.nextId ∧ v.poison = (x.poison || parity) ∧
          t.truss.reads = s.truss.reads ++
            [{ id := s.truss.nextId, beam := b, mort := Rec.mIx p.rcd .src, ticket := p.ticket }]))) ∧
  ∀ (g : GRead) (parity : Bool) (s : State), gatherOn s = true → readsAt s (bankIx g.beam) = false →
    (∀ h ∈ s.truss.reads, h.id = g.id → h = g) → s.truss.reads.find? (fun h => h.id = g.id) = some g →
    s.truss.reads.find? (fun h => !h.done && bankOf h.beam == bankOf g.beam) = some g →
    let beam := (readLine (storedBeam s g.beam) (lineErr s g.beam)).beam
    Completes (.gatherRead g.id {} parity) s fun t => t.trf.beams = s.trf.beams ∧
      (∀ h ∈ t.truss.reads, h.id = g.id → h.done = true ∧ h.data = beam ∧ (parity = true → h.poison = true)) ∧
      ∀ (slot : Fin 4) (k : Nat) (st : Stream), streamAt s slot k = some st →
        (∀ q ∈ s.sched.slot[slot].streams, q.side ≠ .loop) → ∃ st', streamAt t slot k = some st' ∧
          (st'.fifo.map fun v => (v.data, v.wait)) = st.fifo.map fun v =>
            if v.wait = some g.id then (scaleFor s s.sched.slot[slot] st beam, none) else (v.data, v.wait))

/-- A bent whose beams are ready delivers an issue to each of its ports in one step, each using one operand credit:
the record has the heads of the bent's streams with their formats, scales, parity and poison, FIRST, LAST and, at
LAST, DFMT and DMODE, and the heads leave their streams. A port without credit, or below its ceiling, holds the bent;
one on which a later phase is being aborted still takes it, until the ABORT record is sent; a cold instance warms up;
the loop-back bent is admitted up to LB_WIDTH entries (R113, R125 to R129, R147, R289, R304). A bent of a phase that
cannot be admitted an issue banks all the same, in PAUSE, at a boundary and before the route switch: one BCLK adds
the ceiling to what it holds, and nothing is delivered (R201, R289). -/
def Obligations.IssuesAreDelivered : Prop :=
  (∀ (slot : Fin 4) (k : Nat) (b : Bent) (s : State), s.sched.slot[slot].bents[k]? = some b → mayIssue s slot = true →
    s.sched.slot[slot].switched = true → atBound s s.sched.slot[slot] b = false →
    b.steps < Rec.steps s.sched.slot[slot].rcd →
    let p := s.sched.slot[slot]
    let first := isFirst p b
    let ready := b.id ≠ 16 ∧ 64 ≤ accNext s b.id ∧ issueHeld p b = true ∧
      ∀ e ∈ portsOf b.ports, takesIssues s p e = true
    let room := ∀ e ∈ portsOf b.ports, s.ports.port[e].opCred ≠ 0 ∧ (first = true → lacksAcc s e = false)
    let sa := sideStream p .a b.asrc
    let sb (e : Fin 16) := sideStream p .b (bSrc (p.portWord e.val))
    let va := sa.fifo.headD {}
    let vb (e : Fin 16) := (sb e).fifo.headD {}
    (s.gov.cold = false → ready → room → Completes (.issueDelivery slot k) s fun t =>
      (∀ e ∈ portsOf b.ports, t.ports.port[e].opCred = s.ports.port[e].opCred - 1 ∧
        ∃ r, t.ports.port[e].out = some r ∧ r.kind = 0 ∧ r.a = va.data ∧ r.b = (vb e).data ∧
          r.apar = beamParity va.data ∧ r.bpar = beamParity (vb e).data ∧ r.aPoison = va.poison ∧
          r.bPoison = (vb e).poison ∧ r.afmt = (mortAt s (streamMort p sa)).fmt ∧
          r.bfmt = (mortAt s (streamMort p (sb e))).fmt ∧ r.ascale = Rec.scaleA p.rcd ∧ r.bscale = Rec.scaleB p.rcd ∧
          bitAt r.ctl 0 = first ∧ bitAt r.ctl 1 = isLast p b ∧
          (isLast p b = true → field r.ctl 12 2 = Rec.dmode p.rcd ∧ field r.ctl 14 4 = Rec.dfmt p.rcd) ∧
          (isLast p b = false → field r.ctl 12 2 ≠ (3 : BitVec 2))) ∧
      (∀ e : Fin 16, e ∉ portsOf b.ports → t.ports.port[e] = s.ports.port[e]) ∧
      t.sched.slot[slot].bents[k]? = some { b with steps := b.steps + 1 } ∧ t.trf.beams = s.trf.beams ∧
      ∀ i ∈ bentStreams p b, ∀ st, streamAt s slot i = some st →
        ∃ st', streamAt t slot i = some st' ∧ st'.fifo = st.fifo.drop 1) ∧
    (s.gov.cold = false → ready → ¬ room → Completes (.issueDelivery slot k) s fun t =>
      t.sched.slot[slot].bents = p.bents ∧ t.sched.slot[slot].streams = p.streams ∧
        ∀ e : Fin 16, t.ports.port[e].out = s.ports.port[e].out ∧ t.ports.port[e].opCred = s.ports.port[e].opCred) ∧
    (s.gov.cold = true → ready → room → Completes (.issueDelivery slot k) s fun t => t.gov.cold = false) ∧
    (s.gov.cold = false → b.id ≠ 16 → accNext s b.id < 64 → Completes (.issueDelivery slot k) s fun t =>
      t.sched.slot[slot].bents = p.bents ∧ t.ports = s.ports ∧ t.gov.bent[govIx b.id].acc = accNext s b.id) ∧
    (s.gov.cold = false → b.id = 16 →
      let ready := s.truss.reads.length < 1024 ∧ loopHeld s slot = false ∧ ∃ st ∈ p.streams, st.idxBeams ≠ []
      Completes (.issueDelivery slot k) s fun t =>
        (64 ≤ accNext s 16 ∧ ready → t.sched.slot[slot].lbLeft = Rec.lbWidth p.rcd ∧
          t.gov.bent[govIx 16].acc = accNext s 16 - 64) ∧
        (¬ (64 ≤ accNext s 16 ∧ ready) → t.sched.slot[slot].lbLeft = 0 ∧ t.gov.bent[govIx 16].acc = accNext s 16))) ∧
  (∀ (slot : Fin 4) (k : Nat) (b : Bent) (s : State), s.sched.slot[slot].bents[k]? = some b →
    b.steps < Rec.steps s.sched.slot[slot].rcd → bentRuns s slot b = false → bentBanks s slot b = true →
    Completes (.issueDelivery slot k) s fun t => t.gov.bent[govIx b.id].acc = accNext s b.id ∧
      t.sched.slot[slot].bents = s.sched.slot[slot].bents ∧ t.trf.beams = s.trf.beams ∧ t.ports = s.ports)

/-- An agreed port gains an operand credit, accepts a drain beam that keeps its tile's rules into its buffer for one
drain credit, and hands its oldest beam on to the drain network, or the sequencer, returning the credit (R136 to
R138, R151, R166). -/
def Obligations.PortsTakeCreditsAndDrainBeams : Prop :=
  ∀ (e : Fin 16) (s : State), Settled s → unitsOn s = true → (portAt s e).st = .agreed →
    let q := portAt s e
    (q.opCred < q.opDepth → exec (.operandCredit e) s = .next (s.onPort e fun q => { q with opCred := q.opCred + 1 })) ∧
    (∀ (tile : Tile) rest tag data poison, q.tiles = tile :: rest → q.drCred ≠ 0 → drainOk q tile tag = true →
      Completes (.drain e tag data poison false false) s fun t =>
        (portAt t e).tiles = (if tile.got.length + 1 = tileBeams q tile then rest
          else { tile with got := tile.got ++ [tagKey tag] } :: rest) ∧
        (q.abortTickets.contains tile.ticket = true → (portAt t e).buf = q.buf ∧ (portAt t e).drCred = q.drCred) ∧
        (q.abortTickets.contains tile.ticket = false → (portAt t e).drCred = q.drCred - 1 ∧
          (portAt t e).buf = q.buf ++ [
            { ticket := tile.ticket, slot := tile.slot, j := tile.j, step := tile.lastStep, orient := tagOrient tag,
              tag := tagBeam tag, fmt := tagFmt tag, data := data,
              poison := poison || bitAt q.accPoison tile.acc }]) ∧
        (∀ p, p ≠ e → portAt t p = portAt s p) ∧ t.trf.beams = s.trf.beams ∧ t.sinter.net = s.sinter.net) ∧
    ∀ b rest us, q.buf = b :: rest → portUpdates s e b = some us →
      let seq := s.sched.slot[b.slot].sequenced
      (seq = false → s.sinter.net.get [] e.val = [] → Completes (.drainNetworkEntry e) s fun t =>
        (portAt t e).buf = rest ∧ (portAt t e).drCred = q.drCred + 1 ∧
        t.sinter.net.get [] e.val = us.filterMap id ∧
        (∀ k, k ≠ e.val → t.sinter.net.get [] k = s.sinter.net.get [] k) ∧
        (∀ p, p ≠ e → portAt t p = portAt s p) ∧ t.trf.beams = s.trf.beams) ∧
      (seq = true → seqNumber s s.sched.slot[b.slot] e b < s.sinter.seqNext + 2048 →
        Completes (.drainNetworkEntry e) s fun t =>
          (portAt t e).buf = rest ∧ (portAt t e).drCred = q.drCred + 1 ∧ t.sinter.net = s.sinter.net ∧
          { ticket := b.ticket, num := seqNumber s s.sched.slot[b.slot] e b, ups := us.filterMap id } ∈ t.sinter.seqBeams ∧
          t.trf.beams = s.trf.beams)

/-- A port trains when its engine is present and its reset ends, takes a capability record that passes, agrees with
its ACK unless Ep_FAULT_N is low, and sends an ABORT record, once no issue of an earlier phase is to come and no tile
of it is open, whose ACK frees every accumulator and clears the aborted tiles (R141 to R143, R145, R147, R148; that
an ACK with Ep_FAULT_N low fails the port with 0x1D: assumption 90; the ABORT record's contents: assumption 103; a
tile of a later phase stays: assumption 59; one record for several aborted phases, and no timer without a credit:
assumptions 127 and 128). -/
def Obligations.PortsAgreeAndAbort : Prop :=
  ∀ (e : Fin 16) (s : State), Settled s → unitsOn s = true →
    let q := portAt s e
    (q.holdRst = true → Completes (.portResetEnd e) s fun t =>
      (portAt t e).st = (if q.present then .training else .absent) ∧ (portAt t e).holdRst = false ∧
        ∀ p, p ≠ e → portAt t p = portAt s p) ∧
    (aonOn s = true → q.st = .absent → Completes (.epPresentRise e false) s fun t =>
      (portAt t e).st = .training ∧ (portAt t e).present = true ∧ (portAt t e).drCred = 32 ∧
        ∀ p, p ≠ e → portAt t p = portAt s p) ∧
    (q.st = .training → ∀ r,
      (q.capSeen = false → capOk r = true → Completes (.cap e r false) s fun t =>
        (portAt t e).st = .training ∧ (portAt t e).cap = r ∧ (portAt t e).capSeen = true ∧
          let a : BitVec 4352 := (agreeRecord s e r).setWidth 4352
          (portAt t e).out = some { kind := 1, a := a, apar := beamParity a }) ∧
      (q.capSeen = false → capOk r = false → Completes (.cap e r false) s fun t =>
        (portAt t e).st = .failed ∧ (portAt t e).lastCode = 0x19 ∧ (portAt t e).cap = r) ∧
      (q.capSeen = true → Completes (.cap e r false) s fun t =>
        (portAt t e).st = .failed ∧ (portAt t e).lastCode = 0x1A)) ∧
    (q.st = .training → q.capSeen = true → q.faultN = false → Completes (.ack e 0 false) s fun t =>
      (portAt t e).st = .failed ∧ (portAt t e).lastCode = 0x1D) ∧
    (q.st = .training → q.capSeen = true → q.faultN = true → Completes (.ack e 0 false) s fun t =>
      (portAt t e).st = .agreed ∧ (portAt t e).ver = BitVec.ofNat 4 (capVer q.cap) ∧
        (portAt t e).opCred = q.opDepth ∧ (portAt t e).drCred = 32 ∧ (portAt t e).tiles = []) ∧
    (q.st = .agreed →
      (q.abortTickets ≠ [] → q.abortSent = false → q.opCred ≠ 0 → abortReady s e = true →
        exec (.abortRecordSend e) s = .next (s.onPort e fun q =>
          { q with abortSent := true, opCred := q.opCred - 1, out := some { kind := 2 } })) ∧
      (q.abortSent = true → q.drCred ≠ 0 → Completes (.ack e 0 false) s fun t =>
        (portAt t e).st = .agreed ∧ (portAt t e).abortSent = false ∧ (portAt t e).abortTickets = [] ∧
          (portAt t e).tiles = (q.tiles.filter fun i => !q.abortTickets.contains i.ticket).map
            (fun i => { i with freed := true }) ∧
          (portAt t e).tileSeq = 0 ∧ (portAt t e).accPoison = 0 ∧ (portAt t e).opCred = q.opCred))

/-- What fails a port: the timers, a reserved drain kind, a credit too many, a drain beam out of turn, Ep_FAULT_N and
an absent engine; every phase that holds the port aborts, and no other port changes its state. The level of
Ep_FAULT_N is kept (assumption 90); a port in TRAINING that loses its engine becomes ABSENT, with code 0x1D where a
phase holds it (R141, R143, R145, R146; that code: assumption 104). -/
def Obligations.PortsFail : Prop :=
  ∀ (e : Fin 16) (s : State), Settled s → unitsOn s = true →
    let q := portAt s e
    let failed (st : PortState) (code : BitVec 8) (t : State) : Prop :=
      (portAt t e).st = st ∧ (portAt t e).lastCode = code ∧ (portAt t e).buf = [] ∧ (portAt t e).tiles = [] ∧
        (portAt t e).opCred = 0 ∧ (∀ n ∈ holders s e, t.sched.slot[n].st = .abort) ∧
        (∀ p, p ≠ e → (portAt t p).st = (portAt s p).st ∧ (portAt t p).buf = (portAt s p).buf) ∧
        t.trf.beams = s.trf.beams
    (q.st = .training → trainTimer s ≠ 0 → Completes (.trainingTimeout e) s (failed .failed 0x18)) ∧
    (q.st = .training ∨ q.st = .agreed → Completes (.reservedDrainKind e) s (failed .failed 0x1A)) ∧
    (q.st = .training → ∀ tag data p b f, Completes (.drain e tag data p b f) s (failed .failed 0x1A)) ∧
    (q.st = .agreed → ∀ r p, Completes (.cap e r p) s (failed .failed 0x1A)) ∧
    (aonOn s = true → q.st ≠ .agreed → ∀ high, Completes (.epFaultAssert e ⟨high, false⟩) s fun t =>
      (portAt t e).st = q.st ∧ (portAt t e).faultN = high ∧ ∀ p, p ≠ e → portAt t p = portAt s p) ∧
    (aonOn s = true → q.st = .training →
      (holders s e = [] → Completes (.epPresentFall e false) s fun t =>
        (portAt t e).st = .absent ∧ (portAt t e).lastCode = q.lastCode ∧ (portAt t e).present = false) ∧
      (holders s e ≠ [] → Completes (.epPresentFall e false) s fun t =>
        failed .absent 0x1D t ∧ (portAt t e).present = false)) ∧
    (q.st = .agreed →
      (q.opDepth ≤ q.opCred → Completes (.operandCredit e) s (failed .failed 0x1A)) ∧
      (q.tiles = [] ∨ q.drCred = 0 → ∀ tag data, Completes (.drain e tag data false false false) s
        (failed .failed 0x1A)) ∧
      (∀ p, Completes (.ack e 1 p) s (failed .failed 0x1A)) ∧
      (aonOn s = true → ∀ high chatter, high = false ∨ chatter = true →
        Completes (.epFaultAssert e ⟨high, chatter⟩) s fun t => failed .failed 0x1D t ∧ (portAt t e).faultN = false) ∧
      (aonOn s = true → Completes (.epPresentFall e false) s fun t => failed .absent 0x1D t ∧ (portAt t e).present = false) ∧
      (s.aon.st = .run → stallTimer s ≠ 0 → operandStalled s e = true →
        Completes (.operandStallTimeout e) s (failed .failed 0x1B)) ∧
      (s.aon.st = .run → drainTimer s ≠ 0 → drainStalled q = true →
        Completes (.drainStallTimeout e) s (failed .failed 0x1B)) ∧
      (s.aon.st = .run ∨ s.aon.st = .ready ∨ s.aon.st = .purge → q.abortSent = true → stallTimer s ≠ 0 →
        Completes (.abortAckTimeout e) s (failed .failed 0x1B)))

/-- The port commands: RETRAIN and ONLINE hold a port that no phase holds in reset and are refused with code 0x1E on
one that is held, and change nothing in the states where R141 says so; OFFLINE takes a port away and aborts its
phases; a reserved word is refused; a command while BUSY is lost (R141, R148, R149; RETRAIN of an OFFLINE port:
assumption 105; BUSY until the next CCLK edge: assumption 12). -/
def Obligations.PortCommandsTakeEffect : Prop :=
  ∀ (src : Src) (e : Fin 16) (s : State), Settled s → Writes src .host s →
    let q := portAt s e
    let taken := accept src 0x40010 s
    (s.ports.busy = true → (∀ c ∈ [Instr.portCmdNop src e, .portRetrain src e, .portOnline src e],
        exec c s = .next ((answer src .ok 0 s).onPorts fun t => { t with lost := true })) ∧
      Completes (.portOffline src e) s fun t => t.ports = { s.ports with lost := true }) ∧
    (s.ports.busy = false →
    (exec (.portCmdNop src e) s = .next (taken.onPorts fun t => { t with code := 0, busy := true })) ∧
    (holders s e = [] →
      (q.st = .failed ∨ q.st = .agreed ∨ q.st = .training → Completes (.portRetrain src e) s fun t =>
        (portAt t e).st = .reset ∧ (portAt t e).holdRst = true ∧ (portAt t e).buf = [] ∧ t.ports.code = 0 ∧
          ∀ p, p ≠ e → portAt t p = portAt s p) ∧
      (q.st = .absent ∨ q.st = .reset ∨ q.st = .offline → exec (.portRetrain src e) s =
        .next (taken.onPorts fun t => { t with code := 0, busy := true })) ∧
      (q.st ≠ .offline → exec (.portOnline src e) s =
        .next (taken.onPorts fun t => { t with code := 0, busy := true })) ∧
      (q.st = .offline → Completes (.portOnline src e) s fun t =>
        (portAt t e).st = .reset ∧ (portAt t e).holdRst = true ∧ t.ports.code = 0 ∧
          ∀ p, p ≠ e → portAt t p = portAt s p)) ∧
    (holders s e ≠ [] → Completes (.portRetrain src e) s (fun t => t.ports.code = 0x1E ∧ (portAt t e).st = q.st) ∧
      Completes (.portOnline src e) s (fun t => t.ports.code = 0x1E ∧ (portAt t e).st = q.st)) ∧
    (Completes (.portOffline src e) s fun t => (portAt t e).st = .offline ∧ (portAt t e).buf = [] ∧ t.ports.code = 0 ∧
      (∀ n ∈ holders s e, t.sched.slot[n].st = .abort) ∧ ∀ p, p ≠ e → (portAt t p).st = (portAt s p).st) ∧
    ∀ raw, portReservedWord raw = true → Completes (.portCmdReserved src raw) s fun t =>
      t.ports.code = 0x1E ∧ ∀ p, (portAt t p).st = (portAt s p).st)

/-- An update enters the queue of its bank, where a loop-back path that was held back may follow it into the network;
its stored beam is read there in the bank's order, and the combine step stores the combined beam and takes the update
off; the sequencer releases its lowest beam (R68, R151 to R155, R160, R166, R186; one sequence number for a beam,
whose updates are released together into an empty entry: assumption 14; the path held at 32 entries: assumption 102).
-/
def Obligations.SinterUpdatesReachTheirBeam : Prop :=
  ∀ s : State, unitsOn s = true →
    (∀ (src : Fin 24) u rest, s.sinter.net.get [] src.val = u :: rest → (queueOf s (bankIx u.dest)).length < 8 →
      Completes (.sinterUpdateEnqueue src) s fun t =>
        let loopSide (k : Nat) := 16 ≤ k ∧ k < 20
        (∃ more, t.sinter.net.get [] src.val = rest ++ more ∧ (¬ loopSide src.val → more = [])) ∧
        (∀ k, k ≠ src.val → ∃ more, t.sinter.net.get [] k = s.sinter.net.get [] k ++ more ∧ (¬ loopSide k → more = [])) ∧
        queueOf t (bankIx u.dest) = queueOf s (bankIx u.dest) ++ [matchUpdate (queueOf s (bankIx u.dest)) u] ∧
        (∀ k, k ≠ bankIx u.dest → queueOf t k = queueOf s k) ∧ t.trf.beams = s.trf.beams) ∧
    (∀ (bank : Fin 512) i u, nextSinterRead s bank.val = some i → (queueOf s bank.val)[i]? = some u →
      let line := readLine (storedBeam s u.dest) (lineErr s u.dest)
      Completes (.sinterRead bank {}) s fun t =>
        (queueOf t bank.val)[i]? = some { u with stored := .got line.beam line.ue } ∧
        (∀ j, j ≠ i → (queueOf t bank.val)[j]? = (queueOf s bank.val)[j]?) ∧
        (∀ k, k ≠ bank.val → queueOf t k = queueOf s k) ∧ t.trf.beams = s.trf.beams) ∧
    (∀ (bank : Fin 512) u rest b, queueOf s bank.val = u :: rest →
      (u.stored = .got b false ∨ (u.stored = .unneeded ∧ b = storedBeam s u.dest)) → u.poison = false →
      let c := combine u b (s.sinter.lfsr.get 0 bank.val)
      Completes (.sinterCombine bank false) s fun t =>
        storedBeam t u.dest = c.beam ∧ lineErr t u.dest = {} ∧
        (∀ d, d ≠ u.dest → storedBeam t d = storedBeam s d ∧ lineErr t d = lineErr s d) ∧
        queueOf t bank.val = passOn u.dest (.got c.beam false) rest ∧
        (∀ k, k ≠ bank.val → queueOf t k = queueOf s k) ∧ t.sinter.lfsr.get 0 bank.val = c.lfsr ∧
        ∀ k, k ≠ bank.val → t.sinter.lfsr.get 0 k = s.sinter.lfsr.get 0 k) ∧
    (∀ (bank : Fin 512) u rest b, queueOf s bank.val = u :: rest → u.stored = .got b true → ∀ parity,
      Completes (.sinterCombine bank parity) s fun t => queueOf t bank.val = passOn u.dest .lost rest ∧
        t.trf.beams = s.trf.beams) ∧
    ∀ (n : Fin 4) b rest, s.sched.slot[n].holdsSeq = true → s.sinter.seqBeams = b :: rest →
      b.num = s.sinter.seqNext → s.sinter.net.get [] (20 + n.val) = [] →
      Completes (.sequencerRelease n) s fun t => t.sinter.seqNext = s.sinter.seqNext + 1 ∧
        t.sinter.net.get [] (20 + n.val) = b.ups ∧ (∀ x ∈ rest, x ∈ t.sinter.seqBeams) ∧ t.trf.beams = s.trf.beams

/-- An update of an S16 destination in SR mode advances its bank's LFSR by 256 draws of 16 shifts each, whatever the
update's window and data and the stored beam; in RNE mode, and on another format, not at all (R53, R54, R163). -/
def Obligations.StochasticUpdatesDraw256Values : Prop :=
  let shift (x : BitVec 32) : BitVec 32 := (x <<< 1) ||| ((x >>> 31 ^^^ x >>> 21 ^^^ x >>> 1 ^^^ x) &&& 1)
  ∀ (u : Update) (stored : Beam) (x : BitVec 32),
    (u.dfmt = 3 → u.sr = true → (combine u stored x).lfsr = shift^[16 * 256] x) ∧
    (u.sr = false ∨ u.dfmt ≠ 3 → (combine u stored x).lfsr = x)

/-- The tally commands: NOP, a CLEAR that no phase bars, a FOLD, a command that waits for a running fold, a reserved
word; the fold's end leaves the tree sum of the 512 partials; and the hot queue register (R168, R171, R172). -/
def Obligations.TalliesAndHotQueues : Prop :=
  (∀ (src : Src) (i : Fin 4) (v : BitVec 64) (s : State), Settled s → Writes src .host s →
    (exec (.tallyNop src i) s = .next ((accept src 0x50018 s).onSinter fun k => { k with tallyCode := 0 })) ∧
    (bitAt s.sinter.folding i.val = false →
      (tallyUsers s i = 0 → Completes (.tallyClear src i) s fun t =>
        t.sinter.tallyCode = 0 ∧ t.sinter.tally.get 0 i.val = 0 ∧ bitAt t.sinter.nonfinite i.val = false ∧
        (∀ b, b < 512 → t.sinter.partials.get 0 (512 * i.val + b) = 0) ∧
        (∀ j : Fin 4, j ≠ i → t.sinter.tally.get 0 j.val = s.sinter.tally.get 0 j.val ∧
          ∀ b, b < 512 → t.sinter.partials.get 0 (512 * j.val + b) = s.sinter.partials.get 0 (512 * j.val + b)) ∧
        OnlyIn [.sinter, .aon, .log] s t) ∧
      (tallyUsers s i ≠ 0 → Completes (.tallyClear src i) s fun t =>
        t.sinter = { s.sinter with tallyCode := 0x27 }) ∧
      (Completes (.tallyFold src i) s fun t =>
        t.sinter = { s.sinter with tallyCode := 0, folding := s.sinter.folding ||| ((1 : BitVec 4) <<< i.val) } ∧
          OnlyIn [.sinter, .aon, .log] s t)) ∧
    (bitAt s.sinter.folding i.val = true →
      Completes (.tallyClear src i) s (fun t =>
        t.sinter = { s.sinter with tallyQ := s.sinter.tallyQ ++ [(false, i)] }) ∧
      Completes (.tallyFold src i) s (fun t =>
        t.sinter = { s.sinter with tallyQ := s.sinter.tallyQ ++ [(true, i)] })) ∧
    (∀ raw, tallyReservedWord raw = true → Completes (.tallyCmdReserved src raw) s fun t =>
      t.sinter = { s.sinter with tallyCode := 0x27 }) ∧
    (Completes (.sntHotWrite src v) s fun t =>
      t.sinter = { s.sinter with hotBclk := field v 0 32 } ∧ OnlyIn [.sinter, .aon, .log] s t)) ∧
  ∀ s : State, unitsOn s = true →
    (∀ i : Fin 4, bitAt s.sinter.folding i.val = true → s.sinter.tallyQ = [] → Completes (.tallyFoldComplete i) s fun t =>
      t.sinter.tally.get 0 i.val =
          treeSum 9 ((List.range 512).map fun b => s.sinter.partials.get 0 (512 * i.val + b)) ∧
        t.sinter.partials = s.sinter.partials ∧
        ∀ j : Fin 4, j ≠ i → t.sinter.tally.get 0 j.val = s.sinter.tally.get 0 j.val) ∧
    ∀ (bank : Fin 512) (run : BitVec 32), (queueOf s bank.val).length = 8 →
      Completes (.sinterHotQueue bank run) s fun t =>
        (t.sinter.hotBclk, t.sinter.hotBank) =
          (if s.sinter.hotBclk.toNat < run.toNat then (run, BitVec.ofNat 9 bank.val)
           else (s.sinter.hotBclk, s.sinter.hotBank)) ∧ t.sinter.queue = s.sinter.queue

/-- SCH_PUSH puts a record that passes its check at the queue's tail with the next ticket, and refuses one that does
not, the queue unchanged; a reserved bit is refused with code 0x30, a value 0 does nothing, and a push while BUSY is
lost (R191, R203, R205; BUSY until the next CCLK edge: assumption 12). The commands of SCH_CMD: NOP, ABORT of a
queued or of a running phase, ABORT_SLOT, which ends a phase's fold with no sum, FLUSH, QRESUME, and the refusals
with code 0x39; a command while BUSY is lost (R196, R197, R205; that a refusal leaves LAST_CODE and SCH_EVENT:
assumption 46; BUSY until the next CCLK edge: assumption 12). -/
def Obligations.ScheduleQueueAndCommands : Prop :=
  (∀ (src : Src) (s : State), Settled s → Writes src .host s → unitsOn s = true →
    let taken := accept src 0x60200 s
    (s.sched.pushBusy = true → ∀ raw, exec (.schPush src raw) s =
      .next ((answer src .ok 0 s).onSched fun c => { c with pushLost := true })) ∧
    (s.sched.pushBusy = false →
    (exec (.schPush src 0) s = .next (taken.onSched fun c => { c with pushBusy := true })) ∧
    (recordCheck s s.sched.pbuf = 0 → Completes (.schPush src 1) s fun t =>
      t.sched.queue = s.sched.queue ++ [{ ticket := s.sched.nextTicket, rcd := s.sched.pbuf }] ∧
        t.sched.nextTicket = s.sched.nextTicket + 1 ∧ t.sched.pushCode = 0 ∧
        t.sched.pushTicket = s.sched.nextTicket ∧ t.sched.slot = s.sched.slot) ∧
    (recordCheck s s.sched.pbuf ≠ 0 → Completes (.schPush src 1) s fun t =>
      t.sched.queue = s.sched.queue ∧ t.sched.nextTicket = s.sched.nextTicket ∧
        t.sched.pushCode = recordCheck s s.sched.pbuf ∧ t.sched.lastCode = recordCheck s s.sched.pbuf ∧
        t.sched.event = s.sched.event ||| 4 ∧ t.sched.qhalt = (s.sched.qhalt || s.sched.haltRefuse)) ∧
    ∀ raw, raw >>> 1 ≠ 0 → Completes (.schPush src raw) s fun t =>
      t.sched.queue = s.sched.queue ∧ t.sched.pushCode = 0x30)) ∧
  (∀ (src : Src) (s : State), Settled s → Writes src .host s → unitsOn s = true →
    let taken := accept src 0x60018 s
    let refused (t : State) : Prop :=
      t.sched = { s.sched with cmdCode := 0x39, cmdBusy := true }
    let aborted (n : Fin 4) (t : State) : Prop :=
      t.sched.slot[n].st = .abort ∧ t.sched.slot[n].abortCode = 0x37 ∧ t.sched.cmdCode = 0 ∧ t.sched.lastCode = 0x37 ∧
        t.sched.queue = s.sched.queue ∧ ∀ m, m ≠ n → t.sched.slot[m] = s.sched.slot[m]
    (s.sched.cmdBusy = true → ∀ c ∈ [Instr.schNop src, .schQresume src, .schFlush src],
      exec c s = .next ((answer src .ok 0 s).onSched fun c => { c with cmdLost := true })) ∧
    (s.sched.cmdBusy = false →
    (exec (.schNop src) s = .next (taken.onSched fun c => { c with cmdCode := 0, cmdBusy := true })) ∧
    (exec (.schQresume src) s = .next (taken.onSched fun c => { c with qhalt := false, cmdCode := 0, cmdBusy := true })) ∧
    (∀ ticket,
      (∀ q, s.sched.queue.find? (fun q => q.ticket == ticket) = some q → Completes (.schAbort src ticket) s fun t =>
        t.sched.queue = s.sched.queue.filter (fun r => r.ticket != q.ticket) ∧ t.sched.cmdCode = 0 ∧
          t.sched.lastCode = 0x37 ∧ t.sched.event = s.sched.event ||| 2 ∧ t.sched.slot = s.sched.slot) ∧
      (s.sched.queue.find? (fun q => q.ticket == ticket) = none →
        (∀ n, slotOfTicket s ticket = some n → s.sched.slot[n].st ≠ .abort →
          Completes (.schAbort src ticket) s (aborted n)) ∧
        (∀ n, slotOfTicket s ticket = some n → s.sched.slot[n].st = .abort →
          Completes (.schAbort src ticket) s fun t => t.sched = { s.sched with cmdCode := 0, cmdBusy := true }) ∧
        (slotOfTicket s ticket = none → Completes (.schAbort src ticket) s refused))) ∧
    (∀ n : Fin 4,
      (s.sched.slot[n].st ≠ .free → s.sched.slot[n].st ≠ .abort → Completes (.schAbortSlot src n) s (aborted n)) ∧
      (s.sched.slot[n].st = .free → Completes (.schAbortSlot src n) s refused) ∧
      (s.sched.slot[n].foldRuns = true → s.sinter.tallyQ = [] → Completes (.schAbortSlot src n) s fun t =>
        bitAt t.sinter.folding (Rec.tally s.sched.slot[n].rcd).toNat = false ∧ t.sinter.tally = s.sinter.tally)) ∧
    (Completes (.schFlush src) s fun t => t.sched.queue = [] ∧ t.sched.cmdCode = 0 ∧ t.sched.slot = s.sched.slot) ∧
    ∀ raw, schReservedWord raw = true → Completes (.schCmdReserved src raw) s refused))

/-- A phase goes through its slot: the queue's head enters the lowest free slot, passes or fails its admission check,
waits for its tokens, holds, starts, stands at an interior boundary and finishes; no other slot changes (R192 to
R195, R188, R201). A token wait that outlasts TOK_TIMEOUT aborts the phase with code 0x31, and a phase whose abort is
over leaves its slot with its code in SCH_LAST (R188, R196, R197). -/
def Obligations.PhasesMoveThroughTheirSlots : Prop :=
  (∀ s : State, Settled s →
    (∀ q rest n, s.sched.queue = q :: rest → freeSlot s = some n → mayAdmit s = true →
      Completes .recordAdmit s fun t => t.sched.queue = rest ∧ t.sched.slot[n].st = .check ∧
        t.sched.slot[n].ticket = q.ticket ∧ t.sched.slot[n].rcd = q.rcd ∧
        t.sched.slot[n].brace = braceWords s (Rec.brace q.rcd).toNat ∧
        (∀ m, m ≠ n → t.sched.slot[m] = s.sched.slot[m]) ∧ (s.aon.st = .ready → t.aon.st = .run)) ∧
    ∀ n : Fin 4,
      let p := s.sched.slot[n]
      let others (t : State) : Prop := ∀ m, m ≠ n → t.sched.slot[m] = s.sched.slot[m]
      (checks s = true → p.st = .check →
        ((admitCheck s p).1 = 0 → Completes (.admissionCheck n) s fun t =>
          t.sched.slot[n] = { p with st := .wait } ∧ others t) ∧
        ((admitCheck s p).1 ≠ 0 → Completes (.admissionCheck n) s fun t =>
          t.sched.slot[n] = {} ∧ t.sched.lastCode = (admitCheck s p).1 ∧ others t)) ∧
      (s.aon.st = .run → p.st = .wait → slotPending s n = 0 → Completes (.phaseWaitsSatisfied n) s fun t =>
        t.sched.slot[n] = { p with st := .hold } ∧ others t) ∧
      (mayStart s n = true → sorOk s p s.sinter.clip = true → Completes (.phaseStart n) s fun t =>
        t.sched.slot[n].st = .issue ∧ t.sched.slot[n].ticket = p.ticket ∧ t.sched.slot[n].rcd = p.rcd ∧
        t.sched.slot[n].clip = s.sinter.clip ∧
        t.sinter.lfsr = (if Rec.sr p.rcd then loadLfsr (Rec.seed p.rcd) else s.sinter.lfsr) ∧
        t.sinter.seqNext = (if Rec.seqMode p.rcd then 0 else s.sinter.seqNext) ∧ others t) ∧
      (mayStart s n = true → sorOk s p s.sinter.clip = false → Completes (.phaseStart n) s fun t =>
        t.sched.slot[n] = {} ∧ t.sched.lastCode = 0x22 ∧ others t) ∧
      (mayIssue s n = true → p.bents ≠ [] → (∀ b ∈ p.bents, atBound s p b = true) →
        Completes (.interiorBoundary n) s fun t => t.sched.slot[n] = { p with st := .bound } ∧ others t) ∧
      (mayFinish s n = true → Completes (.phaseFinish n) s fun t =>
        t.sched.slot[n] = {} ∧ t.sched.last = p.ticket ++ (0 : BitVec 16) ++ Rec.phaseId p.rcd ++ (0 : BitVec 8) ∧
        t.sched.event = (if Rec.irq p.rcd then s.sched.event ||| 1 else s.sched.event) ∧
        t.sched.queue = s.sched.queue ∧ t.trf.beams = s.trf.beams ∧ others t)) ∧
  (∀ (n : Fin 4) (s : State), Settled s →
    let p := s.sched.slot[n]
    (s.aon.st = .run → p.st = .wait → s.trf.tokTimeout ≠ 0 → slotPending s n ≠ 0 →
      Completes (.phaseTokenTimeout n) s fun t =>
        t.sched.slot[n].st = .abort ∧ t.sched.slot[n].abortCode = 0x31 ∧ t.sched.lastCode = 0x31 ∧
        t.sched.event = s.sched.event ||| 2 ∧ t.sched.qhalt = (s.sched.qhalt || s.sched.haltAbort) ∧
        ∀ m, m ≠ n → t.sched.slot[m] = s.sched.slot[m]) ∧
    (unitsOn s = true → abortOver s n = true → Completes (.phaseAbortComplete n) s fun t =>
      t.sched.slot[n] = {} ∧
        t.sched.last = p.ticket ++ (0 : BitVec 8) ++ p.abortCode ++ Rec.phaseId p.rcd ++ (0 : BitVec 8) ∧
        ∀ m, m ≠ n → t.sched.slot[m] = s.sched.slot[m]))

/-- A phase that finishes, a transfer that completes and a collective that ends DONE apply their SIGNAL and RELEASE
slots at once; a transfer in EMBER no release (R82, R89, R189, R195, R226, R271). One token event at an entry that is
no twin: a signal counts down PLEFT of an EMPTY entry and makes it FULL at zero, a release counts down CLEFT of a
FULL one and returns it to EMPTY, or to CLEARING, at zero; an event that R82 calls invalid changes no entry and is
reported; no other entry changes. A signal to a twin counts at the half it names, or at both, and the pair becomes
FULL when neither half needs a further one; a release on either half counts in both, and both return to EMPTY
together (R82, R84, R85, R189). -/
def Obligations.EndsApplyTheirTokens : Prop :=
  (let slots (toks : List (BitVec 16)) : List (Bool × BitVec 10 × Bool) :=
    (toks.filter fun k => tokKind k = 3 || tokKind k = 4).map fun k => (tokKind k = 4, tokIx k, tokPair k)
  let names (evs : List TokEvent) : List (Bool × BitVec 10 × Bool) := evs.map fun e => (e.release, e.idx, e.pair)
  (∀ (n : Fin 4) (s : State), Settled s → mayFinish s n = true → Completes (.phaseFinish n) s fun t =>
    ∃ evs, names evs = slots (Rec.toks s.sched.slot[n].rcd) ∧ ∀ j, mortAt t j = mortAt (applyTokens evs s) j) ∧
  (∀ (n : Fin 8) (s : State), Settled s → transferOver s n = true → Completes (.transferComplete n) s fun t =>
    ∃ evs, names evs = (slots (Desc.toks s.layout.slot[n].desc)).filter (fun e => !(s.aon.st == .ember && e.1)) ∧
      ∀ j, mortAt t j = mortAt (applyTokens evs s) j) ∧
  ∀ (r : CRun) (s : State), Settled s → s.col.run = some r → colRuns s = true → dataOver r = true →
    Completes .collectiveComplete s fun t => ∃ evs, names evs = slots (CDesc.toks r.desc) ∧ ∀ j, mortAt t j = mortAt (applyTokens evs s) j) ∧
  (∀ (e : TokEvent) (s : State),
    let i := e.idx
    let m := mortAt s i
    let t := applyTokens [e] s
    (∀ j, j ∉ pairOf s i → mortAt t j = mortAt s j) ∧
    (m.twinV = false → e.release = false → m.st = .empty → m.pleft ≠ 0 → t.log = s.log ∧
      mortAt t i = { m with pleft := m.pleft - 1, st := if m.pleft = 1 then .full else .empty
                            cleft := if m.pleft = 1 then m.ccount else m.cleft }) ∧
    (m.twinV = false → e.release = true → m.st = .full → m.ccount ≠ 0 → m.cleft ≠ 0 → t.log = s.log ∧
      (m.cleft ≠ 1 → mortAt t i = { m with cleft := m.cleft - 1 }) ∧
      (m.cleft = 1 → mortAt t i = { m with
        pleft := m.pcount, cleft := m.ccount, st := if m.clear then .clearing else .empty
        poison := m.poison && !m.clear, poisonSeq := if m.clear then none else m.poisonSeq })) ∧
    (m.twinV = false → e.release = true → m.st = .full → m.ccount = 0 → t = s) ∧
    (m.twinV = false → (e.release = false ∧ (m.st ≠ .empty ∨ m.pleft = 0)) ∨ (e.release = true ∧ m.st ≠ .full) →
      t = report e.rep s) ∧
    (m.twinV = true → m.twin ≠ i → (mortAt s m.twin).twinV = true → (mortAt s m.twin).twin = i →
      let halves := [i, m.twin]
      let both (p : Mortise → Prop) : Prop := ∀ j ∈ halves, p (mortAt s j)
      (e.release = false → e.pair = true → both (fun h => h.st = .empty ∧ h.pleft ≠ 0) →
        t.log = s.log ∧
        (both (fun h => h.pleft = 1) → ∀ j ∈ halves, mortAt t j =
          { mortAt s j with pleft := 0, st := .full, cleft := (mortAt s j).ccount }) ∧
        (¬ both (fun h => h.pleft = 1) → ∀ j ∈ halves, mortAt t j =
          { mortAt s j with pleft := (mortAt s j).pleft - 1 })) ∧
      (e.release = false → e.pair = false → m.st = .empty → m.pleft ≠ 0 →
        let last := m.pleft = 1 ∧ (mortAt s m.twin).st = .empty ∧ (mortAt s m.twin).pleft = 0
        t.log = s.log ∧
        (last → ∀ j ∈ halves, mortAt t j =
          { mortAt s j with pleft := 0, st := .full, cleft := (mortAt s j).ccount }) ∧
        (¬ last → mortAt t i = { m with pleft := m.pleft - 1 } ∧ mortAt t m.twin = mortAt s m.twin)) ∧
      (e.release = false → e.pair = false → m.st ≠ .empty ∨ m.pleft = 0 → t = report e.rep s) ∧
      (e.release = true → both (fun h => h.st = .full ∧ h.cleft = m.cleft ∧ h.ccount ≠ 0) → m.cleft ≠ 0 →
        t.log = s.log ∧
        (m.cleft ≠ 1 → ∀ j ∈ halves, mortAt t j = { mortAt s j with cleft := m.cleft - 1 }) ∧
        (m.cleft = 1 → ∀ j ∈ halves, mortAt t j = let h := mortAt s j
          { h with pleft := h.pcount, cleft := h.ccount, st := if h.clear then .clearing else .empty
                   poison := h.poison && !h.clear, poisonSeq := if h.clear then none else h.poisonSeq })) ∧
      (e.release = true → both (fun h => h.st = .full ∧ h.ccount = 0) → t = s) ∧
      (e.release = true → both (fun h => h.st ≠ .full) → t = report e.rep s)))

/-- LAY_SUBMIT queues a descriptor that passes its check with the next ticket and the windows its check selected, and
refuses one that does not; a reserved bit is refused with code 0x41, a value 0 does nothing, and a submission while
BUSY is lost (R225, R227; BUSY until the next CCLK edge: assumption 12). The commands of LAY_CMD: NOP, ABORT of a
queued or of a moving transfer, FLUSH, and the refusals with code 0x4B; a command while BUSY is lost (R231, R234;
that a refusal leaves LAY_STATUS.LAST_CODE and LAY_EVENT: assumption 123; BUSY until the next CCLK edge: assumption
12). -/
def Obligations.DescriptorsAndLayoutCommands : Prop :=
  (∀ (src : Src) (s : State), Settled s → Writes src .host s → unitsOn s = true →
    let taken := accept src 0x70180 s
    (s.layout.subBusy = true → ∀ raw, exec (.laySubmit src raw) s =
      .next ((answer src .ok 0 s).onLayout fun l => { l with subLost := true })) ∧
    (s.layout.subBusy = false →
    (exec (.laySubmit src 0) s = .next (taken.onLayout fun l => { l with subBusy := true })) ∧
    (descCheck s s.layout.dbuf = 0 → Completes (.laySubmit src 1) s fun t =>
      t.layout.queue = s.layout.queue ++ [{ ticket := s.layout.nextTicket, desc := s.layout.dbuf,
                                            main := ((Desc.windows s s.layout.dbuf).getD (none, none)).1,
                                            scale := ((Desc.windows s s.layout.dbuf).getD (none, none)).2 }] ∧
        t.layout.nextTicket = s.layout.nextTicket + 1 ∧ t.layout.subCode = 0 ∧
        t.layout.subTicket = s.layout.nextTicket ∧ t.layout.slot = s.layout.slot) ∧
    (descCheck s s.layout.dbuf ≠ 0 → Completes (.laySubmit src 1) s fun t =>
      t.layout.queue = s.layout.queue ∧ t.layout.nextTicket = s.layout.nextTicket ∧
        t.layout.subCode = descCheck s s.layout.dbuf ∧ t.layout.event = s.layout.event ||| 4) ∧
    ∀ raw, raw >>> 1 ≠ 0 → Completes (.laySubmit src raw) s fun t =>
      t.layout.queue = s.layout.queue ∧ t.layout.subCode = 0x41 ∧ t.layout.event = s.layout.event ||| 4)) ∧
  (∀ (src : Src) (s : State), Settled s → Writes src .host s → unitsOn s = true →
    let taken := accept src 0x70190 s
    let refused (t : State) : Prop := t.layout = { s.layout with cmdCode := 0x4B, cmdBusy := true }
    (s.layout.cmdBusy = true → ∀ c ∈ [Instr.layNop src, .layFlush src],
      exec c s = .next ((answer src .ok 0 s).onLayout fun l => { l with cmdLost := true })) ∧
    (s.layout.cmdBusy = false →
    (exec (.layNop src) s = .next (taken.onLayout fun l => { l with cmdCode := 0, cmdBusy := true })) ∧
    (∀ ticket,
      (∀ q, s.layout.queue.find? (fun q => q.ticket == ticket) = some q → Completes (.layAbort src ticket) s fun t =>
        t.layout.queue = s.layout.queue.filter (fun r => r.ticket != q.ticket) ∧ t.layout.cmdCode = 0 ∧
          t.layout.lastCode = 0x4A ∧ t.layout.event = s.layout.event ||| 2 ∧ t.layout.slot = s.layout.slot) ∧
      (s.layout.queue.find? (fun q => q.ticket == ticket) = none →
        (∀ n, lslotOfTicket s ticket = some n → s.layout.slot[n].st ≠ .abort →
          Completes (.layAbort src ticket) s fun t => t.layout.slot[n].st = .abort ∧
            t.layout.slot[n].abortCode = 0x4A ∧ t.layout.cmdCode = 0 ∧ t.layout.queue = s.layout.queue ∧
            ∀ m, m ≠ n → t.layout.slot[m] = s.layout.slot[m]) ∧
        (∀ n, lslotOfTicket s ticket = some n → s.layout.slot[n].st = .abort →
          Completes (.layAbort src ticket) s fun t => t.layout = { s.layout with cmdCode := 0, cmdBusy := true }) ∧
        (lslotOfTicket s ticket = none → Completes (.layAbort src ticket) s refused))) ∧
    (Completes (.layFlush src) s fun t =>
      t.layout.queue = [] ∧ t.layout.cmdCode = 0 ∧ t.layout.slot = s.layout.slot) ∧
    ∀ raw, layReservedWord raw = true → Completes (.layCmdReserved src raw) s refused))

/-- A transfer goes through its slot: the queue's next descriptor enters the lowest free slot, its waits met it
latches the clip factor and moves or waits for a tile buffer, or is refused with code 0x22 where the latched factor
does not fit, is granted one of the four, and completes once every beam is committed and every access answered (R173,
R226, R228, R229). A transfer's token wait that outlasts TOK_TIMEOUT aborts it with code 0x49; an aborted transfer
leaves its slot when its last access is over (R86, R226, R231). -/
def Obligations.TransfersMoveThroughTheirSlots : Prop :=
  (∀ s : State, Settled s →
    (∀ q n, nextDesc s = some q → freeLSlot s = some n → isLive s = true → Completes .transferSlotEntry s fun t =>
      t.layout.queue = s.layout.queue.filter (fun r => r.ticket != q.ticket) ∧
        t.layout.slot[n] = { st := .wait, ticket := q.ticket, desc := q.desc, main := q.main, scale := q.scale } ∧
        ∀ m, m ≠ n → t.layout.slot[m] = s.layout.slot[m]) ∧
    ∀ n : Fin 8,
      let p := s.layout.slot[n]
      (layWaitsMet s n = true → (Desc.sor p.desc = true → scalable (Desc.fmt p.desc) = true ∧ clipOk s.sinter.clip = true) →
        Completes (.transferWaitsSatisfied n) s fun t =>
          t.layout.slot[n].st = (if Desc.needsBuffer s p.desc then .buffer else .move) ∧
          t.layout.slot[n].clip = s.sinter.clip ∧ t.layout.slot[n].ticket = p.ticket ∧
          t.layout.slot[n].desc = p.desc ∧ ∀ m, m ≠ n → t.layout.slot[m] = s.layout.slot[m]) ∧
      (layWaitsMet s n = true → Desc.sor p.desc = true → (scalable (Desc.fmt p.desc) && clipOk s.sinter.clip) = false →
        Completes (.transferWaitsSatisfied n) s fun t =>
          t.layout.slot[n] = {} ∧ t.layout.last = layLast p 0x22 ∧ t.layout.lastCode = 0x22 ∧
          t.layout.event = s.layout.event ||| 4 ∧ ∀ m, m ≠ n → t.layout.slot[m] = s.layout.slot[m]) ∧
      (p.st = .buffer → buffersUsed s < 4 → isLive s = true → (s.aon.st = .ember → Desc.isStore p.desc = true) →
        Completes (.tileBufferGrant n) s fun t =>
          t.layout.slot[n].st = .move ∧ t.layout.slot[n].buffered = true ∧ t.layout.slot[n].ticket = p.ticket ∧
          ∀ m, m ≠ n → t.layout.slot[m] = s.layout.slot[m]) ∧
      (transferOver s n = true → Completes (.transferComplete n) s fun t =>
        t.layout.slot[n] = {} ∧ t.layout.last = layLast p 0 ∧
        t.layout.event = (if Desc.irq p.desc then s.layout.event ||| 1 else s.layout.event) ∧
        t.trf.beams = s.trf.beams ∧ ∀ m, m ≠ n → t.layout.slot[m] = s.layout.slot[m])) ∧
  (∀ (n : Fin 8) (s : State), Settled s →
    let p := s.layout.slot[n]
    (s.aon.st = .run → p.st = .wait → s.trf.tokTimeout ≠ 0 → layPending s n ≠ 0 →
      Completes (.transferTokenTimeout n) s fun t =>
        t.layout.slot[n].st = .abort ∧ t.layout.slot[n].abortCode = 0x49 ∧ t.layout.lastCode = 0x49 ∧
        t.layout.event = s.layout.event ||| 2 ∧ ∀ m, m ≠ n → t.layout.slot[m] = s.layout.slot[m]) ∧
    (unitsOn s = true → p.st = .abort → memBusy s n = false → flyingKeys s (.transfer n) = [] →
      Completes (.transferAbortComplete n) s fun t =>
        t.layout.slot[n] = {} ∧ t.layout.last = layLast p p.abortCode ∧ t.trf.beams = s.trf.beams ∧
          ∀ m, m ≠ n → t.layout.slot[m] = s.layout.slot[m]))

/-- A memory port holds the request it presents until it is accepted, accepts it under its tag, sends a write's data
in order, whether or not its response has come, gives a read's granules to its client, closes a transaction with its
last beat or its response, completes one whose response is malformed, and quarantines one that times out (R235 to
R242; which client a port presents first: assumption 30; the order of a transfer's requests: assumption 117). -/
def Obligations.MemoryTransactions : Prop :=
  ∀ s : State, memOn s = true →
    let out (t : State) (port : Fin 8) : MemOut := t.mem.out.get {} port.val
    let opened (port : Fin 8) (r : MemReq) (t : State) : Prop :=
      t.mem.txns = s.mem.txns ++ [{ tag := r.tag, port := port, client := r.client, write := r.write, paddr := r.paddr,
                                    gkey := r.gkey, len := r.len }] ∧
        t.mem.wdata = (if r.write then s.mem.wdata ++ [{ tag := r.tag, port := port, client := r.client, len := r.len
                                                         wg := r.wg }] else s.mem.wdata) ∧
        t.mem.req[port] = none ∧ (∀ p, p ≠ port → t.mem.req[p] = s.mem.req[p] ∧ out t p = out s p) ∧
        t.trf.beams = s.trf.beams
    (∀ (port : Fin 8) r, s.mem.req[port] = some r → Completes (.memRequestAccept port r.tag) s fun t =>
      opened port r t ∧ t.mem.out = s.mem.out) ∧
    (∀ (port : Fin 8) r tag, s.mem.req[port] = some r → r.tag ≠ tag → Completes (.memRequestAccept port tag) s fun t =>
      t.mem = s.mem ∧ t.trf.beams = s.trf.beams) ∧
    (∀ (port : Fin 8) tag r, s.mem.req[port] = none → portReq s port = some r → tagFree s r.client tag = true →
      Completes (.memRequestAccept port tag) s fun t =>
        opened port { r with tag := tag, wg := (writeGrans r s).1 } t ∧
        (out t port).reqWrite = r.write ∧ (out t port).reqAddr = field r.paddr 6 46 ∧ (out t port).reqTag = tag ∧
        (out t port).reqLen = BitVec.ofNat 7 r.len) ∧
    (∀ (port : Fin 8) x tcm, writeNow s port = some x → Completes (.memWriteBeat ⟨port, tcm⟩) s fun t =>
        (∃ before after, s.mem.wdata = before ++ x :: after ∧ (∀ y ∈ before, y.port ≠ port) ∧ t.mem.wdata =
          before ++ (if x.beats + 1 < x.total then [{ x with beats := x.beats + 1 }] else []) ++ after) ∧
        t.mem.txns = s.mem.txns ∧
        (out t port).wdData = (x.beat x.beats).1 ∧ (out t port).wdBe = (x.beat x.beats).2.1 ∧
        (out t port).wdPoison = (x.beat x.beats).2.2 ∧ (out t port).wdLast = decide (x.beats + 1 = x.total) ∧
        t.mem.req = s.mem.req ∧ t.trf.beams = s.trf.beams) ∧
    (∀ (port : Fin 8) tag x, s.mem.txns.find? (·.tag == tag) = some x → x.quar = false →
      let closed (t : State) : Prop :=
        t.trf.beams = s.trf.beams ∧ t.mem.wdata = s.mem.wdata ∧ t.mem.txns = s.mem.txns.filter (·.tag != tag)
      (x.write = false → ∀ data status,
        Completes (.memReadBeat port tag data status (decide (x.beats + 1 = x.total))) s fun t =>
          t.trf.beams = s.trf.beams ∧
          t.mem.txns = if x.beats + 1 = x.total then s.mem.txns.filter (·.tag != tag)
            else s.mem.txns.map fun y => if y.tag == tag then { y with beats := y.beats + 1 } else y) ∧
      (∀ data status last, x.write = true ∨ last ≠ decide (x.beats + 1 = x.total) →
        Completes (.memReadBeat port tag data status last) s closed) ∧
      (x.write = true → ∀ status, Completes (.memWriteResponse port tag status) s fun t => closed t ∧
        t.mem.count.get 0 6 = (if status = 0 then s.mem.count.get 0 6 else satAdd (s.mem.count.get 0 6) 1)) ∧
      (x.write = false → ∀ status, Completes (.memWriteResponse port tag status) s closed)) ∧
    (∀ (port : Fin 8) tag x, s.mem.txns.find? (·.tag == tag) = some x → x.quar = true →
      ∀ status, Completes (.memWriteResponse port tag status) s fun t =>
        t.mem.txns = s.mem.txns.filter (·.tag != tag) ∧ t.mem.count.get 0 8 = satAdd (s.mem.count.get 0 8) 1) ∧
    (∀ (port : Fin 8) tag, s.mem.txns.find? (·.tag == tag) = none →
      ∀ status, Completes (.memWriteResponse port tag status) s fun t =>
        t.mem.txns = s.mem.txns ∧ t.mem.count.get 0 8 = satAdd (s.mem.count.get 0 8) 1) ∧
    (∀ tag x, s.mem.timeout ≠ 0 → s.mem.txns.find? (fun t => t.tag == tag && !t.quar) = some x →
      Completes (.memTimeout tag) s fun t =>
        t.mem.txns = s.mem.txns.map (fun y => if y.tag == tag then { y with quar := true } else y) ∧
        t.mem.count.get 0 7 = satAdd (s.mem.count.get 0 7) 1 ∧ t.trf.beams = s.trf.beams) ∧
    ∀ (n port : Fin 8) (x : Txn) data status i, x.client = .transfer n → s.layout.slot[n].st = .move →
      s.layout.slot[n].ending = false → i < min 4 (x.len - 4 * x.beats) →
      (takeBeat port data status x s).layout.slot[n].rgran.get 0 (x.gkey + (4 * x.beats + i)) =
        (1 : BitVec 1) ++ (flagBits 1 (status != 0) ++ data.extractLsb' (512 * i) 512)

/-- A bay's idle path goes to the contender of highest priority and the others lose; the owner moves its beams one by
one, a read from its bank, a write into a staging buffer that commits afterwards, neither while primary-port work has
the bank; a preempted owner loses the path, which one whose last beat is presented does not until it completes; a
back-off ends (R19, R68, R70, R244 to R249; the client picked within a requester: assumption 17; when a last beat
counts as presented: assumption 126). -/
def Obligations.SidePortPaths : Prop :=
  ∀ (b : Fin 32) (s : State), Settled s → unitsOn s = true →
    let y := s.arb.bay[b]
    let lost (r : Fin 8) (t : State) : Prop :=
      t.arb.bay[b].losses.get 0 r.val = satAdd (y.losses.get 0 r.val) 1 ∧ bitAt t.arb.bay[b].backoff r.val = true
    let elsewhere (t : State) : Prop := ∀ c, c ≠ b → t.arb.bay[c] = s.arb.bay[c]
    (∀ w pick, y.owner = none → leastBy (contenders s b) (priorityKey s b) = some w →
      Completes (.arbitrationDecision b pick) s fun t =>
        (∃ a, (asksOf s b w)[pick % (asksOf s b w).length]? = some a ∧ t.arb.bay[b].owner =
          some { req := w, client := a.client, write := a.write, jobs := a.jobs.take (burstOf s b) }) ∧
        (∀ r ∈ contenders s b, r ≠ w → lost r t) ∧
        t.arb.bay[b].losses.get 0 w.val = y.losses.get 0 w.val ∧ elsewhere t ∧ t.trf = s.trf) ∧
    (∀ g upset tcm, y.owner = some g → s.col.run = none → beatFree s g = false →
      exec (.sidePortBeat b ⟨upset, tcm⟩) s = .next (if reqAdmitted s g.req then s.onBay b fun y =>
        { y with owner := some { g with lastUp := g.lastUp || g.jobs.length ≤ 1 } } else s)) ∧
    (∀ g j js upset tcm, y.owner = some g → beatFree s g = true → g.jobs = j :: js → g.client ≠ .scrub → g.client ≠ .debug →
      (s.col.run = none ∨ ∀ l : Fin 3, s.aon.link[l].wait = []) → (tcm = 0 ∨ tcm = 1 ∨ readsTcm s b = false) →
      Completes (.sidePortBeat b ⟨upset, tcm⟩) s fun t => t.trf.beams = s.trf.beams ∧ elsewhere t ∧
        ∃ x : Staged, x.job = j ∧ x.client = g.client ∧
          (g.write = true → x.data = (jobData s g.client j).extractLsb' 0 4352 ∧
            x.poison = bitAt (jobData s g.client j) 4352) ∧
          (g.write = false → x.data = (readLine (storedBeam s j.beam) (lineErr (strike j.beam upset s) j.beam)).beam) ∧
          t.arb.bay[b].owner = (if js = [] then none else some { g with jobs := js, staged := g.staged ++ [x] }) ∧
          t.arb.bay[b].bufs = (if js = [] ∧ g.write = true then y.bufs ++ [g.staged ++ [x]] else y.bufs) ∧
          (js = [] → t.arb.bay[b].losses.get 0 g.req.val = 0)) ∧
    (∀ x ts bs, y.bufs = (x :: ts) :: bs →
      (primaryAt s (bankIx x.job.beam) = true → exec (.stagingCommit b) s = .next s) ∧
      (primaryAt s (bankIx x.job.beam) = false → Completes (.stagingCommit b) s fun t =>
        storedBeam t x.job.beam = x.data ∧ lineErr t x.job.beam = {} ∧
        (∀ c, c ≠ x.job.beam → storedBeam t c = storedBeam s c ∧ lineErr t c = lineErr s c) ∧
        (x.client ≠ .collective ∨ (∀ l : Fin 3, s.aon.link[l].wait = []) →
          t.arb.bay[b].bufs = (if ts = [] then bs else ts :: bs) ∧ elsewhere t))) ∧
    (∀ g r, y.owner = some g → mayPreempt s b g r = true → Completes (.preemption b r) s fun t =>
      lost g.req t ∧ (∀ g', t.arb.bay[b].owner = some g' → g'.req = r ∧ g'.staged = []) ∧
        t.arb.count.get 0 1 = satAdd (s.arb.count.get 0 1) 1 ∧ elsewhere t ∧ t.trf.beams = s.trf.beams) ∧
    (∀ g j r, y.owner = some g → g.jobs = [j] → g.staged = [] ∨ g.lastUp = true →
      exec (.preemption b r) s = .next s) ∧
    ∀ r : Fin 8, exec (.backoffExpiry b r) s = .next (s.onBay b fun y => { y with backoff := putBit8 y.backoff r false })

/-- What the membership packets do at an open link: JOIN and LEAVE become pending at the ridge, PROPOSE goes on with
this member's entry, COMMIT and CROWN_COMMIT install their epoch, a collective of the old one ending SHORT, REFUSE
ends a JOIN, a LEAVE of a lost instance starts a proposal at once, a member that a proposal removes closes its bypass
abruptly, a die report that is new advances the crown epoch; a JOIN of version 0 is refused; a member whose ridge has
started again takes no part in its proposal; a packet whose payload met a parity error is used as it came (R6, R257,
R262 to R267, R377; the payloads' places and the deduced points: assumption 24; a JOIN of version 0: assumption 114;
SHORT's code: assumption 141; a proposal in flight is given up for the new one: assumption 148; what the bypass sends
first: assumption 147; the mark of a ridge that is its own crown: assumption 142; the ridge's restart: assumption
143). -/
def Obligations.MembershipPackets : Prop :=
  ∀ (l : Fin 3) (h : Hdr) (bad : Bool) (s : State), Settled s → aonOn s = true → linkUp s l = true → h.dirn.toNat ≤ 2 →
    h.nbeam = 0 → h.src ≠ ownFid s → flitSum (heldPackets s l true) < 8 →
    (∀ m, isRidge s = true → m.ver = 0 → Completes (.join l ⟨h, bad⟩ m) s fun t =>
      t.col.joins = s.col.joins ∧ t.col.members = s.col.members ∧
        (linkUp s 0 = true → 1 ≤ s.aon.link[(0 : Fin 3)].ctlCr → (∀ p ∈ s.aon.link[(0 : Fin 3)].txq, isControl p.1 = false) →
          t.aon.link[(0 : Fin 3)].out = s.aon.link[(0 : Fin 3)].out ++ [(ctlHdr s 5 false m.fid, .refuse 0x6B)])) ∧
    (∀ m, isRidge s = true → m.ver ≠ 0 → s.col.v1Seen = false → onRing s m.fid = false →
      s.col.members.length + (s.col.joins.length + ((s.col.proposal.map (·.admitted)).getD []).length) < 16 →
      m.fid ∉ s.col.joins.map Member.fid ++ (s.col.proposal.map (·.admitted)).getD [] →
      Completes (.join l ⟨h, bad⟩ m) s fun t => t.col.joins = s.col.joins ++ [m] ∧ t.col.members = s.col.members ∧
        t.col.count.get 0 3 = satAdd (s.col.count.get 0 3) 1) ∧
    (∀ f, isRidge s = true → s.col.v1Seen = false → onRing s f = true → f ≠ ownFid s →
      Completes (.leave l ⟨h, bad⟩ f false) s fun t =>
        t.col.leaves = insertNew s.col.leaves f ∧ t.col.members = s.col.members) ∧
    (∀ f, isRidge s = true → s.col.v1Seen = false → inRing s f = true → f ≠ ownFid s →
      Completes (.leave l ⟨h, bad⟩ f true) s fun t => t.col.members = s.col.members ∧
        ∃ q, t.col.proposal = some q ∧ q.epoch = nextEpoch s.col.epoch ∧ f ∈ q.removed ∧ f ∉ q.admitted ∧
          ∀ m ∈ s.col.joins, m.fid ≠ f → m.fid ∈ q.admitted) ∧
    (∀ q : Proposal, isRidge s = false → l ≠ 2 → ownFid s ∈ q.removed → Completes (.propose l ⟨h, bad⟩ q) s fun t =>
      t.col.epoch = 0 ∧ t.col.members = [] ∧ t.aon.bypCw = true ∧ t.aon.bypCcw = true ∧
        ∃ before, t.aon.link[l].out = before ++ [({ h with kind := 2 }, .propose q),
          ({ kind := 4, dirn := BitVec.ofNat 3 l.val, src := ownFid s, dest := h.src }, .leave true)]) ∧
    (∀ q : Proposal, isRidge s = false → ownFid s ∉ q.removed → linkUp s 0 = true →
      1 ≤ s.aon.link[(0 : Fin 3)].ctlCr → (∀ p ∈ s.aon.link[(0 : Fin 3)].txq, isControl p.1 = false) →
      let passed (q : Proposal) (t : State) : Prop :=
        t.aon.link[(0 : Fin 3)].out = s.aon.link[(0 : Fin 3)].out ++ [({ h with kind := 2, hops := h.hops + 1 }, .propose q)] ∧
          t.aon.link[(0 : Fin 3)].ctlCr = s.aon.link[(0 : Fin 3)].ctlCr - 1 ∧ t.col.members = s.col.members
      (takesPart s q = true → Completes (.propose l ⟨h, bad⟩ q) s fun t =>
        passed { q with order := q.order ++ [ownEntry s] } t ∧ t.col.cutOff = s.col.cutOff) ∧
      (ownFid s ∉ q.admitted → s.col.epoch ≠ 0 → laterEpoch q.epoch s.col.epoch = false →
        Completes (.propose l ⟨h, bad⟩ q) s fun t => passed q t ∧ t.col.cutOff = true ∧ t.col.epoch = s.col.epoch)) ∧
    (∀ e v table, isRidge s = false → (∃ m ∈ table, m.fid = ownFid s) → Completes (.commit l ⟨h, bad⟩ e v table) s fun t =>
      t.col.epoch = e ∧ t.col.ver = v ∧ t.col.members = table ∧ t.col.ringSeq = 0 ∧ t.col.joining = false ∧
        bitAt t.col.event 3 = true ∧ ∀ r, s.col.run = some r → CDesc.uplink r.desc = false →
          t.col.run = none ∧ t.col.last = colLast r.ticket 1 (contributors s r) 0x6D) ∧
    (∀ e v ridges, (isRidge s = false ∨ l = 2) →
      ((∃ m ∈ ridges, ownFid s ∈ m.ring) → Completes (.crownCommit l ⟨h, bad⟩ e v ridges) s fun t =>
        t.col.crownEpoch = e ∧ t.col.crownVer = v ∧ t.col.ridges = ridges ∧ t.col.crownSeq = 0 ∧
          t.col.upRing = (h.dirn != 2) ∧ t.col.members = s.col.members) ∧
      ((∀ m ∈ ridges, ownFid s ∉ m.ring) → Completes (.crownCommit l ⟨h, bad⟩ e v ridges) s fun t =>
        t.col.crownEpoch = s.col.crownEpoch ∧ t.col.ridges = s.col.ridges ∧ t.col.members = s.col.members)) ∧
    (∀ code, Completes (.refuse l ⟨h, bad⟩ (ownFid s) code) s fun t => t.col.joining = false ∧
      t.col.members = s.col.members ∧ (bad = false → code.toNat < 0x61 ∨ 0x6E < code.toNat → t.log = s.log)) ∧
    ∀ e table, h.dest = ownFid s → isCrown s = true → s.col.dieTable.length < 256 →
      let m : Member := { fid := h.src, ver := lowestVer table, ring := table.map Member.fid, repoch := e }
      m ∉ s.col.dieTable → Completes (.dieReport l ⟨h, bad⟩ e table) s fun t =>
        t.col.dieTable = putRidge m s.col.dieTable ∧ t.col.ridges = putRidge m s.col.dieTable ∧
          t.col.crownEpoch = nextEpoch s.col.crownEpoch ∧ t.col.crownVer = lowestVer (putRidge m s.col.dieTable)

/-- What the packets of the running collective do: DATA counts its beams as received, NORM_UP and BAR_UP are kept at
the ridge, NORM_DOWN sets the clip factor and ends the norm, BAR_DOWN releases the barrier, ABORT ends the
collective, or ends it MISMATCH with code 0x64 where it does not agree with the collective (R273, R274, R276, R280,
R281, R377; the SEQ in its payload among what agrees: assumption 146; COL_LAST.CODE of a received ABORT, 0x65 for a
TIMEOUT and 0 else: assumption 124; the places a member takes beams into: assumption 140; the payloads' places:
assumption 24). The value of each beam that a data packet brings: in a gathering step it is written to its place in
MORT2 and kept for the next step, in a reducing step its sum with this member's own beam is kept for the next step
or, in the last, written and, in an ALLREDUCE, kept for the gathering; each carries the poison of its parts (R276,
R277, R279; the mantissa of an FP32 element absent in both beams is free: assumption 7). -/
def Obligations.CollectivePackets : Prop :=
  (∀ (l : Fin 3) (h : Hdr) (r : CRun) (s : State), Settled s → aonOn s = true → linkUp s l = true → h.dirn.toNat ≤ 2 →
    s.col.run = some r → epochOk s h = true → seqVerdict s { h with kind := 0 } = .act → h.src ≠ ownFid s →
    (∀ (beams : List Beam) bad, h.dest = ownFid s → h.nbeam ≠ 0 → beams.length = h.nbeam.toNat →
      hasRoom s l ({ h with kind := 0 }, .data beams) = true → mustWait s l r { h with kind := 0 } = false →
      agrees r { h with kind := 0 } (.data beams) = true → r.n ≠ 1 → h.step.toNat < r.steps → r.expects h = true →
      Completes (.data l h beams bad false) s fun t => ∃ q, t.col.run = some q ∧ q.ticket = r.ticket ∧
        (q.side (r.ccwOf h)).got = (r.side (r.ccwOf h)).got + beams.length ∧
        (q.side (!r.ccwOf h)).got = (r.side (!r.ccwOf h)).got ∧
        (r.gathers h.step.toNat = true → q.writes.length = r.writes.length + beams.length) ∧
        t.trf.beams = s.trf.beams) ∧
    (h.nbeam = 0 → flitSum (heldPackets s l true) < 8 → ∀ bad : Bool,
      (∀ v x, h.dest = ownFid s → agrees r { h with kind := 6 } (.normUp v x) = true → onRing s h.src = true →
        (∀ p ∈ r.partials, p.1 ≠ h.src) → Completes (.normUp l ⟨h, bad⟩ v x) s fun t =>
          ∃ q, t.col.run = some q ∧ q.partials = r.partials ++ [(h.src, v, x || f64NonFinite v)]) ∧
      (∀ v clip, (isRidge s = false ∨ l = 2) → agrees r { h with kind := 7 } (.normDown v clip false) = true →
        Completes (.normDown l ⟨h, bad⟩ v clip false) s fun t => t.sinter.clip = clip ∧
          t.sinter.clipGen = s.sinter.clipGen + 1 ∧ t.col.norm = v ∧ t.col.run = none ∧
          t.col.last = colLast r.ticket 0 r.n 0) ∧
      (∀ b, h.dest = ownFid s → agrees r { h with kind := 8 } (.barUp b) = true → onRing s h.src = true →
        (∀ p ∈ r.arrived, p.1 ≠ h.src) → allGave (ringFids s) (r.arrived ++ [(h.src, s.now)]) = false →
        Completes (.barUp l ⟨h, bad⟩ b) s fun t =>
          t.col.run = some { r with arrived := r.arrived ++ [(h.src, s.now)] }) ∧
      (∀ b, (isRidge s = false ∨ l = 2) → agrees r { h with kind := 9 } (.barDown b) = true →
        Completes (.barDown l ⟨h, bad⟩ b) s fun t => t.col.run = none ∧ t.col.last = colLast r.ticket 0 r.n 0 ∧
          (2 ≤ (verOf s (CDesc.uplink r.desc)).toNat → t.col.slack = (s.now - r.startAt).setWidth 48)) ∧
      ∀ body : AbortBody, h.dest = ownFid s →
        (agrees r { h with kind := 0xA } (.abort body) = true → Completes (.abort l ⟨h, bad⟩ body) s fun t =>
          t.col.run = none ∧ t.col.last = colLast r.ticket body.status
            (if body.status == 0 || body.status == 4 then r.n else contributors s r) (if body.status = 2 then 0x65 else 0)) ∧
        (agrees r { h with kind := 0xA } (.abort body) = false → Completes (.abort l ⟨h, bad⟩ body) s fun t =>
          t.col.run = none ∧ t.col.last = colLast r.ticket 3 (contributors s r) 0x64))) ∧
  (∀ (l : Fin 3) (h : Hdr) (r : CRun) (s : State) (beams : List Beam) (bad : BitVec 3), Settled s → aonOn s = true →
    linkUp s l = true → h.dirn.toNat ≤ 2 → s.col.run = some r → epochOk s h = true →
    seqVerdict s { h with kind := 0 } = .act → h.src ≠ ownFid s → h.dest = ownFid s → h.nbeam ≠ 0 →
    beams.length = h.nbeam.toNat → hasRoom s l ({ h with kind := 0 }, .data beams) = true →
    mustWait s l r { h with kind := 0 } = false → agrees r { h with kind := 0 } (.data beams) = true → r.n ≠ 1 →
    h.step.toNat < r.steps → r.expects h = true →
    Completes (.data l h beams bad false) s fun t => ∃ q, t.col.run = some q ∧ ∀ k (b : Beam), beams[k]? = some b →
      let step := h.step.toNat
      let v := h.beam.toNat + k
      let hurt := bitAt (h.poison ||| bad) k
      let own := r.own.get 0 v
      let kept (step : Nat) (x : MarkedBeam) : Prop :=
        (q.side (r.ccwOf h)).fwd.get 0 (2 ^ 20 * step + v) = (1 : BitVec 1) ++ x
      let written (x : MarkedBeam) : Prop :=
        ∃ w ∈ q.writes, w.job.beam = (mortAt s (CDesc.mort2 r.desc)).beamAt (r.target (r.ccwOf h) v) ∧
          w.data = x.extractLsb' 0 4352 ∧ w.poison = bitAt x 4352
      (r.gathers step = true → written (marked b hurt) ∧ (step + 1 < r.steps → kept (step + 1) (marked b hurt))) ∧
      (r.gathers step = false → ∃ free,
        let sum := marked (colAdd (CDesc.fmt r.desc) free b (own.extractLsb' 0 4352)) (hurt || bitAt own 4352)
        (step + 2 < r.n → kept (step + 1) sum) ∧
        (r.n ≤ step + 2 → written sum ∧ (CDesc.op r.desc = 3 → kept (r.n - 1) sum))))

/-- The BUDGET packets: within the ring TAKE lowers SHIFT by what this instance can give and notes the exchange, GIVE
raises it by what it accepts, all of it where it comes back to the instance that gave, and the note is void; TAKEN
and GIVEN carry the own exchange on. A TAKE between dies goes on from the ridge to the member that arrived earliest
at that barrier, and changes no shift here. A reserved SUB changes no shift (R313, R314; the barrier's SEQ in the
packet: assumption 139). -/
def Obligations.BudgetPackets : Prop :=
  ∀ (l : Fin 3) (h : Hdr) (exch amt : BitVec 16) (bad : Bool) (s : State), Settled s → aonOn s = true →
    linkUp s l = true → h.nbeam = 0 → h.dest = ownFid s → epochOk s h = true → h.src ≠ ownFid s →
    flitSum (heldPackets s l true) < 8 →
    (h.dirn.toNat ≤ 1 →
      (Completes (.take l ⟨h, bad⟩ exch amt) s fun t =>
        t.col.gaveTo = (if takeable s amt = 0 then none else some exch) ∧ t.col.gaveUp = s.col.gaveUp ∧
          t.gov.shift = BitVec.ofInt 16 (s.gov.shift.toInt - takeable s amt)) ∧
      (Completes (.give l ⟨h, bad⟩ exch amt) s fun t =>
        t.gov.shift = BitVec.ofInt 16 (s.gov.shift.toInt + givable s false exch amt) ∧ t.col.exchOn = s.col.exchOn ∧
          t.col.gaveTo = none ∧ t.col.gaveUp = s.col.gaveUp ∧
          (s.col.gaveTo = some exch → t.gov.shift = BitVec.ofInt 16 (s.gov.shift.toInt + amt.toNat))) ∧
      ∀ eff power : BitVec 16,
        let m (sub : BitVec 8) : BudMsg :=
          { up := false, inner := true, src := h.src, sub := sub, exch := exch, seq := h.seq, amt := amt, eff := eff
            power := power }
        (ownExchange s (m 2) = true →
          (amt = 0 → Completes (.taken l ⟨h, bad⟩ exch amt eff power) s fun t => t.col.exchOn = false ∧
            t.gov.shift = s.gov.shift) ∧
          (amt ≠ 0 → s.col.exchTo ≠ ownFid s → Completes (.taken l ⟨h, bad⟩ exch amt eff power) s fun t =>
            t.col.exchAmt = amt ∧ t.col.exchOn = true ∧ t.gov.shift = s.gov.shift)) ∧
        (ownExchange s (m 4) = true →
          (s.col.exchBack = true ∨ s.col.exchAmt.toNat ≤ amt.toNat →
            Completes (.given l ⟨h, bad⟩ exch amt eff power) s fun t => t.col.exchOn = false ∧ t.gov.shift = s.gov.shift) ∧
          (s.col.exchBack = false → amt.toNat < s.col.exchAmt.toNat → s.col.exchFrom ≠ ownFid s →
            Completes (.given l ⟨h, bad⟩ exch amt eff power) s fun t => t.col.exchBack = true ∧ t.col.exchOn = true))) ∧
    (h.dirn = 2 → onRing s h.src = false → ∀ late : BitVec 16 × BitVec 12 × BitVec 12,
      s.col.lates.find? (·.1 == h.seq) = some late → late.2.1 ≠ ownFid s →
      Completes (.take l ⟨h, bad⟩ exch amt) s fun t => t.gov.shift = s.gov.shift ∧
        t.col.relay = some { crown := h.src, exch := exch, fwd := false } ∧
        (onRing s late.2.1 = true → linkUp s 0 = true → 1 ≤ s.aon.link[(0 : Fin 3)].ctlCr →
          (∀ p ∈ s.aon.link[(0 : Fin 3)].txq, isControl p.1 = false) →
          t.aon.link[(0 : Fin 3)].out = s.aon.link[(0 : Fin 3)].out ++
            [({ ctlHdr s 0xD true late.2.1 with seq := h.seq }, .budget 1 exch amt 0 0)])) ∧
    ∀ sub : BitVec 8, h.dirn.toNat ≤ 2 → sub = 0 ∨ 5 ≤ sub.toNat →
      Completes (.budgetReservedSub l ⟨h, bad⟩ sub) s fun t =>
        t.gov.shift = s.gov.shift ∧ t.col.exchOn = s.col.exchOn ∧ t.col.gaveTo = s.col.gaveTo ∧
          t.col.count.get 0 3 = satAdd (s.col.count.get 0 3) 1

/-- A closed bypass passes a packet and a credit unchanged, a damaged packet is dropped and counted, a returned
credit is kept or drives a waiting packet; and what ends an unanswered JOIN or proposal (R254, R255, R257, R259,
R260, R262, R265, R376, R404; a planned close waits for the outputs: assumption 116; the deduced points: assumption
24). -/
def Obligations.LinksAndProposals : Prop :=
  ∀ s : State, Settled s →
    (∀ l : Fin 3, aonOn s = true → l ≠ 2 → bypassed s l = true →
      let passes (p : Hdr × Payload) (t : State) : Prop := t.aon.link[l].out = s.aon.link[l].out ++ [p] ∧
        (∀ k : Fin 3, k ≠ l → t.aon.link[k] = s.aon.link[k]) ∧ t.col.members = s.col.members
      (∀ h p, admits s l p = none → Completes (.bypassForward l h p) s (passes (h, p))) ∧
      (∀ h flits, Completes (.reservedPacket l ⟨h, flits⟩ false) s (passes (h, .raw flits))) ∧
      (∀ h bs bad, Completes (.data l h bs bad true) s fun t => passes ({ h with kind := 0 }, .data bs) t ∧
        t.aon.link[l].cut = s.aon.link[l].cut ++ [s.aon.link[l].out.length]) ∧
      exec (.linkCreditReturn l true) s = .next (s.onLink l fun k => { k with backCtl := k.backCtl + 1 }) ∧
      exec (.linkCreditReturn l false) s = .next (s.onLink l fun k => { k with backData := k.backData + 1 })) ∧
    (∀ (l : Fin 3) h flits bad, linkUp s l = true → hasRoom s l (h, .raw flits) = true →
      Completes (.reservedPacket l ⟨h, flits⟩ bad) s fun t => t.col.count.get 0 4 = satAdd (s.col.count.get 0 4) 1 ∧
        (∀ k : Fin 3, t.aon.link[k].out = s.aon.link[k].out) ∧ t.col.run = s.col.run) ∧
    (∀ (l : Fin 3) h bs bad, linkUp s l = true → hasRoom s l ({ h with kind := 0 }, .data bs) = true →
      Completes (.data l h bs bad true) s fun t => t.col.count.get 0 4 = satAdd (s.col.count.get 0 4) 1 ∧
        (∀ k : Fin 3, t.aon.link[k].out = s.aon.link[k].out) ∧ t.col.run = s.col.run) ∧
    (∀ h flits bad, aonOn s = true → unitsOn s = true → (isRidge s && uplEn s) = false →
      Completes (.reservedPacket 2 ⟨h, flits⟩ bad) s fun t =>
        t.col.count.get 0 4 = satAdd (s.col.count.get 0 4) 1 ∧ t.aon.link = s.aon.link ∧ t.col.run = s.col.run) ∧
    (∀ (l : Fin 3), linkUp s l = true → s.aon.link[l].closing = false →
      (s.aon.link[l].txq = [] →
        exec (.linkCreditReturn l true) s = .next (s.onLink l fun k => { k with ctlCr := min 8 (k.ctlCr + 1) }) ∧
        exec (.linkCreditReturn l false) s = .next (s.onLink l fun k => { k with dataCr := min 56 (k.dataCr + 1) })) ∧
      ∀ p o, isControl p = true → flitsOf p = 1 → s.aon.link[l].txq = [(p, o)] → s.aon.link[l].ctlCr = 0 →
        Completes (.linkCreditReturn l true) s fun t => t.aon.link[l].txq = [] ∧ t.aon.link[l].ctlCr = 0 ∧
          t.aon.link[l].out = s.aon.link[l].out ++ [p]) ∧
    (unitsOn s = true → s.col.joining = true → s.col.admitting = false → bypassed s 0 = true → Completes .joinRetry s fun t =>
      t.col.joinLogged = true ∧ t.col.joining = true ∧ t.aon.link[(0 : Fin 3)].out =
        s.aon.link[(0 : Fin 3)].out ++ [(ctlHdr s 1 false (ridgeFid s), .join (ownEntry s))]) ∧
    (s.col.admitting = true → mayOpen s = true → Completes .joinCommitTimeout s fun t =>
      (s.aon.link[(0 : Fin 3)].txq = [] → t.aon.bypCw = true) ∧ (s.aon.link[(1 : Fin 3)].txq = [] → t.aon.bypCcw = true) ∧
        t.col.admitting = false ∧ t.col.joining = true) ∧
    (isRidge s = true → isLive s = true → linkUp s 0 = true → s.col.run = none → s.col.proposal = none →
      s.col.v1Seen = false → s.col.joins ≠ [] ∨ s.col.leaves ≠ [] →
      Completes .epochPropose s fun t => t.col.joins = [] ∧ t.col.leaves = [] ∧
        t.col.members = s.col.members ∧ t.col.proposal =
          some { epoch := nextEpoch s.col.epoch, admitted := s.col.joins.map Member.fid,
                 removed := s.col.leaves, order := [ownEntry s] }) ∧
    (unitsOn s = true → isRidge s = true → s.col.proposal ≠ none → Completes .proposalUnanswered s fun t =>
      t.col.proposal = none ∧ t.col.epoch = 0 ∧ t.col.members = []) ∧
    (s.aon.st = .fault → exec .joinRetry s = .next s ∧ exec .proposalUnanswered s = .next s)

/-- The commands of COL_CMD, and HIER_CFG: NOP, SUBMIT accepted or refused, with UPLINK scope taken for the ring
where the ridge is its own crown, ABORT of the running or of a queued descriptor, FLUSH, JOIN, LEAVE as a job kill,
the refusals with code 0x6E; a command while BUSY is lost (R262, R264, R266, R272, R274, R283; FLUSH leaves the
running collective: assumption 92; BUSY until the next CCLK edge: assumption 12). -/
def Obligations.CollectiveCommandsTakeEffect : Prop :=
  ∀ (src : Src) (s : State), Settled s → Writes src .host s → unitsOn s = true →
    let taken := accept src 0x90180 s
    let desc := inScope s s.col.dbuf
    (s.col.upRing = true → CDesc.uplink desc = false) ∧ (s.col.upRing = false → desc = s.col.dbuf) ∧
    (s.col.cmdBusy = true → ∀ c ∈ [Instr.colNop src, .colSubmit src, .colFlush src, .colJoin src, .colLeave src],
      exec c s = .next ((answer src .ok 0 s).onCol fun c => { c with cmdLost := true })) ∧
    (s.col.cmdBusy = false →
    (exec (.colNop src) s = .next (taken.onCol fun c => { c with cmdCode := 0, cmdBusy := true })) ∧
    (colCheck s desc = 0 → Completes (.colSubmit src) s fun t =>
      t.col.queue = s.col.queue ++ [{ ticket := s.col.nextTicket, desc := desc, epoch := epochOf s (CDesc.uplink desc) }] ∧
        t.col.nextTicket = s.col.nextTicket + 1 ∧ t.col.cmdCode = 0 ∧ t.col.cmdTicket = s.col.nextTicket) ∧
    (colCheck s desc ≠ 0 → Completes (.colSubmit src) s fun t => t.col.queue = s.col.queue ∧
      t.col.nextTicket = s.col.nextTicket ∧ t.col.cmdCode = colCheck s desc ∧ t.col.event = s.col.event ||| 4) ∧
    (∀ ticket,
      (∀ r, s.col.run = some r → r.ticket = ticket → Completes (.colAbort src ticket) s fun t =>
        t.col.run = none ∧ t.col.cmdCode = 0 ∧ t.col.last = colLast ticket 6 (contributors s r) 0) ∧
      ((∀ r, s.col.run = some r → r.ticket ≠ ticket) →
        (∀ q, s.col.queue.find? (·.ticket == ticket) = some q → Completes (.colAbort src ticket) s fun t =>
          t.col.queue = s.col.queue.filter (·.ticket != ticket) ∧ t.col.run = s.col.run ∧ t.col.cmdCode = 0 ∧
            t.col.last = colLast ticket 6 0 0) ∧
        (s.col.queue.find? (·.ticket == ticket) = none → Completes (.colAbort src ticket) s fun t =>
          t.col.queue = s.col.queue ∧ t.col.run = s.col.run ∧ t.col.cmdCode = 0x6E))) ∧
    (Completes (.colFlush src) s fun t => t.col.queue = [] ∧ t.col.run = s.col.run ∧ t.col.cmdCode = 0) ∧
    (isRidge s = false → Completes (.colJoin src) s fun t => t.col.joining = true ∧ t.col.cmdCode = 0) ∧
    (isRidge s = true → Completes (.colJoin src) s fun t => t.col.cmdCode = 0) ∧
    (leaveRefused s = false → Completes (.colLeave src) s fun t => t.aon.st = .purge ∧ t.col.leaving = true ∧
      t.aon.killed = true ∧ t.sched.queue = [] ∧ t.col.cmdCode = 0) ∧
    (leaveRefused s = true → Completes (.colLeave src) s fun t => t.col.cmdCode = 0x6E ∧
      t.col.leaving = s.col.leaving ∧ t.sched.queue = s.sched.queue) ∧
    (∀ raw, colReservedWord raw = true → Completes (.colCmdReserved src raw) s fun t =>
      t.col.cmdCode = 0x6E ∧ t.col.queue = s.col.queue ∧ t.col.run = s.col.run)) ∧
    ∀ v,
      (s.col.run = none → s.col.queue = [] → Completes (.hierCfgWrite src v) s fun t => t.col.hier = field v 0 14) ∧
      (s.col.run ≠ none ∨ s.col.queue ≠ [] → Completes (.hierCfgWrite src v) s fun t => t.col.hier = s.col.hier)

/-- The queue's head starts with the next SEQ of its scope or ends STALE, sends its packets from its source mortise,
the beams of its first step as its bank gave them, those of a later one as they were kept, a beam that its next
packet lacks being read first where requester 3 has the path (assumption 20), ends DONE when all is sent, received
and written, TIMEOUT when a token wait or its progress times out; the norm's result sets the clip factor (R268, R271,
R273, R274, R276, R278 to R280; the order of the chunks' squares: assumption 115). -/
def Obligations.CollectivesRun : Prop :=
  ∀ s : State, Settled s →
    (∀ q, colHead s = some q →
      (isStale s q = true → Completes .collectiveStart s fun t =>
        t.col.queue = s.col.queue.filter (·.ticket != q.ticket) ∧ t.col.run = none ∧
          t.col.last = colLast q.ticket 5 0 0) ∧
      (isStale s q = false → tokPending s (CDesc.toks q.desc) = 0 →
        waitingFor s (CDesc.uplink q.desc) (nextSeq s (CDesc.uplink q.desc)) = [] →
        CDesc.isData q.desc = true ∨ isRidge s = false → Completes .collectiveStart s fun t =>
          t.col.queue = s.col.queue.tail ∧
          t.col.ringSeq = (if CDesc.uplink q.desc then s.col.ringSeq else s.col.ringSeq + 1) ∧
          t.col.crownSeq = (if CDesc.uplink q.desc then s.col.crownSeq + 1 else s.col.crownSeq) ∧
          let ps := participants s q.desc
          t.col.run = some { ticket := q.ticket, desc := q.desc, seq := nextSeq s (CDesc.uplink q.desc),
                             n := ps.length, chunk := CDesc.count q.desc / CDesc.parts q.desc ps.length,
                             pos := ps.findIdx (· == ownFid s), startAt := s.now }) ∧
      (isStale s q = false → s.aon.st = .run → s.trf.tokTimeout ≠ 0 → tokPending s (CDesc.toks q.desc) ≠ 0 →
        Completes .collectiveTokenTimeout s fun t => t.col.queue = s.col.queue.filter (·.ticket != q.ticket) ∧
          t.col.run = none ∧ t.col.last = colLast q.ticket 2 0 0x65)) ∧
    ∀ r, s.col.run = some r →
      (∀ ccw upset, sendable s r ccw = true →
        let side := r.side ccw
        let place (k : Nat) : Nat := r.nextBeam ccw + k
        let picked (k : Nat) : MarkedBeam :=
          if side.sendStep = 0 then (r.own.get 0 (place k)).extractLsb' 0 4353
          else (side.fwd.get 0 (2 ^ 20 * side.sendStep + place k)).extractLsb' 0 4353
        let bs := (List.range (r.batch ccw)).map picked
        (r.n ≠ 1 → Completes (.collectivePacketSend ccw upset) s fun t => t.trf.beams = s.trf.beams ∧
          t.aon.link[dataLink s r ccw].out = s.aon.link[dataLink s r ccw].out ++
            [({ dataHdr s r ccw with poison := poisonBits bs }, .data (bs.map fun b => b.extractLsb' 0 4352))]) ∧
        Completes (.collectivePacketSend ccw upset) s fun t => ∃ q, t.col.run = some q ∧ q.ticket = r.ticket ∧
          (q.side ccw).sendStep = ((r.sent ccw (r.batch ccw)).side ccw).sendStep ∧
          (q.side ccw).sendOfs = ((r.sent ccw (r.batch ccw)).side ccw).sendOfs ∧
          (q.side ccw).got = side.got ∧
          (r.n = 1 ∨ (CDesc.op r.desc = 2 ∧ side.sendStep = 0) → ∀ k, k < r.batch ccw →
            ∃ w ∈ q.writes, w.job.beam = (mortAt s (CDesc.mort2 r.desc)).beamAt (r.target ccw (place k)) ∧
              w.data = (r.own.get 0 (place k)).extractLsb' 0 4352)) ∧
      (∀ ccw upset j g j₁ j₂ js, lackingJob s r ccw = some j → colRuns s = true → unitsOn s = true →
        s.arb.bay[bayIx j.beam].owner = some g → g.client = .colOut → g.write = false → g.jobs = j₁ :: j₂ :: js →
        (∀ l : Fin 3, s.aon.link[l].wait = []) →
        exec (.collectivePacketSend ccw upset) s = exec (.sidePortBeat (bayIx j.beam) ⟨upset, 0⟩) s) ∧
      (∀ (b : Fin 32) g j upset tcm, s.arb.bay[b].owner = some g → beatFree s g = true → g.client = .colOut →
        g.write = false → g.jobs = [j] → g.staged = [] → (∀ l : Fin 3, s.aon.link[l].wait = []) →
        Completes (.sidePortBeat b ⟨upset, tcm⟩) s fun t => ∃ q, t.col.run = some q ∧
          bitAt (q.own.get 0 j.key) 4353 = true ∧ (q.own.get 0 j.key).extractLsb' 0 4352 =
            (readLine (storedBeam s j.beam) (lineErr (strike j.beam upset s) j.beam)).beam) ∧
      (let due (ccw : Bool) : List W64 :=
        if r.chunkDue ccw then (r.chunkSquares ccw).map fun q => q.extractLsb' 0 64 else []
      colRuns s = true → dataOver r = true → Completes .collectiveComplete s fun t => t.col.run = none ∧
        t.col.last = colLast r.ticket 0 r.n 0 ∧
        t.col.tally = (due false ++ due true).foldl f64Add s.col.tally ∧ t.trf.beams = s.trf.beams) ∧
      (colRuns s = true → s.col.progress ≠ 0 → Completes .progressTimeout s fun t => t.col.run = none ∧
        t.col.last = colLast r.ticket 2 (contributors s r) 0x65 ∧ t.trf.beams = s.trf.beams) ∧
      (normReady s r = true →
        let p := sumOf (normTerms s r).1 (normTerms s r).2
        (p.2 = false → Completes .normResult s fun t => t.sinter.clip = clipFactor p.1 (CDesc.maxNorm r.desc) ∧
          t.sinter.clipGen = s.sinter.clipGen + 1 ∧ t.col.norm = p.1 ∧ t.col.run = none ∧
          t.col.last = colLast r.ticket 0 r.n 0) ∧
        (p.2 = true → Completes .normResult s fun t => t.sinter.clip = s.sinter.clip ∧ t.col.run = none ∧
          t.col.last = colLast r.ticket 4 r.n 0x66))

/-- An evaluation raises no bent's governed ceiling by more than UPSLEW and leaves none above 64, the external
ceiling, the droop floor or the quench ramp; GOV_RAMP, GOV_FLOOR and GOV_CAP.SEL act with the values a raise brought
since; the limiter of a limit of 0 stands at 64; the period's sub-periods join the windows (R285 to R290, R364; the
limiter without a limit: assumption 41; ramp and operating point are not slewed: assumption 39; the windows:
assumption 21). -/
def Obligations.EvaluationsBoundTheCeilings : Prop :=
  ∀ (act : List (List Nat)) (s : State), Settled s → govOn s = true → Completes (.governorEvaluation act) s fun t =>
    let raised := s.onGov fun g => { g with held := none }
    (∀ i : Fin 17, t.gov.bent[i].governed.toNat ≤ s.gov.bent[i].governed.toNat + upslew raised ∧
      t.gov.bent[i].governed.toNat ≤ 64 ∧ t.gov.bent[i].governed.toNat ≤ droopCeil raised ∧
      t.gov.bent[i].governed.toNat ≤ quenchCeil raised ∧ t.gov.bent[i].target.toNat ≤ s.gov.ext.toNat) ∧
    t.gov.held = none ∧
    (∀ r w : Fin 3, (s.cfg.active.govLim.get 0 r.val).extractLsb' (12 * w.val) 12 = 0 →
      t.gov.lim[Fin.ofNat 9 (3 * r.val + w.val)] = {}) ∧
    t.gov.subs = [] ∧ t.gov.past = [] ∧ t.gov.cur = (if s.gov.subs.length < 8 then [] else s.gov.cur) ∧
    t.gov.hist.length ≤ 14400 ∧ t.trf = s.trf ∧ t.sched.queue = s.sched.queue

/-- A refresh of the sensors moves the thermal limiter: up by one while all are cool, down by four at a threshold, to
zero at a junction limit, and ten degrees above one the block enters FAULT; an invalid reading counts as its junction
limit; in every state MON_READ reads what the sensors read then (R301, R303, R407; assumption 150). -/
def Obligations.SensorsDriveTheThermalLimiter : Prop :=
  ∀ (t0 t1 t2 t3 : Option Int) (s : State), Settled s →
    (Completes (.sensorRefresh t0 t1 t2 t3) s fun t => ∀ i : Nat, i < 4 → t.aon.sensed.get 0 i =
      (((([t0, t1, t2, t3] : List (Option Int)).getD i none).map fun v => (1 : BitVec 1) ++ tempByte v).getD 0)) ∧
    (govOn s = true →
    let c (i : Nat) : Int := countsAs i (([t0, t1, t2, t3] : List (Option Int)).getD i none)
    let all (p : Nat → Prop) : Prop := p 0 ∧ p 1 ∧ p 2 ∧ p 3
    let some_ (p : Nat → Prop) : Prop := p 0 ∨ p 1 ∨ p 2 ∨ p 3
    let completes := Completes (.sensorRefresh t0 t1 t2 t3) s
    (all (fun i => c i + 3 ≤ threshold s i) → s.gov.gT.toNat ≤ 64 →
      completes fun t => t.gov.gT.toNat = min 64 (s.gov.gT.toNat + 1)) ∧
    (some_ (fun i => threshold s i ≤ c i) → all (fun i => c i < junction i) →
      completes fun t => t.gov.gT.toNat = s.gov.gT.toNat - 4) ∧
    (some_ (fun i => junction i ≤ c i) → all (fun i => c i < junction i + 10) →
      completes fun t => t.gov.gT = 0 ∧ t.aon.st = s.aon.st) ∧
    (some_ (fun i => junction i + 10 ≤ c i) → isLive s = true → completes fun t => t.aon.st = .fault) ∧
    ∀ v0 v1 v2 v3 : Int, t0 = some v0 → t1 = some v1 → t2 = some v2 → t3 = some v3 →
      (∀ v ∈ [v0, v1, v2, v3], -40 ≤ v ∧ v ≤ 150) →
      completes fun t => t.gov.tHot = max (max (max v0 v1) v2) v3 ∧ t.gov.tempValid = 0xF)

/-- The filtered inputs of the governor: PERF_ACK and its handshake, THERM_IN, DROOP_N, and an input stuck; a
chattering input counts as asserted (R293, R302, R306, R307, R311). QUENCH_N begins a ramp-down or latches the quench
at once; the latch counts, alerts and leads READY, RUN and PAUSE to EMBER, or with the main domain in reset is logged
later; the release leaves the latch (R308, R310). -/
def Obligations.FilteredInputsActOnTheGovernor : Prop :=
  (∀ s : State, Settled s → aonOn s = true →
    (exec (.perfAckFall false) s = .next ((s.onAon fun a => { a with perfAck := false }).onGov fun g =>
      { g with perfFell := g.perfFell || g.perfBusy })) ∧
    (Completes (.perfAckRise false) s fun t => t.aon.perfAck = true ∧ t.gov.perfFell = false ∧
      (govOn s = true → fixedMode s = false → s.gov.perfFell = true → s.aon.perfReq = optPstate s (wantedOp s) →
        t.gov.perfBusy = false ∧ t.gov.modelOp = BitVec.ofNat 4 (wantedOp s) ∧ t.aon.perfReq = s.aon.perfReq)) ∧
    (govOn s = true → s.gov.perfBusy = true →
      (s.gov.perfFell = false → Completes .perfAckFallTimeout s fun t => bitAt t.gov.event 4 = true) ∧
      (s.gov.perfFell = true → s.gov.perfLate = false → Completes .perfAckRiseTimeout s fun t =>
        bitAt t.gov.event 4 = true ∧ t.gov.perfLate = true ∧ t.gov.modelOp = s.gov.modelOp ∧
          t.aon.perfReq = s.aon.perfReq)) ∧
    (∀ n : Fin 8,
      (exec (.thermInAssert n false) s = .next (s.onAon fun a =>
        { a with thermIn := a.thermIn ||| ((1 : BitVec 8) <<< n.val) })) ∧
      (exec (.thermInRelease n false) s = .next (s.onAon fun a =>
        { a with thermIn := a.thermIn &&& ~~~((1 : BitVec 8) <<< n.val), inChat := a.inChat.set false n.val false })) ∧
      Completes (.thermInRelease n true) s fun t => bitAt t.aon.thermIn n.val = true) ∧
    (s.aon.droopN = true → mainOn s = true → Completes (.droopAssert false) s fun t => t.aon.droopN = false ∧
      bitAt t.gov.event 2 = true ∧ ∀ i : Fin 17, t.gov.bent[i].acc = 0 ∧
        t.gov.bent[i].governed.toNat ≤ (field (govFloorWord s) 0 7 : BitVec 7).toNat) ∧
    (Completes (.droopRelease false) s fun t => t.aon.droopN = true ∧ t.trf = s.trf) ∧
    (∀ which : Fin 9, mainOn s = true →
      (which.val < 8 → bitAt s.aon.thermIn which.val = true) → (which.val = 8 → s.aon.droopN = false) →
      exec (.inputStuckTimeout which) s = .next (settle (report
        { code := 0x7A, unit := BitVec.ofNat 12 which.val, loc := if which.val < 8 then 1 else 0 } s)))) ∧
  (∀ s : State, Settled s → aonOn s = true →
    let latched (t : State) : Prop :=
      t.aon.qState = .latched ∧ t.aon.qLatches = satAdd s.aon.qLatches 1 ∧ bitAt t.aon.alert 3 = true ∧
        bitAt t.gov.event 1 = true ∧ (s.aon.st = .ready ∨ s.aon.st = .run ∨ s.aon.st = .pause → t.aon.st = .ember)
    (s.aon.quenchN = true → s.aon.qState = .clear →
      (rampNeeded s = true → Completes (.quenchAssert false) s fun t =>
        t.aon.qState = .ramp ∧ t.aon.quenchN = false ∧ t.gov.qT = 0 ∧ t.aon.st = s.aon.st) ∧
      (rampNeeded s = false → mainOn s = true → Completes (.quenchAssert false) s fun t =>
        latched t ∧ t.aon.quenchN = false) ∧
      (mainOn s = false → Completes (.quenchAssert false) s fun t => t.aon.qState = .latched ∧ t.aon.qLogDue = true ∧
        t.aon.qLatches = satAdd s.aon.qLatches 1 ∧ t.aon.quenchN = false ∧ t.log = s.log)) ∧
    (s.aon.qState = .ramp → mainOn s = true → Completes .quenchLatch s latched) ∧
    Completes (.quenchRelease false) s fun t => t.aon.quenchN = true ∧ t.aon.qState = s.aon.qState ∧
      t.aon.st = s.aon.st)

/-- The simmer ramp: an idle instance turns cold, the stagger's end begins the ramp, a step advances it by 16 BCLK;
and the oldest hint expires (R299, R304). A path monitor at zero raises OFFSET at once and imposes the droop floor,
until it reads another value; the trim evaluation records the slacks and raises OFFSET below the guard band, within
TRIM_MAX (R312). -/
def Obligations.RampsHintsAndTrim : Prop :=
  (∀ s : State, Settled s → govOn s = true →
    (s.gov.cold = false → s.gov.stagger = false → Completes .instanceCold s fun t =>
      t.gov.cold = true ∧ OnlyIn [.gov, .core] s t) ∧
    (s.gov.stagger = true → Completes .staggerEnd s fun t => t.gov.stagger = false ∧ t.gov.rampT = 0 ∧
      t.gov.ramping = (simmer s != 0 && decide (rampStart s < 64)) ∧ OnlyIn [.gov, .core] s t) ∧
    (s.gov.ramping = true → Completes .rampStep s fun t => t.gov.rampT = s.gov.rampT + 16 ∧
      t.gov.ramping = decide (rampAt s (s.gov.rampT + 16) < 64) ∧ OnlyIn [.gov, .core] s t) ∧
    ∀ h, leastBy (liveHints s) (fun h => (h.2.1 - s.sched.nextTicket).toNat) = some h →
      Completes .hintExpiry s fun t => h.2.1 ∈ t.gov.hintDead ∧ OnlyIn [.gov] s t) ∧
  (∀ s : State, Settled s → unitsOn s = true →
    (∀ i : Fin 16, s.gov.slack.get 0x3F i.val ≠ 0 → Completes (.pathMonitorZero ⟨i, 0⟩) s fun t =>
      t.gov.slack.get 0x3F i.val = 0 ∧
      (s.gov.offset.toInt < (field s.gov.trim 24 5 : BitVec 5).toInt →
        t.gov.offset.toInt = s.gov.offset.toInt + 1) ∧
      ∀ b : Fin 17, t.gov.bent[b].governed.toNat ≤ (field (govFloorWord s) 0 7 : BitVec 7).toNat) ∧
    (∀ (i : Fin 16) v, v ≠ 0 → Completes (.pathMonitorZero ⟨i, v⟩) s fun t => t.gov.slack.get 0x3F i.val = v ∧
      t.gov.offset = s.gov.offset ∧ t.gov.bent = s.gov.bent) ∧
    ∀ slacks : List (BitVec 6), s.aon.st = .ready ∨ s.aon.st = .run ∨ s.aon.st = .pause → slacks.length = 16 →
      0 ∉ slacks → Completes (.trimEvaluation slacks) s fun t =>
        (∀ i : Nat, i < 16 → some (t.gov.slack.get 0x3F i) = slacks[i]?) ∧
        ((∃ v ∈ slacks, v.toNat < (field s.gov.trim 32 6 : BitVec 6).toNat) →
          s.gov.offset.toInt < (field s.gov.trim 24 5 : BitVec 5).toInt →
          t.gov.offset.toInt = s.gov.offset.toInt + 1 ∧ t.gov.trimHigh = 0) ∧
        ((∀ v ∈ slacks, (field s.gov.trim 32 6 : BitVec 6).toNat ≤ v.toNat) →
          (∃ v ∈ slacks, v.toNat ≤ (field s.gov.trim 40 6 : BitVec 6).toNat) →
          t.gov.offset = s.gov.offset ∧ t.gov.trimHigh = 0))

/-- The control core runs the word its TCM holds at the pc: the register and immediate forms of the arithmetic, logic
and shifts, of 64 bits and of 32, the M extension, LUI and AUIPC, JAL and JALR, every branch, loads and stores of
every width in the TCM, each changing its destination and the pc alone; a misaligned load or store traps; an
uncorrectable TCM error is fatal (R317, R318, R321, R323; the RISC-V words and operations: assumption 15). -/
def Obligations.TheCoreRunsItsInstructions : Prop :=
  ∀ s : State, Settled s → coreReady s = true → inTcm s.core.pc 4 = true →
    let holds (w : BitVec 32) : Prop := tcmRead s s.core.pc.toNat 4 = w.toNat
    let runs (post : State → Prop) : Prop := Completes (.coreInstruction 0) s post
    let wrote (rd : BitVec 5) (v pc : BitVec 64) (t : State) : Prop :=
      (∀ r, getX t r = if r = rd ∧ r ≠ 0 then v else getX s r) ∧ t.core.pc = pc ∧
        t.core.minstret = s.core.minstret + 1 ∧ t.core.tcm = s.core.tcm ∧ OnlyIn [.core, .gov] s t
    let trapped (cause tval : BitVec 64) (t : State) : Prop := t.core.mepc = s.core.pc ∧ t.core.mcause = cause ∧
      t.core.mtval = tval ∧ t.core.pc = s.core.mtvec ∧ t.core.x = s.core.x ∧ t.core.tcm = s.core.tcm
    let next := s.core.pc + 4
    let word (v : BitVec 32) : BitVec 64 := v.signExtend 64
    (∀ rd rs1 rs2 : BitVec 5,
      let a := getX s rs1
      let b := getX s rs2
      let n := (b.extractLsb' 0 6).toNat
      let x := a.extractLsb' 0 32
      let y := b.extractLsb' 0 32
      let k := (b.extractLsb' 0 5).toNat
      ∀ p ∈ ([(mkR 0 rs2 rs1 0 rd 0x33, a + b), (mkR 0x20 rs2 rs1 0 rd 0x33, a - b), (mkR 0 rs2 rs1 1 rd 0x33, a <<< n),
          (mkR 0 rs2 rs1 2 rd 0x33, if a.toInt < b.toInt then 1 else 0),
          (mkR 0 rs2 rs1 3 rd 0x33, if a.toNat < b.toNat then 1 else 0),
          (mkR 0 rs2 rs1 4 rd 0x33, a ^^^ b), (mkR 0 rs2 rs1 5 rd 0x33, a >>> n),
          (mkR 0x20 rs2 rs1 5 rd 0x33, a.sshiftRight n), (mkR 0 rs2 rs1 6 rd 0x33, a ||| b),
          (mkR 0 rs2 rs1 7 rd 0x33, a &&& b),
          (mkR 0 rs2 rs1 0 rd 0x3B, word (x + y)), (mkR 0x20 rs2 rs1 0 rd 0x3B, word (x - y)),
          (mkR 0 rs2 rs1 1 rd 0x3B, word (x <<< k)), (mkR 0 rs2 rs1 5 rd 0x3B, word (x >>> k)),
          (mkR 0x20 rs2 rs1 5 rd 0x3B, word (x.sshiftRight k)),
          (mkR 1 rs2 rs1 0 rd 0x33, a * b), (mkR 1 rs2 rs1 1 rd 0x33, BitVec.ofInt 64 (a.toInt * b.toInt / 2 ^ 64)),
          (mkR 1 rs2 rs1 2 rd 0x33, BitVec.ofInt 64 (a.toInt * b.toNat / 2 ^ 64)),
          (mkR 1 rs2 rs1 3 rd 0x33, BitVec.ofNat 64 (a.toNat * b.toNat / 2 ^ 64)),
          (mkR 1 rs2 rs1 4 rd 0x33, if b = 0 then BitVec.allOnes 64 else a.sdiv b),
          (mkR 1 rs2 rs1 5 rd 0x33, if b = 0 then BitVec.allOnes 64 else a.udiv b),
          (mkR 1 rs2 rs1 6 rd 0x33, if b = 0 then a else a.srem b),
          (mkR 1 rs2 rs1 7 rd 0x33, if b = 0 then a else a.umod b), (mkR 1 rs2 rs1 0 rd 0x3B, word (x * y)),
          (mkR 1 rs2 rs1 4 rd 0x3B, word (if y = 0 then BitVec.allOnes 32 else x.sdiv y)),
          (mkR 1 rs2 rs1 5 rd 0x3B, word (if y = 0 then BitVec.allOnes 32 else x.udiv y)),
          (mkR 1 rs2 rs1 6 rd 0x3B, word (if y = 0 then x else x.srem y)),
          (mkR 1 rs2 rs1 7 rd 0x3B, word (if y = 0 then x else x.umod y))] : List (BitVec 32 × BitVec 64)),
        holds p.1 → runs (wrote rd p.2 next)) ∧
    (∀ (rd rs1 : BitVec 5) (imm : BitVec 12) (sh : BitVec 6) (up : BitVec 20),
      let a := getX s rs1
      let i := imm.signExtend 64
      let x := a.extractLsb' 0 32
      let n := (sh.extractLsb' 0 5).toNat
      let five : BitVec 5 := sh.extractLsb' 0 5
      (∀ p ∈ ([(mkI imm rs1 0 rd 0x13, a + i), (mkI imm rs1 2 rd 0x13, if a.toInt < i.toInt then 1 else 0),
          (mkI imm rs1 3 rd 0x13, if a.toNat < i.toNat then 1 else 0), (mkI imm rs1 4 rd 0x13, a ^^^ i),
          (mkI imm rs1 6 rd 0x13, a ||| i), (mkI imm rs1 7 rd 0x13, a &&& i),
          (mkI ((0 : BitVec 6) ++ sh) rs1 1 rd 0x13, a <<< sh.toNat),
          (mkI ((0 : BitVec 6) ++ sh) rs1 5 rd 0x13, a >>> sh.toNat),
          (mkI ((0x10 : BitVec 6) ++ sh) rs1 5 rd 0x13, a.sshiftRight sh.toNat),
          (mkI imm rs1 0 rd 0x1B, word (x + imm.signExtend 32)),
          (mkI ((0 : BitVec 7) ++ five) rs1 1 rd 0x1B, word (x <<< n)),
          (mkI ((0 : BitVec 7) ++ five) rs1 5 rd 0x1B, word (x >>> n)),
          (mkI ((0x20 : BitVec 7) ++ five) rs1 5 rd 0x1B, word (x.sshiftRight n)),
          (up ++ rd ++ (0x37 : BitVec 7), (up ++ (0 : BitVec 12)).signExtend 64),
          (up ++ rd ++ (0x17 : BitVec 7), s.core.pc + (up ++ (0 : BitVec 12)).signExtend 64)] :
          List (BitVec 32 × BitVec 64)),
        holds p.1 → runs (wrote rd p.2 next)) ∧
      (holds (mkI imm rs1 0 rd 0x67) → runs (wrote rd next ((a + i) &&& 0xFFFFFFFFFFFFFFFE)))) ∧
    (∀ (rd rs1 : BitVec 5) (imm : BitVec 12), let a := getX s rs1 + imm.signExtend 64
      let at_ (n : Nat) : Nat := tcmRead s a.toNat n
      s.core.postFault = 0 →
      ∀ p ∈ ([(0, 1, (BitVec.ofNat 8 (at_ 1)).signExtend 64), (1, 2, (BitVec.ofNat 16 (at_ 2)).signExtend 64),
          (2, 4, word (BitVec.ofNat 32 (at_ 4))), (3, 8, BitVec.ofNat 64 (at_ 8)), (4, 1, BitVec.ofNat 64 (at_ 1)),
          (5, 2, BitVec.ofNat 64 (at_ 2)), (6, 4, BitVec.ofNat 64 (at_ 4))] : List (BitVec 3 × Nat × BitVec 64)),
        holds (mkI imm rs1 p.1 rd 0x03) →
        (a.toNat % p.2.1 = 0 → inTcm a p.2.1 = true → runs (wrote rd p.2.2 next)) ∧
          (a.toNat % p.2.1 ≠ 0 → runs (trapped 4 a))) ∧
    (∀ (rs1 rs2 : BitVec 5) (imm : BitVec 12), let a := getX s rs1 + imm.signExtend 64
      ∀ p ∈ ([(0, 1), (1, 2), (2, 4), (3, 8)] : List (BitVec 3 × Nat)), holds (mkS imm rs2 rs1 p.1) →
        (a.toNat % p.2 = 0 → inTcm a p.2 = true → runs fun t =>
          (∀ r, getX t r = getX s r) ∧ t.core.pc = next ∧ OnlyIn [.core, .gov] s t ∧
          (∀ i < p.2, t.core.tcm.get 0 (a.toNat + i) = (getX s rs2).extractLsb' (8 * i) 8) ∧
          ∀ b, b < a.toNat ∨ a.toNat + p.2 ≤ b → t.core.tcm.get 0 b = s.core.tcm.get 0 b) ∧
        (a.toNat % p.2 ≠ 0 → runs (trapped 6 a))) ∧
    (∀ (rd : BitVec 5) (imm : BitVec 21), bitAt imm 0 = false → holds (mkJ imm rd) →
      runs (wrote rd next (s.core.pc + imm.signExtend 64))) ∧
    (∀ (rs1 rs2 : BitVec 5) (imm : BitVec 13), bitAt imm 0 = false →
      let a := getX s rs1
      let b := getX s rs2
      ∀ p ∈ ([(0, a == b), (1, a != b), (4, decide (a.toInt < b.toInt)), (5, decide (b.toInt ≤ a.toInt)),
          (6, decide (a.toNat < b.toNat)), (7, decide (b.toNat ≤ a.toNat))] : List (BitVec 3 × Bool)),
        holds (mkB imm rs2 rs1 p.1) → runs (wrote 0 0 (if p.2 then s.core.pc + imm.signExtend 64 else next))) ∧
    ∀ upset : BitVec 2, 2 ≤ upset.toNat → isLive s = true → Completes (.coreInstruction upset) s fun t =>
      t.aon.st = .fault ∧ t.core.run = .halted

/-- LR holds a reservation, SC stores while it is held and ends it, an AMO gives the old value and stores its result,
of 64 bits and of 32; a CSR instruction gives the old value and writes the fields the core holds of the one CSR it
names, and is illegal for a CSR not listed or a read-only one that it writes (R317, R318; the RISC-V words and
operations and what a write keeps: assumption 15). The compressed forms: each does what its 32-bit form does, the pc
moving on by 2; one that RV64C does not define, or that is of the floating-point extensions, is illegal (R317; the
RISC-V words and operations: assumption 15). -/
def Obligations.AtomicsCsrsAndCompressedForms : Prop :=
  (∀ s : State, Settled s → coreReady s = true → inTcm s.core.pc 4 = true →
    let holds (w : BitVec 32) : Prop := tcmRead s s.core.pc.toNat 4 = w.toNat
    let runs (post : State → Prop) : Prop := Completes (.coreInstruction 0) s post
    let moved (rd : BitVec 5) (v : BitVec 64) (t : State) : Prop :=
      (∀ r, getX t r = if r = rd ∧ r ≠ 0 then v else getX s r) ∧ t.core.pc = s.core.pc + 4 ∧ OnlyIn [.core, .gov] s t
    let stored (a n : Nat) (v : BitVec 64) (t : State) : Prop :=
      (∀ i < n, t.core.tcm.get 0 (a + i) = v.extractLsb' (8 * i) 8) ∧
        ∀ b, b < a ∨ a + n ≤ b → t.core.tcm.get 0 b = s.core.tcm.get 0 b
    (∀ (rd rs1 rs2 : BitVec 5) (order : BitVec 2), let a := getX s rs1
      let v := getX s rs2
      let op (f5 : BitVec 5) (rs2 : BitVec 5) (f3 : BitVec 3) : BitVec 32 := mkR (f5 ++ order) rs2 rs1 f3 rd 0x2F
      (a.toNat % 8 = 0 → inTcm a 8 = true →
        let m := BitVec.ofNat 64 (tcmRead s a.toNat 8)
        (s.core.postFault = 0 → holds (op 2 0 3) → runs fun t => moved rd m t ∧ t.core.resv = some a.toNat ∧
          t.core.tcm = s.core.tcm) ∧
        (holds (op 3 rs2 3) →
          (s.core.resv = some a.toNat → runs fun t => moved rd 0 t ∧ stored a.toNat 8 v t ∧ t.core.resv = none) ∧
          (s.core.resv ≠ some a.toNat → runs fun t => moved rd 1 t ∧ t.core.tcm = s.core.tcm ∧ t.core.resv = none)) ∧
        (s.core.postFault = 0 → ∀ p ∈ ([(1, v), (0, m + v), (4, m ^^^ v), (0xC, m &&& v), (8, m ||| v),
            (0x10, if m.toInt < v.toInt then m else v), (0x14, if m.toInt < v.toInt then v else m),
            (0x18, if m.toNat < v.toNat then m else v), (0x1C, if m.toNat < v.toNat then v else m)] :
            List (BitVec 5 × BitVec 64)),
          holds (op p.1 rs2 3) → runs fun t => moved rd m t ∧ stored a.toNat 8 p.2 t)) ∧
      (a.toNat % 4 = 0 → inTcm a 4 = true →
        let m := BitVec.ofNat 32 (tcmRead s a.toNat 4)
        let v := v.extractLsb' 0 32
        (s.core.postFault = 0 → holds (op 2 0 2) → runs fun t =>
          moved rd (m.signExtend 64) t ∧ t.core.resv = some a.toNat ∧ t.core.tcm = s.core.tcm) ∧
        (holds (op 3 rs2 2) →
          (s.core.resv = some a.toNat → runs fun t =>
            moved rd 0 t ∧ stored a.toNat 4 (v.setWidth 64) t ∧ t.core.resv = none) ∧
          (s.core.resv ≠ some a.toNat → runs fun t => moved rd 1 t ∧ t.core.tcm = s.core.tcm ∧ t.core.resv = none)) ∧
        (s.core.postFault = 0 → ∀ p ∈ ([(1, v), (0, m + v), (4, m ^^^ v), (0xC, m &&& v), (8, m ||| v),
            (0x10, if m.toInt < v.toInt then m else v), (0x14, if m.toInt < v.toInt then v else m),
            (0x18, if m.toNat < v.toNat then m else v), (0x1C, if m.toNat < v.toNat then v else m)] :
            List (BitVec 5 × BitVec 32)),
          holds (op p.1 rs2 2) → runs fun t =>
            moved rd (m.signExtend 64) t ∧ stored a.toNat 4 (p.2.setWidth 64) t))) ∧
    let csrs : List (BitVec 12 × (Core → BitVec 64) × (BitVec 64 → BitVec 64)) :=
      [(0x300, Core.mstatus, fun v => (v &&& 0x88) ||| 0x1800), (0x304, Core.mie, fun v => v &&& 0x800),
        (0x305, Core.mtvec, fun v => v &&& 0xFFFFFFFFFFFFFFFC), (0x340, Core.mscratch, id),
        (0x341, Core.mepc, fun v => v &&& 0xFFFFFFFFFFFFFFFE), (0x342, Core.mcause, id), (0x343, Core.mtval, id),
        (0xB00, Core.mcycle, id)]
    let fixed : List (BitVec 12 × BitVec 64) :=
      [(0x301, 0x8000000000001105), (0x344, if meip s then 0x800 else 0), (0xF11, 0), (0xF12, 0), (0xF13, 0x0200), (0xF14, 0)]
    let illegal (w : BitVec 32) : Prop := holds w → runs fun t => t.core.mcause = 2 ∧ t.core.mtval = w.setWidth 64 ∧
      t.core.mepc = s.core.pc ∧ t.core.pc = s.core.mtvec ∧ t.core.x = s.core.x
    ∀ (rd rs1 : BitVec 5), let a := getX s rs1
      let i : BitVec 64 := rs1.setWidth 64
      (∀ p ∈ csrs, let old := p.2.1 s.core
        let sets (new : BitVec 64) (t : State) : Prop := moved rd old t ∧ p.2.1 t.core = p.2.2 new ∧
          t.core.minstret = s.core.minstret + 1 ∧ t.core.tcm = s.core.tcm ∧
          ∀ q ∈ csrs, q.1 ≠ p.1 → q.2.1 t.core = q.2.1 s.core
        (holds (mkI p.1 0 2 rd 0x73) → runs fun t => moved rd old t ∧ ∀ q ∈ csrs, q.2.1 t.core = q.2.1 s.core) ∧
        (holds (mkI p.1 rs1 1 rd 0x73) → runs (sets a)) ∧ (holds (mkI p.1 rs1 5 rd 0x73) → runs (sets i)) ∧
        (rs1 ≠ 0 → (holds (mkI p.1 rs1 2 rd 0x73) → runs (sets (old ||| a))) ∧
          (holds (mkI p.1 rs1 3 rd 0x73) → runs (sets (old &&& ~~~a))) ∧
          (holds (mkI p.1 rs1 6 rd 0x73) → runs (sets (old ||| i))) ∧
          (holds (mkI p.1 rs1 7 rd 0x73) → runs (sets (old &&& ~~~i))))) ∧
      (∀ p ∈ fixed, holds (mkI p.1 0 2 rd 0x73) → runs fun t => moved rd p.2 t ∧ t.core.tcm = s.core.tcm) ∧
      (holds (mkI 0xB02 0 2 rd 0x73) → runs fun t => moved rd s.core.minstret t ∧ t.core.minstret = s.core.minstret + 1) ∧
      (holds (mkI 0xB02 rs1 1 rd 0x73) → runs fun t => moved rd s.core.minstret t ∧ t.core.minstret = a) ∧
      (∀ n ∈ ([0xF11, 0xF12, 0xF13, 0xF14] : List (BitVec 12)), illegal (mkI n rs1 1 rd 0x73)) ∧
      ∀ (n : BitVec 12) (f3 : BitVec 3), n ≠ 0xB02 → n ∉ csrs.map Prod.fst → n ∉ fixed.map Prod.fst → f3.toNat % 4 ≠ 0 →
        illegal (mkI n rs1 f3 rd 0x73)) ∧
  (∀ s : State, Settled s → coreReady s = true → inTcm s.core.pc 2 = true →
    let holds (c : BitVec 16) : Prop := tcmRead s s.core.pc.toNat 2 = c.toNat
    let runs (post : State → Prop) : Prop := Completes (.coreInstruction 0) s post
    let next := s.core.pc + 2
    let wrote (rd : BitVec 5) (v pc : BitVec 64) (t : State) : Prop :=
      (∀ r, getX t r = if r = rd ∧ r ≠ 0 then v else getX s r) ∧ t.core.pc = pc ∧
        t.core.minstret = s.core.minstret + 1 ∧ t.core.tcm = s.core.tcm ∧ OnlyIn [.core, .gov] s t
    let word (v : BitVec 32) : BitVec 64 := v.signExtend 64
    let low (r : BitVec 5) : BitVec 32 := (getX s r).extractLsb' 0 32
    let x8 (r : BitVec 3) : BitVec 5 := (1 : BitVec 2) ++ r
    let bits {w : Nat} (v : BitVec w) (lo n : Nat) : BitVec n := v.extractLsb' lo n
    (∀ (rd rs2 : BitVec 5) (i : BitVec 6), let v := i.signExtend 64
      let ci (f3 : BitVec 3) (op : BitVec 2) : BitVec 16 := f3 ++ bits i 5 1 ++ rd ++ bits i 0 5 ++ op
      (holds (ci 0 1) → runs (wrote rd (getX s rd + v) next)) ∧
      (rd ≠ 0 → holds (ci 1 1) → runs (wrote rd (word (low rd + i.signExtend 32)) next)) ∧
      (holds (ci 2 1) → runs (wrote rd v next)) ∧
      (rd ≠ 2 → i ≠ 0 → holds (ci 3 1) → runs (wrote rd ((i ++ (0 : BitVec 12)).signExtend 64) next)) ∧
      (holds (ci 0 2) → runs (wrote rd (getX s rd <<< i.toNat) next)) ∧
      (rd ≠ 0 → holds ((0x8 : BitVec 4) ++ rd ++ (0 : BitVec 5) ++ (2 : BitVec 2)) →
        runs (wrote 0 0 (getX s rd &&& 0xFFFFFFFFFFFFFFFE))) ∧
      (rd ≠ 0 → holds ((0x9 : BitVec 4) ++ rd ++ (0 : BitVec 5) ++ (2 : BitVec 2)) →
        runs (wrote 1 next (getX s rd &&& 0xFFFFFFFFFFFFFFFE))) ∧
      (rs2 ≠ 0 → holds ((0x8 : BitVec 4) ++ rd ++ rs2 ++ (2 : BitVec 2)) → runs (wrote rd (getX s rs2) next)) ∧
      (rs2 ≠ 0 → holds ((0x9 : BitVec 4) ++ rd ++ rs2 ++ (2 : BitVec 2)) → runs (wrote rd (getX s rd + getX s rs2) next))) ∧
    (∀ (d r : BitVec 3) (i : BitVec 6), let a := getX s (x8 d)
      let b := getX s (x8 r)
      let cb (f2 : BitVec 2) : BitVec 16 := (4 : BitVec 3) ++ bits i 5 1 ++ f2 ++ d ++ bits i 0 5 ++ (1 : BitVec 2)
      let ca (hi : BitVec 1) (f2 : BitVec 2) : BitVec 16 :=
        (4 : BitVec 3) ++ hi ++ (3 : BitVec 2) ++ d ++ f2 ++ r ++ (1 : BitVec 2)
      ∀ p ∈ ([(cb 0, a >>> i.toNat), (cb 1, a.sshiftRight i.toNat), (cb 2, a &&& i.signExtend 64), (ca 0 0, a - b),
          (ca 0 1, a ^^^ b), (ca 0 2, a ||| b), (ca 0 3, a &&& b), (ca 1 0, word (low (x8 d) - low (x8 r))),
          (ca 1 1, word (low (x8 d) + low (x8 r)))] : List (BitVec 16 × BitVec 64)),
        holds p.1 → runs (wrote (x8 d) p.2 next)) ∧
    (∀ (d : BitVec 3) (u : BitVec 10), u ≠ 0 → bits u 0 2 = (0 : BitVec 2) →
      holds ((0 : BitVec 3) ++ bits u 4 2 ++ bits u 6 4 ++ bits u 2 1 ++ bits u 3 1 ++ d ++ (0 : BitVec 2)) →
      runs (wrote (x8 d) (getX s 2 + u.setWidth 64) next)) ∧
    (∀ i : BitVec 10, i ≠ 0 → bits i 0 4 = (0 : BitVec 4) →
      holds ((3 : BitVec 3) ++ bits i 9 1 ++ (2 : BitVec 5) ++ bits i 4 1 ++ bits i 6 1 ++ bits i 7 2 ++ bits i 5 1 ++
        (1 : BitVec 2)) →
      runs (wrote 2 (getX s 2 + i.signExtend 64) next)) ∧
    (∀ i : BitVec 12, bitAt i 0 = false →
      holds ((5 : BitVec 3) ++ bits i 11 1 ++ bits i 4 1 ++ bits i 8 2 ++ bits i 10 1 ++ bits i 6 1 ++ bits i 7 1 ++
        bits i 1 3 ++ bits i 5 1 ++ (1 : BitVec 2)) →
      runs (wrote 0 0 (s.core.pc + i.signExtend 64))) ∧
    (∀ (r : BitVec 3) (i : BitVec 9), bitAt i 0 = false →
      let cb (f3 : BitVec 3) : BitVec 16 :=
        f3 ++ bits i 8 1 ++ bits i 3 2 ++ r ++ bits i 6 2 ++ bits i 1 2 ++ bits i 5 1 ++ (1 : BitVec 2)
      let target := s.core.pc + i.signExtend 64
      (holds (cb 6) → runs (wrote 0 0 (if getX s (x8 r) = 0 then target else next))) ∧
      (holds (cb 7) → runs (wrote 0 0 (if getX s (x8 r) = 0 then next else target)))) ∧
    (∀ (r d : BitVec 3) (rd : BitVec 5) (u : BitVec 9), let z (n : Nat) : Prop := u.toNat % n = 0
      let off := u.setWidth 64
      let load (rd : BitVec 5) (a : BitVec 64) (n : Nat) : Prop :=
        a.toNat % n = 0 → inTcm a n = true → s.core.postFault = 0 → runs (wrote rd
          (if n = 4 then word (BitVec.ofNat 32 (tcmRead s a.toNat 4)) else BitVec.ofNat 64 (tcmRead s a.toNat 8)) next)
      let store (r : BitVec 5) (a : BitVec 64) (n : Nat) : Prop :=
        a.toNat % n = 0 → inTcm a n = true → runs fun t => (∀ q, getX t q = getX s q) ∧ t.core.pc = next ∧
          OnlyIn [.core, .gov] s t ∧ (∀ i < n, t.core.tcm.get 0 (a.toNat + i) = (getX s r).extractLsb' (8 * i) 8) ∧
          ∀ b, b < a.toNat ∨ a.toNat + n ≤ b → t.core.tcm.get 0 b = s.core.tcm.get 0 b
      let cw (f3 : BitVec 3) : BitVec 16 := f3 ++ bits u 3 3 ++ r ++ bits u 2 1 ++ bits u 6 1 ++ d ++ (0 : BitVec 2)
      let cd (f3 : BitVec 3) : BitVec 16 := f3 ++ bits u 3 3 ++ r ++ bits u 6 2 ++ d ++ (0 : BitVec 2)
      (u.toNat < 128 → z 4 → (holds (cw 2) → load (x8 d) (getX s (x8 r) + off) 4) ∧
        (holds (cw 6) → store (x8 d) (getX s (x8 r) + off) 4)) ∧
      (u.toNat < 256 → z 8 → (holds (cd 3) → load (x8 d) (getX s (x8 r) + off) 8) ∧
        (holds (cd 7) → store (x8 d) (getX s (x8 r) + off) 8)) ∧
      (u.toNat < 256 → z 4 →
        (rd ≠ 0 → holds ((2 : BitVec 3) ++ bits u 5 1 ++ rd ++ bits u 2 3 ++ bits u 6 2 ++ (2 : BitVec 2)) →
          load rd (getX s 2 + off) 4) ∧
        (holds ((6 : BitVec 3) ++ bits u 2 4 ++ bits u 6 2 ++ rd ++ (2 : BitVec 2)) → store rd (getX s 2 + off) 4)) ∧
      (z 8 →
        (rd ≠ 0 → holds ((3 : BitVec 3) ++ bits u 5 1 ++ rd ++ bits u 3 2 ++ bits u 6 3 ++ (2 : BitVec 2)) →
          load rd (getX s 2 + off) 8) ∧
        (holds ((7 : BitVec 3) ++ bits u 3 3 ++ bits u 6 3 ++ rd ++ (2 : BitVec 2)) → store rd (getX s 2 + off) 8))) ∧
    let trapped (cause tval : BitVec 64) (t : State) : Prop := t.core.mepc = s.core.pc ∧ t.core.mcause = cause ∧
      t.core.mtval = tval ∧ t.core.pc = s.core.mtvec ∧ t.core.x = s.core.x ∧ t.core.tcm = s.core.tcm
    (holds 0x9002 → runs (trapped 3 s.core.pc)) ∧
    ∀ c : BitVec 16, c = 0 ∨ (bitAt c 0 = false ∧ bits c 13 3 = (1 : BitVec 3)) ∨
        (bitAt c 0 = false ∧ bits c 13 3 = (5 : BitVec 3)) → holds c → runs (trapped 2 (c.setWidth 64)))

/-- An exception and the external interrupt enter the handler at mtvec, keeping the pc in mepc and MIE in MPIE; an
exception under NEST is fatal; MRET returns; WFI waits unless the interrupt is pending; FENCE waits for posted stores
and takes the fault that one left (R317, R320, R321; mstatus and what a fault of a posted store gives: assumption
15). -/
def Obligations.TrapsAreTakenAndReturnedFrom : Prop :=
  ∀ s : State, Settled s → coreReady s = true →
    let trapped (cause tval : BitVec 64) (t : State) : Prop :=
      t.core.mepc = s.core.pc ∧ t.core.mcause = cause ∧ t.core.mtval = tval ∧ t.core.pc = s.core.mtvec ∧
        t.core.nest = true ∧ t.core.mstatus = (if bitAt s.core.mstatus 3 then 0x1880 else 0x1800) ∧
        t.core.x = s.core.x ∧ t.core.tcm = s.core.tcm ∧ t.trf.beams = s.trf.beams
    (∀ cause tval, isCause cause = true →
      (s.core.nest = false → Completes (.coreException cause tval) s fun t =>
        trapped (cause.setWidth 64) tval t ∧ t.aon.st = s.aon.st ∧ t.core.run = .running) ∧
      (s.core.nest = true → isLive s = true → Completes (.coreException cause tval) s fun t =>
        trapped (cause.setWidth 64) tval t ∧ t.aon.st = .fault ∧ t.core.run = .halted)) ∧
    (irqDue s = true → Completes .coreInterrupt s fun t => trapped 0x800000000000000B 0 t ∧
      OnlyIn [.core] s t) ∧
    (Completes .mret s fun t => t.core.pc = s.core.mepc ∧ t.core.nest = false ∧
      t.core.mstatus = (if bitAt s.core.mstatus 7 then 0x1888 else 0x1880) ∧ t.core.x = s.core.x ∧ OnlyIn [.core] s t) ∧
    (Completes .wfi s fun t => t.core.pc = s.core.pc + 4 ∧ t.core.x = s.core.x ∧ OnlyIn [.core] s t ∧
      t.core.run = if meip s && bitAt s.core.mie 11 then .running else .wfi) ∧
    (s.core.postFault ≠ 0 → Completes .fence s fun t => t.core.mcause = 7 ∧ t.core.mepc = s.core.pc ∧
      t.core.pc = s.core.mtvec ∧ t.core.postFault = s.core.postFault - 1 ∧ t.core.x = s.core.x) ∧
    (s.core.postFault = 0 →
      (s.core.posted = [] → exec .fence s = .next (retire 4 s)) ∧ (s.core.posted ≠ [] → exec .fence s = .next s))

/-- A doubleword load or store in the register window reads or writes the register there; one in the memory aperture
asks for its granule through the windows, the load stalling until its data comes, the store posted; either stalls for
want of a tag or its port; without a window it is an access fault (R318 to R320; LD and SD: assumption 15; the tag:
assumption 17). -/
def Obligations.PathAndApertureAccesses : Prop :=
  ∀ (rd rs1 rs2 : BitVec 5) (imm : BitVec 12) (rvc : Bool) (s : State), Settled s → coreReady s = true →
    let a := getX s rs1 + imm.signExtend 64
    let next := s.core.pc + (if rvc then 2 else 4)
    a.toNat % 8 = 0 →
    (inWindow a = true →
      (s.core.postFault = 0 → Completes (.registerPathLoad rd rs1 imm rvc) s fun t =>
        (∀ r, getX t r = if r = rd ∧ r ≠ 0 then pathRead a s else getX s r) ∧ t.core.pc = next ∧ OnlyIn [.core] s t) ∧
      (∀ i, let o := windowOff a
        regInfo o = some i →
        (i.owner ≠ .vent → writeTurned .firmware o i (getX s rs2) s = false → exec (.registerPathStore rs1 rs2 imm rvc) s = .next
          (settle (noteBinding (retire (rvLen rvc) (regEffect .firmware o (getX s rs2)
            (answered .firmware o (unitDrops o (getX s rs2) s) s)))))) ∧
        (i.owner ≠ .vent → writeTurned .firmware o i (getX s rs2) s = true →
          Completes (.registerPathStore rs1 rs2 imm rvc) s fun t => t.core.pc = next ∧ OnlyIn [.core, .gov, .log] s t) ∧
        (i.owner = .vent → Completes (.registerPathStore rs1 rs2 imm rvc) s fun t =>
          t.core.pc = next ∧ OnlyIn [.core, .gov, .log] s t)) ∧
      (regInfo (windowOff a) = none → Completes (.registerPathStore rs1 rs2 imm rvc) s fun t =>
        t.core.pc = next ∧ OnlyIn [.core, .gov] s t) ∧
      (a.toNat = 0x10020020 → Completes (.registerPathStore rs1 rs2 imm rvc) s fun t =>
        t.trf = { s.trf with ceThresh := field (getX s rs2) 0 32 } ∧ t.core.pc = next ∧
          OnlyIn [.trf, .core, .gov, .log] s t)) ∧
    (inAperture a = true → ∀ tag,
      let asks (client : MemClient) (write : Bool) (w : WinSel) (wg : List (BitVec 577)) (t : State) : Prop :=
        let port := (memPort (aperturePhys w a)).toFin
        t.mem.txns = s.mem.txns ++ [{ tag := tag, port := port, client := client, write := write
                                      paddr := aperturePhys w a, len := 1 }] ∧
          t.mem.wdata = if write then s.mem.wdata ++ [{ tag := tag, port := port, client := client, len := 1, wg := wg }]
            else s.mem.wdata
      let free (client : MemClient) (w : WinSel) : Prop := memOn s = true ∧ tagFree s client tag = true ∧
        s.mem.req[(memPort (aperturePhys w a)).toFin] = none
      (s.core.postFault = 0 →
        (∀ w, apertureWindow s false a = some w → ¬ free .load w →
          exec (.apertureLoad rd rs1 imm rvc tag) s = .next s) ∧
        (∀ w, apertureWindow s false a = some w → free .load w →
          Completes (.apertureLoad rd rs1 imm rvc tag) s fun t => asks .load false w [] t ∧
            t.core.apLoad = some (rd, tag) ∧ t.core.apAddr = a ∧ t.core.pc = s.core.pc ∧ t.core.x = s.core.x) ∧
        (apertureWindow s false a = none → Completes (.apertureLoad rd rs1 imm rvc tag) s fun t =>
          t.core.mcause = 5 ∧ t.core.mepc = s.core.pc ∧ t.core.pc = s.core.mtvec ∧ t.mem = s.mem)) ∧
      (∀ w, apertureWindow s true a = some w → ¬ (free .store w ∧ s.core.posted.length < 16) →
        exec (.apertureStore rs1 rs2 imm rvc tag) s = .next s) ∧
      (∀ w, apertureWindow s true a = some w → free .store w → s.core.posted.length < 16 → Completes (.apertureStore rs1 rs2 imm rvc tag) s fun t =>
          asks .store true w [storeGran a (getX s rs2)] t ∧ t.core.pc = next ∧ t.core.x = s.core.x ∧
            t.core.posted = s.core.posted ++ [{ aperture := true, tag := tag }]) ∧
      (apertureWindow s true a = none → Completes (.apertureStore rs1 rs2 imm rvc tag) s fun t =>
        t.core.mcause = 7 ∧ t.core.mepc = s.core.pc ∧ t.core.pc = s.core.mtvec ∧ t.mem = s.mem))

/-- The schedule engine's instructions: PH.PUSH queues the record in the TCM that passes its check and answers its
ticket, PH.STAT reads a slot or SCH_STATUS, TOK.READ an entry's token state, PH.ABORT removes a queued record, aborts
a running phase or answers 0x39 (R202, R205; a record at a bad address: assumption 82). -/
def Obligations.ScheduleInstructionsAct : Prop :=
  ∀ (rd rs1 : BitVec 5) (s : State), Settled s → coreReady s = true →
    let x := getX s rs1
    let wrote (v : BitVec 64) (t : State) : Prop :=
      (∀ r, getX t r = if r = rd ∧ r ≠ 0 then v else getX s r) ∧ t.core.pc = s.core.pc + 4
    (x.toNat % 8 = 0 → inTcm x 256 = true →
      let code := recordCheck s (tcmRecord x.toNat s)
      (code = 0 → Completes (.phPush rd rs1) s fun t =>
        t.sched.queue = s.sched.queue ++ [{ ticket := s.sched.nextTicket, rcd := tcmRecord x.toNat s }] ∧
          t.sched.nextTicket = s.sched.nextTicket + 1 ∧
          wrote (s.sched.nextTicket ++ (0 : BitVec 16) ++ BitVec.ofNat 8 (s.sched.queue.length + 1) ++ (0 : BitVec 8)) t) ∧
      (code ≠ 0 → Completes (.phPush rd rs1) s fun t => t.sched.queue = s.sched.queue ∧
        wrote ((0 : BitVec 32) ++ (0 : BitVec 16) ++ BitVec.ofNat 8 s.sched.queue.length ++ code) t)) ∧
    (x.toNat % 8 ≠ 0 ∨ inTcm x 256 = false → Completes (.phPush rd rs1) s fun t => t.sched.queue = s.sched.queue ∧
      t.sched.lastCode = 0x30 ∧
      wrote ((0 : BitVec 32) ++ (0 : BitVec 16) ++ BitVec.ofNat 8 s.sched.queue.length ++ (0x30 : BitVec 8)) t) ∧
    (Completes (.phStat rd rs1) s fun t => OnlyIn [.core] s t ∧
      wrote (if bitAt x 2 then schStatus s else schSlot s.sched.slot[(field x 0 2 : BitVec 2).toFin]) t) ∧
    (Completes (.tokRead rd rs1) s fun t => OnlyIn [.core] s t ∧ wrote (mortW1 s (field x 0 10)) t) ∧
    (∀ q, s.sched.queue.find? (fun q => q.ticket == (field x 0 32 : BitVec 32)) = some q →
      Completes (.phAbort rd rs1) s fun t =>
        t.sched.queue = s.sched.queue.filter (fun r => r.ticket != q.ticket) ∧ wrote 0 t) ∧
    (s.sched.queue.find? (fun q => q.ticket == (field x 0 32 : BitVec 32)) = none →
      ∀ n, slotOfTicket s (field x 0 32) = some n → s.sched.slot[n].st ≠ .abort → Completes (.phAbort rd rs1) s fun t =>
        t.sched.slot[n].st = .abort ∧ t.sched.slot[n].abortCode = 0x37 ∧ wrote 0 t) ∧
    (s.sched.queue.find? (fun q => q.ticket == (field x 0 32 : BitVec 32)) = none →
      slotOfTicket s (field x 0 32) = none → Completes (.phAbort rd rs1) s fun t =>
        t.sched.queue = s.sched.queue ∧ t.sched.slot = s.sched.slot ∧ wrote 0x39 t)
end

