-- ==== Sys2Proof/Laws/State.lean ====
section
/-!
SUPPORT. Laws/State.lean: what each part of the state is after each update, so that no later proof unfolds a record
update.
-/
namespace Sys2Proof.Machine

variable (s : State)

/-! ### onLog -/

@[simp] theorem State.onLog_log (f : Log → Log) : (s.onLog f).log = f s.log := rfl
@[simp] theorem State.onLog_cfg (f : Log → Log) : (s.onLog f).cfg = s.cfg := rfl
@[simp] theorem State.onLog_trf (f : Log → Log) : (s.onLog f).trf = s.trf := rfl
@[simp] theorem State.onLog_truss (f : Log → Log) : (s.onLog f).truss = s.truss := rfl
@[simp] theorem State.onLog_ports (f : Log → Log) : (s.onLog f).ports = s.ports := rfl
@[simp] theorem State.onLog_sinter (f : Log → Log) : (s.onLog f).sinter = s.sinter := rfl
@[simp] theorem State.onLog_sched (f : Log → Log) : (s.onLog f).sched = s.sched := rfl
@[simp] theorem State.onLog_layout (f : Log → Log) : (s.onLog f).layout = s.layout := rfl
@[simp] theorem State.onLog_mem (f : Log → Log) : (s.onLog f).mem = s.mem := rfl
@[simp] theorem State.onLog_arb (f : Log → Log) : (s.onLog f).arb = s.arb := rfl
@[simp] theorem State.onLog_col (f : Log → Log) : (s.onLog f).col = s.col := rfl
@[simp] theorem State.onLog_gov (f : Log → Log) : (s.onLog f).gov = s.gov := rfl
@[simp] theorem State.onLog_core (f : Log → Log) : (s.onLog f).core = s.core := rfl
@[simp] theorem State.onLog_dbg (f : Log → Log) : (s.onLog f).dbg = s.dbg := rfl
@[simp] theorem State.onLog_aon (f : Log → Log) : (s.onLog f).aon = s.aon := rfl
@[simp] theorem State.onLog_time (f : Log → Log) : (s.onLog f).time = s.time := rfl
@[simp] theorem State.onLog_pending (f : Log → Log) : (s.onLog f).pending = s.pending := rfl

/-! ### onCfg -/

@[simp] theorem State.onCfg_log (f : Cfg → Cfg) : (s.onCfg f).log = s.log := rfl
@[simp] theorem State.onCfg_cfg (f : Cfg → Cfg) : (s.onCfg f).cfg = f s.cfg := rfl
@[simp] theorem State.onCfg_trf (f : Cfg → Cfg) : (s.onCfg f).trf = s.trf := rfl
@[simp] theorem State.onCfg_truss (f : Cfg → Cfg) : (s.onCfg f).truss = s.truss := rfl
@[simp] theorem State.onCfg_ports (f : Cfg → Cfg) : (s.onCfg f).ports = s.ports := rfl
@[simp] theorem State.onCfg_sinter (f : Cfg → Cfg) : (s.onCfg f).sinter = s.sinter := rfl
@[simp] theorem State.onCfg_sched (f : Cfg → Cfg) : (s.onCfg f).sched = s.sched := rfl
@[simp] theorem State.onCfg_layout (f : Cfg → Cfg) : (s.onCfg f).layout = s.layout := rfl
@[simp] theorem State.onCfg_mem (f : Cfg → Cfg) : (s.onCfg f).mem = s.mem := rfl
@[simp] theorem State.onCfg_arb (f : Cfg → Cfg) : (s.onCfg f).arb = s.arb := rfl
@[simp] theorem State.onCfg_col (f : Cfg → Cfg) : (s.onCfg f).col = s.col := rfl
@[simp] theorem State.onCfg_gov (f : Cfg → Cfg) : (s.onCfg f).gov = s.gov := rfl
@[simp] theorem State.onCfg_core (f : Cfg → Cfg) : (s.onCfg f).core = s.core := rfl
@[simp] theorem State.onCfg_dbg (f : Cfg → Cfg) : (s.onCfg f).dbg = s.dbg := rfl
@[simp] theorem State.onCfg_aon (f : Cfg → Cfg) : (s.onCfg f).aon = s.aon := rfl
@[simp] theorem State.onCfg_time (f : Cfg → Cfg) : (s.onCfg f).time = s.time := rfl
@[simp] theorem State.onCfg_pending (f : Cfg → Cfg) : (s.onCfg f).pending = s.pending := rfl

/-! ### onTrf -/

@[simp] theorem State.onTrf_log (f : Trf → Trf) : (s.onTrf f).log = s.log := rfl
@[simp] theorem State.onTrf_cfg (f : Trf → Trf) : (s.onTrf f).cfg = s.cfg := rfl
@[simp] theorem State.onTrf_trf (f : Trf → Trf) : (s.onTrf f).trf = f s.trf := rfl
@[simp] theorem State.onTrf_truss (f : Trf → Trf) : (s.onTrf f).truss = s.truss := rfl
@[simp] theorem State.onTrf_ports (f : Trf → Trf) : (s.onTrf f).ports = s.ports := rfl
@[simp] theorem State.onTrf_sinter (f : Trf → Trf) : (s.onTrf f).sinter = s.sinter := rfl
@[simp] theorem State.onTrf_sched (f : Trf → Trf) : (s.onTrf f).sched = s.sched := rfl
@[simp] theorem State.onTrf_layout (f : Trf → Trf) : (s.onTrf f).layout = s.layout := rfl
@[simp] theorem State.onTrf_mem (f : Trf → Trf) : (s.onTrf f).mem = s.mem := rfl
@[simp] theorem State.onTrf_arb (f : Trf → Trf) : (s.onTrf f).arb = s.arb := rfl
@[simp] theorem State.onTrf_col (f : Trf → Trf) : (s.onTrf f).col = s.col := rfl
@[simp] theorem State.onTrf_gov (f : Trf → Trf) : (s.onTrf f).gov = s.gov := rfl
@[simp] theorem State.onTrf_core (f : Trf → Trf) : (s.onTrf f).core = s.core := rfl
@[simp] theorem State.onTrf_dbg (f : Trf → Trf) : (s.onTrf f).dbg = s.dbg := rfl
@[simp] theorem State.onTrf_aon (f : Trf → Trf) : (s.onTrf f).aon = s.aon := rfl
@[simp] theorem State.onTrf_time (f : Trf → Trf) : (s.onTrf f).time = s.time := rfl
@[simp] theorem State.onTrf_pending (f : Trf → Trf) : (s.onTrf f).pending = s.pending := rfl

/-! ### onTruss -/

@[simp] theorem State.onTruss_log (f : Truss → Truss) : (s.onTruss f).log = s.log := rfl
@[simp] theorem State.onTruss_cfg (f : Truss → Truss) : (s.onTruss f).cfg = s.cfg := rfl
@[simp] theorem State.onTruss_trf (f : Truss → Truss) : (s.onTruss f).trf = s.trf := rfl
@[simp] theorem State.onTruss_truss (f : Truss → Truss) : (s.onTruss f).truss = f s.truss := rfl
@[simp] theorem State.onTruss_ports (f : Truss → Truss) : (s.onTruss f).ports = s.ports := rfl
@[simp] theorem State.onTruss_sinter (f : Truss → Truss) : (s.onTruss f).sinter = s.sinter := rfl
@[simp] theorem State.onTruss_sched (f : Truss → Truss) : (s.onTruss f).sched = s.sched := rfl
@[simp] theorem State.onTruss_layout (f : Truss → Truss) : (s.onTruss f).layout = s.layout := rfl
@[simp] theorem State.onTruss_mem (f : Truss → Truss) : (s.onTruss f).mem = s.mem := rfl
@[simp] theorem State.onTruss_arb (f : Truss → Truss) : (s.onTruss f).arb = s.arb := rfl
@[simp] theorem State.onTruss_col (f : Truss → Truss) : (s.onTruss f).col = s.col := rfl
@[simp] theorem State.onTruss_gov (f : Truss → Truss) : (s.onTruss f).gov = s.gov := rfl
@[simp] theorem State.onTruss_core (f : Truss → Truss) : (s.onTruss f).core = s.core := rfl
@[simp] theorem State.onTruss_dbg (f : Truss → Truss) : (s.onTruss f).dbg = s.dbg := rfl
@[simp] theorem State.onTruss_aon (f : Truss → Truss) : (s.onTruss f).aon = s.aon := rfl
@[simp] theorem State.onTruss_time (f : Truss → Truss) : (s.onTruss f).time = s.time := rfl
@[simp] theorem State.onTruss_pending (f : Truss → Truss) : (s.onTruss f).pending = s.pending := rfl

/-! ### onPorts -/

@[simp] theorem State.onPorts_log (f : Ports → Ports) : (s.onPorts f).log = s.log := rfl
@[simp] theorem State.onPorts_cfg (f : Ports → Ports) : (s.onPorts f).cfg = s.cfg := rfl
@[simp] theorem State.onPorts_trf (f : Ports → Ports) : (s.onPorts f).trf = s.trf := rfl
@[simp] theorem State.onPorts_truss (f : Ports → Ports) : (s.onPorts f).truss = s.truss := rfl
@[simp] theorem State.onPorts_ports (f : Ports → Ports) : (s.onPorts f).ports = f s.ports := rfl
@[simp] theorem State.onPorts_sinter (f : Ports → Ports) : (s.onPorts f).sinter = s.sinter := rfl
@[simp] theorem State.onPorts_sched (f : Ports → Ports) : (s.onPorts f).sched = s.sched := rfl
@[simp] theorem State.onPorts_layout (f : Ports → Ports) : (s.onPorts f).layout = s.layout := rfl
@[simp] theorem State.onPorts_mem (f : Ports → Ports) : (s.onPorts f).mem = s.mem := rfl
@[simp] theorem State.onPorts_arb (f : Ports → Ports) : (s.onPorts f).arb = s.arb := rfl
@[simp] theorem State.onPorts_col (f : Ports → Ports) : (s.onPorts f).col = s.col := rfl
@[simp] theorem State.onPorts_gov (f : Ports → Ports) : (s.onPorts f).gov = s.gov := rfl
@[simp] theorem State.onPorts_core (f : Ports → Ports) : (s.onPorts f).core = s.core := rfl
@[simp] theorem State.onPorts_dbg (f : Ports → Ports) : (s.onPorts f).dbg = s.dbg := rfl
@[simp] theorem State.onPorts_aon (f : Ports → Ports) : (s.onPorts f).aon = s.aon := rfl
@[simp] theorem State.onPorts_time (f : Ports → Ports) : (s.onPorts f).time = s.time := rfl
@[simp] theorem State.onPorts_pending (f : Ports → Ports) : (s.onPorts f).pending = s.pending := rfl

/-! ### onPort -/

@[simp] theorem State.onPort_log (i : Fin 16) (f : Port → Port) : (s.onPort i f).log = s.log := rfl
@[simp] theorem State.onPort_cfg (i : Fin 16) (f : Port → Port) : (s.onPort i f).cfg = s.cfg := rfl
@[simp] theorem State.onPort_trf (i : Fin 16) (f : Port → Port) : (s.onPort i f).trf = s.trf := rfl
@[simp] theorem State.onPort_truss (i : Fin 16) (f : Port → Port) : (s.onPort i f).truss = s.truss := rfl
@[simp] theorem State.onPort_ports (i : Fin 16) (f : Port → Port) : (s.onPort i f).ports = { s.ports with port := vmod s.ports.port i f } := rfl
@[simp] theorem State.onPort_sinter (i : Fin 16) (f : Port → Port) : (s.onPort i f).sinter = s.sinter := rfl
@[simp] theorem State.onPort_sched (i : Fin 16) (f : Port → Port) : (s.onPort i f).sched = s.sched := rfl
@[simp] theorem State.onPort_layout (i : Fin 16) (f : Port → Port) : (s.onPort i f).layout = s.layout := rfl
@[simp] theorem State.onPort_mem (i : Fin 16) (f : Port → Port) : (s.onPort i f).mem = s.mem := rfl
@[simp] theorem State.onPort_arb (i : Fin 16) (f : Port → Port) : (s.onPort i f).arb = s.arb := rfl
@[simp] theorem State.onPort_col (i : Fin 16) (f : Port → Port) : (s.onPort i f).col = s.col := rfl
@[simp] theorem State.onPort_gov (i : Fin 16) (f : Port → Port) : (s.onPort i f).gov = s.gov := rfl
@[simp] theorem State.onPort_core (i : Fin 16) (f : Port → Port) : (s.onPort i f).core = s.core := rfl
@[simp] theorem State.onPort_dbg (i : Fin 16) (f : Port → Port) : (s.onPort i f).dbg = s.dbg := rfl
@[simp] theorem State.onPort_aon (i : Fin 16) (f : Port → Port) : (s.onPort i f).aon = s.aon := rfl
@[simp] theorem State.onPort_time (i : Fin 16) (f : Port → Port) : (s.onPort i f).time = s.time := rfl
@[simp] theorem State.onPort_pending (i : Fin 16) (f : Port → Port) : (s.onPort i f).pending = s.pending := rfl

/-! ### onSinter -/

@[simp] theorem State.onSinter_log (f : Sinter → Sinter) : (s.onSinter f).log = s.log := rfl
@[simp] theorem State.onSinter_cfg (f : Sinter → Sinter) : (s.onSinter f).cfg = s.cfg := rfl
@[simp] theorem State.onSinter_trf (f : Sinter → Sinter) : (s.onSinter f).trf = s.trf := rfl
@[simp] theorem State.onSinter_truss (f : Sinter → Sinter) : (s.onSinter f).truss = s.truss := rfl
@[simp] theorem State.onSinter_ports (f : Sinter → Sinter) : (s.onSinter f).ports = s.ports := rfl
@[simp] theorem State.onSinter_sinter (f : Sinter → Sinter) : (s.onSinter f).sinter = f s.sinter := rfl
@[simp] theorem State.onSinter_sched (f : Sinter → Sinter) : (s.onSinter f).sched = s.sched := rfl
@[simp] theorem State.onSinter_layout (f : Sinter → Sinter) : (s.onSinter f).layout = s.layout := rfl
@[simp] theorem State.onSinter_mem (f : Sinter → Sinter) : (s.onSinter f).mem = s.mem := rfl
@[simp] theorem State.onSinter_arb (f : Sinter → Sinter) : (s.onSinter f).arb = s.arb := rfl
@[simp] theorem State.onSinter_col (f : Sinter → Sinter) : (s.onSinter f).col = s.col := rfl
@[simp] theorem State.onSinter_gov (f : Sinter → Sinter) : (s.onSinter f).gov = s.gov := rfl
@[simp] theorem State.onSinter_core (f : Sinter → Sinter) : (s.onSinter f).core = s.core := rfl
@[simp] theorem State.onSinter_dbg (f : Sinter → Sinter) : (s.onSinter f).dbg = s.dbg := rfl
@[simp] theorem State.onSinter_aon (f : Sinter → Sinter) : (s.onSinter f).aon = s.aon := rfl
@[simp] theorem State.onSinter_time (f : Sinter → Sinter) : (s.onSinter f).time = s.time := rfl
@[simp] theorem State.onSinter_pending (f : Sinter → Sinter) : (s.onSinter f).pending = s.pending := rfl

/-! ### onSched -/

@[simp] theorem State.onSched_log (f : Sched → Sched) : (s.onSched f).log = s.log := rfl
@[simp] theorem State.onSched_cfg (f : Sched → Sched) : (s.onSched f).cfg = s.cfg := rfl
@[simp] theorem State.onSched_trf (f : Sched → Sched) : (s.onSched f).trf = s.trf := rfl
@[simp] theorem State.onSched_truss (f : Sched → Sched) : (s.onSched f).truss = s.truss := rfl
@[simp] theorem State.onSched_ports (f : Sched → Sched) : (s.onSched f).ports = s.ports := rfl
@[simp] theorem State.onSched_sinter (f : Sched → Sched) : (s.onSched f).sinter = s.sinter := rfl
@[simp] theorem State.onSched_sched (f : Sched → Sched) : (s.onSched f).sched = f s.sched := rfl
@[simp] theorem State.onSched_layout (f : Sched → Sched) : (s.onSched f).layout = s.layout := rfl
@[simp] theorem State.onSched_mem (f : Sched → Sched) : (s.onSched f).mem = s.mem := rfl
@[simp] theorem State.onSched_arb (f : Sched → Sched) : (s.onSched f).arb = s.arb := rfl
@[simp] theorem State.onSched_col (f : Sched → Sched) : (s.onSched f).col = s.col := rfl
@[simp] theorem State.onSched_gov (f : Sched → Sched) : (s.onSched f).gov = s.gov := rfl
@[simp] theorem State.onSched_core (f : Sched → Sched) : (s.onSched f).core = s.core := rfl
@[simp] theorem State.onSched_dbg (f : Sched → Sched) : (s.onSched f).dbg = s.dbg := rfl
@[simp] theorem State.onSched_aon (f : Sched → Sched) : (s.onSched f).aon = s.aon := rfl
@[simp] theorem State.onSched_time (f : Sched → Sched) : (s.onSched f).time = s.time := rfl
@[simp] theorem State.onSched_pending (f : Sched → Sched) : (s.onSched f).pending = s.pending := rfl

/-! ### onSlot -/

@[simp] theorem State.onSlot_log (i : Fin 4) (f : PSlot → PSlot) : (s.onSlot i f).log = s.log := rfl
@[simp] theorem State.onSlot_cfg (i : Fin 4) (f : PSlot → PSlot) : (s.onSlot i f).cfg = s.cfg := rfl
@[simp] theorem State.onSlot_trf (i : Fin 4) (f : PSlot → PSlot) : (s.onSlot i f).trf = s.trf := rfl
@[simp] theorem State.onSlot_truss (i : Fin 4) (f : PSlot → PSlot) : (s.onSlot i f).truss = s.truss := rfl
@[simp] theorem State.onSlot_ports (i : Fin 4) (f : PSlot → PSlot) : (s.onSlot i f).ports = s.ports := rfl
@[simp] theorem State.onSlot_sinter (i : Fin 4) (f : PSlot → PSlot) : (s.onSlot i f).sinter = s.sinter := rfl
@[simp] theorem State.onSlot_sched (i : Fin 4) (f : PSlot → PSlot) : (s.onSlot i f).sched = { s.sched with slot := vmod s.sched.slot i f } := rfl
@[simp] theorem State.onSlot_layout (i : Fin 4) (f : PSlot → PSlot) : (s.onSlot i f).layout = s.layout := rfl
@[simp] theorem State.onSlot_mem (i : Fin 4) (f : PSlot → PSlot) : (s.onSlot i f).mem = s.mem := rfl
@[simp] theorem State.onSlot_arb (i : Fin 4) (f : PSlot → PSlot) : (s.onSlot i f).arb = s.arb := rfl
@[simp] theorem State.onSlot_col (i : Fin 4) (f : PSlot → PSlot) : (s.onSlot i f).col = s.col := rfl
@[simp] theorem State.onSlot_gov (i : Fin 4) (f : PSlot → PSlot) : (s.onSlot i f).gov = s.gov := rfl
@[simp] theorem State.onSlot_core (i : Fin 4) (f : PSlot → PSlot) : (s.onSlot i f).core = s.core := rfl
@[simp] theorem State.onSlot_dbg (i : Fin 4) (f : PSlot → PSlot) : (s.onSlot i f).dbg = s.dbg := rfl
@[simp] theorem State.onSlot_aon (i : Fin 4) (f : PSlot → PSlot) : (s.onSlot i f).aon = s.aon := rfl
@[simp] theorem State.onSlot_time (i : Fin 4) (f : PSlot → PSlot) : (s.onSlot i f).time = s.time := rfl
@[simp] theorem State.onSlot_pending (i : Fin 4) (f : PSlot → PSlot) : (s.onSlot i f).pending = s.pending := rfl

/-! ### onLayout -/

@[simp] theorem State.onLayout_log (f : Layout → Layout) : (s.onLayout f).log = s.log := rfl
@[simp] theorem State.onLayout_cfg (f : Layout → Layout) : (s.onLayout f).cfg = s.cfg := rfl
@[simp] theorem State.onLayout_trf (f : Layout → Layout) : (s.onLayout f).trf = s.trf := rfl
@[simp] theorem State.onLayout_truss (f : Layout → Layout) : (s.onLayout f).truss = s.truss := rfl
@[simp] theorem State.onLayout_ports (f : Layout → Layout) : (s.onLayout f).ports = s.ports := rfl
@[simp] theorem State.onLayout_sinter (f : Layout → Layout) : (s.onLayout f).sinter = s.sinter := rfl
@[simp] theorem State.onLayout_sched (f : Layout → Layout) : (s.onLayout f).sched = s.sched := rfl
@[simp] theorem State.onLayout_layout (f : Layout → Layout) : (s.onLayout f).layout = f s.layout := rfl
@[simp] theorem State.onLayout_mem (f : Layout → Layout) : (s.onLayout f).mem = s.mem := rfl
@[simp] theorem State.onLayout_arb (f : Layout → Layout) : (s.onLayout f).arb = s.arb := rfl
@[simp] theorem State.onLayout_col (f : Layout → Layout) : (s.onLayout f).col = s.col := rfl
@[simp] theorem State.onLayout_gov (f : Layout → Layout) : (s.onLayout f).gov = s.gov := rfl
@[simp] theorem State.onLayout_core (f : Layout → Layout) : (s.onLayout f).core = s.core := rfl
@[simp] theorem State.onLayout_dbg (f : Layout → Layout) : (s.onLayout f).dbg = s.dbg := rfl
@[simp] theorem State.onLayout_aon (f : Layout → Layout) : (s.onLayout f).aon = s.aon := rfl
@[simp] theorem State.onLayout_time (f : Layout → Layout) : (s.onLayout f).time = s.time := rfl
@[simp] theorem State.onLayout_pending (f : Layout → Layout) : (s.onLayout f).pending = s.pending := rfl

/-! ### onLSlot -/

@[simp] theorem State.onLSlot_log (i : Fin 8) (f : LSlot → LSlot) : (s.onLSlot i f).log = s.log := rfl
@[simp] theorem State.onLSlot_cfg (i : Fin 8) (f : LSlot → LSlot) : (s.onLSlot i f).cfg = s.cfg := rfl
@[simp] theorem State.onLSlot_trf (i : Fin 8) (f : LSlot → LSlot) : (s.onLSlot i f).trf = s.trf := rfl
@[simp] theorem State.onLSlot_truss (i : Fin 8) (f : LSlot → LSlot) : (s.onLSlot i f).truss = s.truss := rfl
@[simp] theorem State.onLSlot_ports (i : Fin 8) (f : LSlot → LSlot) : (s.onLSlot i f).ports = s.ports := rfl
@[simp] theorem State.onLSlot_sinter (i : Fin 8) (f : LSlot → LSlot) : (s.onLSlot i f).sinter = s.sinter := rfl
@[simp] theorem State.onLSlot_sched (i : Fin 8) (f : LSlot → LSlot) : (s.onLSlot i f).sched = s.sched := rfl
@[simp] theorem State.onLSlot_layout (i : Fin 8) (f : LSlot → LSlot) : (s.onLSlot i f).layout = { s.layout with slot := vmod s.layout.slot i f } := rfl
@[simp] theorem State.onLSlot_mem (i : Fin 8) (f : LSlot → LSlot) : (s.onLSlot i f).mem = s.mem := rfl
@[simp] theorem State.onLSlot_arb (i : Fin 8) (f : LSlot → LSlot) : (s.onLSlot i f).arb = s.arb := rfl
@[simp] theorem State.onLSlot_col (i : Fin 8) (f : LSlot → LSlot) : (s.onLSlot i f).col = s.col := rfl
@[simp] theorem State.onLSlot_gov (i : Fin 8) (f : LSlot → LSlot) : (s.onLSlot i f).gov = s.gov := rfl
@[simp] theorem State.onLSlot_core (i : Fin 8) (f : LSlot → LSlot) : (s.onLSlot i f).core = s.core := rfl
@[simp] theorem State.onLSlot_dbg (i : Fin 8) (f : LSlot → LSlot) : (s.onLSlot i f).dbg = s.dbg := rfl
@[simp] theorem State.onLSlot_aon (i : Fin 8) (f : LSlot → LSlot) : (s.onLSlot i f).aon = s.aon := rfl
@[simp] theorem State.onLSlot_time (i : Fin 8) (f : LSlot → LSlot) : (s.onLSlot i f).time = s.time := rfl
@[simp] theorem State.onLSlot_pending (i : Fin 8) (f : LSlot → LSlot) : (s.onLSlot i f).pending = s.pending := rfl

/-! ### onMem -/

@[simp] theorem State.onMem_log (f : Mem → Mem) : (s.onMem f).log = s.log := rfl
@[simp] theorem State.onMem_cfg (f : Mem → Mem) : (s.onMem f).cfg = s.cfg := rfl
@[simp] theorem State.onMem_trf (f : Mem → Mem) : (s.onMem f).trf = s.trf := rfl
@[simp] theorem State.onMem_truss (f : Mem → Mem) : (s.onMem f).truss = s.truss := rfl
@[simp] theorem State.onMem_ports (f : Mem → Mem) : (s.onMem f).ports = s.ports := rfl
@[simp] theorem State.onMem_sinter (f : Mem → Mem) : (s.onMem f).sinter = s.sinter := rfl
@[simp] theorem State.onMem_sched (f : Mem → Mem) : (s.onMem f).sched = s.sched := rfl
@[simp] theorem State.onMem_layout (f : Mem → Mem) : (s.onMem f).layout = s.layout := rfl
@[simp] theorem State.onMem_mem (f : Mem → Mem) : (s.onMem f).mem = f s.mem := rfl
@[simp] theorem State.onMem_arb (f : Mem → Mem) : (s.onMem f).arb = s.arb := rfl
@[simp] theorem State.onMem_col (f : Mem → Mem) : (s.onMem f).col = s.col := rfl
@[simp] theorem State.onMem_gov (f : Mem → Mem) : (s.onMem f).gov = s.gov := rfl
@[simp] theorem State.onMem_core (f : Mem → Mem) : (s.onMem f).core = s.core := rfl
@[simp] theorem State.onMem_dbg (f : Mem → Mem) : (s.onMem f).dbg = s.dbg := rfl
@[simp] theorem State.onMem_aon (f : Mem → Mem) : (s.onMem f).aon = s.aon := rfl
@[simp] theorem State.onMem_time (f : Mem → Mem) : (s.onMem f).time = s.time := rfl
@[simp] theorem State.onMem_pending (f : Mem → Mem) : (s.onMem f).pending = s.pending := rfl

/-! ### onArb -/

@[simp] theorem State.onArb_log (f : Arb → Arb) : (s.onArb f).log = s.log := rfl
@[simp] theorem State.onArb_cfg (f : Arb → Arb) : (s.onArb f).cfg = s.cfg := rfl
@[simp] theorem State.onArb_trf (f : Arb → Arb) : (s.onArb f).trf = s.trf := rfl
@[simp] theorem State.onArb_truss (f : Arb → Arb) : (s.onArb f).truss = s.truss := rfl
@[simp] theorem State.onArb_ports (f : Arb → Arb) : (s.onArb f).ports = s.ports := rfl
@[simp] theorem State.onArb_sinter (f : Arb → Arb) : (s.onArb f).sinter = s.sinter := rfl
@[simp] theorem State.onArb_sched (f : Arb → Arb) : (s.onArb f).sched = s.sched := rfl
@[simp] theorem State.onArb_layout (f : Arb → Arb) : (s.onArb f).layout = s.layout := rfl
@[simp] theorem State.onArb_mem (f : Arb → Arb) : (s.onArb f).mem = s.mem := rfl
@[simp] theorem State.onArb_arb (f : Arb → Arb) : (s.onArb f).arb = f s.arb := rfl
@[simp] theorem State.onArb_col (f : Arb → Arb) : (s.onArb f).col = s.col := rfl
@[simp] theorem State.onArb_gov (f : Arb → Arb) : (s.onArb f).gov = s.gov := rfl
@[simp] theorem State.onArb_core (f : Arb → Arb) : (s.onArb f).core = s.core := rfl
@[simp] theorem State.onArb_dbg (f : Arb → Arb) : (s.onArb f).dbg = s.dbg := rfl
@[simp] theorem State.onArb_aon (f : Arb → Arb) : (s.onArb f).aon = s.aon := rfl
@[simp] theorem State.onArb_time (f : Arb → Arb) : (s.onArb f).time = s.time := rfl
@[simp] theorem State.onArb_pending (f : Arb → Arb) : (s.onArb f).pending = s.pending := rfl

/-! ### onBay -/

@[simp] theorem State.onBay_log (i : Fin 32) (f : Bay → Bay) : (s.onBay i f).log = s.log := rfl
@[simp] theorem State.onBay_cfg (i : Fin 32) (f : Bay → Bay) : (s.onBay i f).cfg = s.cfg := rfl
@[simp] theorem State.onBay_trf (i : Fin 32) (f : Bay → Bay) : (s.onBay i f).trf = s.trf := rfl
@[simp] theorem State.onBay_truss (i : Fin 32) (f : Bay → Bay) : (s.onBay i f).truss = s.truss := rfl
@[simp] theorem State.onBay_ports (i : Fin 32) (f : Bay → Bay) : (s.onBay i f).ports = s.ports := rfl
@[simp] theorem State.onBay_sinter (i : Fin 32) (f : Bay → Bay) : (s.onBay i f).sinter = s.sinter := rfl
@[simp] theorem State.onBay_sched (i : Fin 32) (f : Bay → Bay) : (s.onBay i f).sched = s.sched := rfl
@[simp] theorem State.onBay_layout (i : Fin 32) (f : Bay → Bay) : (s.onBay i f).layout = s.layout := rfl
@[simp] theorem State.onBay_mem (i : Fin 32) (f : Bay → Bay) : (s.onBay i f).mem = s.mem := rfl
@[simp] theorem State.onBay_arb (i : Fin 32) (f : Bay → Bay) : (s.onBay i f).arb = { s.arb with bay := vmod s.arb.bay i f } := rfl
@[simp] theorem State.onBay_col (i : Fin 32) (f : Bay → Bay) : (s.onBay i f).col = s.col := rfl
@[simp] theorem State.onBay_gov (i : Fin 32) (f : Bay → Bay) : (s.onBay i f).gov = s.gov := rfl
@[simp] theorem State.onBay_core (i : Fin 32) (f : Bay → Bay) : (s.onBay i f).core = s.core := rfl
@[simp] theorem State.onBay_dbg (i : Fin 32) (f : Bay → Bay) : (s.onBay i f).dbg = s.dbg := rfl
@[simp] theorem State.onBay_aon (i : Fin 32) (f : Bay → Bay) : (s.onBay i f).aon = s.aon := rfl
@[simp] theorem State.onBay_time (i : Fin 32) (f : Bay → Bay) : (s.onBay i f).time = s.time := rfl
@[simp] theorem State.onBay_pending (i : Fin 32) (f : Bay → Bay) : (s.onBay i f).pending = s.pending := rfl

/-! ### onCol -/

@[simp] theorem State.onCol_log (f : Col → Col) : (s.onCol f).log = s.log := rfl
@[simp] theorem State.onCol_cfg (f : Col → Col) : (s.onCol f).cfg = s.cfg := rfl
@[simp] theorem State.onCol_trf (f : Col → Col) : (s.onCol f).trf = s.trf := rfl
@[simp] theorem State.onCol_truss (f : Col → Col) : (s.onCol f).truss = s.truss := rfl
@[simp] theorem State.onCol_ports (f : Col → Col) : (s.onCol f).ports = s.ports := rfl
@[simp] theorem State.onCol_sinter (f : Col → Col) : (s.onCol f).sinter = s.sinter := rfl
@[simp] theorem State.onCol_sched (f : Col → Col) : (s.onCol f).sched = s.sched := rfl
@[simp] theorem State.onCol_layout (f : Col → Col) : (s.onCol f).layout = s.layout := rfl
@[simp] theorem State.onCol_mem (f : Col → Col) : (s.onCol f).mem = s.mem := rfl
@[simp] theorem State.onCol_arb (f : Col → Col) : (s.onCol f).arb = s.arb := rfl
@[simp] theorem State.onCol_col (f : Col → Col) : (s.onCol f).col = f s.col := rfl
@[simp] theorem State.onCol_gov (f : Col → Col) : (s.onCol f).gov = s.gov := rfl
@[simp] theorem State.onCol_core (f : Col → Col) : (s.onCol f).core = s.core := rfl
@[simp] theorem State.onCol_dbg (f : Col → Col) : (s.onCol f).dbg = s.dbg := rfl
@[simp] theorem State.onCol_aon (f : Col → Col) : (s.onCol f).aon = s.aon := rfl
@[simp] theorem State.onCol_time (f : Col → Col) : (s.onCol f).time = s.time := rfl
@[simp] theorem State.onCol_pending (f : Col → Col) : (s.onCol f).pending = s.pending := rfl

/-! ### onGov -/

@[simp] theorem State.onGov_log (f : Gov → Gov) : (s.onGov f).log = s.log := rfl
@[simp] theorem State.onGov_cfg (f : Gov → Gov) : (s.onGov f).cfg = s.cfg := rfl
@[simp] theorem State.onGov_trf (f : Gov → Gov) : (s.onGov f).trf = s.trf := rfl
@[simp] theorem State.onGov_truss (f : Gov → Gov) : (s.onGov f).truss = s.truss := rfl
@[simp] theorem State.onGov_ports (f : Gov → Gov) : (s.onGov f).ports = s.ports := rfl
@[simp] theorem State.onGov_sinter (f : Gov → Gov) : (s.onGov f).sinter = s.sinter := rfl
@[simp] theorem State.onGov_sched (f : Gov → Gov) : (s.onGov f).sched = s.sched := rfl
@[simp] theorem State.onGov_layout (f : Gov → Gov) : (s.onGov f).layout = s.layout := rfl
@[simp] theorem State.onGov_mem (f : Gov → Gov) : (s.onGov f).mem = s.mem := rfl
@[simp] theorem State.onGov_arb (f : Gov → Gov) : (s.onGov f).arb = s.arb := rfl
@[simp] theorem State.onGov_col (f : Gov → Gov) : (s.onGov f).col = s.col := rfl
@[simp] theorem State.onGov_gov (f : Gov → Gov) : (s.onGov f).gov = f s.gov := rfl
@[simp] theorem State.onGov_core (f : Gov → Gov) : (s.onGov f).core = s.core := rfl
@[simp] theorem State.onGov_dbg (f : Gov → Gov) : (s.onGov f).dbg = s.dbg := rfl
@[simp] theorem State.onGov_aon (f : Gov → Gov) : (s.onGov f).aon = s.aon := rfl
@[simp] theorem State.onGov_time (f : Gov → Gov) : (s.onGov f).time = s.time := rfl
@[simp] theorem State.onGov_pending (f : Gov → Gov) : (s.onGov f).pending = s.pending := rfl

/-! ### onCore -/

@[simp] theorem State.onCore_log (f : Core → Core) : (s.onCore f).log = s.log := rfl
@[simp] theorem State.onCore_cfg (f : Core → Core) : (s.onCore f).cfg = s.cfg := rfl
@[simp] theorem State.onCore_trf (f : Core → Core) : (s.onCore f).trf = s.trf := rfl
@[simp] theorem State.onCore_truss (f : Core → Core) : (s.onCore f).truss = s.truss := rfl
@[simp] theorem State.onCore_ports (f : Core → Core) : (s.onCore f).ports = s.ports := rfl
@[simp] theorem State.onCore_sinter (f : Core → Core) : (s.onCore f).sinter = s.sinter := rfl
@[simp] theorem State.onCore_sched (f : Core → Core) : (s.onCore f).sched = s.sched := rfl
@[simp] theorem State.onCore_layout (f : Core → Core) : (s.onCore f).layout = s.layout := rfl
@[simp] theorem State.onCore_mem (f : Core → Core) : (s.onCore f).mem = s.mem := rfl
@[simp] theorem State.onCore_arb (f : Core → Core) : (s.onCore f).arb = s.arb := rfl
@[simp] theorem State.onCore_col (f : Core → Core) : (s.onCore f).col = s.col := rfl
@[simp] theorem State.onCore_gov (f : Core → Core) : (s.onCore f).gov = s.gov := rfl
@[simp] theorem State.onCore_core (f : Core → Core) : (s.onCore f).core = f s.core := rfl
@[simp] theorem State.onCore_dbg (f : Core → Core) : (s.onCore f).dbg = s.dbg := rfl
@[simp] theorem State.onCore_aon (f : Core → Core) : (s.onCore f).aon = s.aon := rfl
@[simp] theorem State.onCore_time (f : Core → Core) : (s.onCore f).time = s.time := rfl
@[simp] theorem State.onCore_pending (f : Core → Core) : (s.onCore f).pending = s.pending := rfl

/-! ### onDbg -/

@[simp] theorem State.onDbg_log (f : Dbg → Dbg) : (s.onDbg f).log = s.log := rfl
@[simp] theorem State.onDbg_cfg (f : Dbg → Dbg) : (s.onDbg f).cfg = s.cfg := rfl
@[simp] theorem State.onDbg_trf (f : Dbg → Dbg) : (s.onDbg f).trf = s.trf := rfl
@[simp] theorem State.onDbg_truss (f : Dbg → Dbg) : (s.onDbg f).truss = s.truss := rfl
@[simp] theorem State.onDbg_ports (f : Dbg → Dbg) : (s.onDbg f).ports = s.ports := rfl
@[simp] theorem State.onDbg_sinter (f : Dbg → Dbg) : (s.onDbg f).sinter = s.sinter := rfl
@[simp] theorem State.onDbg_sched (f : Dbg → Dbg) : (s.onDbg f).sched = s.sched := rfl
@[simp] theorem State.onDbg_layout (f : Dbg → Dbg) : (s.onDbg f).layout = s.layout := rfl
@[simp] theorem State.onDbg_mem (f : Dbg → Dbg) : (s.onDbg f).mem = s.mem := rfl
@[simp] theorem State.onDbg_arb (f : Dbg → Dbg) : (s.onDbg f).arb = s.arb := rfl
@[simp] theorem State.onDbg_col (f : Dbg → Dbg) : (s.onDbg f).col = s.col := rfl
@[simp] theorem State.onDbg_gov (f : Dbg → Dbg) : (s.onDbg f).gov = s.gov := rfl
@[simp] theorem State.onDbg_core (f : Dbg → Dbg) : (s.onDbg f).core = s.core := rfl
@[simp] theorem State.onDbg_dbg (f : Dbg → Dbg) : (s.onDbg f).dbg = f s.dbg := rfl
@[simp] theorem State.onDbg_aon (f : Dbg → Dbg) : (s.onDbg f).aon = s.aon := rfl
@[simp] theorem State.onDbg_time (f : Dbg → Dbg) : (s.onDbg f).time = s.time := rfl
@[simp] theorem State.onDbg_pending (f : Dbg → Dbg) : (s.onDbg f).pending = s.pending := rfl

/-! ### onAon -/

@[simp] theorem State.onAon_log (f : Aon → Aon) : (s.onAon f).log = s.log := rfl
@[simp] theorem State.onAon_cfg (f : Aon → Aon) : (s.onAon f).cfg = s.cfg := rfl
@[simp] theorem State.onAon_trf (f : Aon → Aon) : (s.onAon f).trf = s.trf := rfl
@[simp] theorem State.onAon_truss (f : Aon → Aon) : (s.onAon f).truss = s.truss := rfl
@[simp] theorem State.onAon_ports (f : Aon → Aon) : (s.onAon f).ports = s.ports := rfl
@[simp] theorem State.onAon_sinter (f : Aon → Aon) : (s.onAon f).sinter = s.sinter := rfl
@[simp] theorem State.onAon_sched (f : Aon → Aon) : (s.onAon f).sched = s.sched := rfl
@[simp] theorem State.onAon_layout (f : Aon → Aon) : (s.onAon f).layout = s.layout := rfl
@[simp] theorem State.onAon_mem (f : Aon → Aon) : (s.onAon f).mem = s.mem := rfl
@[simp] theorem State.onAon_arb (f : Aon → Aon) : (s.onAon f).arb = s.arb := rfl
@[simp] theorem State.onAon_col (f : Aon → Aon) : (s.onAon f).col = s.col := rfl
@[simp] theorem State.onAon_gov (f : Aon → Aon) : (s.onAon f).gov = s.gov := rfl
@[simp] theorem State.onAon_core (f : Aon → Aon) : (s.onAon f).core = s.core := rfl
@[simp] theorem State.onAon_dbg (f : Aon → Aon) : (s.onAon f).dbg = s.dbg := rfl
@[simp] theorem State.onAon_aon (f : Aon → Aon) : (s.onAon f).aon = f s.aon := rfl
@[simp] theorem State.onAon_time (f : Aon → Aon) : (s.onAon f).time = s.time := rfl
@[simp] theorem State.onAon_pending (f : Aon → Aon) : (s.onAon f).pending = s.pending := rfl

/-! ### onSeqr -/

@[simp] theorem State.onSeqr_log (f : BootSeq → BootSeq) : (s.onSeqr f).log = s.log := rfl
@[simp] theorem State.onSeqr_cfg (f : BootSeq → BootSeq) : (s.onSeqr f).cfg = s.cfg := rfl
@[simp] theorem State.onSeqr_trf (f : BootSeq → BootSeq) : (s.onSeqr f).trf = s.trf := rfl
@[simp] theorem State.onSeqr_truss (f : BootSeq → BootSeq) : (s.onSeqr f).truss = s.truss := rfl
@[simp] theorem State.onSeqr_ports (f : BootSeq → BootSeq) : (s.onSeqr f).ports = s.ports := rfl
@[simp] theorem State.onSeqr_sinter (f : BootSeq → BootSeq) : (s.onSeqr f).sinter = s.sinter := rfl
@[simp] theorem State.onSeqr_sched (f : BootSeq → BootSeq) : (s.onSeqr f).sched = s.sched := rfl
@[simp] theorem State.onSeqr_layout (f : BootSeq → BootSeq) : (s.onSeqr f).layout = s.layout := rfl
@[simp] theorem State.onSeqr_mem (f : BootSeq → BootSeq) : (s.onSeqr f).mem = s.mem := rfl
@[simp] theorem State.onSeqr_arb (f : BootSeq → BootSeq) : (s.onSeqr f).arb = s.arb := rfl
@[simp] theorem State.onSeqr_col (f : BootSeq → BootSeq) : (s.onSeqr f).col = s.col := rfl
@[simp] theorem State.onSeqr_gov (f : BootSeq → BootSeq) : (s.onSeqr f).gov = s.gov := rfl
@[simp] theorem State.onSeqr_core (f : BootSeq → BootSeq) : (s.onSeqr f).core = s.core := rfl
@[simp] theorem State.onSeqr_dbg (f : BootSeq → BootSeq) : (s.onSeqr f).dbg = s.dbg := rfl
@[simp] theorem State.onSeqr_aon (f : BootSeq → BootSeq) : (s.onSeqr f).aon = { s.aon with seqr := f s.aon.seqr } := rfl
@[simp] theorem State.onSeqr_time (f : BootSeq → BootSeq) : (s.onSeqr f).time = s.time := rfl
@[simp] theorem State.onSeqr_pending (f : BootSeq → BootSeq) : (s.onSeqr f).pending = s.pending := rfl

/-! ### onLink -/

@[simp] theorem State.onLink_log (i : Fin 3) (f : LinkSt → LinkSt) : (s.onLink i f).log = s.log := rfl
@[simp] theorem State.onLink_cfg (i : Fin 3) (f : LinkSt → LinkSt) : (s.onLink i f).cfg = s.cfg := rfl
@[simp] theorem State.onLink_trf (i : Fin 3) (f : LinkSt → LinkSt) : (s.onLink i f).trf = s.trf := rfl
@[simp] theorem State.onLink_truss (i : Fin 3) (f : LinkSt → LinkSt) : (s.onLink i f).truss = s.truss := rfl
@[simp] theorem State.onLink_ports (i : Fin 3) (f : LinkSt → LinkSt) : (s.onLink i f).ports = s.ports := rfl
@[simp] theorem State.onLink_sinter (i : Fin 3) (f : LinkSt → LinkSt) : (s.onLink i f).sinter = s.sinter := rfl
@[simp] theorem State.onLink_sched (i : Fin 3) (f : LinkSt → LinkSt) : (s.onLink i f).sched = s.sched := rfl
@[simp] theorem State.onLink_layout (i : Fin 3) (f : LinkSt → LinkSt) : (s.onLink i f).layout = s.layout := rfl
@[simp] theorem State.onLink_mem (i : Fin 3) (f : LinkSt → LinkSt) : (s.onLink i f).mem = s.mem := rfl
@[simp] theorem State.onLink_arb (i : Fin 3) (f : LinkSt → LinkSt) : (s.onLink i f).arb = s.arb := rfl
@[simp] theorem State.onLink_col (i : Fin 3) (f : LinkSt → LinkSt) : (s.onLink i f).col = s.col := rfl
@[simp] theorem State.onLink_gov (i : Fin 3) (f : LinkSt → LinkSt) : (s.onLink i f).gov = s.gov := rfl
@[simp] theorem State.onLink_core (i : Fin 3) (f : LinkSt → LinkSt) : (s.onLink i f).core = s.core := rfl
@[simp] theorem State.onLink_dbg (i : Fin 3) (f : LinkSt → LinkSt) : (s.onLink i f).dbg = s.dbg := rfl
@[simp] theorem State.onLink_aon (i : Fin 3) (f : LinkSt → LinkSt) : (s.onLink i f).aon = { s.aon with link := vmod s.aon.link i f } := rfl
@[simp] theorem State.onLink_time (i : Fin 3) (f : LinkSt → LinkSt) : (s.onLink i f).time = s.time := rfl
@[simp] theorem State.onLink_pending (i : Fin 3) (f : LinkSt → LinkSt) : (s.onLink i f).pending = s.pending := rfl

end Sys2Proof.Machine
end

