-- ==== Sys2Proof/Laws/Settle.lean ====
section
/-!
SUPPORT. Laws/Settle.lean: what the end of every command can do: the log, the block state and what follows from it, and
nothing else.
-/
namespace Sys2Proof.Machine

/-! ### Folds -/

/-- A property that every step of a fold keeps holds at its end. -/
theorem foldOver_keeps {α σ : Type} (P : σ → Prop) {f : α → σ → σ} (h : ∀ a s, P s → P (f a s)) (l : List α) {s : σ}
    (hs : P s) : P (foldOver l f s) := by
  induction l generalizing s with
  | nil => exact hs
  | cons a l ih => exact ih (h a s hs)

/-- What every step of a fold leaves unchanged is unchanged at its end. -/
theorem foldOver_same {α σ β : Type} (g : σ → β) {f : α → σ → σ} (h : ∀ a s, g (f a s) = g s) (l : List α) (s : σ) :
    g (foldOver l f s) = g s :=
  foldOver_keeps (fun t => g t = g s) (fun a t ht => (h a t).trans ht) l rfl

@[simp] theorem foldOver_nil {α σ : Type} (f : α → σ → σ) (s : σ) : foldOver [] f s = s := rfl

@[simp] theorem foldOver_cons {α σ : Type} (f : α → σ → σ) (a : α) (l : List α) (s : σ) :
    foldOver (a :: l) f s = foldOver l f (f a s) := rfl

/-! ### What settling can touch -/

/-- The fields of the always-on domain that settling can change, blanked. -/
def Aon.unsettled (a : Aon) : Aon :=
  { a with st := .off, prev := .off, changes := 0, alert := 0, smbalert := false, fatalDue := false, pendFatal := false,
           killed := false, chatLog := false, bypCw := false, bypCcw := false, link := Vector.replicate 3 {},
           bootLast := 0, bSeq := 0, bUnlock := false, bLoaded := false, bSlot := 0, imageId := 0, bStep := 0, seqr := {} }

/-- The fields of the control core that settling can change, blanked. -/
def Core.unsettled (c : Core) : Core := { c with run := .halted, irqErr := false, irqState := false }

/-- The state with everything blanked that settling can change: two states that agree here differ in nothing else. -/
def State.unsettled (s : State) : State :=
  { s with
    log := {}
    cfg := { s.cfg with pending := false, forced := false, code := 0 }
    trf := { s.trf with mort := [] }
    arb := { s.arb with bay := Vector.replicate 32 {} }
    col := { s.col with joining := false }
    core := s.core.unsettled
    aon := s.aon.unsettled }

theorem unsettled_onAon {f : Aon → Aon} {s : State} (h : (f s.aon).unsettled = s.aon.unsettled) :
    (s.onAon f).unsettled = s.unsettled := by
  simp [State.unsettled, h]

theorem unsettled_onCore {f : Core → Core} {s : State} (h : (f s.core).unsettled = s.core.unsettled) :
    (s.onCore f).unsettled = s.unsettled := by
  simp [State.unsettled, h]

theorem unsettled_onCol {f : Col → Col} {s : State} (h : { f s.col with joining := false } = { s.col with joining := false }) :
    (s.onCol f).unsettled = s.unsettled := by
  simp only [State.unsettled, State.onCol]
  rw [h]

theorem unsettled_onLink (l : Fin 3) (f : LinkSt → LinkSt) (s : State) : (s.onLink l f).unsettled = s.unsettled := rfl

theorem unsettled_report (r : Report) (s : State) : (report r s).unsettled = s.unsettled := rfl

theorem unsettled_alertSet (b : BitVec 7) (s : State) : (alertSet b s).unsettled = s.unsettled :=
  unsettled_onAon rfl

theorem unsettled_stopUnadmitted (s : State) : (stopUnadmitted s).unsettled = s.unsettled := rfl

theorem unsettled_setState (b : BlkState) (s : State) : (setState b s).unsettled = s.unsettled := by
  unfold setState
  split
  · rfl
  · dsimp only
    rw [unsettled_alertSet]
    refine (unsettled_onCol rfl).trans ((unsettled_onCore rfl).trans ?_)
    exact (unsettled_stopUnadmitted _).trans (unsettled_onAon rfl)

theorem unsettled_followState (s : State) : (followState s).unsettled = s.unsettled := by
  unfold followState
  split <;> (try split) <;> first | rfl | exact unsettled_setState _ _

theorem unsettled_noteBootTime (s : State) : (noteBootTime s).unsettled = s.unsettled := by
  unfold noteBootTime
  split <;> rfl

theorem unsettled_failBoot (s : State) : (failBoot s).unsettled = s.unsettled := by
  unfold failBoot
  split <;> rfl

theorem unsettled_logChatter (s : State) : (logChatter s).unsettled = s.unsettled := by
  unfold logChatter
  split <;> rfl

theorem unsettled_discardRaise (s : State) : (discardRaise s).unsettled = s.unsettled := by
  unfold discardRaise
  split <;> rfl

theorem unsettled_cutOutputs (s : State) : (cutOutputs s).unsettled = s.unsettled := unsettled_onAon rfl

theorem unsettled_tellLost (p : Hdr × Payload) (s : State) : (tellLost p s).unsettled = s.unsettled := by
  unfold tellLost
  exact (unsettled_onAon rfl).trans ((unsettled_onLink _ _ _).trans (unsettled_onLink _ _ _))

theorem unsettled_closeBypass (s : State) : (closeBypass s).unsettled = s.unsettled :=
  (unsettled_tellLost _ _).trans (unsettled_cutOutputs s)

theorem unsettled_enterFault (s : State) : (enterFault s).unsettled = s.unsettled := by
  unfold enterFault
  dsimp only
  rw [unsettled_closeBypass, unsettled_discardRaise]
  refine (unsettled_onAon rfl).trans ((unsettled_onCore rfl).trans ?_)
  rw [unsettled_logChatter, unsettled_setState, unsettled_noteBootTime, unsettled_failBoot]

theorem unsettled_takeFatal (s : State) : (takeFatal s).unsettled = s.unsettled := by
  unfold takeFatal
  split
  · dsimp only
    split <;> (try split) <;> first
      | exact unsettled_onAon rfl
      | exact (unsettled_enterFault _).trans (unsettled_onAon rfl)
  · rfl

theorem unsettled_wakeCore (s : State) : (wakeCore s).unsettled = s.unsettled := by
  unfold wakeCore
  split <;> rfl

theorem unsettled_signalNew (e : LogEntry) (s : State) : (signalNew e s).unsettled = s.unsettled := by
  unfold signalNew
  dsimp only
  split <;> rfl

theorem unsettled_notePoisonEntry (r : Report) (q : BitVec 32) (s : State) :
    (notePoisonEntry r q s).unsettled = s.unsettled := by
  unfold notePoisonEntry
  split <;> rfl

theorem unsettled_noteDrop (r : Report) (q : BitVec 32) (s : State) : (noteDrop r q s).unsettled = s.unsettled := by
  unfold noteDrop
  split <;> rfl

theorem unsettled_writeNew (r : Report) (s : State) : (writeNew r s).unsettled = s.unsettled := by
  unfold writeNew
  dsimp only
  split
  · rw [unsettled_signalNew, unsettled_noteDrop, unsettled_notePoisonEntry]; rfl
  · split
    · split
      · rw [unsettled_signalNew]; rfl
      · rfl
    · rfl

theorem unsettled_logOne (r : Report) (p : State × Nat) : (logOne r p).1.unsettled = p.1.unsettled := by
  unfold logOne
  dsimp only
  split
  · rfl
  · split
    · split <;> rfl
    · split
      · rfl
      · exact (unsettled_noteDrop _ _ _).trans rfl
      · split
        · exact unsettled_writeNew _ _
        · rfl

theorem unsettled_flushLog (s : State) : (flushLog s).unsettled = s.unsettled := by
  unfold flushLog
  rw [foldOver_same (fun p : State × Nat => p.1.unsettled) unsettled_logOne]
  rfl

/-- Settling changes only the log, the block state and what follows from them. -/
theorem unsettled_settle (s : State) : (settle s).unsettled = s.unsettled := by
  unfold settle
  rw [unsettled_wakeCore, unsettled_flushLog, unsettled_followState, unsettled_takeFatal]

@[simp] theorem settle_truss (s : State) : (settle s).truss = s.truss := congrArg (·.truss) (unsettled_settle s)
@[simp] theorem settle_ports (s : State) : (settle s).ports = s.ports := congrArg (·.ports) (unsettled_settle s)
@[simp] theorem settle_sinter (s : State) : (settle s).sinter = s.sinter := congrArg (·.sinter) (unsettled_settle s)
@[simp] theorem settle_sched (s : State) : (settle s).sched = s.sched := congrArg (·.sched) (unsettled_settle s)
@[simp] theorem settle_layout (s : State) : (settle s).layout = s.layout := congrArg (·.layout) (unsettled_settle s)
@[simp] theorem settle_mem (s : State) : (settle s).mem = s.mem := congrArg (·.mem) (unsettled_settle s)
@[simp] theorem settle_gov (s : State) : (settle s).gov = s.gov := congrArg (·.gov) (unsettled_settle s)
@[simp] theorem settle_dbg (s : State) : (settle s).dbg = s.dbg := congrArg (·.dbg) (unsettled_settle s)
@[simp] theorem settle_time (s : State) : (settle s).time = s.time := congrArg (·.time) (unsettled_settle s)
@[simp] theorem settle_pending (s : State) : (settle s).pending = s.pending :=
  congrArg (·.pending) (unsettled_settle s)
@[simp] theorem settle_beams (s : State) : (settle s).trf.beams = s.trf.beams :=
  congrArg (·.trf.beams) (unsettled_settle s)
@[simp] theorem settle_errs (s : State) : (settle s).trf.errs = s.trf.errs := congrArg (·.trf.errs) (unsettled_settle s)

/-! ### What a step leaves behind -/

@[simp] theorem noteDrop_raised (r : Report) (q : BitVec 32) (s : State) : (noteDrop r q s).log.raised = s.log.raised := by
  unfold noteDrop
  split <;> rfl

@[simp] theorem notePoisonEntry_raised (r : Report) (q : BitVec 32) (s : State) :
    (notePoisonEntry r q s).log.raised = s.log.raised := by
  unfold notePoisonEntry
  split <;> rfl

@[simp] theorem signalNew_raised (e : LogEntry) (s : State) : (signalNew e s).log.raised = s.log.raised := by
  unfold signalNew
  dsimp only
  split <;> rfl

theorem foldOver_logOne_raised (l : List Report) (p : State × Nat) :
    (foldOver l logOne p).1.log.raised = p.1.log.raised := by
  refine foldOver_same (fun p : State × Nat => p.1.log.raised) (fun r p => ?_) l p
  unfold logOne
  dsimp only
  split
  · rfl
  · split
    · split <;> rfl
    · split
      · rfl
      · exact (noteDrop_raised _ _ _).trans rfl
      · split
        · unfold writeNew
          dsimp only
          split
          · rw [signalNew_raised, noteDrop_raised, notePoisonEntry_raised]; rfl
          · split
            · split
              · rw [signalNew_raised]; rfl
              · rfl
            · rfl
        · rfl

@[simp] theorem flushLog_raised (s : State) : (flushLog s).log.raised = [] := by
  unfold flushLog
  rw [foldOver_logOne_raised]
  rfl

@[simp] theorem wakeCore_log (s : State) : (wakeCore s).log = s.log := by
  unfold wakeCore
  split <;> rfl

@[simp] theorem wakeCore_aon (s : State) : (wakeCore s).aon = s.aon := by
  unfold wakeCore
  split <;> rfl

@[simp] theorem settle_raised (s : State) : (settle s).log.raised = [] := by
  simp [settle]

/-- With nothing raised the log stays as it is. -/
theorem flushLog_quiet {s : State} (h : s.log.raised = []) : flushLog s = s := by
  unfold flushLog
  simp only [h, sortBy, List.foldl_nil, foldOver_nil]
  cases s
  simp_all [State.onLog]
  cases ‹Log›
  simp_all

theorem takeFatal_quiet {s : State} (h : s.aon.fatalDue = false) : takeFatal s = s := by
  unfold takeFatal
  simp [h]

/-- A quiet state outside READY and RUN settles by waking the core alone. -/
theorem settle_quiet {s : State} (h : Quiet s) (h1 : s.aon.st ≠ .ready) (h2 : s.aon.st ≠ .run) :
    settle s = wakeCore s := by
  have hf : followState s = s := by
    unfold followState
    split <;> simp_all
  rw [settle, takeFatal_quiet h.2, hf, flushLog_quiet h.1]

/-- `onlyIf` runs an event whose condition holds. -/
theorem onlyIf_pos {c : Bool} (f : State → State) (s : State) (h : c = true) : onlyIf c f s = f s := by
  simp [onlyIf, h]

/-- `onlyIf` leaves the state alone where the condition does not hold. -/
theorem onlyIf_neg {c : Bool} (f : State → State) (s : State) (h : c = false) : onlyIf c f s = s := by
  simp [onlyIf, h]

end Sys2Proof.Machine
end

