-- ==== Sys2Proof/Laws/Access.lean ====
section
/-!
SUPPORT. Laws/Access.lean: what answering an access changes, when a write reaches its register, and how a command that
raises nothing settles.
-/
namespace Sys2Proof.Machine

/-! ### Answering changes the response alone -/

section Answer
variable (src : Src) (a : Answer) (v : W64) (s : State)

@[simp] theorem answer_log : (answer src a v s).log = s.log := by cases src <;> rfl
@[simp] theorem answer_cfg : (answer src a v s).cfg = s.cfg := by cases src <;> rfl
@[simp] theorem answer_trf : (answer src a v s).trf = s.trf := by cases src <;> rfl
@[simp] theorem answer_truss : (answer src a v s).truss = s.truss := by cases src <;> rfl
@[simp] theorem answer_ports : (answer src a v s).ports = s.ports := by cases src <;> rfl
@[simp] theorem answer_sinter : (answer src a v s).sinter = s.sinter := by cases src <;> rfl
@[simp] theorem answer_sched : (answer src a v s).sched = s.sched := by cases src <;> rfl
@[simp] theorem answer_layout : (answer src a v s).layout = s.layout := by cases src <;> rfl
@[simp] theorem answer_mem : (answer src a v s).mem = s.mem := by cases src <;> rfl
@[simp] theorem answer_arb : (answer src a v s).arb = s.arb := by cases src <;> rfl
@[simp] theorem answer_col : (answer src a v s).col = s.col := by cases src <;> rfl
@[simp] theorem answer_gov : (answer src a v s).gov = s.gov := by cases src <;> rfl
@[simp] theorem answer_core : (answer src a v s).core = s.core := by cases src <;> rfl
@[simp] theorem answer_dbg : (answer src a v s).dbg = s.dbg := by cases src <;> rfl
@[simp] theorem answer_time : (answer src a v s).time = s.time := by cases src <;> rfl
@[simp] theorem answer_pending : (answer src a v s).pending = s.pending := by cases src <;> rfl
@[simp] theorem answer_aon_vaon : (answer src a v s).aon.vaon = s.aon.vaon := by cases src <;> rfl
@[simp] theorem answer_aon_rootclk : (answer src a v s).aon.rootclk = s.aon.rootclk := by cases src <;> rfl
@[simp] theorem answer_aon_clkSe : (answer src a v s).aon.clkSe = s.aon.clkSe := by cases src <;> rfl
@[simp] theorem answer_aon_arstN : (answer src a v s).aon.arstN = s.aon.arstN := by cases src <;> rfl
@[simp] theorem answer_aon_mrstN : (answer src a v s).aon.mrstN = s.aon.mrstN := by cases src <;> rfl
@[simp] theorem answer_aon_pwrok : (answer src a v s).aon.pwrok = s.aon.pwrok := by cases src <;> rfl
@[simp] theorem answer_aon_dft : (answer src a v s).aon.dft = s.aon.dft := by cases src <;> rfl
@[simp] theorem answer_aon_drive : (answer src a v s).aon.drive = s.aon.drive := by cases src <;> rfl
@[simp] theorem answer_aon_sensed : (answer src a v s).aon.sensed = s.aon.sensed := by cases src <;> rfl
@[simp] theorem answer_aon_fabricId : (answer src a v s).aon.fabricId = s.aon.fabricId := by cases src <;> rfl
@[simp] theorem answer_aon_bootSrc : (answer src a v s).aon.bootSrc = s.aon.bootSrc := by cases src <;> rfl
@[simp] theorem answer_aon_ridgeEn : (answer src a v s).aon.ridgeEn = s.aon.ridgeEn := by cases src <;> rfl
@[simp] theorem answer_aon_st : (answer src a v s).aon.st = s.aon.st := by cases src <;> rfl
@[simp] theorem answer_aon_prev : (answer src a v s).aon.prev = s.aon.prev := by cases src <;> rfl
@[simp] theorem answer_aon_changes : (answer src a v s).aon.changes = s.aon.changes := by cases src <;> rfl
@[simp] theorem answer_aon_killed : (answer src a v s).aon.killed = s.aon.killed := by cases src <;> rfl
@[simp] theorem answer_aon_fatalDue : (answer src a v s).aon.fatalDue = s.aon.fatalDue := by cases src <;> rfl
@[simp] theorem answer_aon_pendFatal : (answer src a v s).aon.pendFatal = s.aon.pendFatal := by cases src <;> rfl
@[simp] theorem answer_aon_roMhz : (answer src a v s).aon.roMhz = s.aon.roMhz := by cases src <;> rfl
@[simp] theorem answer_aon_monFault : (answer src a v s).aon.monFault = s.aon.monFault := by cases src <;> rfl
@[simp] theorem answer_aon_badMeas : (answer src a v s).aon.badMeas = s.aon.badMeas := by cases src <;> rfl
@[simp] theorem answer_aon_seQuiet : (answer src a v s).aon.seQuiet = s.aon.seQuiet := by cases src <;> rfl
@[simp] theorem answer_aon_pwrokChat : (answer src a v s).aon.pwrokChat = s.aon.pwrokChat := by cases src <;> rfl
@[simp] theorem answer_aon_mrstChat : (answer src a v s).aon.mrstChat = s.aon.mrstChat := by cases src <;> rfl
@[simp] theorem answer_aon_chatLog : (answer src a v s).aon.chatLog = s.aon.chatLog := by cases src <;> rfl
@[simp] theorem answer_aon_bSeq : (answer src a v s).aon.bSeq = s.aon.bSeq := by cases src <;> rfl
@[simp] theorem answer_aon_bCode1 : (answer src a v s).aon.bCode1 = s.aon.bCode1 := by cases src <;> rfl
@[simp] theorem answer_aon_bCode0 : (answer src a v s).aon.bCode0 = s.aon.bCode0 := by cases src <;> rfl
@[simp] theorem answer_aon_bStep : (answer src a v s).aon.bStep = s.aon.bStep := by cases src <;> rfl
@[simp] theorem answer_aon_bUnlock : (answer src a v s).aon.bUnlock = s.aon.bUnlock := by cases src <;> rfl
@[simp] theorem answer_aon_bQuad : (answer src a v s).aon.bQuad = s.aon.bQuad := by cases src <;> rfl
@[simp] theorem answer_aon_bFallback : (answer src a v s).aon.bFallback = s.aon.bFallback := by cases src <;> rfl
@[simp] theorem answer_aon_bLoaded : (answer src a v s).aon.bLoaded = s.aon.bLoaded := by cases src <;> rfl
@[simp] theorem answer_aon_bSlot : (answer src a v s).aon.bSlot = s.aon.bSlot := by cases src <;> rfl
@[simp] theorem answer_aon_boots : (answer src a v s).aon.boots = s.aon.boots := by cases src <;> rfl
@[simp] theorem answer_aon_bootLast : (answer src a v s).aon.bootLast = s.aon.bootLast := by cases src <;> rfl
@[simp] theorem answer_aon_imageId : (answer src a v s).aon.imageId = s.aon.imageId := by cases src <;> rfl
@[simp] theorem answer_aon_seqr : (answer src a v s).aon.seqr = s.aon.seqr := by cases src <;> rfl
@[simp] theorem answer_aon_qState : (answer src a v s).aon.qState = s.aon.qState := by cases src <;> rfl
@[simp] theorem answer_aon_qLatches : (answer src a v s).aon.qLatches = s.aon.qLatches := by cases src <;> rfl
@[simp] theorem answer_aon_qQuiet : (answer src a v s).aon.qQuiet = s.aon.qQuiet := by cases src <;> rfl
@[simp] theorem answer_aon_qChat : (answer src a v s).aon.qChat = s.aon.qChat := by cases src <;> rfl
@[simp] theorem answer_aon_quenchN : (answer src a v s).aon.quenchN = s.aon.quenchN := by cases src <;> rfl
@[simp] theorem answer_aon_qLogDue : (answer src a v s).aon.qLogDue = s.aon.qLogDue := by cases src <;> rfl
@[simp] theorem answer_aon_droopN : (answer src a v s).aon.droopN = s.aon.droopN := by cases src <;> rfl
@[simp] theorem answer_aon_thermIn : (answer src a v s).aon.thermIn = s.aon.thermIn := by cases src <;> rfl
@[simp] theorem answer_aon_perfAck : (answer src a v s).aon.perfAck = s.aon.perfAck := by cases src <;> rfl
@[simp] theorem answer_aon_inChat : (answer src a v s).aon.inChat = s.aon.inChat := by cases src <;> rfl
@[simp] theorem answer_aon_perfReq : (answer src a v s).aon.perfReq = s.aon.perfReq := by cases src <;> rfl
@[simp] theorem answer_aon_bypCw : (answer src a v s).aon.bypCw = s.aon.bypCw := by cases src <;> rfl
@[simp] theorem answer_aon_bypCcw : (answer src a v s).aon.bypCcw = s.aon.bypCcw := by cases src <;> rfl
@[simp] theorem answer_aon_link : (answer src a v s).aon.link = s.aon.link := by cases src <;> rfl
@[simp] theorem answer_aon_vaddr : (answer src a v s).aon.vaddr = s.aon.vaddr := by cases src <;> rfl
@[simp] theorem answer_aon_pecErrs : (answer src a v s).aon.pecErrs = s.aon.pecErrs := by cases src <;> rfl
@[simp] theorem answer_aon_pecReq : (answer src a v s).aon.pecReq = s.aon.pecReq := by cases src <;> rfl
@[simp] theorem answer_aon_alert : (answer src a v s).aon.alert = s.aon.alert := by cases src <;> rfl
@[simp] theorem answer_aon_alertEn : (answer src a v s).aon.alertEn = s.aon.alertEn := by cases src <;> rfl
@[simp] theorem answer_aon_smbalert : (answer src a v s).aon.smbalert = s.aon.smbalert := by cases src <;> rfl
@[simp] theorem answer_aon_outLen : (answer src a v s).aon.outLen = s.aon.outLen := by cases src <;> rfl
@[simp] theorem answer_aon_outFull : (answer src a v s).aon.outFull = s.aon.outFull := by cases src <;> rfl
@[simp] theorem answer_aon_inFull : (answer src a v s).aon.inFull = s.aon.inFull := by cases src <;> rfl
@[simp] theorem answer_aon_inLen : (answer src a v s).aon.inLen = s.aon.inLen := by cases src <;> rfl
@[simp] theorem answer_aon_mboxIn : (answer src a v s).aon.mboxIn = s.aon.mboxIn := by cases src <;> rfl
@[simp] theorem answer_aon_mboxOut : (answer src a v s).aon.mboxOut = s.aon.mboxOut := by cases src <;> rfl
@[simp] theorem answer_aon_ventOut : (answer src a v s).aon.ventOut = s.aon.ventOut := by cases src <;> rfl

end Answer

/-! ### An accepted write changes the response and its source's episode of drops alone -/

section Accept
variable (src : Src) (off : Nat) (s : State)

@[simp] theorem accept_cfg : (accept src off s).cfg = s.cfg := by unfold accept; split <;> simp [endDrops]
@[simp] theorem accept_trf : (accept src off s).trf = s.trf := by unfold accept; split <;> simp [endDrops]
@[simp] theorem accept_truss : (accept src off s).truss = s.truss := by unfold accept; split <;> simp [endDrops]
@[simp] theorem accept_ports : (accept src off s).ports = s.ports := by unfold accept; split <;> simp [endDrops]
@[simp] theorem accept_sinter : (accept src off s).sinter = s.sinter := by unfold accept; split <;> simp [endDrops]
@[simp] theorem accept_sched : (accept src off s).sched = s.sched := by unfold accept; split <;> simp [endDrops]
@[simp] theorem accept_layout : (accept src off s).layout = s.layout := by unfold accept; split <;> simp [endDrops]
@[simp] theorem accept_mem : (accept src off s).mem = s.mem := by unfold accept; split <;> simp [endDrops]
@[simp] theorem accept_arb : (accept src off s).arb = s.arb := by unfold accept; split <;> simp [endDrops]
@[simp] theorem accept_col : (accept src off s).col = s.col := by unfold accept; split <;> simp [endDrops]
@[simp] theorem accept_gov : (accept src off s).gov = s.gov := by unfold accept; split <;> simp [endDrops]
@[simp] theorem accept_core : (accept src off s).core = s.core := by unfold accept; split <;> simp [endDrops]
@[simp] theorem accept_dbg : (accept src off s).dbg = s.dbg := by unfold accept; split <;> simp [endDrops]
@[simp] theorem accept_time : (accept src off s).time = s.time := by unfold accept; split <;> simp [endDrops]
@[simp] theorem accept_pending : (accept src off s).pending = s.pending := by unfold accept; split <;> simp [endDrops]
@[simp] theorem accept_log_entries : (accept src off s).log.entries = s.log.entries := by unfold accept; split <;> simp [endDrops]
@[simp] theorem accept_log_seq : (accept src off s).log.seq = s.log.seq := by unfold accept; split <;> simp [endDrops]
@[simp] theorem accept_log_masked : (accept src off s).log.masked = s.log.masked := by unfold accept; split <;> simp [endDrops]
@[simp] theorem accept_log_discarded : (accept src off s).log.discarded = s.log.discarded := by unfold accept; split <;> simp [endDrops]
@[simp] theorem accept_log_raised : (accept src off s).log.raised = s.log.raised := by unfold accept; split <;> simp [endDrops]
@[simp] theorem accept_aon_vaon : (accept src off s).aon.vaon = s.aon.vaon := by unfold accept; split <;> simp [endDrops]
@[simp] theorem accept_aon_rootclk : (accept src off s).aon.rootclk = s.aon.rootclk := by unfold accept; split <;> simp [endDrops]
@[simp] theorem accept_aon_clkSe : (accept src off s).aon.clkSe = s.aon.clkSe := by unfold accept; split <;> simp [endDrops]
@[simp] theorem accept_aon_arstN : (accept src off s).aon.arstN = s.aon.arstN := by unfold accept; split <;> simp [endDrops]
@[simp] theorem accept_aon_mrstN : (accept src off s).aon.mrstN = s.aon.mrstN := by unfold accept; split <;> simp [endDrops]
@[simp] theorem accept_aon_pwrok : (accept src off s).aon.pwrok = s.aon.pwrok := by unfold accept; split <;> simp [endDrops]
@[simp] theorem accept_aon_dft : (accept src off s).aon.dft = s.aon.dft := by unfold accept; split <;> simp [endDrops]
@[simp] theorem accept_aon_drive : (accept src off s).aon.drive = s.aon.drive := by unfold accept; split <;> simp [endDrops]
@[simp] theorem accept_aon_sensed : (accept src off s).aon.sensed = s.aon.sensed := by unfold accept; split <;> simp [endDrops]
@[simp] theorem accept_aon_fabricId : (accept src off s).aon.fabricId = s.aon.fabricId := by unfold accept; split <;> simp [endDrops]
@[simp] theorem accept_aon_bootSrc : (accept src off s).aon.bootSrc = s.aon.bootSrc := by unfold accept; split <;> simp [endDrops]
@[simp] theorem accept_aon_ridgeEn : (accept src off s).aon.ridgeEn = s.aon.ridgeEn := by unfold accept; split <;> simp [endDrops]
@[simp] theorem accept_aon_st : (accept src off s).aon.st = s.aon.st := by unfold accept; split <;> simp [endDrops]
@[simp] theorem accept_aon_prev : (accept src off s).aon.prev = s.aon.prev := by unfold accept; split <;> simp [endDrops]
@[simp] theorem accept_aon_changes : (accept src off s).aon.changes = s.aon.changes := by unfold accept; split <;> simp [endDrops]
@[simp] theorem accept_aon_killed : (accept src off s).aon.killed = s.aon.killed := by unfold accept; split <;> simp [endDrops]
@[simp] theorem accept_aon_fatalDue : (accept src off s).aon.fatalDue = s.aon.fatalDue := by unfold accept; split <;> simp [endDrops]
@[simp] theorem accept_aon_pendFatal : (accept src off s).aon.pendFatal = s.aon.pendFatal := by unfold accept; split <;> simp [endDrops]
@[simp] theorem accept_aon_roMhz : (accept src off s).aon.roMhz = s.aon.roMhz := by unfold accept; split <;> simp [endDrops]
@[simp] theorem accept_aon_monFault : (accept src off s).aon.monFault = s.aon.monFault := by unfold accept; split <;> simp [endDrops]
@[simp] theorem accept_aon_badMeas : (accept src off s).aon.badMeas = s.aon.badMeas := by unfold accept; split <;> simp [endDrops]
@[simp] theorem accept_aon_seQuiet : (accept src off s).aon.seQuiet = s.aon.seQuiet := by unfold accept; split <;> simp [endDrops]
@[simp] theorem accept_aon_pwrokChat : (accept src off s).aon.pwrokChat = s.aon.pwrokChat := by unfold accept; split <;> simp [endDrops]
@[simp] theorem accept_aon_mrstChat : (accept src off s).aon.mrstChat = s.aon.mrstChat := by unfold accept; split <;> simp [endDrops]
@[simp] theorem accept_aon_chatLog : (accept src off s).aon.chatLog = s.aon.chatLog := by unfold accept; split <;> simp [endDrops]
@[simp] theorem accept_aon_bSeq : (accept src off s).aon.bSeq = s.aon.bSeq := by unfold accept; split <;> simp [endDrops]
@[simp] theorem accept_aon_bCode1 : (accept src off s).aon.bCode1 = s.aon.bCode1 := by unfold accept; split <;> simp [endDrops]
@[simp] theorem accept_aon_bCode0 : (accept src off s).aon.bCode0 = s.aon.bCode0 := by unfold accept; split <;> simp [endDrops]
@[simp] theorem accept_aon_bStep : (accept src off s).aon.bStep = s.aon.bStep := by unfold accept; split <;> simp [endDrops]
@[simp] theorem accept_aon_bUnlock : (accept src off s).aon.bUnlock = s.aon.bUnlock := by unfold accept; split <;> simp [endDrops]
@[simp] theorem accept_aon_bQuad : (accept src off s).aon.bQuad = s.aon.bQuad := by unfold accept; split <;> simp [endDrops]
@[simp] theorem accept_aon_bFallback : (accept src off s).aon.bFallback = s.aon.bFallback := by unfold accept; split <;> simp [endDrops]
@[simp] theorem accept_aon_bLoaded : (accept src off s).aon.bLoaded = s.aon.bLoaded := by unfold accept; split <;> simp [endDrops]
@[simp] theorem accept_aon_bSlot : (accept src off s).aon.bSlot = s.aon.bSlot := by unfold accept; split <;> simp [endDrops]
@[simp] theorem accept_aon_boots : (accept src off s).aon.boots = s.aon.boots := by unfold accept; split <;> simp [endDrops]
@[simp] theorem accept_aon_bootLast : (accept src off s).aon.bootLast = s.aon.bootLast := by unfold accept; split <;> simp [endDrops]
@[simp] theorem accept_aon_imageId : (accept src off s).aon.imageId = s.aon.imageId := by unfold accept; split <;> simp [endDrops]
@[simp] theorem accept_aon_seqr : (accept src off s).aon.seqr = s.aon.seqr := by unfold accept; split <;> simp [endDrops]
@[simp] theorem accept_aon_qState : (accept src off s).aon.qState = s.aon.qState := by unfold accept; split <;> simp [endDrops]
@[simp] theorem accept_aon_qLatches : (accept src off s).aon.qLatches = s.aon.qLatches := by unfold accept; split <;> simp [endDrops]
@[simp] theorem accept_aon_qQuiet : (accept src off s).aon.qQuiet = s.aon.qQuiet := by unfold accept; split <;> simp [endDrops]
@[simp] theorem accept_aon_qChat : (accept src off s).aon.qChat = s.aon.qChat := by unfold accept; split <;> simp [endDrops]
@[simp] theorem accept_aon_quenchN : (accept src off s).aon.quenchN = s.aon.quenchN := by unfold accept; split <;> simp [endDrops]
@[simp] theorem accept_aon_qLogDue : (accept src off s).aon.qLogDue = s.aon.qLogDue := by unfold accept; split <;> simp [endDrops]
@[simp] theorem accept_aon_droopN : (accept src off s).aon.droopN = s.aon.droopN := by unfold accept; split <;> simp [endDrops]
@[simp] theorem accept_aon_thermIn : (accept src off s).aon.thermIn = s.aon.thermIn := by unfold accept; split <;> simp [endDrops]
@[simp] theorem accept_aon_perfAck : (accept src off s).aon.perfAck = s.aon.perfAck := by unfold accept; split <;> simp [endDrops]
@[simp] theorem accept_aon_inChat : (accept src off s).aon.inChat = s.aon.inChat := by unfold accept; split <;> simp [endDrops]
@[simp] theorem accept_aon_perfReq : (accept src off s).aon.perfReq = s.aon.perfReq := by unfold accept; split <;> simp [endDrops]
@[simp] theorem accept_aon_bypCw : (accept src off s).aon.bypCw = s.aon.bypCw := by unfold accept; split <;> simp [endDrops]
@[simp] theorem accept_aon_bypCcw : (accept src off s).aon.bypCcw = s.aon.bypCcw := by unfold accept; split <;> simp [endDrops]
@[simp] theorem accept_aon_link : (accept src off s).aon.link = s.aon.link := by unfold accept; split <;> simp [endDrops]
@[simp] theorem accept_aon_vaddr : (accept src off s).aon.vaddr = s.aon.vaddr := by unfold accept; split <;> simp [endDrops]
@[simp] theorem accept_aon_pecErrs : (accept src off s).aon.pecErrs = s.aon.pecErrs := by unfold accept; split <;> simp [endDrops]
@[simp] theorem accept_aon_pecReq : (accept src off s).aon.pecReq = s.aon.pecReq := by unfold accept; split <;> simp [endDrops]
@[simp] theorem accept_aon_alert : (accept src off s).aon.alert = s.aon.alert := by unfold accept; split <;> simp [endDrops]
@[simp] theorem accept_aon_alertEn : (accept src off s).aon.alertEn = s.aon.alertEn := by unfold accept; split <;> simp [endDrops]
@[simp] theorem accept_aon_smbalert : (accept src off s).aon.smbalert = s.aon.smbalert := by unfold accept; split <;> simp [endDrops]
@[simp] theorem accept_aon_outLen : (accept src off s).aon.outLen = s.aon.outLen := by unfold accept; split <;> simp [endDrops]
@[simp] theorem accept_aon_outFull : (accept src off s).aon.outFull = s.aon.outFull := by unfold accept; split <;> simp [endDrops]
@[simp] theorem accept_aon_inFull : (accept src off s).aon.inFull = s.aon.inFull := by unfold accept; split <;> simp [endDrops]
@[simp] theorem accept_aon_inLen : (accept src off s).aon.inLen = s.aon.inLen := by unfold accept; split <;> simp [endDrops]
@[simp] theorem accept_aon_mboxIn : (accept src off s).aon.mboxIn = s.aon.mboxIn := by unfold accept; split <;> simp [endDrops]
@[simp] theorem accept_aon_mboxOut : (accept src off s).aon.mboxOut = s.aon.mboxOut := by unfold accept; split <;> simp [endDrops]
@[simp] theorem accept_aon_ventOut : (accept src off s).aon.ventOut = s.aon.ventOut := by unfold accept; split <;> simp [endDrops]

end Accept

/-! ### A write that reaches its register -/

/-- The checks let the write of an admitted initiator through to the register. -/
theorem writeReg_of_writes {src : Src} {off : Nat} {o : Owner} {act : State → State} {s : State} (h : Writes src o s) :
    writeReg src off o act s = act (accept src off s) := by
  unfold writeReg writeVerdict stateVerdict ownerDrops ownershipDrops
  cases src with
  | firmware =>
    obtain ⟨h0, h1, h2⟩ := h
    cases o <;> simp_all
  | vent =>
    obtain ⟨h0, h1, h2⟩ := h
    cases o <;> simp_all
  | host id =>
    obtain ⟨h0, h1, h2, h3⟩ := h
    rcases h3 with h3 | h3 <;> cases o <;> simp_all

/-- The register does not turn the write away: it is an ordinary write. -/
theorem writeUnless_false (src : Src) (off : Nat) (o : Owner) (turn act : State → State) (s : State) :
    writeUnless src off o false turn act s = writeReg src off o act s := by
  simp [writeUnless]

/-- A write that its register's unit takes is an ordinary write. -/
theorem writeDropping_false (src : Src) (off : Nat) (o : Owner) (act : State → State) (s : State) :
    writeDropping src off o false act s = writeReg src off o act s := writeUnless_false src off o _ act s

/-- A write that its register's unit drops, once the checks have let it through, is answered OK and leaves its source's
episode of dropped writes as it is. -/
theorem writeDropping_of_writes {src : Src} {off : Nat} {o : Owner} {act : State → State} {s : State}
    (h : writeVerdict src off o s = .allow) :
    writeDropping src off o true act s = act (answer src .ok 0 s) := by
  simp [writeDropping, writeUnless, h]

/-! ### Settling a command that raises nothing -/

/-- The core sleeps on when nothing it waits for has changed. -/
theorem wakeCore_same {s t : State} (h : WakesOnTime s) (h1 : t.core.run = s.core.run) (h2 : meip t = meip s)
    (h3 : t.core.mie = s.core.mie) : wakeCore t = t := by
  unfold wakeCore
  split
  · next hw =>
    simp only [Bool.and_eq_true, beq_iff_eq, h1, h2, h3] at hw
    exact absurd ⟨hw.1.2, hw.2⟩ (h hw.1.1)
  · rfl

theorem anyPhase_congr {s t : State} (h : t.sched = s.sched) : anyPhase t = anyPhase s := by
  unfold anyPhase; rw [h]

theorem drainsDone_congr {s t : State} (h1 : t.ports = s.ports) (h2 : t.sinter = s.sinter) :
    drainsDone t = drainsDone s := by
  unfold drainsDone; rw [h1, h2]

/-- With phases, queue and drains as they were, a block state that fitted stays. -/
theorem followState_same {s t : State} (h : StateFits s) (h1 : t.aon.st = s.aon.st) (h2 : t.sched = s.sched)
    (h3 : t.ports = s.ports) (h4 : t.sinter = s.sinter) : followState t = t := by
  obtain ⟨hr, hn⟩ := h
  unfold followState
  rw [h1, anyPhase_congr h2, h2, drainsDone_congr h3 h4]
  split
  · next hs => simp [hr hs]
  · next hs =>
    rcases hn hs with h | h | h
    · simp [h]
    · simp [List.isEmpty_iff, h]
    · simp [h]
  · rfl

/-- A command that leaves the block state, the phases and the drains alone ends with the log and the core's wake. -/
theorem settle_log {s t : State} (hs : Settled s) (h0 : t.aon.fatalDue = false) (h1 : t.aon.st = s.aon.st)
    (h2 : t.sched = s.sched) (h3 : t.ports = s.ports) (h4 : t.sinter = s.sinter) :
    settle t = wakeCore (flushLog t) := by
  rw [settle, takeFatal_quiet h0, followState_same hs.2.1 h1 h2 h3 h4]

/-- One that raises no code either ends with the core's wake alone. -/
theorem settle_wake {s t : State} (hs : Settled s) (h0 : t.aon.fatalDue = false) (h1 : t.aon.st = s.aon.st)
    (h2 : t.sched = s.sched) (h3 : t.ports = s.ports) (h4 : t.sinter = s.sinter) (h5 : t.log.raised = []) :
    settle t = wakeCore t := by
  rw [settle_log hs h0 h1 h2 h3 h4, flushLog_quiet h5]

/-- One that changes no interrupt source either is its own end. -/
theorem settle_same {s t : State} (hs : Settled s) (h0 : t.aon.fatalDue = false) (h1 : t.aon.st = s.aon.st)
    (h2 : t.sched = s.sched) (h3 : t.ports = s.ports) (h4 : t.sinter = s.sinter) (h5 : t.log.raised = [])
    (h6 : t.core.run = s.core.run) (h7 : meip t = meip s) (h8 : t.core.mie = s.core.mie) : settle t = t := by
  rw [settle_wake hs h0 h1 h2 h3 h4 h5, wakeCore_same hs.2.2 h6 h7 h8]

/-- The interrupt sources depend on the units' events alone. -/
theorem meip_congr {s t : State} (h1 : t.sched.event = s.sched.event) (h2 : t.layout.event = s.layout.event)
    (h3 : t.col.event = s.col.event) (h4 : t.gov.event = s.gov.event) (h5 : t.core.woEvent = s.core.woEvent)
    (h6 : t.core.irqErr = s.core.irqErr) (h7 : t.aon.inFull = s.aon.inFull) (h8 : t.core.irqState = s.core.irqState)
    (h9 : t.core.irqBell = s.core.irqBell) (h10 : t.core.irqEn = s.core.irqEn) : meip t = meip s := by
  unfold meip irqSources
  rw [h1, h2, h3, h4, h5, h6, h7, h8, h9, h10]

end Sys2Proof.Machine
end

