-- ==== Sys2Proof/Laws/Mem.lean ====
section
/-!
SUPPORT. Laws/Mem.lean: what a write beat takes from the data that the memory ports have to send (R239), and what the owner
of a side-port path keeps when it presents a beat (R246).
-/
namespace Sys2Proof.Machine

/-- A beat of a port goes from its oldest write alone: that write has one beat fewer to send, or leaves the queue with its
last one, and the others keep their places. -/
theorem beatSent_split {port : Fin 8} {l : List WriteData} {x : WriteData} (h : l.find? (fun t => t.port = port) = some x) :
    ∃ before after, l = before ++ x :: after ∧ (∀ y ∈ before, y.port ≠ port) ∧ beatSent port l =
      before ++ (if x.beats + 1 < x.total then [{ x with beats := x.beats + 1 }] else []) ++ after := by
  induction l with
  | nil => simp at h
  | cons y l ih =>
    by_cases hy : y.port = port
    · simp only [List.find?_cons, hy, decide_true, Option.some.injEq] at h
      subst h
      refine ⟨[], l, rfl, by simp, ?_⟩
      simp only [beatSent, hy, if_true]
      split <;> rfl
    · simp only [List.find?_cons, hy, decide_false] at h
      obtain ⟨b, a, rfl, hb, he⟩ := ih h
      refine ⟨y :: b, a, rfl, by simpa [hy] using hb, ?_⟩
      simp [beatSent, hy, he]

/-- A beat of another port leaves a port's oldest write as it is. -/
theorem find_beatSent_ne {p q : Fin 8} (h : p ≠ q) (l : List WriteData) :
    (beatSent p l).find? (fun t => t.port = q) = l.find? (fun t => t.port = q) := by
  induction l with
  | nil => rfl
  | cons y l ih =>
    unfold beatSent
    split
    · next hy => split <;> simp [hy, h]
    · simp only [List.find?_cons, ih]

@[simp] theorem Grant.presented_req (g : Grant) : g.presented.req = g.req := rfl
@[simp] theorem Grant.presented_client (g : Grant) : g.presented.client = g.client := rfl
@[simp] theorem Grant.presented_write (g : Grant) : g.presented.write = g.write := rfl
@[simp] theorem Grant.presented_jobs (g : Grant) : g.presented.jobs = g.jobs := rfl
@[simp] theorem Grant.presented_staged (g : Grant) : g.presented.staged = g.staged := rfl

/-- Once its last beat is presented, the owner of a path decides: no request preempts it (R246). -/
theorem deciding_presented {g : Grant} (h : g.jobs.length ≤ 1) : deciding g.presented = true := by
  simp [deciding, Grant.presented, h]

end Sys2Proof.Machine
end

