-- ==== Sys2Proof/Laws/SMap.lean ====
section
/-!
SUPPORT. Laws/SMap.lean: reading after writing, and that every operation on a sparse table keeps its canonical form.
-/
namespace Sys2Proof

variable {α : Type} (d : α)

/-! ### Reading after writing -/

@[simp] theorem SMap.get_nil (i : Nat) : SMap.get d ([] : SMap α) i = d := rfl

theorem SMap.get_put_same (m : SMap α) (i : Nat) (v : α) : (m.put i v).get d i = v := by
  induction m with
  | nil => simp [SMap.put, SMap.get]
  | cons p m ih =>
    obtain ⟨k, w⟩ := p
    simp only [SMap.put]
    split
    · simp [SMap.get]
    · split
      · simp [SMap.get]
      · next h _ => simpa [SMap.get, h] using ih

theorem SMap.get_put_other (m : SMap α) {i j : Nat} (v : α) (h : j ≠ i) : (m.put i v).get d j = m.get d j := by
  induction m with
  | nil => simp [SMap.put, SMap.get, h.symm]
  | cons p m ih =>
    obtain ⟨k, w⟩ := p
    simp only [SMap.put]
    split
    · next hk => subst hk; simp [SMap.get, h.symm]
    · split
      · simp [SMap.get, h.symm]
      · simp [SMap.get, ih]

theorem SMap.get_erase_same (m : SMap α) (i : Nat) : (m.erase i).get d i = d := by
  induction m with
  | nil => rfl
  | cons p m ih =>
    obtain ⟨k, v⟩ := p
    simp only [SMap.erase, List.filter_cons]
    split
    · next h =>
      have hk : k ≠ i := by simpa using h
      simpa [SMap.get, hk, SMap.erase] using ih
    · exact ih

theorem SMap.get_erase_other (m : SMap α) {i j : Nat} (h : j ≠ i) : (m.erase i).get d j = m.get d j := by
  induction m with
  | nil => rfl
  | cons p m ih =>
    obtain ⟨k, v⟩ := p
    simp only [SMap.erase, List.filter_cons]
    split
    · simp only [SMap.get]
      split
      · rfl
      · exact ih
    · next hk =>
      have hk : k = i := by simpa using hk
      subst hk
      simpa [SMap.get, h.symm, SMap.erase] using ih

section Canonical
variable [DecidableEq α]

/-- Below its least key a canonical table reads as unlisted. -/
theorem SMap.get_below {m : SMap α} {b i : Nat} (hm : m.wfFrom d b = true) (h : i < b) : m.get d i = d := by
  induction m generalizing b with
  | nil => rfl
  | cons p m ih =>
    obtain ⟨k, v⟩ := p
    simp only [SMap.wfFrom, Bool.and_eq_true, decide_eq_true_eq] at hm
    obtain ⟨⟨h1, _⟩, h2⟩ := hm
    simp only [SMap.get]
    split
    · omega
    · exact ih h2 (by omega)

/-- A lower bound may be lowered. -/
theorem SMap.wfFrom_mono {m : SMap α} {b c : Nat} (hm : m.wfFrom d b = true) (h : c ≤ b) : m.wfFrom d c = true := by
  cases m with
  | nil => rfl
  | cons p m =>
    obtain ⟨k, v⟩ := p
    simp only [SMap.wfFrom, Bool.and_eq_true, decide_eq_true_eq] at hm ⊢
    exact ⟨⟨by omega, hm.1.2⟩, hm.2⟩

theorem SMap.wfFrom_put {m : SMap α} {b i : Nat} {v : α} (hm : m.wfFrom d b = true) (hb : b ≤ i) (hv : v ≠ d) :
    (m.put i v).wfFrom d b = true := by
  induction m generalizing b with
  | nil => simp [SMap.put, SMap.wfFrom, hb, hv]
  | cons p m ih =>
    obtain ⟨k, w⟩ := p
    simp only [SMap.wfFrom, Bool.and_eq_true, decide_eq_true_eq] at hm
    obtain ⟨⟨h1, h2⟩, h3⟩ := hm
    simp only [SMap.put]
    split
    · next hk => subst hk; simp [SMap.wfFrom, hb, hv, h3]
    · split
      · next h => simp [SMap.wfFrom, hb, hv, h2, h3]; omega
      · next hk h =>
        simp only [SMap.wfFrom, Bool.and_eq_true, decide_eq_true_eq]
        exact ⟨⟨h1, h2⟩, ih h3 (by omega)⟩

/-- A write is read back. -/
theorem SMap.get_set_same (m : SMap α) (i : Nat) (v : α) : (m.set d i v).get d i = v := by
  unfold SMap.set
  split
  · next h => rw [SMap.get_erase_same, h]
  · exact SMap.get_put_same d m i v

/-- A write leaves every other key alone. -/
theorem SMap.get_set_other (m : SMap α) {i j : Nat} (v : α) (h : j ≠ i) : (m.set d i v).get d j = m.get d j := by
  unfold SMap.set
  split
  · exact SMap.get_erase_other d m h
  · exact SMap.get_put_other d m v h

/-! ### The canonical form is kept -/

@[simp] theorem SMap.wf_nil : SMap.wf d ([] : SMap α) = true := rfl

theorem SMap.wfFrom_filter {m : SMap α} {b : Nat} (hm : m.wfFrom d b = true) (p : Nat × α → Bool) :
    SMap.wfFrom d b (m.filter p) = true := by
  induction m generalizing b with
  | nil => rfl
  | cons q m ih =>
    obtain ⟨k, v⟩ := q
    simp only [SMap.wfFrom, Bool.and_eq_true, decide_eq_true_eq] at hm
    rw [List.filter_cons]
    split
    · simp only [SMap.wfFrom, Bool.and_eq_true, decide_eq_true_eq]
      exact ⟨hm.1, ih hm.2⟩
    · exact ih (SMap.wfFrom_mono d hm.2 (by omega))

theorem SMap.wf_erase {m : SMap α} (hm : m.wf d = true) (i : Nat) : (m.erase i).wf d = true :=
  SMap.wfFrom_filter d hm _

theorem SMap.wf_set {m : SMap α} (hm : m.wf d = true) (i : Nat) (v : α) : (m.set d i v).wf d = true := by
  unfold SMap.set
  split
  · exact SMap.wf_erase d hm i
  · next h => exact SMap.wfFrom_put d hm (Nat.zero_le i) h

theorem SMap.wf_modify {m : SMap α} (hm : m.wf d = true) (i : Nat) (f : α → α) : (m.modify d i f).wf d = true :=
  SMap.wf_set d hm i _

theorem SMap.wf_eraseRange {m : SMap α} (hm : m.wf d = true) (lo n : Nat) : (m.eraseRange lo n).wf d = true :=
  SMap.wfFrom_filter d hm _

/-- Keys outside the range read as before. -/
theorem SMap.get_eraseRange_other (m : SMap α) {lo n i : Nat} (h : ¬ (lo ≤ i ∧ i < lo + n)) :
    (m.eraseRange lo n).get d i = m.get d i := by
  induction m with
  | nil => rfl
  | cons p m ih =>
    obtain ⟨k, v⟩ := p
    simp only [SMap.eraseRange, List.filter_cons]
    split
    · simp only [SMap.get]
      split
      · rfl
      · exact ih
    · next hk =>
      simp only [Bool.not_eq_eq_eq_not, Bool.not_true, Bool.not_eq_false, Bool.and_eq_true, decide_eq_true_eq] at hk
      simp only [SMap.get]
      split
      · omega
      · exact ih

omit [DecidableEq α] in
/-- Keys of the range read as unlisted. -/
theorem SMap.get_eraseRange_in (m : SMap α) {lo n i : Nat} (h : lo ≤ i ∧ i < lo + n) :
    (m.eraseRange lo n).get d i = d := by
  induction m with
  | nil => rfl
  | cons p m ih =>
    obtain ⟨k, v⟩ := p
    simp only [SMap.eraseRange, List.filter_cons]
    split
    · next hk =>
      simp only [SMap.get]
      split
      · next he => subst he; simp [h] at hk
      · exact ih
    · exact ih

end Canonical

end Sys2Proof
end

