-- ==== Sys2Proof/Laws/Step.lean ====
section
/-!
SUPPORT. Laws/Step.lean: what every command and every step ends in.
-/
namespace Sys2Proof.Machine

/-- Every command ends in one settled state: it neither faults nor is refused. -/
theorem exec_settles (c : Instr) (s : State) : ∃ u, exec c s = .next (settle u) := by
  cases c <;> exact ⟨_, rfl⟩

/-- With no command waiting the step is the tick's. -/
theorem step_idle {s : State} (h : s.pending = []) : step s = execIdle s := by
  simp [step, h]

/-- Every step ends in one settled state. -/
theorem step_settles (s : State) : ∃ u, step s = .next (settle u) := by
  cases h : s.pending with
  | nil => exact ⟨_, step_idle h⟩
  | cons c cs =>
    obtain ⟨u, hu⟩ := exec_settles c { s with pending := cs }
    exact ⟨u, by simpa [step, h] using hu⟩

end Sys2Proof.Machine
end

