-- ==== Sys2Proof/Laws/Trf.lean ====
section
/-!
SUPPORT. Laws/Trf.lean: the mortise table and the stored beams after each shared operation, and that each keeps their
canonical form.
-/
namespace Sys2Proof.Machine

/-! ### One entry of the mortise table -/

theorem mortAt_setMort_same (i : BitVec 10) (e : Mortise) (s : State) : mortAt (setMort i e s) i = e :=
  SMap.get_set_same _ _ _ _

theorem mortAt_setMort_other {i j : BitVec 10} (e : Mortise) (s : State) (h : j ≠ i) :
    mortAt (setMort i e s) j = mortAt s j :=
  SMap.get_set_other _ _ _ fun hn => h (BitVec.eq_of_toNat_eq hn)

theorem mortAt_modMort_same (i : BitVec 10) (f : Mortise → Mortise) (s : State) :
    mortAt (modMort i f s) i = f (mortAt s i) :=
  mortAt_setMort_same _ _ _

theorem mortAt_modMort_other {i j : BitVec 10} (f : Mortise → Mortise) (s : State) (h : j ≠ i) :
    mortAt (modMort i f s) j = mortAt s j :=
  mortAt_setMort_other _ _ h

/-- Changing an entry changes the mortise table alone. -/
theorem modMort_frame (i : BitVec 10) (f : Mortise → Mortise) (s : State) :
    modMort i f s = s.onTrf fun t => { t with mort := (modMort i f s).trf.mort } := rfl

/-- Changing a pair changes the mortise table alone. -/
theorem modPair_frame (i : BitVec 10) (f : Mortise → Mortise) (s : State) :
    modPair i f s = s.onTrf fun t => { t with mort := (modPair i f s).trf.mort } := by
  unfold modPair
  exact foldOver_keeps (fun t => t = s.onTrf fun r => { r with mort := t.trf.mort })
    (fun a t h => by rw [modMort_frame, h]; rfl) _ rfl

/-- The halves of a pair each take the change; a change made twice is made once. -/
theorem mortAt_modPair_in {i j : BitVec 10} {f : Mortise → Mortise} (hf : ∀ e, f (f e) = f e) (s : State)
    (h : j ∈ pairOf s i) : mortAt (modPair i f s) j = f (mortAt s j) := by
  unfold modPair
  unfold pairOf at h ⊢
  split at h
  · next ht =>
    simp only [ht, if_true, foldOver_cons, foldOver_nil, List.mem_cons, List.not_mem_nil, or_false] at h ⊢
    by_cases hk : (mortAt s i).twin = i
    · have hj : j = i := by rcases h with h | h <;> simp [h, hk]
      rw [hk, hj, mortAt_modMort_same, mortAt_modMort_same, hf]
    · rcases h with h | h
      · rw [h, mortAt_modMort_other _ _ (Ne.symm hk), mortAt_modMort_same]
      · rw [h, mortAt_modMort_same, mortAt_modMort_other _ _ hk]
  · next ht =>
    simp only [List.mem_cons, List.not_mem_nil, or_false] at h
    simp only [ht, foldOver_cons, foldOver_nil, Bool.false_eq_true, if_false]
    rw [h, mortAt_modMort_same]

/-- Entries outside the pair are as before. -/
theorem mortAt_modPair_out {i j : BitVec 10} (f : Mortise → Mortise) (s : State) (h : j ∉ pairOf s i) :
    mortAt (modPair i f s) j = mortAt s j := by
  unfold modPair
  unfold pairOf at h ⊢
  split
  · next ht =>
    simp only [ht, if_true, List.mem_cons, List.not_mem_nil, or_false, not_or] at h
    simp only [foldOver_cons, foldOver_nil]
    rw [mortAt_modMort_other _ _ h.2, mortAt_modMort_other _ _ h.1]
  · next ht =>
    simp only [ht, Bool.false_eq_true, if_false, List.mem_cons, List.not_mem_nil, or_false] at h
    simp only [foldOver_cons, foldOver_nil]
    rw [mortAt_modMort_other _ _ h]

/-! ### Answering an access leaves the table alone -/

section Answer
variable (src : Src) (a : Answer) (v : W64) (s : State) (i : BitVec 10)

@[simp] theorem mortAt_answer : mortAt (answer src a v s) i = mortAt s i := by cases src <;> rfl
@[simp] theorem pairOf_answer : pairOf (answer src a v s) i = pairOf s i := by cases src <;> rfl
@[simp] theorem pairUe_answer : pairUe (answer src a v s) i = pairUe s i := by cases src <;> rfl
@[simp] theorem mortW1_answer : mortW1 (answer src a v s) i = mortW1 s i := by cases src <;> rfl
@[simp] theorem mortRefs_answer : mortRefs (answer src a v s) i = mortRefs s i := by cases src <;> rfl
@[simp] theorem otherRefs_answer : otherRefs (answer src a v s) i = otherRefs s i := by cases src <;> rfl
@[simp] theorem pairRefd_answer : pairRefd (answer src a v s) i = pairRefd s i := by cases src <;> rfl
@[simp] theorem writeCheck_answer (e : Mortise) : writeCheck (answer src a v s) i e = writeCheck s i e := by
  cases src <;> rfl

end Answer

/-! ### A write let through answers, and ends its source's episode of drops, and leaves the table alone -/

section Accept
variable (src : Src) (off : Nat) (s : State) (i : BitVec 10)

@[simp] theorem trf_accept : (accept src off s).trf = s.trf := by unfold accept; split <;> cases src <;> rfl
@[simp] theorem mortAt_accept : mortAt (accept src off s) i = mortAt s i := by simp [mortAt]
@[simp] theorem pairOf_accept : pairOf (accept src off s) i = pairOf s i := by simp [pairOf]
@[simp] theorem pairUe_accept : pairUe (accept src off s) i = pairUe s i := by simp [pairUe]
@[simp] theorem mortW1_accept : mortW1 (accept src off s) i = mortW1 s i := by simp [mortW1]
@[simp] theorem mortRefs_accept : mortRefs (accept src off s) i = mortRefs s i := by
  unfold accept; split <;> cases src <;> rfl
@[simp] theorem otherRefs_accept : otherRefs (accept src off s) i = otherRefs s i := by simp [otherRefs]
@[simp] theorem pairRefd_accept : pairRefd (accept src off s) i = pairRefd s i := by simp [pairRefd]
@[simp] theorem writeCheck_accept (e : Mortise) : writeCheck (accept src off s) i e = writeCheck s i e := by
  unfold accept; split <;> cases src <;> rfl

end Accept

/-! ### Stored beams -/

/-- A written line reads back. -/
theorem storedBeam_writeLine_same (b : BitVec 20) (v : Beam) (s : State) : storedBeam (writeLine b v s) b = v :=
  SMap.get_set_same _ _ _ _

/-- Every other line reads as before. -/
theorem storedBeam_writeLine_other {b c : BitVec 20} (v : Beam) (s : State) (h : c ≠ b) :
    storedBeam (writeLine b v s) c = storedBeam s c :=
  SMap.get_set_other _ _ _ fun hn => h (BitVec.eq_of_toNat_eq hn)

/-- A written line holds no symbol error. -/
theorem lineErr_writeLine_same (b : BitVec 20) (v : Beam) (s : State) : lineErr (writeLine b v s) b = {} :=
  SMap.get_erase_same _ _ _

theorem lineErr_writeLine_other {b c : BitVec 20} (v : Beam) (s : State) (h : c ≠ b) :
    lineErr (writeLine b v s) c = lineErr s c :=
  SMap.get_erase_other _ _ fun hn => h (BitVec.eq_of_toNat_eq hn)

/-! ### The canonical form of the tile register file's tables -/

theorem trfCanonical_setMort (i : BitVec 10) (e : Mortise) {s : State} (h : TrfCanonical s) : TrfCanonical (setMort i e s) :=
  ⟨h.1, h.2.1, SMap.wf_set _ h.2.2.1 _ _, h.2.2.2⟩

theorem trfCanonical_modMort (i : BitVec 10) (f : Mortise → Mortise) {s : State} (h : TrfCanonical s) : TrfCanonical (modMort i f s) :=
  trfCanonical_setMort i _ h

theorem trfCanonical_modPair (i : BitVec 10) (f : Mortise → Mortise) {s : State} (h : TrfCanonical s) : TrfCanonical (modPair i f s) :=
  foldOver_keeps TrfCanonical (fun _ _ => trfCanonical_modMort _ _) _ h

theorem trfCanonical_writeLine (b : BitVec 20) (v : Beam) {s : State} (h : TrfCanonical s) : TrfCanonical (writeLine b v s) :=
  ⟨SMap.wf_set _ h.1 _ _, SMap.wf_erase _ h.2.1 _, h.2.2⟩

theorem trfCanonical_strike (b : BitVec 20) (u : LineErr) {s : State} (h : TrfCanonical s) : TrfCanonical (strike b u s) := by
  unfold strike
  split
  · exact h
  · exact ⟨h.1, SMap.wf_set _ h.2.1 _ _, h.2.2⟩

theorem trfCanonical_report (r : Report) {s : State} (h : TrfCanonical s) : TrfCanonical (report r s) := h

theorem trfCanonical_fatal (r : Report) {s : State} (h : TrfCanonical s) : TrfCanonical (fatal r s) := h

theorem trfCanonical_setPoison (i : BitVec 10) {s : State} (h : TrfCanonical s) : TrfCanonical (setPoison i s) := trfCanonical_modPair i _ h

theorem trfCanonical_poisonWrite (i : BitVec 10) (b : BitVec 20) (p : Option (BitVec 8)) {s : State} (h : TrfCanonical s) :
    TrfCanonical (poisonWrite i b p s) :=
  trfCanonical_report _ (trfCanonical_setPoison i h)

theorem trfCanonical_mortWrite (i : BitVec 10) (b : BitVec 20) (v : Beam) (p : Bool) (pid : Option (BitVec 8)) {s : State}
    (h : TrfCanonical s) : TrfCanonical (mortWrite i b v p pid s) := by
  unfold mortWrite
  dsimp only
  split
  · exact trfCanonical_poisonWrite _ _ _ (trfCanonical_writeLine b v h)
  · exact trfCanonical_writeLine b v h

theorem trfCanonical_notePoisonEntry (r : Report) (q : BitVec 32) {s : State} (h : TrfCanonical s) :
    TrfCanonical (notePoisonEntry r q s) := by
  unfold notePoisonEntry
  split
  · refine ⟨h.1, h.2.1, ?_, h.2.2.2⟩
    dsimp only [State.onTrf_trf]
    split
    · exact SMap.wf_modify _ (SMap.wf_modify _ h.2.2.1 _ _) _ _
    · exact SMap.wf_modify _ h.2.2.1 _ _
  · exact h

theorem trfCanonical_signalNew (e : LogEntry) {s : State} (h : TrfCanonical s) : TrfCanonical (signalNew e s) := by
  unfold signalNew
  dsimp only
  split <;> exact h

theorem trfCanonical_noteDrop (r : Report) (q : BitVec 32) {s : State} (h : TrfCanonical s) :
    TrfCanonical (noteDrop r q s) := by
  unfold noteDrop
  split <;> exact h

theorem trfCanonical_writeNew (r : Report) {s : State} (h : TrfCanonical s) : TrfCanonical (writeNew r s) := by
  unfold writeNew
  dsimp only
  split
  · exact trfCanonical_signalNew _ (trfCanonical_noteDrop _ _ (trfCanonical_notePoisonEntry _ _ h))
  · split
    · split
      · exact trfCanonical_signalNew _ h
      · exact h
    · exact h

theorem trfCanonical_flushLog {s : State} (h : TrfCanonical s) : TrfCanonical (flushLog s) := by
  unfold flushLog
  refine foldOver_keeps (fun p : State × Nat => TrfCanonical p.1) (fun r p hp => ?_) _ h
  unfold logOne
  dsimp only
  split
  · exact hp
  · split
    · split <;> exact hp
    · split
      · exact hp
      · exact trfCanonical_noteDrop _ _ hp
      · split
        · exact trfCanonical_writeNew _ hp
        · exact hp

/-- The empty tables of reset are canonical. -/
theorem trfCanonical_reset : TrfCanonical State.reset := ⟨rfl, rfl, rfl, rfl, rfl, rfl, rfl, rfl, rfl⟩

end Sys2Proof.Machine
end

