-- ==== Sys2Proof/WellFormed.lean ====
section
/-!
DEFINITION. WellFormed.lean: which operands a command can carry.
-/
namespace Sys2Proof

/-- Symbol errors of one codeword: symbol numbers rise, each below 140, none with a difference of zero (R73). -/
def symbolsWf : Nat → List (Nat × BitVec 16) → Bool
  | _, [] => true
  | lo, (j, e) :: l => lo ≤ j && j < 140 && e != 0 && symbolsWf (j + 1) l

/-- Symbol errors of one line (R73). -/
def LineErr.wf (e : LineErr) : Bool := symbolsWf 0 e.cw0 && symbolsWf 0 e.cw1

/-- Lines by beam number, below 2^20, rising (R62). -/
def linesFrom : Nat → List (Nat × LineErr) → Bool
  | _, [] => true
  | lo, (b, e) :: l => lo ≤ b && b < 1048576 && e.wf && linesFrom (b + 1) l

/-- Lines that a purge reads back wrong (R98). -/
def linesWf (l : List (Nat × LineErr)) : Bool := linesFrom 0 l

/-- The value written is a reserved one: a bit outside the fields of `mask` is set, or the operation code in the low
bits is not below `ops` (R78, R108, R141, R172, R197, R231, R272, R329, R363, R369). -/
def reservedWord (mask : BitVec 64) (ops : Nat) (raw : BitVec 64) : Bool :=
  raw &&& ~~~mask != 0 || ops ≤ ((raw &&& mask) &&& 0xF).toNat

/-- The value written to DBG_CMD is a reserved one (R384). -/
def reservedDebug (raw : BitVec 64) : Bool := field raw 30 32 != 0 || field raw 62 2 == 3

/-- MOVE_CMD names the kind of the move (R324). -/
def moveKind (kind : BitVec 2) (raw : BitVec 64) : Bool := field raw 62 2 == kind

/-- A DATA packet carries as many beams as its header says, at least one (R256). -/
def beamsWf (h : Hdr) (beams : List (BitVec 4352)) : Bool := h.nbeam != 0 && beams.length = h.nbeam.toNat

/-- The operands of a command are such as the outside can send with it; the meanings are total all the same. -/
def Instr.wf (i : Instr) : Bool :=
  match i with
  | .vaonApplied | .vaonRemoved | .arstAssert .. | .arstDeassert .. | .mrstAssert .. | .mrstDeassert
  | .pwrokFall .. | .pwrokRise | .clkSeChange .. | .clockMonitorMeasure .. | .bootEntry | .flashDiscovery ..
  | .discoveryRetry | .slotHeadersRead .. | .sectionDataReceived .. | .slotUndoComplete | .bootComplete
  | .bootFifoWrite .. | .bootStreamTimeout | .hostCmdNop .. | .hostPause .. | .hostResume .. | .hostKill ..
  | .killPurgeStart | .mcmdNop .. | .mcmdRead .. | .mcmdWrite .. | .mcmdFree .. | .mcmdSetEmpty ..
  | .mcmdSetFull .. | .mcmdRetire .. | .mcmdAckUe .. | .mcmdClearPoison .. | .rangeClearComplete ..
  | .scrubPassComplete | .ceBankWrite .. | .bsNop .. | .bsValidate .. | .bsInvalidate .. | .braceWordWrite ..
  | .gatherEntry .. | .issueDelivery .. | .braceSetSwitch .. | .operandCredit .. | .drain .. | .cap .. | .ack ..
  | .abortRecordSend .. | .drainNetworkEntry .. | .epPresentRise .. | .epPresentFall .. | .epFaultAssert ..
  | .trainingTimeout .. | .operandStallTimeout .. | .drainStallTimeout .. | .abortAckTimeout .. | .portCmdNop ..
  | .portRetrain .. | .portOffline .. | .portOnline .. | .portResetEnd .. | .sinterUpdateEnqueue ..
  | .sinterCombine .. | .sequencerRelease .. | .sinterHotQueue .. | .tallyFoldComplete .. | .tallyNop ..
  | .tallyClear .. | .tallyFold .. | .sntHotWrite .. | .phPush .. | .phStat .. | .tokRead .. | .phAbort ..
  | .schPush .. | .recordAdmit | .admissionCheck .. | .phaseWaitsSatisfied .. | .phaseStart ..
  | .phaseTokenTimeout .. | .interiorBoundary .. | .phaseFinish .. | .phaseAbortComplete .. | .schNop ..
  | .schAbort .. | .schAbortSlot .. | .schFlush .. | .schQresume .. | .laySubmit .. | .transferSlotEntry
  | .transferWaitsSatisfied .. | .tileBufferGrant .. | .transferTokenTimeout .. | .transferComplete ..
  | .transferAbortComplete .. | .layNop .. | .layAbort .. | .layFlush .. | .memRequestAccept .. | .memWriteBeat ..
  | .memReadBeat .. | .memWriteResponse .. | .memTimeout .. | .stagingCommit .. | .arbitrationDecision ..
  | .preemption .. | .backoffExpiry .. | .join .. | .propose .. | .commit .. | .leave .. | .refuse .. | .normUp ..
  | .normResult | .normDown .. | .barUp .. | .barDown .. | .abort .. | .dieReport .. | .crownCommit .. | .take ..
  | .taken .. | .give .. | .given .. | .linkCreditReturn .. | .bypassForward .. | .joinRetry | .joinCommitTimeout
  | .epochPropose | .colNop .. | .colSubmit .. | .colAbort .. | .colFlush .. | .colJoin .. | .colLeave ..
  | .hierCfgWrite .. | .collectiveStart | .collectiveComplete | .collectiveTokenTimeout | .progressTimeout
  | .perfAckFall .. | .perfAckRise .. | .perfAckFallTimeout | .perfAckRiseTimeout | .sensorRefresh ..
  | .thermInAssert .. | .thermInRelease .. | .droopAssert .. | .droopRelease .. | .inputStuckTimeout ..
  | .quenchAssert .. | .quenchRelease .. | .quenchLatch | .instanceCold | .staggerEnd | .rampStep | .hintExpiry
  | .pathMonitorZero .. | .coreInstruction .. | .coreException .. | .coreInterrupt | .mret | .wfi | .fence
  | .registerPathLoad .. | .registerPathStore .. | .apertureLoad .. | .apertureStore .. | .watchdogExpiry
  | .wdogKick .. | .moveComplete | .hostClaim .. | .hostRelease .. | .registerWrite .. | .shadowRegisterWrite ..
  | .ringConfigWrite .. | .doorbell .. | .woFence .. | .woNop .. | .woRefused .. | .woCompletion .. | .setAddr ..
  | .write64 .. | .read64 .. | .status .. | .mboxGet .. | .alertResponse .. | .smbusClockLowTimeout | .inDone ..
  | .outPost .. | .cfgNop .. | .raise .. | .force .. | .cancel .. | .sync .. | .raiseApply | .errNop .. | .pop ..
  | .clear .. | .dbgNop .. | .dataRead .. | .raw .. | .dftModeAssert | .dftModeDeassert | .bondTest ..
  | .mbistRun .. | .mbistResult | .mtaRead .. | .monRead | .pwrTest .. | .rootclkStop | .railFallBeforePwrok
  | .reservedDrainKind .. | .proposalUnanswered => true
  | .purgeComplete bad => linesWf bad
  | .sectionTableRead bytes => bytes.length % 16 = 0 && 0 < bytes.length && bytes.length ≤ 1024
  | .hostCmdReserved _ x => reservedWord 0xF 4 x
  | .mcmdReserved _ x => reservedWord 0x3FF000F 9 x
  | .scrubRead _ upset => upset.wf
  | .bsReserved _ x => reservedWord 0x3F0F 3 x
  | .operandRead _ _ upset _ => upset.wf
  | .indexRead _ _ upset _ => upset.wf
  | .gatherRead _ upset _ => upset.wf
  | .portCmdReserved _ x => reservedWord 0xF0F 4 x
  | .sinterRead _ upset => upset.wf
  | .tallyCmdReserved _ x => reservedWord 0x30F 3 x
  | .schCmdReserved _ x => reservedWord 0xFFFFFFFF000F 5 x
  | .layCmdReserved _ x => reservedWord 0xFFFFFFFF000F 3 x
  | .sidePortBeat _ upset => upset.line.wf
  | .data _ hdr beams _ _ => beamsWf hdr beams
  | .reservedPacket _ p _ => !p.flits.isEmpty
  | .colCmdReserved _ x => reservedWord 0xFFFFFFFF000F 6 x
  | .collectivePacketSend _ upset => upset.wf
  | .governorEvaluation act => act.length = 16 && act.all fun a => a.length = 8
  | .trimEvaluation slacks => slacks.length = 16
  | .moveTcmToTrf _ x => moveKind 0 x
  | .moveTrfToTcm _ x => moveKind 1 x
  | .moveMemToTcm _ x => moveKind 2 x
  | .moveTcmToMem _ x => moveKind 3 x
  | .woRecords _ _ objs _ => objs.length ≤ 4096
  | .woDescs _ _ objs _ => objs.length ≤ 4096
  | .woCollectives _ _ objs _ => objs.length ≤ 4096
  | .mboxPut bytes _ => bytes.length ≤ 255
  | .ventReservedCommand call => call.badProtocol || call.code == 0 || 7 ≤ call.code.toNat
  | .cfgRaiseReserved _ x => reservedWord 0xF 5 x
  | .errCmdReserved _ x => reservedWord 0x3 3 x
  | .dbgCmdReserved _ x => reservedDebug x
  | .debugReadComplete upset => upset.wf
  | .tapBypass op => !op.trstN || op.code != 5
  | .budgetReservedSub _ _ sub => sub == 0 || 5 ≤ sub.toNat

end Sys2Proof
end

