-- ==== Sys2Proof/Tests/Slice0.lean ====
section
/-!
SUPPORT. Tests/Slice0.lean: the model's own tests. For each statement, states and operands that meet its hypotheses, clause
by clause, and what the command does there; and for each check of WellFormed a term it refuses. Expected values are worked
out from the rules of spec/ by hand.
-/
namespace Sys2Proof.Tests

set_option Elab.async false
open Sys2Proof Sys2Proof.Machine

/-- The block in READY with the core running. -/
def lit : State :=
  { ({} : State) with
    aon := { ({} : Aon) with st := .ready, prev := .boot, arstN := true, mrstN := true, pwrok := true }
    trf := { ({} : Trf) with lost := false }
    core := { ({} : Core) with run := .running, pc := 0x80 } }

/-- The state a command leaves. -/
def after (c : Instr) (s : State) : State :=
  match exec c s with
  | .next t => t
  | _ => {}

/-- Two BCLK on: the CCLK in which a command was taken is over. -/
def cclk (s : State) : State := match step s with
  | .next t => (match step t with
    | .next u => u
    | _ => {})
  | _ => {}

/-- A state is settled, decided. -/
abbrev settledB (s : State) : Prop :=
  s.log.raised = [] ∧ s.aon.fatalDue = false ∧ (s.aon.st = .ready → anyPhase s = false) ∧
    (s.aon.st = .run → anyPhase s = true ∨ s.sched.queue ≠ [] ∨ drainsDone s = false) ∧
    (s.core.run = .wfi → ¬ (meip s = true ∧ bitAt s.core.mie 11 = true))

theorem settled_of {s : State} (h : settledB s) : Settled s :=
  ⟨⟨h.1, h.2.1⟩, ⟨h.2.2.1, h.2.2.2.1⟩, h.2.2.2.2⟩

/-- The firmware may write a register of the owner class, decided. -/
abbrev fw (o : Owner) (s : State) : Prop := o ≠ .vent ∧ mainOn s = true ∧ s.core.run ≠ .halted

theorem fw_writes {o : Owner} {s : State} : fw o s ↔ Writes .firmware o s := Iff.rfl

/-- One entry of the mortise table put in place. -/
def withMort (i : Nat) (e : Mortise) (s : State) : State := s.onTrf fun t => { t with mort := t.mort.set {} i e }

/-- READY with entry 3 FULL over beams 8 to 11. -/
def full3 : State := withMort 3 { base := 8, len := 4, fmt := 1, pcount := 1, ccount := 2, st := .full } lit

/-- READY with W0 and W1 asking for beam 5. -/
def asked : State := { lit with trf := { lit.trf with w0 := 0x0000000000100005, w1 := 0x0101 } }

/-- The same with entry 3 twinned to entry 4. -/
def twins : State := withMort 4 { base := 12, len := 4, fmt := 1, twin := 3, twinV := true, st := .full }
  (withMort 3 { base := 8, len := 4, fmt := 1, twin := 4, twinV := true, st := .full, uePend := true } full3)

/-- READY with W0 and W1 asking for a twin of entry 4. -/
def askedTwin : State := withMort 4 { base := 12, len := 1, layout := 1, pcount := 1, ccount := 1, pleft := 1, cleft := 1, st := .empty }
  { lit with trf := { lit.trf with w0 := 0x0404000000100005, w1 := 0x0101 } }

theorem test_MortiseCommandsTakeEffect :
    settledB full3 ∧ fw .host full3 ∧ (mortAt full3 3).valid = true ∧ pairRefd full3 3 = false ∧
    (∀ j ∈ pairOf full3 3, mortRefs full3 j = 0 ∧ (mortAt full3 j).st ≠ .clearing) ∧ pairUe full3 3 = false ∧
    (mortAt (after (.mcmdFree .firmware 3) full3) 3).st = .invalid ∧
    (mortAt (after (.mcmdSetEmpty .firmware 3) full3) 3).st = .empty ∧
    (mortAt (after (.mcmdSetFull .firmware 3) full3) 3).cleft = 2 ∧
    (mortAt (after (.mcmdRetire .firmware 3) full3) 3).st = .retired ∧
    (after (.mcmdRead .firmware 3) full3).trf.w1 = mortW1 full3 3 ∧
    writeCheck asked 3 (newEntry asked.trf.w0 asked.trf.w1) = 0 := by decide +kernel

theorem test_MortiseCommandsTakeEffect_2 :
    (mortAt (after (.mcmdWrite .firmware 3) asked) 3).base = 5 ∧ full3.trf.mbusy = false ∧ pairOf twins 3 = [3, 4] ∧
    (mortAt (after (.mcmdAckUe .firmware 4) twins) 3).uePend = false ∧
    (mortAt (after (.mcmdFree .firmware 3) twins) 4).st = .invalid ∧
    (after (.mcmdNop .firmware 0) full3).trf.mbusy = true ∧
    (after (.mcmdFree .firmware 3) (after (.mcmdNop .firmware 0) full3)).trf.mlost = true ∧
    (mortAt (after (.mcmdClearPoison .firmware 3) (withMort 3 { len := 4, st := .full, poison := true } lit)) 3).poison = false ∧
    (mortAt (after (.mcmdSetEmpty .firmware 3) (withMort 3 { len := 4, st := .full, clear := true } lit)) 3).st = .clearing ∧
    writeCheck askedTwin 3 (newEntry askedTwin.trf.w0 askedTwin.trf.w1) = 0 ∧
    (mortAt (after (.mcmdWrite .firmware 3) askedTwin) 4).twin = 3 := by decide +kernel

/-- READY with entry 3 RETIRED; and with entry 3 named by a bulk move. -/
def retired3 : State := withMort 3 { len := 4, st := .retired } lit
def refd3 : State := full3.onCore fun c => { c with move := some { mort := 3, kind := 1, count := 1 } }

theorem test_RefusedMortiseCommandsChangeNoEntry :
    settledB lit ∧ writeCheck lit 3 (newEntry lit.trf.w0 lit.trf.w1) ≠ 0 ∧ (mortAt lit 3).st = .invalid ∧
    (after (.mcmdFree .vent 3) lit).trf.code = 0 ∧ (after (.mcmdFree .firmware 3) lit).trf.code = 8 ∧
    (after (.mcmdFree .firmware 3) lit).log.entries.length = 1 ∧ mcmdReservedWord 0x30F = true ∧
    (after (.mcmdReserved .firmware 0x30F) lit).trf.code = 8 ∧ (mortAt retired3 3).st = .retired ∧
    (after (.mcmdWrite .firmware 3) retired3).trf.code = 7 ∧ (after (.mcmdAckUe .firmware 3) retired3).trf.code = 7 ∧
    pairRefd refd3 3 = true := by decide +kernel

theorem test_RefusedMortiseCommandsChangeNoEntry_2 :
    (after (.mcmdFree .firmware 3) refd3).trf.code = 0x0B ∧ (after (.mcmdSetFull .firmware 3) refd3).trf.code = 0x0B ∧
    otherRefs refd3 3 = 1 ∧ (after (.mcmdRetire .firmware 3) refd3).trf.code = 0x0B ∧
    (after (.mcmdRetire .firmware 3) twins).trf.code = 0x0A ∧
    (∀ j ∈ pairOf (withMort 3 { st := .clearing } lit) 3, otherRefs (withMort 3 { st := .clearing } lit) j = 0) ∧
    (after (.mcmdSetFull .firmware 3) (withMort 3 { st := .clearing } lit)).trf.code = 8 ∧ pairRefd twins 3 = false ∧
    pairUe twins 3 = true ∧ (after (.mcmdClearPoison .firmware 3) twins).trf.code = 8 ∧
    mortAt (after (.mcmdClearPoison .firmware 3) twins) 3 = mortAt twins 3 := by decide +kernel

/-- READY with entry 3 CLEARING beams 8 to 11. -/
def clearing3 : State :=
  (withMort 3 { base := 8, len := 4, fmt := 1, st := .clearing } lit).onTrf fun t => { t with beams := [(9, 5), (12, 7)] }

/-- READY with patrol scrub running. -/
def scrubbing : State := lit.onCfg fun c => { c with active := { c.active with scrub := 0x10001 } }

/-- The same with every beam of the range committed; and with the zero beam of its second beam staged in bay 0. -/
def cleared3 : State := clearing3.onTrf fun t => { t with clearAt := [(96, 4)] }
def staging3 : State := clearing3.onBay 0 fun y =>
  { y with bufs := [[{ job := { beam := 9, key := 1, mort := 3 }, client := .clear 3 }]] }

/-- Every bay at the end of its pass, with symbol 139 of bank 0 corrected four times. -/
def passed : State := (lit.onCfg fun c => { c with active := { c.active with scrub := 0x40001 } }).onTrf fun t =>
  { t with scrubPos := (List.range 32).map fun b => (b, 32768), symHits := [(139, 4)] }

theorem test_LinesAreClearedAndScrubbed :
    settledB clearing3 ∧ isLive clearing3 = true ∧ (mortAt clearing3 3).holds 9 = true ∧
    (mortAt clearing3 3).holds 12 = false ∧ pairRefd clearing3 3 = true ∧ clearOver clearing3 3 = false ∧
    (after (.rangeClearComplete 3) clearing3) = clearing3 ∧ clearOver cleared3 3 = true ∧
    (mortAt (after (.rangeClearComplete 3) cleared3) 3).st = .empty ∧
    clearNext (after (.rangeClearComplete 3) cleared3) 3 0 = 0 ∧ primaryAt staging3 (bankIx 9) = false ∧ bayIx 9 = 0 ∧
    storedBeam (after (.stagingCommit 0) staging3) 9 = 0 ∧ storedBeam (after (.stagingCommit 0) staging3) 12 = 7 ∧
    clearNext (after (.stagingCommit 0) staging3) 3 0 = 2 := by decide +kernel

theorem test_LinesAreClearedAndScrubbed_2 :
    (after (.ceBankWrite .firmware 511 7) lit).trf.ceBank.get 0 511 = 7 ∧ scrubActive scrubbing = true ∧
    scrubAt scrubbing 31 = 0 ∧ scrubbing.arb.bay[31].owner = none ∧ inBackoff scrubbing 31 6 = false ∧
    clearUses scrubbing 31 = false ∧ (∀ r : Fin 8, r ≠ 6 → requesting scrubbing 31 r = false) ∧
    sideReadFree scrubbing (scrubBeam 31 0) = true ∧
    (after (.scrubRead 31 { cw0 := [(0, 1)] }) scrubbing).arb.bay[31].bufs.length = 1 ∧
    (∀ b : Fin 32, scrubAt passed b = 32768) ∧ symFaults passed = [139] ∧
    (after .scrubPassComplete passed).trf.passes = 1 ∧
    (after .scrubPassComplete passed).log.entries.map (·.code) = [0x0D] ∧
    (after (.scrubRead 31 {}) scrubbing).trf.scrubPos.get 0 31 = 1 := by decide +kernel

/-- PURGE at its end: a stored beam and two entries, one of them retired. -/
def purging : State :=
  ((withMort 4 { base := 8, len := 4, st := .retired } (withMort 3 { base := 20, len := 4, st := .full } lit)).onAon
    fun a => { a with st := .purge }).onTrf fun t => { t with purging := true, beams := [(8, 5)] }

/-- PURGE after a job kill, before its purge. -/
def killed : State := (lit.onAon fun a => { a with st := .purge, killed := true })

theorem test_PurgeClearsTheFile :
    settledB purging ∧ (after (.purgeComplete []) purging).aon.st = .ready ∧
    (after (.purgeComplete []) purging).trf.beams = [] ∧
    (after (.purgeComplete []) purging).trf.mort.map Prod.fst = [4] ∧
    (readLine 0 { cw1 := [(3, 1), (7, 1), (139, 1)] }).ue = true ∧
    (after (.purgeComplete [(12, { cw1 := [(3, 1), (7, 1), (139, 1)] })]) purging).aon.st = .fault ∧
    (after (.purgeComplete [(12, { cw1 := [(3, 1), (7, 1), (139, 1)] })]) purging).trf.verifyFail = true ∧
    (after (.purgeComplete [(12, { cw1 := [(3, 1), (7, 1), (139, 1)] })]) purging).trf.purgeFails = 1 ∧
    (after (.purgeComplete [(12, { cw1 := [(3, 1), (7, 1), (139, 1)] })]) purging).log.entries.map (fun x => (x.code, x.loc)) = [(0x0C, eccLoc false true 0xFF 12)] ∧
    (readLine 0 { cw0 := [(3, 1)] }).ce = true ∧
    (after (.purgeComplete [(12, { cw0 := [(3, 1)] })]) purging).trf.ceTotal = 1 ∧
    (after (.purgeComplete [(12, { cw0 := [(3, 1)] })]) purging).aon.st = .ready ∧ settledB killed ∧
    (∀ p ∈ killed.layout.slot.toList, p.st = .free) ∧
    (after .killPurgeStart killed).trf.purging = true := by decide +kernel

/-- EMBER. -/
def ember : State := lit.onAon fun a => { a with st := .ember }

/-- PAUSE. -/
def paused : State := lit.onAon fun a => { a with st := .pause }

theorem test_BlockCommandsTakeEffect :
    settledB paused ∧ fw .both lit ∧ (after (.hostPause .firmware) lit).aon.st = .pause ∧
    (after (.hostPause .firmware) lit).core.irqState = true ∧
    (after (.hostResume .firmware) (cclk (after (.hostPause .firmware) lit))).aon.st = .ready ∧
    (after (.hostResume .firmware) (after (.hostPause .firmware) lit)).aon.st = .pause ∧ lit.core.cmdBusy = false ∧
    (after (.hostPause .firmware) paused).aon.st = .pause ∧ (after (.hostResume .firmware) lit).aon.st = .ready ∧
    isLive lit = true ∧ (after (.hostKill .firmware) lit).aon.st = .purge ∧ hostReservedWord 0xF = true ∧
    (after (.hostCmdReserved .firmware 0xF) lit).core.cmdCode = 0x8C ∧ settledB ember ∧
    (after (.hostPause .firmware) ember).core.cmdCode = 0x8C := by decide +kernel

theorem test_OwnershipAndWatchdog :
    (after (.hostClaim (.host 5)) lit).core.ownerId = 5 ∧ (after (.hostClaim (.host 5)) lit).core.owned = true ∧
    (after (.hostRelease .vent) (after (.hostClaim (.host 5)) lit)).core.owned = false ∧
    (after (.hostRelease (.host 6)) (after (.hostClaim (.host 5)) lit)).core.owned = true ∧
    (after .watchdogExpiry (lit.onCore fun c => { c with period := 1 })).aon.st = .fault ∧
    (after (.hostClaim (.host 6)) (after (.hostClaim (.host 5)) lit)).aon.hpRsp = (1#2) ++ (0 : BitVec 64) ∧
    (after .watchdogExpiry (lit.onCore fun c => { c with period := 1, wdogOut := true })).aon.st = .ready ∧
    (after .watchdogExpiry ((lit.onAon fun a => { a with st := .purge }).onCore fun c => { c with period := 1 })).aon.pendFatal = true ∧
    (after (.wdogKick .firmware 0x100000007) (lit.onCore fun c => { c with wdog := 9 })).core.wdog = 0 := by decide +kernel

/-- READY with a bulk-move address that names entry 3. -/
def movable : State := full3.onCore fun c => { c with moveAddr := 0x300000 }

/-- READY with an ended move of two granules from memory; and with memory windows over the bulk-move address. -/
def moved : State := lit.onCore fun c => { c with move := some { kind := 2, count := 2, started := true } }
def memMovable : State := (lit.onCfg fun c =>
  { c with active := { c.active with win := [(0, 0xE000000000000000), (1, 0xFF), (2, 0x40)] } }).onCore
    fun c => { c with moveAddr := 0x10000 }

theorem test_BulkMovesStartAndEnd :
    settledB movable ∧ unitsOn movable = true ∧ movable.core.move = none ∧ moveOk memMovable 2 2 0x400 = true ∧
    moveOk memMovable 3 2 0x400 = true ∧
    ((after (.moveMemToTcm .firmware 0x8000000200000400) memMovable).core.move.map fun m => (m.count, m.daddr)) = some (2, 0x10000) ∧
    ((after (.moveTcmToMem .firmware 0xC000000200000400) memMovable).core.move.map (·.tcm)) = some 0x400 ∧
    settledB moved ∧ moveOver moved { kind := 2, count := 2, started := true } = true ∧
    (after .moveComplete moved).core.move = none ∧ moveOk movable 0 2 0x400 = true ∧ moveOk movable 1 4 0x400 = true ∧
    ((after (.moveTcmToTrf .firmware 0x0000000200000400) movable).core.move.map fun m => (m.mort, m.left)) = some (3, [0, 1]) ∧
    ((after (.moveTrfToTcm .firmware 0x4000000400000400) movable).core.move.map (·.left)) = some [0, 1, 2, 3] := by decide +kernel

/-- READY with memory windows and ring 1 of two entries, and with a NOP in slot 0, its HEAD one on. -/
def ringed : State := memMovable.onCore fun c =>
  { c with ring := vmod c.ring 1 fun r => { r with log2 := 1, base := 0x4000 } }
def rung : State := after (.doorbell .firmware 1 1) ringed

/-- A work order of an opcode, with one object and an interrupt; a NOP. -/
def orderOf (op : BitVec 512) (n : BitVec 512) : BitVec 512 := 0x10002 ||| op <<< 8 ||| n <<< 192
def nopOrder : BitVec 512 := 0x0502

/-- The work order w of ring 1 served, or to be completed. -/
def serving (w : BitVec 512) (n : Nat) (s : State) : State := s.onCore fun c => { c with wo := some { ring := 1, wo := w, fetched := n } }

theorem test_RingsAndCompletions :
    settledB ringed ∧ (after (.ringConfigWrite .firmware 0 0x0030000000004000) lit).core.ring[0].log2 = 3 ∧
    (after (.ringConfigWrite .firmware 0 0x0030000000004001) lit).core.ring = lit.core.ring ∧
    (after (.ringConfigWrite .firmware 1 0x0030000000004000) rung).core.ring = rung.core.ring ∧
    (after (.ringConfigWrite .firmware 1 0x0030000000004000) rung).log.entries.map (·.code) = [0x8A] ∧
    rung.core.irqBell = true ∧ rung.core.ring[1].head = 1 ∧
    (after (.doorbell .firmware 1 2) ringed).core.ring[1].head = 2 ∧
    (after (.doorbell .firmware 1 3) ringed).core.ring[1].head = 0 ∧
    (after (.doorbell .firmware 1 3) ringed).log.entries.map (·.code) = [0x8A] ∧
    (after (.doorbell .firmware 0 1) ringed).core.ring[0].head = 0 ∧ woServes rung = true ∧
    ((after (.woNop 1 nopOrder) rung).core.wo.map (·.done)) = some true ∧
    (after (.woCompletion true) (after (.woNop 1 nopOrder) rung)).core.ring[1].tail = 1 ∧
    (after (.woCompletion true) (after (.woNop 1 nopOrder) rung)).core.rrNext = 2 := by decide +kernel

theorem test_WorkOrdersAreServed :
    Wo.opcode nopOrder = 5 ∧ Wo.ok nopOrder = true ∧ ringDue rung = some 1 ∧ ringSlot rung.core.ring[1] = 0x4000 ∧
    ((moveWindow rung false 0x4000 1).map fun w => fetchFree rung (w.phys 0x4000)) = some true ∧
    (after (.woNop 1 nopOrder) rung).core.wo.map (·.code) = some 0 ∧
    (after (.woFence 1 0x0402) rung).core.wo.map (·.code) = some 0 ∧ woKilled rung 1 = false ∧ fenceMet rung = true ∧
    (after (.woRefused 1 nopOrder 2) rung).core.wo.map (·.code) = some 0x88 ∧
    (after (.woRefused 1 0x0602 0) rung).core.wo.map (·.code) = some 0x88 := by decide +kernel

theorem test_WorkOrdersAreServed_2 :
    woKilled (rung.onCore fun c => { c with killHeads := [0, 1, 0, 0] }) 1 = true ∧
    (after (.woNop 1 nopOrder) (rung.onCore fun c => { c with killHeads := [0, 1, 0, 0] })).core.wo.map (·.code) = some 0xA0 ∧
    ([1, 2, 3].all fun op => Wo.ok (orderOf op 2) && Wo.count (orderOf op 2) = 2) = true ∧
    Wo.opcode (orderOf 3 2) = 3 ∧
    (after (.woRecords 1 (orderOf 1 1) [0] false) (rung.onCore fun c => { c with killHeads := [0, 1, 0, 0] })).core.wo.map (·.code) = some 0xA0 ∧
    (after (.woDescs 1 (orderOf 2 1) [0] false) (rung.onCore fun c => { c with killHeads := [0, 1, 0, 0] })).core.wo.map (·.code) = some 0xA0 ∧
    (after (.woCollectives 1 (orderOf 3 1) [0] false) (rung.onCore fun c => { c with killHeads := [0, 1, 0, 0] })).core.wo.map (·.code) = some 0xA0 ∧
    woServes (serving (orderOf 1 1) 1 lit) = true ∧
    (after (.woRecords 1 0 [0] false) (serving (orderOf 1 1) 1 lit)).core.wo.map (fun k => (k.code, k.done)) = some ((giveRecord 0 lit).1, true) ∧
    (after (.woDescs 1 0 [0] false) (serving (orderOf 2 1) 1 lit)).core.wo.map (·.code) = some 0x41 ∧
    (after (.woCollectives 1 0 [0] false) (serving (orderOf 3 1) 1 lit)).core.wo.map (fun k => (k.code, k.done)) = some ((giveCol 0 lit).1, true) := by decide +kernel

/-- RESET with the always-on domain up and the main domain's reset released. -/
def atReset : State :=
  { ({} : State) with aon := { ({} : Aon) with arstN := true, mrstN := true, pwrok := true } }

/-- The block without VAON. -/
def dark : State := { ({} : State) with aon := { ({} : Aon) with vaon := false, st := .off } }

theorem test_PowerAndClockEvents :
    settledB lit ∧ (after .vaonApplied dark).aon.st = .reset ∧ (after .vaonRemoved lit).aon.st = .off ∧
    (after .vaonRemoved lit).aon.drive = .free 0 ∧ railsStay lit = true ∧
    irqLines (lit.onAon fun a => { a with st := .off, drive := .held }) = 0 ∧
    irqLines (after .railFallBeforePwrok atReset) = 0 ∧ (after .railFallBeforePwrok lit).aon.drive = .free 0 ∧
    (after .railFallBeforePwrok lit).trf.lost = true ∧
    (irqLines lit, hostPins lit, memReqPins lit 0, engResetPin lit 3) = (0, 0, 0, 0) ∧
    engResetPin ((lit.onAon fun a => { a with drive := .normal }).onPort 3 fun q => { q with st := .training }) 3 = 1 ∧
    engResetPin ((lit.onAon fun a => { a with drive := .free 3, st := .reset }).onPort 3 fun q => { q with st := .training }) 3 = 0 ∧
    hostPins (lit.onAon fun a => { a with drive := .normal, hpRsp := 5 }) = 5 := by decide +kernel

theorem test_PowerAndClockEvents_2 :
    (after .rootclkStop lit).aon.rootclk = false ∧
    (after (.arstAssert false) (after .rootclkStop lit)).aon.arstN = true ∧
    (after (.clkSeChange true) atReset).aon.seQuiet = !atReset.aon.clkSe ∧
    (after (.clockMonitorMeasure 1620) lit).aon.badMeas = 0 ∧
    (after (.clockMonitorMeasure 7560) lit).aon.roMhz = 7560 ∧
    (after (.clockMonitorMeasure 7561) lit).aon.badMeas = 1 ∧
    (after (.clockMonitorMeasure 1619) (lit.onAon fun a => { a with badMeas := 3 })).aon.st = .fault ∧
    (after .dftModeAssert lit).aon.st = .reset ∧ settledB (after .dftModeAssert lit) ∧
    (after .dftModeDeassert (after .dftModeAssert lit)).aon.dft = false ∧
    (after (.clockMonitorMeasure 7561) (atReset.onAon fun a => { a with badMeas := 3, seQuiet := true })).aon.monFault = false ∧
    lit.aon.vaon = true := by decide +kernel

theorem test_ResetsClearTheirDomains :
    (after (.arstAssert true) full3).trf.mort = [] ∧ (after (.arstAssert true) full3).aon.arstN = false ∧
    (after (.arstDeassert 5 1 true) State.reset).aon.fabricId = 5 ∧ settledB State.reset ∧
    (after (.mrstAssert false) full3).trf.mort = [] ∧ (after (.mrstAssert false) full3).aon.st = .reset ∧
    (after (.pwrokFall true) lit).aon.pwrokChat = true ∧
    (after .mrstDeassert (after (.mrstAssert false) lit)).aon.mrstN = true ∧
    (after .pwrokRise (after (.pwrokFall true) lit)).aon.pwrok = true := by decide +kernel

theorem test_ResetsClearTheirDomains_2 :
    aonOn full3 = true ∧
    (after (.mrstAssert false) (lit.onAon fun a => { a with drive := .free 3, hpRsp := 5 })).aon.drive = .free 3 ∧
    (after (.mrstAssert false) (lit.onAon fun a => { a with drive := .normal, hpRsp := 5 })).aon.hpRsp = 0 ∧
    (after (.pwrokFall false) (lit.onAon fun a => { a with drive := .free 3 })).aon.drive = .held ∧
    (after (.arstDeassert 5 1 true) State.reset).aon.arstN = true ∧ (after (.pwrokFall false) full3).trf.lost = true ∧
    (after (.mrstAssert false) (full3.onAon fun a => { a with qState := .latched })).aon.qState = .latched ∧
    (after .mrstDeassert ((after (.mrstAssert false) lit).onAon fun a => { a with qState := .latched, qQuiet := 1125000 })).aon.qState = .clear ∧
    (after .mrstDeassert ((after (.mrstAssert false) lit).onLog fun l => { l with seq := 5 })).log.seq = 0 := by decide +kernel

/-- BOOT, with its purge done. -/
def booting : State := (after .bootEntry atReset).onTrf fun t => { t with purging := false }

/-- A flash that answers discovery. -/
def sfdp : SfdpResult := { sig := 0x50444653, major := 1, bfpt := true, words := 16, w1 := 0x400000, w2 := 0x01FFFFFF, w3 := 0,
                           qer := 0, qe := false }

/-- An image header: one section of 8 bytes at TCM 0x100, where the core starts (R354). -/
def header : BitVec 512 :=
  0x8063630b00000000000000000000000000000000000000000000000064e03b0d0000000000001234000001000000000000000080000000070001000205d00a7e

/-- Its section table. -/
def table : List (BitVec 8) := [1, 0, 0, 0, 80, 0, 0, 0, 8, 0, 0, 0, 0, 1, 0, 0]

/-- BOOT with that image's table read. -/
def loading : State := booting.onSeqr fun q =>
  { q with phase := .load, slots := [0], hdr0 := header, hdr := header, table := entriesOf table 1 }

/-- BOOT with the image in. -/
def loaded : State := loading.onSeqr fun q => { q with phase := .done, loaded := true }

theorem test_BootBeginsAndEnds :
    settledB atReset ∧ bootDue atReset = true ∧ (after .bootEntry atReset).aon.st = .boot ∧
    (after .bootEntry atReset).trf.purging = true ∧ (after .bootEntry atReset).aon.drive = .normal ∧ settledB loaded ∧
    (after .bootComplete loaded).aon.st = .ready ∧ (after .bootComplete loaded).core.pc = 0x100 ∧
    (after .bootComplete (booting.onSeqr fun q => { q with failed := true })).aon.st = .fault ∧
    (after .bootComplete (booting.onSeqr fun q => { q with failed := true })).aon.bStep = 6 ∧
    aclkEdge atReset = true ∧ aclkEdge { atReset with time := { root := 17 } } = false ∧
    (after .bootEntry { atReset with time := { root := 17 } }).aon.st = .reset ∧
    (after .bootComplete (loaded.onAon fun a => { a with qState := .latched })).aon.st = .ember := by decide +kernel

/-- BOOT with discovery done; the header with a newer SEQ. -/
def heading : State := after (.flashDiscovery sfdp) booting
def newer : BitVec 512 := header ||| (9 : BitVec 512) <<< 64

/-- A flash that reads 1-1-4 with 0x6B, two mode clocks and 6 wait states. -/
def quad : SfdpResult := { sfdp with w3 := 0x6B460000 }

theorem test_BootFindsItsImage :
    settledB booting ∧ bootIn booting .discovery = true ∧ sfdpOk sfdp = true ∧
    (after (.flashDiscovery sfdp) booting).aon.seqr.phase = .headers ∧
    (after (.flashDiscovery { sfdp with major := 2 }) booting).aon.seqr.phase = .retry ∧
    (heading.aon.bQuad, (after (.flashDiscovery quad) booting).aon.bQuad) = (true, true) ∧
    ((after (.flashDiscovery quad) booting).aon.seqr.rdCmd, (after (.flashDiscovery quad) booting).aon.seqr.rdMode, (after (.flashDiscovery quad) booting).aon.seqr.rdWait) = (0x6B, 2, 6) ∧
    ((after (.flashDiscovery { quad with qer := 2 }) booting).aon.seqr.rdCmd, (after (.flashDiscovery { quad with qer := 2 }) booting).aon.seqr.rdWait) = (0x0B, 8) ∧
    densityOf sfdp.w2 = 0x400000 ∧ (flashAddr heading 0 0x40, flashAddr heading 1 0x40) = (0x40, 0x200040) ∧
    (after .discoveryRetry (after (.flashDiscovery { sfdp with major := 2 }) booting)).aon.seqr.phase = .discovery := by decide +kernel

theorem test_BootFindsItsImage_2 :
    (after (.slotHeadersRead header 0) (after (.flashDiscovery sfdp) booting)).aon.seqr.slots = [0] ∧
    (after (.slotHeadersRead 0 0) (after (.flashDiscovery sfdp) booting)).aon.seqr.phase = .failed ∧
    (after (.flashDiscovery { sfdp with major := 2 }) (booting.onSeqr fun q => { q with attempts := 2 })).aon.seqr.failed = true ∧
    slotsAllowed heading = [0, 1] ∧ ImgHdr.quickFault (lengthLimit heading) header = none ∧
    slotOrder (lengthLimit heading) [0, 1] header newer = [1, 0] ∧
    slotOrder (lengthLimit heading) [0, 1] newer header = [0, 1] ∧ ImgHdr.fault (lengthLimit heading) newer = none ∧
    (after (.slotHeadersRead header newer) heading).aon.seqr.slots.head? = some 1 ∧
    (after (.slotHeadersRead header newer) heading).aon.seqr.hdr = newer ∧
    (after (.slotHeadersRead header (newer ||| 0xFF00000000000)) heading).aon.seqr.slots.head? = some 0 := by decide +kernel

/-- The bytes HCRC covers. -/
def covered : List (BitVec 8) := leBytes 0x3C header.toNat ++ table

theorem crc_piece {a n : Nat} {c d : BitVec 32} (h : (covered.take a).foldl crc32Byte 0xFFFFFFFF = c)
    (k : ((covered.drop a).take n).foldl crc32Byte c = d) :
    (covered.take (a + n)).foldl crc32Byte 0xFFFFFFFF = d := by
  rw [List.take_add, List.foldl_append, h, k]

/-- The header's HCRC, computed by hand outside the model, is that of header and table (R354). -/
theorem test_header_crc : hcrcOk header table = true := by
  have a : (covered.take 0).foldl crc32Byte 0xFFFFFFFF = 0xFFFFFFFF := rfl
  have b := crc_piece (n := 16) (d := 4212675141) a (by decide +kernel)
  have c := crc_piece (n := 16) (d := 430420067) b (by decide +kernel)
  have d := crc_piece (n := 16) (d := 4146573983) c (by decide +kernel)
  have e := crc_piece (n := 16) (d := 3767820632) d (by decide +kernel)
  have f := crc_piece (n := 12) (d := ~~~0x8063630B) e (by decide +kernel)
  have g : covered.take (0 + 16 + 16 + 16 + 16 + 12) = covered := by decide +kernel
  rw [g] at f
  show (~~~(covered.foldl crc32Byte 0xFFFFFFFF) == ImgHdr.hcrc header) = true
  rw [f]; decide +kernel

/-- The header with a RESET_PC that is no multiple of 4, its HCRC again computed by hand. -/
def oddHeader : BitVec 512 :=
  0xb91aae0a00000000000000000000000000000000000000000000000064e03b0d0000000000001234000001020000000000000080000000070001000205d00a7e

/-- Its HCRC is right, its RESET_PC is not (R354). -/
theorem test_odd_header : hcrcOk oddHeader table = true ∧ hcrcOk (oddHeader ^^^ (1 : BitVec 512) <<< 480) table = false ∧
    tableFault oddHeader (entriesOf table 1) = some 0x14 := by
  have a : (leBytes 0x3C oddHeader.toNat ++ table).foldl crc32Byte 0xFFFFFFFF = ~~~0xB91AAE0A := by
    rw [show leBytes 0x3C oddHeader.toNat ++ table =
      ((leBytes 0x3C oddHeader.toNat ++ table).take 16 ++ ((leBytes 0x3C oddHeader.toNat ++ table).drop 16).take 16) ++
      (((leBytes 0x3C oddHeader.toNat ++ table).drop 32).take 16 ++ ((leBytes 0x3C oddHeader.toNat ++ table).drop 48).take 16 ++
        (leBytes 0x3C oddHeader.toNat ++ table).drop 64) by decide +kernel]
    simp only [List.foldl_append]
    rw [show ((leBytes 0x3C oddHeader.toNat ++ table).take 16).foldl crc32Byte 0xFFFFFFFF = 4212675141 by decide +kernel,
      show (((leBytes 0x3C oddHeader.toNat ++ table).drop 16).take 16).foldl crc32Byte 4212675141 = 2068060163 by decide +kernel,
      show (((leBytes 0x3C oddHeader.toNat ++ table).drop 32).take 16).foldl crc32Byte 2068060163 = 3068187142 by decide +kernel,
      show (((leBytes 0x3C oddHeader.toNat ++ table).drop 48).take 16).foldl crc32Byte 3068187142 = 540420390 by decide +kernel]
    decide +kernel
  have b : leBytes 0x3C (oddHeader ^^^ (1 : BitVec 512) <<< 480).toNat = leBytes 0x3C oddHeader.toNat := by decide +kernel
  refine ⟨?_, ?_, by decide +kernel⟩ <;> simp only [hcrcOk, crc32c, b, a] <;> decide +kernel

/-- BOOT with the tables of that header read; with a REGS section of two entries; at its section's last byte, the CRC so
far 0 and ICRC right. -/
def tabled : State := booting.onSeqr fun q => { q with phase := .table, slots := [0], hdr := oddHeader }
def regs2 : List (BitVec 8) := [2, 0, 0, 0, 80, 0, 0, 0, 32, 0, 0, 0, 0, 0, 0, 0]
def entering (n : Nat) (w v : Nat) : State :=
  loading.onSeqr fun q => { q with table := entriesOf regs2 1, ofs := n, part := (leBytes 8 w ++ leBytes 8 v).take n }
def ending : State := loading.onSeqr fun q =>
  { q with ofs := 7, crc := 0, hdr := (header ^^^ ((ImgHdr.icrc header).setWidth 512 <<< 256)) |||
      ((~~~crc32Byte 0 0x13).setWidth 512 <<< 256) }

theorem test_BootLoadsItsSections :
    tableFault header (entriesOf table 1) = none ∧ settledB loading ∧
    (after (.sectionDataReceived [0x13]) loading).core.tcm.get 0 0x100 = 0x13 ∧
    (after (.sectionTableRead []) (booting.onSeqr fun q => { q with phase := .table, slots := [0] })).aon.bCode0 = 0x93 ∧
    bootIn tabled .table = true ∧ (after (.sectionDataReceived [0x13]) ending).aon.seqr.loaded = true ∧
    (after (.sectionDataReceived [0x13]) ending).aon.imageId = ImgHdr.imageId header ∧
    (after (.sectionDataReceived [0x12]) ending).aon.bCode0 = 0x96 ∧
    (after (.sectionDataReceived [0x13]) (loading.onSeqr fun q => { q with ofs := 7, table := q.table ++ entriesOf regs2 1 })).aon.seqr.sect = 1 := by decide +kernel

theorem test_BootLoadsItsSections_2 :
    (after (.sectionDataReceived [0x20]) (entering 0 0x20020 5)).aon.seqr.part = [0x20] ∧
    (after (.sectionDataReceived [0]) (entering 15 0x20020 5)).trf.ceThresh = 5 ∧
    (after (.sectionDataReceived [0]) (entering 15 0x20028 5)).aon.bCode0 = 0x95 ∧
    (after (.sectionDataReceived [0]) (entering 15 0x20028 5)).aon.seqr.phase = .undo ∧
    bootReg 0x1020020 5 lit = (false, lit) ∧ bootReg 0x20004 5 lit = (false, lit) ∧
    (bootReg 0x20010 0x10001 lit).2.cfg.active.scrub = 0x10001 ∧ (bootReg 0x81000 0 lit).1 = false ∧
    (bootReg 0x81000 0 lit).2.log.raised.length = 1 := by decide +kernel

/-- BOOT from the host, its stream just begun. -/
def streaming : State := (after .bootEntry (atReset.onAon fun a => { a with bootSrc := 3 }))

/-- BOOT from the host with n bytes in, its table of two sections read. -/
def streamed (n : Nat) : State := (after (.bootEntry) (atReset.onAon fun a => { a with bootSrc := 3 })).onSeqr fun q =>
  { q with phase := .load, hdr := header, stream := List.replicate n 0, table := entriesOf (table ++ [1, 0, 0, 0, 88, 0, 0, 0, 8, 0, 0, 0, 8, 1, 0, 0]) 2 }

theorem test_BootUndoesAndStreams :
    bootIn (loading.onSeqr fun q => { q with phase := .undo }) .undo = true ∧
    (after .slotUndoComplete (loading.onSeqr fun q => { q with phase := .undo })).core.tcm = [] ∧ settledB streaming ∧
    fromHost streaming = true ∧
    (after (.bootFifoWrite (.host 0) 0x0102) streaming).aon.seqr.stream = [2, 1, 0, 0, 0, 0, 0, 0] ∧
    (after .bootStreamTimeout streaming).aon.bCode0 = 0x97 ∧
    (after .slotUndoComplete (loading.onSeqr fun q => { q with phase := .undo })).aon.seqr.failed = true ∧
    (after .slotUndoComplete ((loading.onSeqr fun q => { q with phase := .undo }).onGov fun g => { g with slack := [(3, 7)], trim := 5 })).gov = { ({} : Gov) with slack := [(3, 7)] } ∧
    (after (.bootFifoWrite (.host 0) 0x8063630b00000000) (streaming.onSeqr fun q => { q with stream := leBytes 56 header.toNat })).aon.seqr.phase = .table ∧
    (after (.bootFifoWrite (.host 0) 0) (streaming.onSeqr fun q => { q with stream := List.replicate 56 0 })).aon.bCode0 = 0x92 ∧
    (after (.bootFifoWrite (.host 0) 0x1234567890ABCDEF) (streamed 80)).core.tcm.get 0 0x107 = 0x12 ∧
    (after (.bootFifoWrite (.host 0) 0x1234567890ABCDEF) (streamed 80)).aon.seqr.phase = .load ∧
    streamOpen lit = false ∧
    (after (.bootFifoWrite (.host 0) 1) lit).aon.hpRsp = (1 : BitVec 2) ++ (0 : BitVec 64) := by decide +kernel

/-- DFT mode with the TAP on; with a failure of bank 511 and mat 140, in tier 3, found; every tier and bank; sensor 0 read. -/
def dft : State := after .dftModeAssert lit
def failed1 : BitVec 9 × BitVec 8 × BitVec 11 × BitVec 16 := (511, 139, 2047, 5)
def everywhere : TestSel := { tiers := 7, banks := BitVec.allOnes 512 }
def sensed0 : State := after (.sensorRefresh (some 25) (some 0) none none) (lit.onAon fun a => { a with st := .boot })

theorem test_TestControllerInstructions :
    settledB dft ∧ tapOn dft = true ∧ (after (.bondTest 3 [4]) dft).dbg.shifted = [3, 4] ∧
    (after (.bondTest 3 [4]) lit).dbg.shifted = [] ∧
    (after (.mbistRun everywhere [failed1]) dft).dbg.mbist = [failed1] ∧
    (after (.mbistRun everywhere [failed1]) dft).trf.lost = true ∧
    (after (.mbistRun { everywhere with tiers := 3 } [failed1]) dft).dbg.mbist = [] ∧
    (after (.mbistRun { everywhere with banks := 1 } [failed1]) dft).dbg.mbist = [] ∧
    (after (.bondTest 5 [4]) lit).dbg.tdo = [false, true, false, true, false, false, false, false] ∧
    (after (.tapBypass ⟨4, true, [true]⟩) lit).dbg.mtaRefused = 1 ∧ (after (.mtaRead 5) lit).dbg.mtaRefused = 1 ∧
    (after (.tapBypass ⟨2, true, [true, false]⟩) lit).dbg.tdo = [false, true] := by decide +kernel

theorem test_TestControllerInstructions_2 :
    (after (.tapBypass ⟨2, true, [true, false]⟩) dft) = dft ∧
    (after .monRead sensed0).dbg.shifted.head? = some (tempByte 25) ∧
    (after .monRead (after (.mrstAssert false) sensed0)).dbg.shifted.head? = some (tempByte 25) ∧
    (sensed0.aon.sensed.get 0 1, sensed0.aon.sensed.get 0 2) = ((1 : BitVec 1) ++ tempByte 0, 0) ∧
    (after (.pwrTest [0x0102]) dft).dbg.shifted = [2, 1] ∧ (after (.tapBypass ⟨15, true, []⟩) lit).dbg.ir = 15 ∧
    (after .monRead lit).dbg.shifted.length = 20 ∧ mtaAdmitted dft = true ∧
    (after (.mtaRead 5) (dft.onTrf fun t => { t with lost := false, beams := [(5, 9)] })).dbg.shifted.length = 560 ∧
    (after .mbistResult (after (.mbistRun everywhere [failed1]) dft)).dbg.shifted.length = 7 ∧
    (after (.tapBypass ⟨0, true, [true, true, false]⟩) lit).dbg.tdo = [false, true, true] ∧
    (after (.tapBypass ⟨15, false, [true]⟩) dft).dbg.ir = 15 := by decide +kernel

/-- READY with PEC required. -/
def pecking : State := lit.onAon fun a => { a with pecReq := true }

theorem test_VentTransactionsTakeEffect :
    settledB lit ∧ aonOn lit = true ∧ (after (.setAddr ⟨0xC0008, 4⟩ none) lit).aon.vaddr = 0xC0008 ∧
    (after (.setAddr ⟨0xC0009, 4⟩ none) lit).aon.ventLast = 6 ∧
    (after (.setAddr ⟨8, 4⟩ (some false)) lit).aon.pecErrs = 1 ∧
    (after (.status false) (after (.setAddr ⟨0xC0009, 4⟩ none) lit)).aon.ventOut = [6] ∧
    (after (.mboxPut [1, 2] none) lit).aon.mboxIn = 0x0201 ∧
    (after (.mboxGet ⟨false, true⟩) (after (.outPost .firmware 2) lit)).aon.ventOut = [2, 0, 0] ∧
    (after (.alertResponse true) (lit.onAon fun a => { a with smbalert := true })).aon.smbalert = false ∧
    ventReserved 7 = true ∧ (after (.ventReservedCommand ⟨7, false⟩) lit).log.entries.length = 1 ∧
    (after .smbusClockLowTimeout lit).aon = lit.aon ∧ subWindow lit.aon.vaddr.toNat ≠ 0xE ∧
    (after (.read64 false) lit).aon.ventOut = 8 :: leBytes 8 0x0A7E05D002000000 ∧
    (after (.write64 ⟨1, 8⟩ (some true)) (after (.setAddr ⟨0xC0008, 4⟩ none) lit)).aon.pecReq = true ∧
    (after (.inDone .firmware) (after (.mboxPut [1] none) lit)).aon.inFull = false := by decide +kernel

theorem test_VentTransactionsTakeEffect_2 :
    lit.aon.pecReq = false ∧ (after (.setAddr ⟨8, 3⟩ none) lit).aon.ventLast = 3 ∧
    (after (.write64 ⟨1, 7⟩ none) (after (.setAddr ⟨0xC0008, 4⟩ none) lit)).aon.ventLast = 3 ∧
    (after (.write64 ⟨1, 8⟩ (some false)) lit).aon.ventLast = 4 ∧
    (after (.mboxPut [1] (some false)) lit).aon.inFull = false ∧
    (after (.setAddr ⟨8, 4⟩ none) pecking).aon.ventLast = 4 ∧ (after (.mboxPut [1] none) pecking).aon.ventLast = 4 ∧
    (after (.setAddr ⟨8, 4⟩ (some true)) pecking).aon.vaddr = 8 ∧
    (after (.mboxPut [1] none) (after (.mboxPut [1] none) lit)).aon.ventLast = 5 ∧
    (after (.mboxPut [] none) lit).aon.ventLast = 3 ∧
    (after (.mboxPut (List.replicate 33 0) none) lit).aon.ventLast = 3 ∧
    (after (.mboxGet ⟨false, true⟩) lit).aon.ventOut = [0] ∧
    ((after (.mboxGet ⟨false, true⟩) (after (.outPost .firmware 2) lit)).aon.outFull, (after (.mboxGet ⟨false, false⟩) (after (.outPost .firmware 2) lit)).aon.outFull) = (false, true) ∧
    (after (.alertResponse false) lit) = lit ∧
    (after (.ventReservedCommand ⟨1, true⟩) lit).log.entries.map (·.code) = [0x87] ∧
    regInfo 0x20020 = some { owner := .host, rw := 0xFFFFFFFF } := by decide +kernel

theorem test_VentTransactionsTakeEffect_3 :
    (after (.write64 ⟨5, 8⟩ (some true)) (after (.setAddr ⟨0x20020, 4⟩ none) lit)).aon.ventLast = 1 ∧
    (after (.write64 ⟨5, 8⟩ (some true)) (after (.setAddr ⟨0x20020, 4⟩ none) lit)).aon.vaddr = 0x20028 ∧
    plainReg 0xC0008 = true ∧ (regInfo 0xC0008).map (fun i => (i.owner, i.sh)) = some (.vent, false) ∧
    dbgReadRefused .vent 0x100 lit = true ∧
    (after (.read64 false) (lit.onAon fun a => { a with vaddr := 0xE0100 })).aon.ventLast = 2 ∧
    (after (.inDone .firmware) lit).aon.alert = lit.aon.alert ∧ dbgTurned .vent 0x8000000000000005 lit = true ∧
    (after (.write64 ⟨0x8000000000000005, 8⟩ (some true)) (after (.setAddr ⟨0xE0000, 4⟩ none) lit)).aon.ventLast = 2 ∧
    (after (.write64 ⟨0x8000000000000005, 8⟩ (some true)) (after (.setAddr ⟨0xE0000, 4⟩ none) lit)).aon.vaddr = 0xE0008 ∧
    (after (.write64 ⟨0x8000000000000005, 8⟩ (some true)) (after (.setAddr ⟨0xE0000, 4⟩ none) lit)).dbg = lit.dbg ∧
    writeTurned .vent 0xC0008 { owner := .vent } 1 lit = false ∧
    (after (.outPost .firmware 2) (after (.outPost .firmware 2) lit)).log.entries.map (·.code) = [0x86] ∧
    (after (.outPost .firmware 2) ((after (.outPost .firmware 2) lit).onLog fun l => { l with drops := vset l.drops 0 (some 4) })).log.drops[(0 : Fin 3)] = some 4 ∧
    (after (.outPost .firmware 2) (lit.onLog fun l => { l with drops := vset l.drops 0 (some 4) })).log.drops[(0 : Fin 3)] = none ∧
    (unitDrops 0xC0020 0x20000 (after (.outPost .firmware 2) lit), unitDrops 0xC0020 0x20000 lit) = (true, false) := by decide +kernel

theorem test_RegisterWritesReachTheirRegister :
    fw .host lit ∧ (after (.registerWrite .firmware 0x20020 (some 5)) lit).trf.ceThresh = 5 ∧
    (after (.registerWrite .vent 0x20020 (some 5)) lit).trf.ceThresh = 0x100 ∧
    (after (.registerWrite .vent 0x20020 (some 5)) lit).aon.ventLast = 1 ∧
    (after (.shadowRegisterWrite .firmware 0x20010 0x10001) lit).cfg.shadow.scrub = 0x10001 ∧
    (after (.shadowRegisterWrite .firmware 0x20010 0x10001) (after (.raise .firmware) lit)).cfg.shadow.scrub = 0 ∧
    regInfo 0xFFFFF8 = none ∧ (after (.registerWrite (.host 0) 0xFFFFF8 (some 1)) lit).trf = lit.trf ∧
    isShadow 0x20010 = true ∧ regRead 0x28010 scrubbing = 0x10001 ∧ regRead 0x20010 scrubbing = 0 ∧
    writeTurned .firmware 0x20020 { owner := .host, rw := 0xFFFFFFFF } 5 lit = false ∧
    (after (.registerWrite .vent 0xE0000 (some 0x8000000000000005)) lit).aon.ventLast = 2 ∧
    (after (.registerWrite .vent 0xE0000 (some 0x8000000000000005)) lit).dbg = lit.dbg ∧ plainReg 0x20020 = true ∧
    regHolds 0x20020 (regEffect .firmware 0x20020 0x500000005 lit) = 5 := by decide +kernel

theorem test_RegisterWritesReachTheirRegister_2 :
    regHolds 0x20010 (regEffect .firmware 0x20020 5 lit) = regHolds 0x20010 lit ∧ arbCfgOk 0x0000000100FAC688 = true ∧
    regHolds 0x81008 (regEffect .firmware 0x81008 0x0000000100FAC688 lit) = 0x0000000100FAC688 ∧ arbCfgOk 0 = false ∧
    (after (.registerWrite .firmware 0x81008 (some 0)) lit).log.entries.map (fun e => (e.code, e.unit)) = [(0x52, 0x5001)] ∧
    isProfile 0x300 = true ∧ (after (.registerWrite .firmware 0xA0300 (some 1)) lit).gov = lit.gov ∧
    govBad 0x18 0x41 = true ∧
    (after (.registerWrite .firmware 0xA0018 (some 0x41)) lit).log.entries.map (·.code) = [0x79] ∧
    (after (.registerWrite .firmware 0xA0018 (some 0x40)) lit).gov.ext = 0x40 ∧
    regHolds 0xD0040 (regEffect .firmware 0xD0040 0xFFFFFFFFFFFFFFFF lit) = maskBits 0 ∧
    (after (.registerWrite .firmware 0x20010 (some 1)) (after (.raise .firmware) lit)).cfg.shadow = lit.cfg.shadow ∧
    ownerDrops .firmware .vent = true ∧ (after (.registerWrite .firmware 0xC0008 (some 1)) lit).aon.pecReq = false ∧
    (after (.registerWrite (.host 3) 0x20020 none) lit).aon.hpRsp = (0 : BitVec 2) ++ (0x100 : BitVec 64) := by decide +kernel

/-- READY with a raise pending. -/
def raising : State := lit.onCfg fun c => { c with pending := true, code := 1 }

theorem test_RaisesExchangeTheSets :
    fw .both lit ∧ raiseAllowed lit = true ∧ (after (.raise .firmware) lit).cfg.pending = true ∧
    (after (.force .firmware) lit).cfg.forced = true ∧
    (after (.cancel .firmware) (cclk (after (.raise .firmware) (lit.onSched fun c => { c with qhalt := true })))).cfg.pending = false ∧
    (after (.sync .firmware) scrubbing).cfg.shadow.scrub = 0x10001 ∧ cfgReservedWord 5 = true ∧
    (after (.cfgRaiseReserved .firmware 5) lit).cfg.code = 0x9C ∧
    raiseDue (after (.raise .firmware) scrubbing) = true ∧
    (after .raiseApply (after (.raise .firmware) scrubbing)).cfg.shadow.scrub = 0x10001 := by decide +kernel

theorem test_RaisesExchangeTheSets_2 :
    (after .raiseApply (after (.raise .firmware) scrubbing)).cfg.active.scrub = 0 ∧
    (after .raiseApply ((after (.raise .firmware) lit).onCfg fun c => { c with active := { c.active with govFloor := 0x10 } })).gov.held.map (·.floor) = some 0x10 ∧
    lit.cfg.busy = false ∧ raiseAllowed (lit.onAon fun a => { a with st := .fault }) = false ∧
    (after (.force .firmware) (lit.onAon fun a => { a with st := .fault })).cfg.code = 0x9A ∧
    (after (.cancel .firmware) lit).cfg.code = 0x9A ∧ (after (.cancel .firmware) raising).cfg.pending = false ∧
    (after (.sync .firmware) raising).cfg.code = 0x9A ∧ (after (.raise .firmware) raising).cfg.code = 0 ∧
    (after (.cfgNop .firmware) (after (.raise .firmware) lit)).cfg.lost = true := by decide +kernel

/-- READY with one entry in the log. -/
def logged : State := after (.mcmdFree .firmware 3) lit

theorem test_ReportsReachTheLog :
    settledB logged ∧ logged.log.entries.any (·.matches { code := 0x08, mort := some 3, loc := 3 }) = true ∧
    logged.log.entries.any (·.matches { code := 0x08, mort := some 1023, loc := 1023 }) = false ∧
    isMasked (lit.onCfg fun c => { c with active := { c.active with errMask := [(0, 0x100)] } }) 8 = true ∧
    (after (.mcmdFree .firmware 3) (lit.onCfg fun c => { c with active := { c.active with errMask := [(0, 0x100)] } })).log.masked = 1 ∧
    (after (.mcmdFree .firmware 3) (cclk logged)).log.entries.map (·.rep) = [2] ∧
    (after (.mcmdFree .firmware 1023) (cclk logged)).log.entries.length = 2 ∧
    (settle (report { code := 8 } (lit.onLog fun l => { l with entries := List.replicate 64 {} }))).log.discarded = 1 ∧
    (settle (report { code := 0x11, drop := some 1 } (lit.onLog fun l => { l with entries := [{ code := 0x11, seq := 9 }], drops := l.drops.set 1 (some 9) }))).log.entries.map (·.rep) = [2] := by decide +kernel

theorem test_ReportsReachTheLog_2 :
    (after (.registerWrite .firmware 0xC0008 (some 1)) lit).log.drops.toList.filter (·.isSome) = [some 0] ∧
    (after (.registerWrite .firmware 0x20020 (some 1)) (after (.registerWrite .firmware 0xC0008 (some 1)) lit)).log.drops.toList.filter (·.isSome) = [] ∧
    (after (.registerWrite (.host 1) 0xE0000 (some 0x8000000000000005)) ((after (.registerWrite (.host 0) 0xC0008 (some 1)) lit).onAon fun a => { a with st := .fault })).log.drops.toList.filter (·.isSome) = [some 0] ∧
    (after (.registerWrite (.host 1) 0x20020 (some 5)) (after (.registerWrite (.host 0) 0xC0008 (some 1)) lit)).log.drops.toList.filter (·.isSome) = [] ∧
    (after (.errNop .firmware) logged).log.entries = logged.log.entries ∧
    (after (.errCmdReserved .firmware 3) logged).log.entries = logged.log.entries ∧
    (after (.pop .firmware) logged).log.entries = [] ∧
    (after (.clear .firmware) logged).log.seq = 1 := by decide +kernel

/-- READY with a raw read of beam 12, which holds 7. -/
def debugging : State := after (.raw .firmware 12) (lit.onTrf fun t => { t with beams := [(12, 7)] })

theorem test_DebugReadsStartAndDeliver :
    fw .both full3 ∧ (after (.dataRead .firmware 3 1) full3).dbg.req = some (false, 3, 9) ∧
    (after (.raw .firmware 1048575) full3).dbg.req = some (true, 0, 1048575) ∧
    dbgReservedWord 0xC000000000000000 = true ∧
    (after (.dbgCmdReserved .firmware 0xC000000000000000) full3).dbg.code = 0xA1 ∧
    (after (.dataRead .firmware 3 4) full3).dbg.code = 0xA1 ∧
    (after (.dataRead .firmware 7 0) full3).dbg.code = 0xA1 ∧
    (after (.dataRead .firmware 3 0) retired3).dbg.code = 7 ∧
    (after (.dataRead .firmware 3 0) (after (.dataRead .firmware 3 1) full3)).dbg.lost = true ∧
    dbgBlocked (full3.onAon fun a => { a with st := .purge }) = true ∧
    (after (.dataRead (.host 2) 3 0) (full3.onAon fun a => { a with st := .purge })).aon.hpRsp = (2 : BitVec 2) ++ (0 : BitVec 64) ∧
    full3.aon.bUnlock = false := by decide +kernel

theorem test_DebugReadsStartAndDeliver_2 :
    (after (.raw .vent 5) full3).aon.ventLast = 2 ∧
    (after (.raw .vent 5) full3).log.entries.map (fun e => (e.code, e.loc)) = [(0xA1, 0x8000000000000005)] ∧
    (after (.dataRead .vent 3 1) full3).log.entries.map (fun e => (e.code, e.loc)) = [(0xA1, 0x4000000000300001)] ∧
    (after (.raw .vent 5) (full3.onAon fun a => { a with bUnlock := true })).dbg.req = some (true, 0, 5) ∧
    reqAdmitted debugging 7 = true ∧ debugging.dbg.req = some (true, 0, 12) ∧ sideReadFree debugging 12 = true ∧
    debugging.arb.bay[bayIx 12].owner = none ∧ contenders debugging (bayIx 12) = [7] ∧
    (after (.debugReadComplete {}) debugging).dbg.req = none ∧
    (after (.debugReadComplete {}) debugging).dbg.data = storedLine 7 {} := by decide +kernel

/-- A phase record: port 0, A and B from entry 3, drains to entry 5, two steps of one tile, UNGUARDED, IRQ. -/
def rec1 : BitVec 2048 :=
  0x10000000000000000000000000000000000000000000000000000000000000000000000000000000000000000010000000000000000000000000000000000000000000000010000000000000000000000000000000000000000000000000000000000000000000000020000000000000000000000000000000000000000000000000000000000000000000000000000800500000000800380030000000000000000000000023f80000000000000000001000000000100811103

/-- A capability record: version 3, 16 by 16 tiles, 4 accumulators, 16 operand credits, FP32. -/
def cap1 : BitVec 512 := 0x00030001000100011004040402037E05

/-- READY with entries 3 FULL and 5 EMPTY, and the operating point of a bare image. -/
def fed : State :=
  ((withMort 3 { len := 4, st := .full } (withMort 5 { base := 0x100, len := 4, st := .empty } lit)).onTrf
    fun t => { t with beams := [(0, 0x1234), (1, 0x55)] }).onPorts
    fun t => { t with port := vmod t.port 0 fun q => { q with st := .agreed, present := true, cap := cap1, ver := 3,
                                                              capSeen := true, opCred := 16, drCred := 32 } }

/-- RUN with that phase in ISSUE in slot 0. -/
def issuing : State :=
  ((fed.onAon fun a => { a with st := .run }).onGov fun g =>
    { g with cold := false, bent := vmod g.bent 0 fun b => { b with opc := 0x40 } }).onSlot 0 fun _ =>
    { st := .issue, rcd := rec1, brace := 0x10000, switched := true, bents := [{ id := 0, ports := 1 }],
      streams := [{ side := .a }, { side := .b }] }

/-- The same with a beam at the head of each stream. -/
def ready1 : State := issuing.onSlot 0 fun p =>
  { p with streams := [{ side := .a, next := 1, fifo := [{ data := 7 }] }, { side := .b, next := 1, fifo := [{ data := 9 }] }] }

/-- RUN with a phase of the loop-back bent whose routes are not loaded. -/
def looping : State := issuing.onSlot 0 fun p => { p with switched := false, bents := [{ id := 16 }] }

theorem test_BraceSetsAndTheirSwitch :
    fw .host lit ∧ (after (.bsValidate .firmware 0) lit).truss.code = 0x10 ∧
    (after (.bsValidate .firmware 0) (after (.braceWordWrite .firmware 0 0 0x10000) lit)).truss.valid = 1 ∧
    (after (.bsInvalidate .firmware 63) lit).truss.code = 0 ∧ bsReservedWord 3 = true ∧
    (after (.bsReserved .firmware 3) lit).truss.code = 0x12 ∧ portsTaken issuing 0 = false ∧
    (after (.braceSetSwitch 0) (issuing.onSlot 0 fun p => { p with switched := false })).sched.slot[0].switched = true ∧
    ((after (.braceSetSwitch 0) (issuing.onSlot 0 fun p => { p with switched := false })).truss.route.get {} 0).active = true := by decide +kernel

theorem test_BraceSetsAndTheirSwitch_2 :
    settledB lit ∧ lit.truss.busy = false ∧ (after (.bsNop .firmware 0) lit).truss.busy = true ∧
    (after (.bsInvalidate .firmware 1) (after (.bsNop .firmware 0) lit)).truss.lost = true ∧
    (after (.bsValidate .firmware 0) (lit.onTruss fun t => { t with valid := 1 })).truss.code = 0 ∧
    braceRefs issuing 0 = 1 ∧ (after (.bsInvalidate .firmware 0) issuing).truss.code = 0x12 ∧
    (after (.braceSetSwitch 0) looping).truss.loopRoute.active = true ∧
    portsTaken ((issuing.onSlot 1 fun _ => { issuing.sched.slot[0] with switched := false, startNo := 1 })) 1 = true := by decide +kernel

/-- READY with brace set 0 VALID. -/
def braced : State := after (.bsValidate .firmware 0) (after (.braceWordWrite .firmware 0 0 0x10000) lit)

theorem test_BraceWordsAreWrittenWhileInvalid :
    settledB braced ∧ bitAt braced.truss.valid 0 = true ∧ isMasked braced 0x11 = false ∧
    (after (.braceWordWrite .firmware 0 1 0x10) braced).truss = braced.truss ∧
    (after (.braceWordWrite .firmware 0 1 0x10) braced).log.entries.map (·.code) = [0x11] ∧
    (after (.braceWordWrite .firmware 0 1 0x10) (after (.braceWordWrite .firmware 0 1 0x10) braced)).log.entries.map (·.rep) = [2] ∧
    (after (.braceWordWrite .firmware 63 1 0xFFFFF) braced).truss.words.get 0 (64 * 63 + 1) = 0xFF0 ∧ settledB lit ∧
    regHolds 0x30020 braced = 1 ∧
    (after (.braceWordWrite .firmware 0 1 0x10) (braced.onCfg fun c => { c with active := { c.active with errMask := [(0, 0x20000)] } })).log.masked = 1 := by decide +kernel

/-- A gather stream's phase: its record names entry 5 as the index list and entry 3 as the source. -/
def gathering : State := (withMort 5 { base := 0x100, len := 4, fmt := 7, st := .full } issuing).onSlot 0 fun p =>
  { p with rcd := rec1 ||| (0x80038005 : BitVec 2048) <<< 288, streams := [{ side := .a, gather := true }] }

/-- The gather stream with an index beam read: entries 1, 100 (out of range), and masked ones; and a loop-back stream. -/
def indexed (side : Side) (n : Nat) : State := gathering.onSlot 0 fun p =>
  { p with streams := [{ side := side, gather := true, idxNext := 128, idxBeams := [{ data := 1 ||| (100 : Beam) <<< 32 ||| (3 : Beam) <<< 4096, next := n }] }],
           bents := if side = .loop then [{ id := 16 }] else p.bents, lbLeft := 4 }

/-- RUN with a phase past its issues whose port 0 drains by the index list of entry 5, a tile open there. -/
def drainIndexed : State := (issuing.onSlot 0 fun p =>
  { p with streams := [], rcd := rec1 ||| (0x40 : BitVec 2048) <<< 16 ||| (0x8005 : BitVec 2048) <<< 336 }).onPort 0 fun q =>
    { q with tileSeq := 1, tiles := [{ lastStep := 1, issued := true }] }

/-- RUN with a gather read of beam 1 that an entry waits for. -/
def awaiting : State := (issuing.onTruss fun t => { t with reads := [{ id := 7, beam := 1 }] }).onSlot 0 fun p =>
  { p with streams := [{ side := .a, gather := true, next := 1, fifo := [{ wait := some 7, read := some 7 }] }] }

theorem test_StreamsAreFilled :
    streamAt issuing 0 0 = some { side := .a } ∧ mayIssue issuing 0 = true ∧
    operandReady issuing.sched.slot[0] { side := .a } = true ∧ (mortAt issuing 3).holds 0 = true ∧
    (streamAt (after (.operandRead 0 0 {} false) issuing) 0 0).map (fun st => st.fifo.map (·.data)) = some [0x1234] ∧
    streamAt gathering 0 0 = some { side := .a, gather := true } ∧
    (streamAt (after (.indexRead 0 0 {} false) gathering) 0 0).map (fun st => st.idxBeams.length) = some 1 ∧
    (streamAt (after (.gatherEntry 0 ⟨0, false⟩) (after (.indexRead 0 0 {} false) gathering)) 0 0).map (fun st => (st.next, st.fifo.length)) = some (1, 1) ∧
    ((after (.gatherRead 7 {} false) (issuing.onTruss fun t => { t with reads := [{ id := 7, beam := 1 }] })).truss.reads.map fun g => (g.done, g.data)) = [(true, 0x55)] ∧
    operandFirst issuing 0 { side := .a } = true ∧
    (streamAt (after (.operandRead 0 0 {} true) issuing) 0 0).map (fun st => st.fifo.map (·.poison)) = some [true] ∧
    (after (.operandRead 0 0 {} true) issuing).truss.count.get 0 5 = 1 ∧
    (mortAt (withMort 3 { len := 0, st := .full } issuing) 3).holds 0 = false := by decide +kernel

theorem test_StreamsAreFilled_2 :
    (streamAt (after (.operandRead 0 0 {} true) (withMort 3 { len := 0, st := .full } issuing)) 0 0).map (fun st => st.fifo.map (·.poison)) = some [true] ∧
    mayIssue gathering 0 = true ∧ indexReady gathering.sched.slot[0] { side := .a, gather := true } = true ∧
    readFirst gathering 5 (indexBeam gathering.sched.slot[0] { side := .a, gather := true }) 0 = true ∧
    streamAt drainIndexed 0 0 = none ∧ mayIndex drainIndexed 0 = true ∧ nextDidx drainIndexed 0 0 = some 1 ∧
    readFirst drainIndexed 5 (didxBeam drainIndexed.sched.slot[0] 0 1) (didxOrder drainIndexed 0 0) = true ∧
    (after (.indexRead 0 0 {} true) drainIndexed).sched.slot[0].didx.map (fun x => (x.base, x.poison)) = [(16, true)] ∧
    nextDidx drainIndexed 0 1 = none ∧ nextDidx (after (.indexRead 0 0 {} true) drainIndexed) 0 1 = none ∧
    (after (.indexRead 0 0 {} true) (drainIndexed.onSlot 0 fun p => { p with didxAsked := [(1, 9)] })).sched.slot[0].didxAsked.get 0 1 = 9 ∧
    entryReady (indexed .a 0) 0 { side := .a, gather := true, idxNext := 128 } = true := by decide +kernel

theorem test_StreamsAreFilled_3 :
    (after (.gatherEntry 0 ⟨0, true⟩) (indexed .a 0)).truss.reads.map (fun g => (g.id, g.beam)) = [(0, 1)] ∧
    (streamAt (after (.gatherEntry 0 ⟨0, true⟩) (indexed .a 0)) 0 0).map (fun st => st.fifo.map fun v => (v.wait, v.poison)) = some [(some 0, true)] ∧
    (streamAt (after (.gatherEntry 0 ⟨0, false⟩) (indexed .a 1)) 0 0).map (fun st => st.fifo.map fun v => (v.data, v.wait)) = some [(0, none)] ∧
    (streamAt (after (.gatherEntry 0 ⟨0, true⟩) (indexed .a 2)) 0 0).map (fun st => st.fifo.map (·.poison)) = some [true] ∧
    (streamAt (after (.gatherEntry 0 ⟨0, false⟩) ((indexed .a 0).onTruss fun t => { t with reads := [{ id := 7, beam := 1, done := true, data := 0x55 }] })) 0 0).map (fun st => st.fifo.map fun v => (v.data, v.wait)) = some [(0x55, none)] ∧
    (streamAt (after (.gatherEntry 0 ⟨0, false⟩) ((indexed .a 0).onTruss fun t => { t with reads := [{ id := 7, beam := 1 }] })) 0 0).map (fun st => st.fifo.map fun v => v.wait) = some [some 7] ∧
    entryReady (indexed .loop 2) 0 { side := .loop, gather := true, idxNext := 128 } = true ∧
    (after (.gatherEntry 0 ⟨0, false⟩) (indexed .loop 2)).sched.slot[0].lbLeft = 3 ∧
    (after (.gatherEntry 0 ⟨0, false⟩) (indexed .loop 2)).sched.slot[0].bents.map (·.steps) = [1] ∧
    gatherOn issuing = true ∧ readsAt { issuing with sched := lit.sched } (bankIx 1) = false ∧
    (streamAt (after (.gatherRead 7 {} false) (awaiting)) 0 0).map (fun st => st.fifo.map fun v => (v.data, v.wait)) = some [(0x55, none)] := by decide +kernel

/-- RUN with a beam at the head of each stream, a phase started later being aborted at its port. -/
def overtaken : State := (ready1.onSlot 1 fun _ => { st := .abort, ticket := 9, startNo := 1, rcd := rec1 }).onPort 0 fun q =>
  { q with abortTickets := [9] }

/-- The same in PAUSE; at the last step of the tile; and a loop-back phase with index beams. -/
def pausing : State := ready1.onAon fun a => { a with st := .pause }
def last1 : State := ready1.onSlot 0 fun p => { p with bents := [{ id := 0, ports := 1, steps := 1 }] }
def looped : State := ((indexed .loop 0).onSlot 0 fun p => { p with lbLeft := 0, rcd := p.rcd ||| (4 : BitVec 2048) <<< 80 }).onGov fun g =>
  { g with bent := vmod g.bent 16 fun b => { b with opc := 64, governed := 64 } }

theorem test_IssuesAreDelivered :
    ready1.sched.slot[0].bents[0]? = some { id := 0, ports := 1 } ∧ accNext ready1 0 = 64 ∧
    issueHeld ready1.sched.slot[0] { id := 0, ports := 1 } = true ∧
    atBound ready1 ready1.sched.slot[0] { id := 0, ports := 1 } = false ∧ lacksAcc ready1 0 = false ∧
    takesIssues ready1 ready1.sched.slot[0] 0 = true ∧
    takesIssues (ready1.onPort 0 fun q => { q with abortTickets := [0] }) ready1.sched.slot[0] 0 = false ∧
    takesIssues overtaken overtaken.sched.slot[0] 0 = true ∧
    (portAt (after (.issueDelivery 0 0) overtaken) 0).opCred = 15 ∧ abortReady overtaken 0 = false ∧
    (portAt (after (.issueDelivery 0 0) ready1) 0).opCred = 15 ∧
    (after (.issueDelivery 0 0) ready1).sched.slot[0].bents = [{ id := 0, ports := 1, steps := 1 }] ∧
    ((portAt (after (.issueDelivery 0 0) ready1) 0).out.map fun r => (r.a, r.b)) = some (7, 9) ∧
    (after (.issueDelivery 0 0) (ready1.onGov fun g => { g with bent := vmod g.bent 0 fun b => { b with opc := 32 } })).gov.bent[0].acc = 32 ∧
    ready1.gov.cold = false ∧
    (∀ e ∈ portsOf 1, ready1.ports.port[e].opCred ≠ 0 ∧ lacksAcc ready1 e = false) := by decide +kernel

theorem test_IssuesAreDelivered_2 :
    isFirst ready1.sched.slot[0] { id := 0, ports := 1 } = true ∧
    ((portAt (after (.issueDelivery 0 0) ready1) 0).out.map fun r => (r.kind, r.apar)) = some (0, 1) ∧
    (streamAt (after (.issueDelivery 0 0) ready1) 0 0).map (·.fifo) = some [] ∧
    (after (.issueDelivery 0 0) (ready1.onPort 0 fun q => { q with opCred := 0 })).sched.slot[0].bents = [{ id := 0, ports := 1 }] ∧
    (bentRuns pausing 0 { id := 0, ports := 1 }, bentBanks pausing 0 { id := 0, ports := 1 }) = (false, true) ∧
    (after (.issueDelivery 0 0) pausing).gov.bent[govIx 0].acc = accNext pausing 0 ∧
    (after (.issueDelivery 0 0) pausing).sched.slot[0].bents = [{ id := 0, ports := 1 }] ∧
    (after (.issueDelivery 0 0) (ready1.onGov fun g => { g with cold := true })).gov.cold = false ∧
    isLast last1.sched.slot[0] { id := 0, ports := 1, steps := 1 } = true ∧
    ((portAt (after (.issueDelivery 0 0) last1) 0).out.map fun r => (bitAt r.ctl 0, bitAt r.ctl 1, (field r.ctl 12 2 : BitVec 2) == Rec.dmode rec1)) = some (false, true, true) ∧
    loopHeld looped 0 = false ∧ accNext looped 16 = 64 ∧ (Rec.lbWidth looped.sched.slot[0].rcd) = 4 ∧
    (after (.issueDelivery 0 0) looped).sched.slot[0].lbLeft = 4 ∧
    (after (.issueDelivery 0 0) (looped.onSinter fun k => { k with net := [(16, List.replicate 32 {})] })).sched.slot[0].lbLeft = 0 := by decide +kernel

/-- RUN with that phase's tile issued at port 0. -/
def tiled : State := (issuing.onSlot 0 fun p => { p with st := .drain }).onPort 0 fun q =>
  { q with tileSeq := 1, tiles := [{ lastStep := 1, issued := true }] }

/-- The same with the tile's first beam in port 0's buffer. -/
def buffered : State := tiled.onPort 0 fun q =>
  { q with drCred := 31, buf := [{ step := 1, data := 0x777 }] }

/-- The same in SEQUENCE order. -/
def sequenced : State := buffered.onSlot 0 fun p => { p with rcd := rec1 ||| (0x4 : BitVec 2048) <<< 16 }

theorem test_PortsTakeCreditsAndDrainBeams :
    settledB tiled ∧ (portAt (after (.operandCredit 0) ready1) 0).lastCode = 0x1A ∧
    (portAt (after (.operandCredit 0) (tiled.onPort 0 fun q => { q with opCred := 15 })) 0).opCred = 16 ∧
    drainOk (portAt tiled 0) { lastStep := 1, issued := true } 1 = true ∧
    (portAt (after (.drain 0 1 5 false false false) tiled) 0).buf.map (fun b => (b.tag, b.data)) = [(1, 5)] ∧
    (portAt (after (.drain 0 1 5 false false false) tiled) 0).drCred = 31 ∧ settledB buffered ∧
    (portUpdates buffered 0 { step := 1, data := 0x777 }).isSome = true ∧ buffered.sinter.net.get [] 0 = [] ∧
    (portAt (after (.drainNetworkEntry 0) buffered) 0).drCred = 32 := by decide +kernel

theorem test_PortsTakeCreditsAndDrainBeams_2 :
    ((after (.drainNetworkEntry 0) buffered).sinter.net.get [] 0).map (fun u => (u.dest, u.mort, u.data)) = [(0x100, 5, 0x777)] ∧
    unitsOn tiled = true ∧ (portAt (after (.drain 0 1 5 false false false) tiled) 0).tiles.map (·.got.length) = [1] ∧
    (portAt (after (.drain 0 1 5 false false false) (tiled.onPort 0 fun q => { q with abortTickets := [0] })) 0).buf = [] ∧
    (buffered.sched.slot[0].sequenced) = false ∧ (sequenced.sched.slot[0].sequenced) = true ∧
    (after (.drainNetworkEntry 0) sequenced).sinter.seqBeams.map (fun b => (b.ticket, b.num, b.ups.length)) = [(0, 0, 1)] ∧
    inFlight (after (.drainNetworkEntry 0) sequenced) 0 = true ∧
    inFlight (issuing.onSinter fun k => { k with seqBeams := [{ ticket := 7 }] }) 7 = true ∧
    inFlight issuing 7 = false := by decide +kernel

/-- READY with port 2 in TRAINING. -/
def training : State := lit.onPort 2 fun q => { q with st := .training, present := true }

/-- The same with its capability record seen. -/
def offered : State := after (.cap 2 cap1 false) training

/-- RUN with a phase to abort at port 0, which has a beam to itself. -/
def aborting : State := (issuing.onSlot 0 fun p => { p with st := .abort }).onPort 0 fun q => { q with abortTickets := [0] }

theorem test_PortsAgreeAndAbort :
    settledB training ∧ capOk cap1 = true ∧ (portAt offered 2).out.map (·.kind) = some 1 ∧
    (portAt (after (.cap 2 0 false) training) 2).lastCode = 0x19 ∧
    (portAt (after (.cap 2 cap1 false) offered) 2).lastCode = 0x1A ∧
    (portAt (after (.ack 2 0 false) offered) 2).st = .agreed ∧
    (portAt (after (.ack 2 0 false) offered) 2).opCred = 16 ∧
    (portAt (after (.portResetEnd 2) (training.onPort 2 fun q => { q with st := .reset, holdRst := true })) 2).st = .training ∧
    (portAt (after (.epPresentRise 15 false) (lit.onPort 15 fun q => { q with st := .absent })) 15).st = .training := by decide +kernel

theorem test_PortsAgreeAndAbort_2 :
    abortReady aborting 0 = true ∧ (portAt (after (.abortRecordSend 0) aborting) 0).abortSent = true ∧
    (portAt (after (.ack 0 0 false) (after (.abortRecordSend 0) aborting)) 0).abortTickets = [] ∧
    unitsOn training = true ∧
    (portAt (after (.portResetEnd 2) (training.onPort 2 fun q => { q with st := .reset, holdRst := true, present := false })) 2).st = .absent ∧
    (portAt (after (.ack 2 0 false) (offered.onPort 2 fun q => { q with faultN := false })) 2).lastCode = 0x1D ∧
    (portAt offered 2).out.map (fun r => r.apar) = some (beamParity ((agreeRecord training 2 cap1).setWidth 4352)) ∧
    settledB aborting ∧
    (portAt (after (.ack 0 0 false) (aborting.onPort 0 fun q => { q with abortSent := true, tiles := [{ ticket := 5 }] })) 0).tiles.map (·.freed) = [true] := by decide +kernel

/-- RUN with port 2 in TRAINING, held by a phase in HOLD in slot 1. -/
def heldTraining : State := (issuing.onPort 2 fun q => { q with st := .training, present := true }).onSlot 1 fun _ =>
  { st := .hold, ticket := 1, rcd := rec1 ||| (4 : BitVec 2048) <<< 32 }

theorem test_PortsFail :
    settledB issuing ∧ (portAt (after (.trainingTimeout 2) training) 2).lastCode = 0x18 ∧
    (portAt (after (.reservedDrainKind 2) training) 2).lastCode = 0x1A ∧
    (portAt (after (.epFaultAssert 0 ⟨false, false⟩) issuing) 0).st = .failed ∧
    (after (.epFaultAssert 0 ⟨false, false⟩) issuing).sched.slot[0].st = .abort ∧ holders issuing 0 = [0] ∧
    (portAt (after (.epPresentFall 0 false) issuing) 0).st = .absent ∧
    (portAt (after (.drain 0 0 0 false false false) issuing) 0).lastCode = 0x1A ∧
    operandStalled (ready1.onPort 0 fun q => { q with opCred := 0 }) 0 = true ∧
    (portAt (after (.operandStallTimeout 0) (ready1.onPort 0 fun q => { q with opCred := 0 })) 0).lastCode = 0x1B ∧
    drainStalled (portAt tiled 0) = true ∧ (portAt (after (.drainStallTimeout 0) tiled) 0).lastCode = 0x1B ∧
    (portAt (after (.abortAckTimeout 0) (aborting.onPort 0 fun q => { q with abortSent := true })) 0).lastCode = 0x1B ∧
    trainTimer training ≠ 0 ∧ stallTimer issuing ≠ 0 ∧ drainTimer tiled ≠ 0 := by decide +kernel

theorem test_PortsFail_2 :
    settledB training ∧ settledB tiled ∧
    (portAt (after (.drain 2 0 0 false false false) training) 2).lastCode = 0x1A ∧
    (portAt (after (.cap 0 cap1 false) issuing) 0).lastCode = 0x1A ∧
    (portAt (after (.epFaultAssert 2 ⟨false, false⟩) training) 2).faultN = false ∧
    (portAt (after (.epFaultAssert 2 ⟨false, false⟩) training) 2).st = .training ∧
    (portAt (after (.epPresentFall 2 false) training) 2).st = .absent ∧ holders heldTraining 2 = [1] ∧
    (portAt (after (.epPresentFall 2 false) heldTraining) 2).lastCode = 0x1D ∧
    (after (.epPresentFall 2 false) heldTraining).sched.slot[1].st = .abort ∧
    (portAt (after (.operandCredit 0) issuing) 0).lastCode = 0x1A ∧
    (portAt (after (.ack 0 1 false) issuing) 0).lastCode = 0x1A ∧
    (portAt (after (.epFaultAssert 0 ⟨true, true⟩) issuing) 0).lastCode = 0x1D ∧
    (portAt (after (.epFaultAssert 0 ⟨true, false⟩) issuing) 0).st = .agreed ∧
    (portAt (after (.epPresentFall 0 false) issuing) 0).lastCode = 0x1D ∧
    operandStalled ((buffered.onSlot 0 fun _ => ready1.sched.slot[0]).onPort 0 fun q => { q with opCred := 0 }) 0 = false := by decide +kernel

theorem test_PortCommandsTakeEffect :
    settledB fed ∧ holders fed 0 = [] ∧ (portAt (after (.portRetrain .firmware 0) fed) 0).holdRst = true ∧
    (portAt (after (.portOffline .firmware 15) fed) 15).st = .offline ∧
    (portAt (after (.portOnline .firmware 15) (cclk (after (.portOffline .firmware 15) fed))) 15).st = .reset ∧
    fed.ports.busy = false ∧
    (after (.portRetrain .firmware 0) (after (.portCmdNop .firmware 0) fed)).ports.lost = true ∧
    (after (.portOffline .firmware 0) (after (.portCmdNop .firmware 0) fed)).ports.lost = true ∧
    (portAt (after (.portRetrain .firmware 15) (fed.onPort 15 fun q => { q with st := .absent })) 15).holdRst = false ∧
    (portAt (after (.portOnline .firmware 0) fed) 0).st = .agreed ∧ holders issuing 0 ≠ [] ∧
    (after (.portRetrain .firmware 0) issuing).ports.code = 0x1E ∧
    (after (.portOnline .firmware 0) issuing).ports.code = 0x1E ∧
    (after (.portOffline .firmware 0) issuing).sched.slot[0].st = .abort ∧ portReservedWord 0xF = true ∧
    (after (.portCmdReserved .firmware 0xF) fed).ports.code = 0x1E := by decide +kernel

/-- An update of beam 0x100: a WRITE of an FP32 beam. -/
def upd : Update := { dest := 0x100, data := 0x777, mort := 5 }

/-- READY with that update on its way from source 0. -/
def arriving : State := fed.onSinter fun k => { k with net := [(0, [upd])] }

/-- READY with the update in the queue of its bank, its stored beam awaited. -/
def queued : State := fed.onSinter fun k => { k with queue := [(256, [upd])] }

theorem test_SinterUpdatesReachTheirBeam :
    unitsOn arriving = true ∧ bankIx 0x100 = 256 ∧ queueOf (after (.sinterUpdateEnqueue 0) arriving) 256 = [upd] ∧
    nextSinterRead queued 256 = some 0 ∧
    (queueOf (after (.sinterRead 256 {}) queued) 256).map (·.stored) = [.got 0 false] ∧
    queueOf (after (.sinterCombine 256 false) (after (.sinterRead 256 {}) queued)) 256 = [] ∧
    storedBeam (after (.sinterCombine 256 false) (after (.sinterRead 256 {}) queued)) 0x100 = (combine upd 0 0).beam ∧
    queueOf (after (.sinterCombine 256 false) (queued.onSinter fun k => { k with queue := [(256, [{ upd with stored := .got 1 true }])] })) 256 = [] ∧
    (after (.sequencerRelease 0) ((fed.onSlot 0 fun _ => { st := .drain, rcd := 0x40000 }).onSinter fun k => { k with seqBeams := [{ ups := [upd] }] })).sinter.seqNext = 1 ∧
    (queueOf arriving 256).length < 8 ∧
    (queueOf (after (.sinterUpdateEnqueue 16) (fed.onSinter fun k => { k with net := [(16, [upd])] })) 256).length = 1 ∧
    queueOf (after (.sinterCombine 256 true) (queued.onSinter fun k => { k with queue := [(256, [{ upd with stored := .got 1 true }])] })) 256 = [] ∧
    storedBeam (after (.sinterCombine 256 false) (queued.onSinter fun k => { k with queue := [(256, [{ upd with stored := .unneeded }])] })) 0x100 = (combine { upd with stored := .unneeded } 0 0).beam := by decide +kernel

/-- RUN with a phase that measures into tally 0; the same as its fold runs. -/
def tallied : State := issuing.onSlot 0 fun p => { p with rcd := rec1 ||| (5 : BitVec 2048) <<< 88 }
def foldingNow : State := (tallied.onSlot 0 fun p => { p with st := .fold }).onSinter fun k => { k with folding := 1 }

theorem test_TalliesAndHotQueues :
    settledB lit ∧ tallyUsers lit 3 = 0 ∧
    (after (.tallyClear .firmware 3) (lit.onSinter fun k => { k with tally := [(3, 7)] })).sinter.tally = [] ∧
    (after (.tallyFold .firmware 3) lit).sinter.folding = 8 ∧ foldingNow.sched.slot[0].foldRuns = true ∧
    ((after (.schAbortSlot .firmware 0) foldingNow).sinter.folding, (after (.schAbortSlot .firmware 0) foldingNow).sinter.tally) = (0, []) ∧
    (after (.tallyClear .firmware 3) (after (.tallyFold .firmware 3) lit)).sinter.tallyQ = [(false, 3)] ∧
    tallyReservedWord 0xF = true ∧
    (after (.tallyCmdReserved .firmware 0xF) lit).sinter.tallyCode = 0x27 := by decide +kernel

theorem test_TalliesAndHotQueues_2 :
    (after (.sntHotWrite .firmware 5) lit).sinter.hotBclk = 5 ∧
    (after (.sinterHotQueue 511 9) (lit.onSinter fun k => { k with queue := [(511, List.replicate 8 upd)] })).sinter.hotBank = 511 ∧
    (after (.tallyNop .firmware 0) lit).sinter.tallyCode = 0 ∧ bitAt lit.sinter.folding 3 = false ∧
    tallyUsers tallied 0 ≠ 0 ∧ (after (.tallyClear .firmware 0) tallied).sinter.tallyCode = 0x27 ∧
    (after (.tallyFold .firmware 3) (after (.tallyFold .firmware 3) lit)).sinter.tallyQ = [(true, 3)] ∧
    (after (.tallyFoldComplete 3) (after (.tallyFold .firmware 3) lit)).sinter.folding = 0 ∧
    (after (.sinterHotQueue 511 9) (lit.onSinter fun k => { k with hotBclk := 10, queue := [(511, List.replicate 8 upd)] })).sinter.hotBank = 0 := by decide +kernel

/-- READY with brace set 0 valid and the record in the push buffer. -/
def pushable : State := (fed.onTruss fun t => { t with valid := 1, words := [(0, 0x10000)] }).onSched fun c => { c with pbuf := rec1 }

/-- The record queued as ticket 0. -/
def queued1 : State := pushable.onSched fun c => { c with nextTicket := 1, queue := [{ ticket := 0, rcd := rec1 }] }

/-- RUN with a phase in slot 0, in a state. -/
def slotIn (st : SlotState) : State := issuing.onSlot 0 fun p => { p with st := st }

/-- RUN with a phase all of whose issues are delivered. -/
def drained : State := (slotIn .drain).onSlot 0 fun p => { p with bents := [{ id := 0, ports := 1, steps := 2 }] }

theorem test_ScheduleQueueAndCommands :
    settledB pushable ∧ recordCheck pushable rec1 = 0 ∧
    (after (.schPush .firmware 1) pushable).sched.queue.map (·.ticket) = [0] ∧ recordCheck lit 0 = 0x30 ∧
    (after (.schPush .firmware 1) lit).sched.pushCode = 0x30 ∧
    (after (.schPush .firmware 2) pushable).sched.queue = [] ∧ (after (.schNop .firmware) lit).sched.cmdCode = 0 ∧
    (after (.schQresume .firmware) (lit.onSched fun c => { c with qhalt := true })).sched.qhalt = false ∧
    (queued1.onAon fun a => { a with st := .run }).sched.queue.find? (fun q => q.ticket == 0) = some { ticket := 0, rcd := rec1 } ∧
    (after (.schAbort .firmware 0) queued1).sched.lastCode = 0x37 ∧
    (after (.schAbort .firmware 0) issuing).sched.slot[0].abortCode = 0x37 ∧
    (after (.schAbort .firmware 9) issuing).sched.cmdCode = 0x39 ∧
    (after (.schAbortSlot .firmware 0) issuing).sched.slot[0].st = .abort := by decide +kernel

theorem test_ScheduleQueueAndCommands_2 :
    (after (.schAbortSlot .firmware 3) issuing).sched.cmdCode = 0x39 ∧
    (after (.schFlush .firmware) queued1).sched.queue = [] ∧ schReservedWord 0xF = true ∧
    (after (.schCmdReserved .firmware 0xF) lit).sched.cmdCode = 0x39 ∧ unitsOn pushable = true ∧
    pushable.sched.pushBusy = false ∧ (after (.schPush .firmware 0) pushable).sched.queue = [] ∧
    (after (.schPush .firmware 0) pushable).sched.pushBusy = true ∧
    (after (.schPush .firmware 1) (after (.schPush .firmware 0) pushable)).sched.pushLost = true ∧
    (after (.schNop .firmware) (after (.schNop .firmware) lit)).sched.cmdLost = true ∧
    (after (.schAbort .firmware 0) (slotIn .abort)).sched.cmdCode = 0 ∧
    slotOfTicket (slotIn .abort) 0 = some 0 := by decide +kernel

/-- RUN with the phase at an interior boundary (SPLIT 1 of four steps, two a tile) while a raise waits. -/
def bounding : State := (issuing.onSlot 0 fun p =>
  { p with rcd := (rec1 ||| (1 : BitVec 2048) <<< 208) ^^^ ((6 : BitVec 2048) <<< 640), bents := [{ id := 0, ports := 1, steps := 2 }] }).onCfg
    fun k => { k with pending := true }

/-- RUN with a phase that waits for entry 5 to be FULL. -/
def waiting : State := (slotIn .wait).onSlot 0 fun p => { p with rcd := rec1 ||| (0x0405 : BitVec 2048) <<< 384 }

/-- RUN with a phase that scales its A operand in HOLD, the clip factor none. -/
def unclipped : State := ((slotIn .hold).onSlot 0 fun p => { p with rcd := rec1 ||| (8 : BitVec 2048) <<< 16 }).onSinter fun k => { k with clip := 0x7FC00000 }

theorem test_PhasesMoveThroughTheirSlots :
    freeSlot queued1 = some 0 ∧ mayAdmit queued1 = true ∧ settledB queued1 ∧
    (after .recordAdmit queued1).sched.slot[0].st = .check ∧ (after .recordAdmit queued1).aon.st = .run ∧
    settledB (slotIn .check) ∧
    admitCheck (issuing.onTruss fun t => { t with valid := 1 }) (slotIn .check).sched.slot[0] = (0, 0) ∧
    (after (.admissionCheck 0) ((slotIn .check).onTruss fun t => { t with valid := 1 })).sched.slot[0].st = .wait ∧
    (after (.admissionCheck 0) (slotIn .check)).sched.lastCode = 0x13 ∧ slotPending (slotIn .wait) 0 = 0 ∧
    (after (.phaseWaitsSatisfied 0) (slotIn .wait)).sched.slot[0].st = .hold ∧ mayStart (slotIn .hold) 0 = true ∧
    sorOk (slotIn .hold) (slotIn .hold).sched.slot[0] (slotIn .hold).sinter.clip = true := by decide +kernel

theorem test_PhasesMoveThroughTheirSlots_2 :
    (after (.phaseStart 0) (slotIn .hold)).sched.slot[0].st = .issue ∧ mayFinish drained 0 = true ∧
    (after (.phaseFinish 0) drained).sched.event = 1 ∧ (after (.phaseFinish 0) drained).sched.slot[0] = {} ∧
    abortOver (slotIn .abort) 0 = true ∧ (after (.phaseAbortComplete 0) (slotIn .abort)).sched.slot[0] = {} ∧
    checks (slotIn .check) = true ∧ sorOk unclipped unclipped.sched.slot[0] unclipped.sinter.clip = false ∧
    mayStart unclipped 0 = true ∧ (after (.phaseStart 0) unclipped).sched.lastCode = 0x22 ∧
    mayIssue bounding 0 = true ∧ waiting.trf.tokTimeout ≠ 0 := by decide +kernel

/-- RUN with a phase that signals entry 5 and releases entry 3 at its end. -/
def tokened : State := (withMort 5 { base := 0x100, len := 4, pcount := 1, ccount := 1, pleft := 1, st := .empty }
  (withMort 3 { len := 4, pcount := 1, ccount := 1, cleft := 1, st := .full } drained)).onSlot 0 fun p =>
    { p with rcd := rec1 ||| (0x10030C05 : BitVec 2048) <<< 384 }

/-- Two entries of a twin that need one more signal each. -/
def twinned : State := withMort 4 { twin := 5, twinV := true, pleft := 1, ccount := 3, st := .empty }
  (withMort 5 { twin := 4, twinV := true, pleft := 1, ccount := 2, st := .empty } lit)

/-- The two halves of a twin FULL, with two releases to come. -/
def twinFull : State := withMort 4 { twin := 5, twinV := true, pcount := 3, ccount := 2, cleft := 2, st := .full }
  (withMort 5 { twin := 4, twinV := true, pcount := 1, ccount := 2, cleft := 2, st := .full } lit)

theorem test_EndsApplyTheirTokens :
    mayFinish tokened 0 = true ∧ (mortAt (after (.phaseFinish 0) tokened) 5).st = .full ∧
    (mortAt (after (.phaseFinish 0) tokened) 3).st = .empty ∧
    (mortAt (applyTokens [{ release := false, idx := 5, pair := false, rep := {} }] tokened) 5).cleft = 1 ∧
    (mortAt (applyTokens [{ release := true, idx := 3, pair := false, rep := {} }] (withMort 3 { len := 4, pcount := 1, ccount := 2, cleft := 2, st := .full } lit)) 3).cleft = 1 ∧
    applyTokens [{ release := true, idx := 3, pair := false, rep := {} }] full3 ≠ full3 ∧
    applyTokens [{ release := true, idx := 3, pair := false, rep := {} }] (withMort 3 { st := .full } lit) = withMort 3 { st := .full } lit ∧
    applyTokens [{ release := false, idx := 3, pair := false, rep := { code := 0x08 } }] full3 = report { code := 0x08 } full3 ∧
    (mortAt (applyTokens [{ release := false, idx := 5, pair := true, rep := {} }] twinned) 4).st = .full ∧
    (mortAt (applyTokens [{ release := false, idx := 5, pair := true, rep := {} }] twinned) 4).cleft = 3 := by decide +kernel

theorem test_EndsApplyTheirTokens_2 :
    (mortAt (applyTokens [{ release := false, idx := 5, pair := true, rep := {} }] (withMort 4 { mortAt twinned 4 with pleft := 2 } twinned)) 5).st = .empty ∧
    ((mortAt (applyTokens [{ release := false, idx := 5, pair := false, rep := {} }] twinned) 5).pleft, (mortAt (applyTokens [{ release := false, idx := 5, pair := false, rep := {} }] twinned) 5).st) = (0, .empty) ∧
    (mortAt (applyTokens [{ release := false, idx := 5, pair := false, rep := {} }] twinned) 4).pleft = 1 ∧
    ([4, 5].all fun j => (mortAt (applyTokens [{ release := false, idx := 5, pair := false, rep := {} }, { release := false, idx := 4, pair := false, rep := {} }] twinned) j).st == .full) = true ∧
    applyTokens [{ release := false, idx := 5, pair := false, rep := { code := 0x08 } }] twinFull = report { code := 0x08 } twinFull ∧
    ([4, 5].all fun j => (mortAt (applyTokens [{ release := true, idx := 4, pair := false, rep := {} }] twinFull) j).cleft == 1) = true ∧
    ([4, 5].all fun j => (mortAt (applyTokens [{ release := true, idx := 4, pair := false, rep := {} }, { release := true, idx := 5, pair := false, rep := {} }] twinFull) j).st == .empty) = true ∧
    (mortAt (applyTokens [{ release := true, idx := 4, pair := false, rep := {} }, { release := true, idx := 5, pair := false, rep := {} }] twinFull) 4).pleft = 3 ∧
    applyTokens [{ release := true, idx := 5, pair := false, rep := { code := 0x08 } }] twinned = report { code := 0x08 } twinned ∧
    applyTokens [{ release := true, idx := 5, pair := false, rep := { code := 0x08 } }] (withMort 4 { mortAt twinFull 4 with ccount := 0 } (withMort 5 { mortAt twinFull 5 with ccount := 0 } twinFull)) = withMort 4 { mortAt twinFull 4 with ccount := 0 } (withMort 5 { mortAt twinFull 5 with ccount := 0 } twinFull) := by decide +kernel

theorem test_interior_boundary_and_token_timeout :
    atBound bounding bounding.sched.slot[0] { id := 0, ports := 1, steps := 2 } = true ∧
    (after (.interiorBoundary 0) bounding).sched.slot[0].st = .bound ∧ slotPending waiting 0 ≠ 0 ∧
    (after (.phaseTokenTimeout 0) waiting).sched.slot[0].abortCode = 0x31 := by decide +kernel

/-- A descriptor: FILL of one beam slot of entry 5 from 0x10000, UNGUARDED, IRQ. -/
def desc1 : BitVec 1024 :=
  0x1000000000000000000000000000000000000000000000000000000000000000000000000000000000000000000000000000000000000000000000000000000000000000000000000000000000000024000000000000100000000000000000000000000000000000000000000000000000000800500610001

/-- READY with that descriptor in its buffer and a memory window over it. -/
def filling : State :=
  ((withMort 5 { base := 0x100, len := 4, st := .empty } lit).onCfg fun c =>
    { c with active := { c.active with win := [(0, 0xE000000000000000), (1, 0xFF), (2, 0x40)] } }).onLayout
    fun l => { l with dbuf := desc1 }

/-- The descriptor queued as ticket 0. -/
def queuedD : State := filling.onLayout fun l =>
  { l with nextTicket := 1, queue := [{ desc := desc1, main := some { pbase := 0x40 } }] }

/-- The transfer in slot 7, in a state. -/
def lslotIn (st : LState) : State := filling.onLayout fun l =>
  { l with slot := vmod l.slot 7 fun _ => { st := st, desc := desc1, main := some { pbase := 0x40 }, clip := 0x3F800000 } }

theorem test_DescriptorsAndLayoutCommands :
    settledB filling ∧ descCheck filling desc1 = 0 ∧
    (after (.laySubmit .firmware 1) filling).layout.queue.map (·.ticket) = [0] ∧ descCheck lit 0 = 0x41 ∧
    (after (.laySubmit .firmware 1) lit).layout.subCode = 0x41 ∧
    (after (.laySubmit .firmware 2) filling).layout.queue = [] ∧
    (after (.layAbort .firmware 0) queuedD).layout.lastCode = 0x4A ∧
    (after (.layAbort .firmware 0) (lslotIn .move)).layout.slot[7].abortCode = 0x4A ∧
    (after (.layAbort .firmware 9) queuedD).layout.cmdCode = 0x4B ∧
    (after (.layFlush .firmware) queuedD).layout.queue = [] := by decide +kernel

theorem test_DescriptorsAndLayoutCommands_2 :
    layReservedWord 0xF = true ∧ (after (.layCmdReserved .firmware 0xF) lit).layout.cmdCode = 0x4B ∧
    (after (.layNop .firmware) lit).layout.cmdCode = 0 ∧ unitsOn filling = true ∧
    (after (.laySubmit .firmware 0) filling).layout.subBusy = true ∧
    (after (.laySubmit .firmware 1) (after (.laySubmit .firmware 0) filling)).layout.subLost = true ∧
    (after (.layFlush .firmware) (after (.layNop .firmware) filling)).layout.cmdLost = true ∧
    (after (.layAbort .firmware 0) (lslotIn .abort)).layout.cmdCode = 0 ∧
    lslotOfTicket (lslotIn .abort) 0 = some 7 := by decide +kernel

/-- A transfer that scales on read in WAIT, the clip factor none; and RUN with one that waits for entry 5 to be FULL. -/
def sorWait : State := ((lslotIn .wait).onLayout fun l => { l with slot := vmod l.slot 7 fun p =>
  { p with desc := desc1 ||| (0x40000 : BitVec 1024) } }).onSinter fun k => { k with clip := 0x7FC00000 }
def layWaiting : State := ((issuing.onLayout fun _ => (lslotIn .wait).layout)).onLayout fun l =>
  { l with slot := vmod l.slot 7 fun p => { p with desc := desc1 ||| (0x0405 : BitVec 1024) <<< 128 } }

theorem test_TransfersMoveThroughTheirSlots :
    (nextDesc queuedD).isSome = true ∧ freeLSlot queuedD = some 0 ∧
    (after .transferSlotEntry queuedD).layout.slot[0].st = .wait ∧ layWaitsMet (lslotIn .wait) 7 = true ∧
    (after (.transferWaitsSatisfied 7) (lslotIn .wait)).layout.slot[7].st = .move ∧
    buffersUsed (lslotIn .buffer) < 4 ∧
    (after (.tileBufferGrant 7) (lslotIn .buffer)).layout.slot[7].buffered = true ∧
    transferOver ((lslotIn .move).onLayout fun l => { l with slot := vmod l.slot 7 fun p => { p with group := 1, done := 1 } }) 7 = true ∧
    (after (.transferAbortComplete 7) (lslotIn .abort)).layout.slot[7] = {} ∧
    layPending ((lslotIn .wait).onLayout fun l => { l with slot := vmod l.slot 7 fun p => { p with desc := desc1 ||| (0x0405 : BitVec 1024) <<< 128 } }) 7 ≠ 0 := by decide +kernel

theorem test_TransfersMoveThroughTheirSlots_2 :
    settledB queuedD ∧ isLive queuedD = true ∧
    (after (.transferComplete 7) ((lslotIn .move).onLayout fun l => { l with slot := vmod l.slot 7 fun p => { p with group := 1, done := 1 } })).layout.event = 1 ∧
    memBusy (lslotIn .abort) 7 = false ∧ flyingKeys (lslotIn .abort) (.transfer 7) = [] ∧
    layWaitsMet sorWait 7 = true ∧ (after (.transferWaitsSatisfied 7) sorWait).layout.lastCode = 0x22 ∧
    (after (.transferWaitsSatisfied 7) sorWait).layout.slot[7].st = .free ∧
    (after (.transferTokenTimeout 7) layWaiting).layout.slot[7].abortCode = 0x49 ∧
    layWaiting.trf.tokTimeout ≠ 0 := by decide +kernel

/-- READY with that transfer's read outstanding on port 2 under tag 77. -/
def reading : State := (lslotIn .move).onMem fun m =>
  { m with txns := [{ tag := 77, port := 2, client := .transfer 7, paddr := 0x410000, len := 9 }] }

/-- READY with a write of two beats outstanding on port 7 under tag 8191, its data not yet sent. -/
def writing : State := lit.onMem fun m =>
  { m with txns := [{ tag := 8191, port := 7, client := .store, write := true, len := 5 }]
           wdata := [{ tag := 8191, port := 7, client := .store, len := 5, wg := [7] }] }

/-- READY with that read presented on port 2 under tag 77; and outstanding with one beat to come. -/
def held : State := (lslotIn .move).onMem fun m =>
  { m with req := vset m.req 2 (some { client := .transfer 7, paddr := 0x410000, len := 9, tag := 77 }) }
def ending9 : State := reading.onMem fun m => { m with txns := m.txns.map fun t => { t with beats := 2 } }

theorem test_MemoryTransactions :
    memOn (lslotIn .move) = true ∧ (portReq (lslotIn .move) 2).map (fun r => (r.paddr, r.len)) = some (0x410000, 9) ∧
    tagFree (lslotIn .move) (.transfer 7) 77 = true ∧
    (after (.memRequestAccept 2 77) (lslotIn .move)).mem.txns.map (fun t => (t.tag, t.len)) = [(77, 9)] ∧
    (after (.memReadBeat 2 77 5 0 false) reading).mem.txns.map (·.beats) = [1] ∧
    (after (.memReadBeat 2 77 5 0 false) reading).layout.slot[7].rgran.get 0 0 = (1 : BitVec 1) ++ (0 : BitVec 1) ++ (5 : BitVec 512) ∧
    (after (.memWriteBeat ⟨7, 0⟩) writing).mem.wdata.map (·.beats) = [1] ∧
    ((after (.memWriteBeat ⟨7, 0⟩) writing).mem.out.get {} 7).wdLast = false ∧
    (after (.memWriteBeat ⟨7, 0⟩) (after (.memWriteBeat ⟨7, 0⟩) writing)).mem.wdata = [] ∧
    ((after (.memWriteBeat ⟨7, 0⟩) (after (.memWriteBeat ⟨7, 0⟩) writing)).mem.out.get {} 7).wdLast = true ∧
    (after (.memWriteResponse 7 8191 0) writing).mem.wdata = writing.mem.wdata ∧
    (after (.memWriteResponse 7 8191 1) writing).mem.count.get 0 6 = 1 ∧
    (after (.memWriteResponse 0 5 0) writing).mem.count.get 0 8 = 1 := by decide +kernel

theorem test_MemoryTransactions_2 :
    (after (.memTimeout 77) reading).mem.txns.map (·.quar) = [true] ∧ held.mem.req[2].map (·.tag) = some 77 ∧
    (after (.memRequestAccept 2 77) held).mem.txns.map (fun t => (t.tag, t.len)) = [(77, 9)] ∧
    (after (.memRequestAccept 2 78) held).mem = held.mem ∧
    (after (.memReadBeat 2 77 5 0 true) reading).mem.txns = [] ∧
    (after (.memReadBeat 2 77 5 0 true) ending9).mem.txns = [] ∧
    (after (.memReadBeat 7 8191 5 0 false) writing).mem.txns = [] ∧
    (after (.memWriteResponse 7 8191 0) writing).mem.txns = [] ∧
    (after (.memWriteResponse 2 77 0) reading).mem.txns = [] ∧
    (after (.memWriteResponse 2 77 0) (after (.memTimeout 77) reading)).mem.txns = [] ∧
    (after (.memWriteResponse 2 77 0) (after (.memTimeout 77) reading)).mem.count.get 0 8 = 1 ∧
    writeNow writing 7 = writing.mem.wdata.head? := by decide +kernel

/-- READY with a transfer's beam of entry 5 due for the path of its bay, 16. -/
def arrived : State := (lslotIn .move).onLayout fun l =>
  { l with slot := vmod l.slot 7 fun p => { p with writing := true } }

/-- Bay 16 owned by that transfer's write. -/
def owning : State := arrived.onBay 16 fun y =>
  { y with owner := some { req := 2, client := .transfer 7, write := true, jobs := [{ beam := 0x100, mort := 5 }] } }

/-- A beam staged in bay 16. -/
def staged9 (s : State) : State := s.onBay 16 fun y => { y with bufs := [[{ job := { beam := 0x100 }, data := 9 }]] }

/-- A range clear's write of two beams. -/
def clearing2 : Grant := { req := 6, client := .clear 3, write := true, jobs := [{ beam := 0x110 }, { beam := 0x111 }] }

/-- Scrub due in bay 16 beside the transfer, the image's permutation in force; and with a range clear holding the path. -/
def rivals : State := (arrived.onCfg fun c =>
  { c with active := { c.active with scrub := 0x10001, arb := [(16, 0x1000213D2F)] } }).onBay 16 fun y => { y with scrubDue := true }
def contested : State := rivals.onBay 16 fun y => { y with owner := some clearing2 }

/-- Bay 16 owned by a read whose bank has sinter work. -/
def busyRead : State := queued.onBay 16 fun y => { y with owner := some { req := 2, client := .transfer 7, jobs := [{ beam := 0x100 }] } }

/-- The same at the read's second and last beat, which it has presented, scrub due there. -/
def lastRead : State := (busyRead.onCfg fun c => { c with active := { c.active with scrub := 0x10001, arb := [(16, 0x1000213D2F)] } }).onBay 16 fun y =>
  { y with scrubDue := true, owner := some { req := 2, client := .transfer 7, jobs := [{ beam := 0x100 }], staged := [{ job := { beam := 0x110 } }], lastUp := true } }

theorem test_SidePortPaths :
    contenders arrived 16 = [2] ∧ leastBy (contenders arrived 16) (priorityKey arrived 16) = some 2 ∧
    ((after (.arbitrationDecision 16 0) arrived).arb.bay[16].owner.map fun g => (g.req, g.jobs.length)) = some (2, 1) ∧
    (after (.sidePortBeat 16 ⟨{}, 0⟩) owning).arb.bay[16].bufs.length = 1 ∧
    storedBeam (after (.stagingCommit 16) (lit.onBay 16 fun y => { y with bufs := [[{ job := { beam := 0x100 }, data := 9 }]] })) 0x100 = 9 ∧
    (after (.backoffExpiry 31 7) (lit.onBay 31 fun y => { y with backoff := 0x80 })).arb.bay[31].backoff = 0 ∧
    settledB arrived ∧ arrived.arb.bay[16].owner = none ∧ (asksOf arrived 16 2).length = 1 ∧
    beatFree owning { req := 2, client := .transfer 7, write := true, jobs := [{ beam := 0x100, mort := 5 }] } = true ∧
    (readsTcm owning 16) = false ∧ primaryAt (staged9 lit) (bankIx 0x100) = false ∧
    (storedBeam (after (.stagingCommit 16) (staged9 lit)) 0x100) = 9 ∧
    primaryAt (staged9 queued) (bankIx 0x100) = true ∧ after (.stagingCommit 16) (staged9 queued) = staged9 queued ∧
    mayPreempt contested 16 clearing2 2 = true := by decide +kernel

theorem test_SidePortPaths_2 :
    (after (.preemption 16 2) contested).arb.count.get 0 1 = 1 ∧
    ((after (.preemption 16 2) contested).arb.bay[16].owner.map (·.req)) = some 2 ∧
    bitAt (after (.preemption 16 2) contested).arb.bay[16].backoff 6 = true ∧
    beatFree busyRead { req := 2, client := .transfer 7, jobs := [{ beam := 0x100 }] } = false ∧
    sideReadFree busyRead 0x100 = false ∧ after (.preemption 16 4) lastRead = lastRead ∧
    requesting lastRead 16 6 = true ∧ lastRead.arb.bay[16].owner.map deciding = some true ∧
    lastRead.arb.bay[16].owner.map (fun g => deciding { g with lastUp := false }) = some false ∧
    after (.preemption 16 6) lastRead = lastRead ∧
    (after (.sidePortBeat 16 ⟨{}, 0⟩) busyRead).arb.bay[16].owner.map (·.lastUp) = some true ∧
    reqAdmitted busyRead 2 = true ∧ (after (.sidePortBeat 16 ⟨{}, 0⟩) busyRead).trf = busyRead.trf ∧
    contenders rivals 16 = [2, 6] ∧ (leastBy (contenders rivals 16) (priorityKey rivals 16)) = some 2 ∧
    (after (.arbitrationDecision 16 0) rivals).arb.bay[16].losses.get 0 6 = 1 := by decide +kernel

/-- READY, member 5 of the ring of ridge 10. -/
def rafter : State := (lit.onAon fun a => { a with fabricId := 5, bypCw := false, bypCcw := false }).onCol fun c =>
  { c with epoch := 1, ver := 2, members := [{ fid := 10, ver := 2 }, { fid := 5, ver := 2 }] }

/-- READY, the ridge 10 of that ring. -/
def ridge : State := rafter.onAon fun a => { a with fabricId := 10, ridgeEn := true }

/-- A control packet's header, to a member. -/
def hdrTo (d : BitVec 12) (src : BitVec 12) : Hdr := { ver := 2, src := src, dest := d, epoch := 1 }

theorem test_MembershipPackets :
    settledB ridge ∧ linkUp ridge 0 = true ∧ isRidge ridge = true ∧ onRing ridge 7 = false ∧
    (after (.join 0 ⟨(hdrTo 10 7), false⟩ { fid := 7, ver := 2 }) ridge).col.joins.map (·.fid) = [7] ∧
    (after (.leave 0 ⟨(hdrTo 10 5), false⟩ 5 false) ridge).col.leaves = [5] ∧ settledB rafter ∧
    isRidge rafter = false ∧
    ((after (.propose 0 ⟨(hdrTo 10 10), false⟩ { epoch := 2, admitted := [7] }) rafter).aon.link[0].out.map fun p => p.1.hops) = [1] ∧
    (after (.commit 0 ⟨(hdrTo 10 10), false⟩ 2 2 [{ fid := 10, ver := 2 }, { fid := 5, ver := 2 }]) rafter).col.epoch = 2 ∧
    ((after (.crownCommit 0 ⟨(hdrTo 10 10), false⟩ 3 2 [{ fid := 10, ver := 2, ring := [10, 5] }]) rafter).col.crownEpoch, (after (.crownCommit 0 ⟨(hdrTo 10 10), false⟩ 3 2 [{ fid := 10, ver := 2, ring := [10, 5] }]) rafter).col.upRing) = (3, true) ∧
    (after (.crownCommit 0 ⟨{ hdrTo 10 10 with dirn := 2 }, false⟩ 3 2 [{ fid := 10, ver := 2, ring := [10, 5] }]) rafter).col.upRing = false := by decide +kernel

theorem test_MembershipPackets_2 :
    (after (.crownCommit 0 ⟨(hdrTo 10 10), false⟩ 3 2 [{ fid := 10, ver := 2, ring := [10] }]) rafter).col.crownEpoch = 0 ∧
    (after (.join 0 ⟨(hdrTo 10 7), false⟩ { fid := 7, ver := 0 }) ridge).col.joins = [] ∧
    ((after (.join 0 ⟨(hdrTo 10 7), false⟩ { fid := 7, ver := 0 }) ridge).aon.link[0].out.map fun p => (p.1.dest, p.2)) = [(7, .refuse 0x6B)] ∧
    takesPart rafter { epoch := 2, admitted := [7] } = true ∧ laterEpoch 1 rafter.col.epoch = false ∧
    ((after (.propose 0 ⟨(hdrTo 10 10), false⟩ { epoch := 1, admitted := [7] }) rafter).aon.link[0].out.map fun p => p.2) = [.propose { epoch := 1, admitted := [7] }] ∧
    (after (.propose 0 ⟨(hdrTo 10 10), false⟩ { epoch := 1, admitted := [7] }) rafter).col.cutOff = true ∧
    (after (.refuse 0 ⟨(hdrTo 5 10), false⟩ 5 0x30) (rafter.onCol fun c => { c with joining := true })).log.entries = [] ∧
    (after (.refuse 0 ⟨(hdrTo 5 10), false⟩ 5 0x64) (rafter.onCol fun c => { c with joining := true })).col.joining = false ∧
    isCrown ridge = true ∧
    (after (.dieReport 2 ⟨(hdrTo 10 20), false⟩ 4 [{ fid := 20, ver := 2 }]) (ridge.onCol fun c => { c with hier := 0x100A })).col.crownEpoch = 1 ∧
    (after (.dieReport 2 ⟨(hdrTo 10 20), false⟩ 4 [{ fid := 20, ver := 2 }]) (ridge.onCol fun c => { c with hier := 0x100A })).col.dieTable.map (·.fid) = [20] := by decide +kernel

theorem test_MembershipPackets_3 :
    epochOk rafter (hdrTo 10 10) = true ∧ flitSum (heldPackets ridge 0 true) = 0 ∧ (hdrTo 10 7).src ≠ ownFid ridge ∧
    (after (.join 0 ⟨(hdrTo 10 7), true⟩ { fid := 7, ver := 2 }) ridge).col.joins.map (·.fid) = [7] ∧
    ridge.col.v1Seen = false ∧ (inRing ridge 5, inRing ridge 7) = (true, false) ∧
    (after (.leave 0 ⟨hdrTo 10 5, false⟩ 5 true) ridge).col.proposal.map (·.removed) = some [5] ∧
    (after (.leave 0 ⟨hdrTo 10 7, false⟩ 7 true) (ridge.onCol fun c => { c with proposal := some { epoch := 2, admitted := [7, 8] } })).col.proposal.map (fun q => (q.epoch, q.admitted, q.removed)) = some (2, [8], [7]) ∧
    ((after (.propose 0 ⟨hdrTo 10 10, false⟩ { epoch := 2, removed := [5] }) rafter).aon.bypCw, (after (.propose 0 ⟨hdrTo 10 10, false⟩ { epoch := 2, removed := [5] }) rafter).col.members) = (true, []) ∧
    (after (.propose 0 ⟨hdrTo 10 10, false⟩ { epoch := 2, removed := [5] }) rafter).aon.link[0].out.map (fun p => p.2) = [.propose { epoch := 2, removed := [5] }, .leave true] ∧
    isCrown (ridge.onCol fun c => { c with hier := 0x100A }) = true := by decide +kernel

/-- PURGE that ends the LEAVE of member 5. -/
def parting : State := (rafter.onAon fun a => { a with st := .purge }).onCol fun c => { c with leaving := true }

def partingOut : State := after (.purgeComplete []) (parting.onTrf fun t => { t with purging := true })

theorem test_purge_ends_a_leave :
    settledB (parting.onTrf fun t => { t with purging := true }) ∧ linkUp parting 0 = true ∧
    partingOut.aon.link[0].out.map (fun p => (p.1.dest, p.2)) = [(10, .leave false)] ∧
    (partingOut.aon.link[0].ctlCr, parting.aon.link[0].ctlCr) = (7, 8) ∧ partingOut.aon.bypCw = true ∧
    (partingOut.col.members, partingOut.col.epoch, partingOut.col.leaving, partingOut.aon.st) = ([], 0, false, .ready) := by decide +kernel

/-- An all-gather of one beam a member, CW, unguarded, from entry 3 to entry 5. -/
def agath : BitVec 512 := 0x2 ||| (1 : BitVec 512) <<< 21 ||| (0x80058003 : BitVec 512) <<< 32 ||| (2 : BitVec 512) <<< 128

/-- A NORM with MAX_NORM 1, and a barrier of BAR_ID 7. -/
def norm : BitVec 512 := 0x4 ||| (1 : BitVec 512) <<< 21 ||| (0x3F800000 : BitVec 512) <<< 160
def barrier : BitVec 512 := 0x5 ||| (1 : BitVec 512) <<< 21 ||| (7 : BitVec 512) <<< 256

/-- The member with entries 3 and 5 registered. -/
def holding (s : State) : State :=
  (withMort 3 { len := 4, st := .full } (withMort 5 { base := 0x100, len := 4, st := .empty } s)).onTrf
    fun t => { t with beams := [(0, 0x1234)] }

/-- A state in which a collective of two participants runs under ticket 9. -/
def running (d : BitVec 512) (pos : Nat) (s : State) : State :=
  (holding s).onCol fun c => { c with ringSeq := 1, run := some { ticket := 9, desc := d, seq := 0, n := 2, chunk := 1, pos := pos } }

/-- The header of a packet of that collective. -/
def packet (d : BitVec 512) (kind : BitVec 4) (dest src : BitVec 12) : Hdr :=
  { kind := kind, ver := 2, src := src, dest := dest, epoch := 1, op := field d 0 4, nbeam := if kind = 0 then 1 else 0 }

/-- A beam whose elements are all valid. -/
def allValid (x : Beam) : Beam := x ||| ((-1 : BitVec 256).setWidth 4352 <<< 4096)

/-- That collective's run; a reduce-scatter of two chunks of one beam, FP32; and its run with this member's own beam read. -/
def runOf (d : BitVec 512) (pos : Nat) : CRun := { ticket := 9, desc := d, seq := 0, n := 2, chunk := 1, pos := pos }
def scatter : BitVec 512 := (agath &&& ~~~0xF) ||| 1
def scattering : State := (running scatter 1 rafter).onCol fun c => { c with run := c.run.map fun r =>
  { r with own := r.own.set 0 1 (1#1 ++ (marked (allValid 0x3F800000) false).setWidth 4353) } }

theorem test_CollectivePackets :
    settledB (running agath 1 rafter) ∧ epochOk rafter (packet agath 0 5 10) = true ∧
    seqVerdict (running agath 1 rafter) (packet agath 0 5 10) = .act ∧
    agrees { desc := agath } (packet agath 0 5 10) (.data [7]) = true ∧
    ((after (.data 0 (packet agath 0 5 10) [7] 0 false) (running agath 1 rafter)).col.run.map fun r => (r.cw.got, r.writes.length)) = some (1, 1) ∧
    ((after (.normUp 0 ⟨(packet norm 6 10 5), false⟩ 0x4010000000000000 false) (running norm 0 ridge)).col.run.map (·.partials)) = some [(5, 0x4010000000000000, false)] ∧
    (after (.normDown 0 ⟨(packet norm 7 10 10), false⟩ 0x4010000000000000 0x3F000000 false) (running norm 1 rafter)).sinter.clip = 0x3F000000 ∧
    ((after (.barUp 0 ⟨(packet barrier 8 10 5), false⟩ 7) (running barrier 0 ridge)).col.run.map (·.arrived.length)) = some 1 ∧
    (after (.barDown 0 ⟨(packet barrier 9 10 10), false⟩ 7) (running barrier 1 rafter)).col.run = none ∧
    (after (.abort 0 ⟨(packet barrier 10 5 10), false⟩ ⟨0, 6⟩) (running barrier 1 rafter)).col.last = colLast 9 6 (contributors (running barrier 1 rafter) { ticket := 9, desc := barrier, n := 2, chunk := 1, pos := 1 }) 0 ∧
    (after (.abort 0 ⟨(packet barrier 10 5 10), false⟩ ⟨0, 2⟩) (running barrier 1 rafter)).col.last = colLast 9 2 (contributors (running barrier 1 rafter) { ticket := 9, desc := barrier, n := 2, chunk := 1, pos := 1 }) 0x65 ∧
    (after (.commit 0 ⟨(hdrTo 10 10), false⟩ 2 2 [{ fid := 10, ver := 2 }, { fid := 5, ver := 2 }]) (running barrier 1 rafter)).col.last = colLast 9 1 (contributors (running barrier 1 rafter) { ticket := 9, desc := barrier, n := 2, chunk := 1, pos := 1 }) 0x6D ∧
    (after (.commit 0 ⟨(hdrTo 10 10), false⟩ 2 2 [{ fid := 10, ver := 2 }, { fid := 5, ver := 2 }]) (running barrier 1 rafter)).log.entries.map (·.code) = [0x6D] ∧
    hasRoom (running agath 1 rafter) 0 (packet agath 0 5 10, .data [7]) = true := by decide +kernel

theorem test_CollectivePackets_2 :
    mustWait (running agath 1 rafter) 0 (runOf agath 1) (packet agath 0 5 10) = false ∧
    (runOf agath 1).expects (packet agath 0 5 10) = true ∧ (runOf agath 1).gathers 0 = true ∧
    ((after (.data 0 (packet agath 0 5 10) [7] 1 false) (running agath 1 rafter)).col.run.map fun r => r.writes.map fun w => (w.job.beam, w.data, w.poison)) = some [(0x100, 7, true)] ∧
    agrees (runOf barrier 1) { packet barrier 10 5 10 with op := 3 } (.abort ⟨0, 6⟩) = false ∧
    agrees (runOf barrier 1) (packet barrier 10 5 10) (.abort ⟨0, 6⟩) = true ∧
    agrees (runOf barrier 1) (packet barrier 10 5 10) (.abort ⟨3, 6⟩) = false ∧
    (after (.abort 0 ⟨{ packet barrier 10 5 10 with op := 3 }, false⟩ ⟨0, 6⟩) (running barrier 1 rafter)).col.last = colLast 9 3 (contributors (running barrier 1 rafter) (runOf barrier 1)) 0x64 ∧
    allGave (ringFids (running barrier 0 ridge)) [(5, 0)] = false ∧
    (runOf scatter 1).expects { packet scatter 0 5 10 with beam := 1 } = true ∧ (runOf scatter 1).gathers 0 = false ∧
    mustWait scattering 0 ((scattering.col.run).getD {}) { packet scatter 0 5 10 with beam := 1 } = false ∧
    ((after (.data 0 { packet scatter 0 5 10 with beam := 1 } [allValid 0x40400000] 0 false) scattering).col.run.map fun r => r.writes.map fun w => (w.job.beam, w.data.extractLsb' 0 32, w.poison)) = some [(0x100, 0x40800000, false)] := by decide +kernel

/-- The member with an exchange of its own, from 10 to 5. -/
def exchanging : State := rafter.onCol fun c => { c with exchOn := true, exch := 3, exchFrom := 10, exchTo := 5 }

/-- The member with CAP 500 between 100 and 1000, which accepts. -/
def capped : State := (rafter.onCfg fun c => { c with active := { c.active with govCap := 0x1000001F4 } }).onGov fun g =>
  { g with profile := [(0, 0x03E80064012C)] }

/-- The ridge below the crown 20, which knows from the barrier of SEQ 6 that 5 came first and 10 last. -/
def relaying : State := ridge.onCol fun c =>
  { c with hier := 0x100A, crownEpoch := 1, crownVer := 2, ridges := [{ fid := 20, ver := 2, ring := [20] }, { fid := 10, ver := 2, ring := [10, 5] }]
           lates := [(6, 5, 10)] }

theorem test_BudgetPackets :
    settledB capped ∧ flitSum (heldPackets capped 0 true) < 8 ∧ takeable capped 100 = 100 ∧ takeable rafter 100 = 0 ∧
    (after (.take 0 ⟨(hdrTo 5 10), false⟩ 3 100) rafter).col.gaveTo = none ∧
    (after (.take 0 ⟨(hdrTo 5 10), false⟩ 3 100) capped).col.gaveTo = some 3 ∧
    (after (.take 0 ⟨(hdrTo 5 10), false⟩ 3 100) capped).gov.shift.toInt = -100 ∧
    (after (.give 0 ⟨(hdrTo 5 10), false⟩ 3 100) (after (.take 0 ⟨(hdrTo 5 10), false⟩ 3 100) capped)).gov.shift = 0 ∧
    (after (.give 0 ⟨(hdrTo 5 10), false⟩ 3 100) (after (.take 0 ⟨(hdrTo 5 10), false⟩ 3 100) capped)).col.gaveTo = none ∧
    givable capped false 4 900 = 500 ∧ (after (.give 0 ⟨(hdrTo 5 10), true⟩ 4 900) capped).gov.shift = 500 ∧
    ownExchange exchanging { up := false, inner := true, src := 10, sub := 2, exch := 3, seq := 0, amt := 0 } = true := by decide +kernel

theorem test_BudgetPackets_2 :
    (after (.taken 0 ⟨(hdrTo 5 10), false⟩ 3 0 0 0) exchanging).col.exchOn = false ∧
    (after (.taken 0 ⟨(hdrTo 5 10), false⟩ 3 50 0 0) (exchanging.onCol fun c => { c with exchTo := 10 })).col.exchAmt = 50 ∧
    (after (.given 0 ⟨(hdrTo 5 10), false⟩ 3 50 0 0) (exchanging.onCol fun c => { c with exchTo := 10, exchFrom := 7, exchAmt := 50 })).col.exchOn = false ∧
    (after (.given 0 ⟨(hdrTo 5 10), false⟩ 3 49 0 0) (exchanging.onCol fun c => { c with exchTo := 10, exchFrom := 7, exchAmt := 50 })).col.exchBack = true ∧
    (after (.budgetReservedSub 0 ⟨(hdrTo 5 10), false⟩ 5) rafter).col.count.get 0 3 = 1 ∧
    (after (.give 0 ⟨(hdrTo 5 10), false⟩ 4 900) (after (.take 0 ⟨(hdrTo 5 10), false⟩ 3 100) capped)).col.gaveTo = none ∧
    onRing relaying 20 = false ∧ epochOk relaying { hdrTo 10 20 with dirn := 2, seq := 6 } = true ∧
    relaying.col.lates.find? (·.1 == 6) = some (6, 5, 10) ∧
    ((after (.take 2 ⟨{ hdrTo 10 20 with dirn := 2, seq := 6 }, false⟩ 3 100) relaying).aon.link[0].out.map fun p => (p.1.dest, p.1.seq, p.2)) = [(5, 6, .budget 1 3 100 0 0)] ∧
    ((after (.take 2 ⟨{ hdrTo 10 20 with dirn := 2, seq := 6 }, false⟩ 3 100) relaying).col.relay.map fun r => (r.crown, r.exch, r.fwd)) = some (20, 3, false) ∧
    (after (.take 2 ⟨{ hdrTo 10 20 with dirn := 2, seq := 6 }, false⟩ 3 100) relaying).gov.shift = 0 := by decide +kernel

theorem test_LinksAndProposals :
    (after (.bypassForward 0 (hdrTo 5 10) (.leave false)) lit).aon.link[0].out.length = 1 ∧
    (after (.reservedPacket 0 ⟨(hdrTo 5 10), [0]⟩ true) rafter).col.count.get 0 4 = 1 ∧
    (after (.linkCreditReturn 0 true) (rafter.onLink 0 fun k => { k with ctlCr := 7 })).aon.link[0].ctlCr = 8 ∧
    (after (.linkCreditReturn 0 false) rafter).aon.link[0].dataCr = 56 ∧
    (after (.linkCreditReturn 0 true) (rafter.onLink 0 fun k => { k with ctlCr := 0, txq := [(({ kind := 4 }, .leave false), none)] })).aon.link[0].txq = [] ∧
    (after .joinRetry (lit.onCol fun c => { c with joining := true })).aon.link[0].out.length = 1 ∧
    (after .joinCommitTimeout (rafter.onCol fun c => { c with admitting := true })).aon.bypCw = true ∧
    ((after .epochPropose (ridge.onCol fun c => { c with joins := [{ fid := 7, ver := 2 }] })).col.proposal.map (·.admitted)) = some [7] ∧
    (after .proposalUnanswered (ridge.onCol fun c => { c with proposal := some {} })).col.proposal = none ∧
    bypassed lit 0 = true ∧
    ((after (.data 0 (hdrTo 5 10) [7] 0 true) lit).aon.link[0].out.length, (after (.data 0 (hdrTo 5 10) [7] 0 true) lit).aon.link[0].cut) = (1, [0]) ∧
    (after (.data 0 (packet agath 0 5 10) [7] 0 true) (running agath 1 rafter)).col.count.get 0 4 = 1 ∧
    (after (.data 0 (packet agath 0 5 10) [7] 0 true) (running agath 1 rafter)).log.entries.map (·.code) = [0x63] := by decide +kernel

theorem test_LinksAndProposals_2 :
    admits lit 0 (.leave false) = none ∧
    (after (.reservedPacket 0 ⟨(hdrTo 5 10), [7]⟩ false) lit).aon.link[0].out.length = 1 ∧
    (after (.linkCreditReturn 0 true) lit).aon.link[0].backCtl = 1 ∧
    (after (.linkCreditReturn 0 false) lit).aon.link[0].backData = 1 ∧
    hasRoom rafter 0 (hdrTo 5 10, .raw [0]) = true ∧ (isRidge rafter && uplEn rafter) = false ∧
    (after (.reservedPacket 2 ⟨(hdrTo 5 10), [0]⟩ false) rafter).col.count.get 0 4 = 1 ∧
    flitsOf ({ kind := 4 }, .leave false) = 1 ∧
    settledB (ridge.onCol fun c => { c with joins := [{ fid := 7, ver := 2 }] }) ∧ linkUp ridge 0 = true ∧
    unitsOn ridge = true ∧
    (after .proposalUnanswered ((ridge.onAon fun a => { a with st := .fault }).onCol fun c => { c with proposal := some {} })).col.proposal = some {} := by decide +kernel

theorem test_CollectiveCommandsTakeEffect :
    CDesc.uplink (inScope (rafter.onCol fun c => { c with upRing := true }) (barrier ||| (1 : BitVec 512) <<< 16)) = false ∧
    inScope rafter barrier = barrier ∧ settledB (holding rafter) ∧
    colCheck ((holding rafter).onCol fun c => { c with dbuf := agath }) agath = 0 ∧
    (after (.colSubmit .firmware) ((holding rafter).onCol fun c => { c with dbuf := agath })).col.queue.map (·.epoch) = [1] ∧
    (after (.colSubmit .firmware) rafter).col.cmdCode = 0x67 ∧
    (after (.colAbort .firmware 9) (running barrier 1 rafter)).col.run = none ∧
    (after (.colAbort .firmware 4) (rafter.onCol fun c => { c with queue := [{ ticket := 4, desc := barrier, epoch := 1 }] })).col.queue = [] ∧
    (after (.colAbort .firmware 5) rafter).col.cmdCode = 0x6E ∧
    (after (.colFlush .firmware) (rafter.onCol fun c => { c with queue := [{ ticket := 4, desc := barrier, epoch := 1 }] })).col.queue = [] ∧
    (after (.colJoin .firmware) lit).col.joining = true ∧ leaveRefused rafter = false := by decide +kernel

theorem test_CollectiveCommandsTakeEffect_2 :
    (after (.colLeave .firmware) rafter).aon.st = .purge ∧ leaveRefused ridge = true ∧
    (after (.colLeave .firmware) ridge).col.cmdCode = 0x6E ∧ colReservedWord 6 = true ∧
    (after (.colCmdReserved .firmware 6) lit).col.cmdCode = 0x6E ∧
    (after (.hierCfgWrite .firmware 0x3FFF) lit).col.hier = 0x3FFF ∧
    (after (.hierCfgWrite .firmware 1) (running barrier 1 rafter)).col.hier = 0 ∧
    (after (.colNop .firmware) lit).col.cmdCode = 0 ∧ lit.col.cmdBusy = false ∧
    (after (.colSubmit .firmware) (after (.colNop .firmware) lit)).col.cmdLost = true ∧
    (after (.colJoin .firmware) ridge).col.cmdCode = 0 := by decide +kernel

/-- The member with a descriptor at the head of its queue under ticket 4. -/
def headed (d : BitVec 512) (epoch : BitVec 32) : State :=
  (holding rafter).onCol fun c => { c with queue := [{ ticket := 4, desc := d, epoch := epoch }] }

/-- The ridge with every partial sum of the norm in. -/
def summed : State := (running norm 0 ridge).onCol fun c =>
  { c with run := some { ticket := 9, desc := norm, n := 2, chunk := 0, partials := [(10, 0x3FF0000000000000, false), (5, 0x4008000000000000, false)] } }

/-- The member with its own beam read; and with its read of that beam at its bank. -/
def sending : State := (running agath 1 rafter).onCol fun c => { c with run := c.run.map fun r =>
  { r with own := r.own.set 0 1 (1#1 ++ (marked 0x1234 false).setWidth 4353) } }
def wanting : State := (running agath 1 rafter).onBay 0 fun y =>
  { y with owner := some { req := 3, client := .colOut, jobs := [{ beam := 0, key := 1 }, { beam := 1, key := 2 }] } }
def reading3 : State := (running agath 1 rafter).onBay 0 fun y =>
  { y with owner := some { req := 3, client := .colOut, jobs := [{ beam := 0, key := 1 }] } }

/-- An ALLREDUCE with its tally, all sent, received and written, the squares of its chunk not yet in COL_TALLY. -/
def tallying : State := (running agath 1 rafter).onCol fun c => { c with tally := 0x3FF0000000000000, run := c.run.map fun r =>
  { r with desc := (agath &&& ~~~0xF) ||| 3, cw := { sendStep := 2, got := 2 }, squares := [(r.ownChunk false, 0x4000000000000000)] } }

theorem test_CollectivesRun :
    (colHead (headed agath 1)).isSome = true ∧
    isStale (headed agath 2) { ticket := 4, desc := agath, epoch := 2 } = true ∧
    (after .collectiveStart (headed agath 2)).col.last = colLast 4 5 0 0 ∧
    ((after .collectiveStart (headed agath 1)).col.run.map fun r => (r.n, r.chunk, r.pos)) = some (2, 1, 1) ∧
    sendable sending ((sending.col.run).getD {}) false = true ∧
    ((after (.collectivePacketSend false {}) sending).aon.link[0].out.map fun p => p.1.dest) = [10] ∧
    ((after (.collectivePacketSend false {}) sending).aon.link[0].out.map fun p => p.2) = [.data [0x1234]] ∧
    ((after (.collectivePacketSend false {}) sending).col.run.map fun r => (r.cw.sendStep, r.writes.map (·.data))) = some (1, [0x1234]) ∧
    (after (.sidePortBeat 0 ⟨{}, 0⟩) reading3).col.run.map (fun r => (r.own.get 0 1).extractLsb' 0 4352) = some 0x1234 ∧
    ((lackingJob wanting ((wanting.col.run).getD {}) false).map fun j => (j.beam, j.key)) = some (0, 1) ∧
    (after (.collectivePacketSend false {}) wanting).arb.bay[0].owner.map (·.jobs) = some [{ beam := 1, key := 2 }] ∧
    ((after (.collectivePacketSend false {}) reading3).col.run.map fun r => r.cw.sendStep) = some 1 := by decide +kernel

theorem test_CollectivesRun_2 :
    ((after (.collectivePacketSend false {}) reading3).aon.link[0].out.map fun p => p.2) = [.data [0x1234]] ∧
    waitingFor (headed agath 1) false (nextSeq (headed agath 1) false) = [] ∧
    tokPending (headed agath 1) (CDesc.toks agath) = 0 ∧ settledB summed ∧
    dataOver ((tallying.col.run).getD {}) = true ∧
    (after .collectiveComplete tallying).col.tally = f64Add 0x3FF0000000000000 0x4000000000000000 ∧
    (after .normResult (summed.onCol fun c => { c with run := c.run.map fun r => { r with partials := r.partials.map fun p => (p.1, p.2.1, true) } })).col.last = colLast 9 4 2 0x66 ∧
    (after .progressTimeout (running agath 1 rafter)).col.run = none ∧
    normReady summed { ticket := 9, desc := norm, n := 2, chunk := 0, partials := [(10, 0x3FF0000000000000, false), (5, 0x4008000000000000, false)] } = true ∧
    (after .normResult summed).sinter.clip = 0x3F000000 ∧
    (after .collectiveComplete ((running agath 1 rafter).onCol fun c => { c with run := some { ticket := 9, desc := agath, n := 2, chunk := 1, cw := { sendStep := 1, got := 1 } } })).col.last = colLast 9 0 2 0 ∧
    (after .collectiveTokenTimeout ((headed (agath ||| (0x0405 : BitVec 512) <<< 192) 1).onAon fun a => { a with st := .run })).col.last = colLast 4 2 0 0x65 := by decide +kernel

theorem test_EvaluationsBoundTheCeilings :
    settledB issuing ∧ govOn issuing = true ∧
    ((after (.governorEvaluation []) issuing).gov.bent.toList.all fun b => b.governed.toNat ≤ 64) = true ∧
    ((after (.governorEvaluation []) (issuing.onGov fun g => { g with ext := 5 })).gov.bent.toList.all fun b => b.target.toNat ≤ 5) = true ∧
    ((after (.governorEvaluation []) (issuing.onGov fun g => { g with bent := Vector.replicate 17 { governed := 3, target := 3 } })).gov.bent.toList.all fun b => b.governed.toNat ≤ 4) = true ∧
    (after (.governorEvaluation [[1]]) issuing).gov.lim[3]' (by decide) = {} ∧
    (after (.governorEvaluation [[1]]) issuing).gov.hist.length ≤ 14400 ∧
    (after (.governorEvaluation []) (issuing.onGov fun g => { g with held := some { floor := 0x10 } })).gov.held = none ∧
    droopCeil (issuing.onGov fun g => { g with held := some { floor := 0x10 }, slack := [(2, 0)] }) = 16 ∧
    droopCeil (issuing.onGov fun g => { g with slack := [(2, 0)] }) = 0 ∧
    (after (.governorEvaluation []) (issuing.onAon fun a => { a with droopN := false })).gov.bent.toList.all (fun b => b.governed = 0) = true := by decide +kernel

/-- READY with the thermal thresholds of a profile at 90 °C. -/
def warmLit : State := lit.onGov fun g => { g with profile := [(1, 0x5A5A0040)], gT := 10 }

theorem test_SensorsDriveTheThermalLimiter :
    settledB warmLit ∧ threshold warmLit 0 = 90 ∧
    (after (.sensorRefresh (some 50) (some 50) (some 50) (some 50)) warmLit).gov.gT = 11 ∧
    (after (.sensorRefresh (some 50) (some 50) (some 50) (some 50)) warmLit).gov.tHot = 50 ∧
    (after (.sensorRefresh (some 90) (some 50) (some 50) (some 50)) warmLit).gov.gT = 6 ∧
    (after (.sensorRefresh (some 50) none (some 50) (some 50)) warmLit).gov.gT = 0 ∧
    (after (.sensorRefresh (some 50) none (some 50) (some 50)) warmLit).aon.st = .ready ∧
    (after (.sensorRefresh (some 50) (some 50) (some 50) (some 140)) warmLit).aon.st = .fault ∧
    isLive warmLit = true ∧ (after (.sensorRefresh (some 50) (some 60) (some 55) (some 51)) warmLit).gov.tHot = 60 ∧
    (after (.sensorRefresh (some 50) (some 60) (some 55) (some 51)) warmLit).gov.tempValid = 0xF ∧
    (after (.sensorRefresh (some 86) (some 50) (some 50) (some 50)) warmLit).gov.gT = 11 ∧
    (after (.sensorRefresh (some 88) (some 50) (some 50) (some 50)) warmLit).gov.gT = 10 := by decide +kernel

/-- READY with a handshake in progress. -/
def shaking : State := lit.onGov fun g => { g with perfBusy := true }

theorem test_FilteredInputsActOnTheGovernor :
    (after (.perfAckFall false) shaking).gov.perfFell = true ∧
    (after (.perfAckRise false) (after (.perfAckFall false) shaking)).aon.perfAck = true ∧
    (after .perfAckFallTimeout shaking).gov.event = 0x10 ∧
    (after .perfAckRiseTimeout (after (.perfAckFall false) shaking)).gov.perfLate = true ∧
    (after (.thermInAssert 7 false) lit).aon.thermIn = 0x80 ∧
    (after (.thermInRelease 7 false) (after (.thermInAssert 7 false) lit)).aon.thermIn = 0 ∧
    (after (.thermInRelease 7 true) (after (.thermInAssert 7 false) lit)).aon.thermIn = 0x80 ∧
    (after (.droopAssert false) issuing).aon.droopN = false ∧
    ((after (.droopAssert false) issuing).gov.bent.toList.all fun b => b.governed = 0) = true ∧
    (after (.droopRelease false) (after (.droopAssert false) issuing)).aon.droopN = true := by decide +kernel

theorem test_FilteredInputsActOnTheGovernor_2 :
    (after (.inputStuckTimeout 8) (after (.droopAssert false) lit)).log.entries.map (·.code) = [0x7A] ∧
    settledB shaking ∧ govOn shaking = true ∧ fixedMode shaking = false ∧
    shaking.aon.perfReq = optPstate shaking (wantedOp shaking) ∧
    (after (.perfAckRise false) (after (.perfAckFall false) shaking)).gov.perfBusy = false ∧
    (after .perfAckRiseTimeout (after (.perfAckFall false) shaking)).gov.event = 0x10 ∧
    (after (.inputStuckTimeout 3) (after (.thermInAssert 3 false) lit)).log.entries.map (fun e => (e.code, e.unit, e.loc)) = [(0x7A, 0x7003, 1)] ∧
    (after (.inputStuckTimeout 8) (after (.droopAssert false) lit)).log.entries.map (fun e => (e.unit, e.loc)) = [(0x7008, 0)] := by decide +kernel

/-- RUN with a phase in ISSUE and a quench ramp of 16. -/
def hasty : State := issuing.onCfg fun c => { c with active := { c.active with govFloor := 0x100000 } }

/-- The main domain in reset, the always-on domain up. -/
def cold1 : State := lit.onAon fun a => { a with mrstN := false, st := .reset }

theorem test_quench_leads_to_ember :
    rampNeeded hasty = true ∧ settledB hasty ∧ (after (.quenchAssert false) hasty).aon.qState = .ramp ∧
    (after (.quenchAssert false) hasty).aon.st = .run ∧
    (after .quenchLatch (after (.quenchAssert false) hasty)).aon.st = .ember ∧ rampNeeded lit = false ∧
    (after (.quenchAssert false) lit).aon.qState = .latched ∧ (after (.quenchAssert false) lit).aon.st = .ember ∧
    (after (.quenchRelease false) (after (.quenchAssert false) lit)).aon.qState = .latched := by decide +kernel

theorem test_quench_leads_to_ember_2 :
    mainOn lit = true ∧ aonOn lit = true ∧ (after (.quenchAssert false) lit).aon.qLatches = 1 ∧
    (after (.quenchAssert false) lit).gov.event.getLsbD 1 = true ∧ mainOn cold1 = false ∧ aonOn cold1 = true ∧
    settledB cold1 ∧ (after (.quenchAssert false) cold1).aon.qLogDue = true ∧
    (after (.quenchAssert false) cold1).log.entries = [] := by decide +kernel

/-- RUN with a heavy hinted phase at the queue's head. -/
def hinting : State := issuing.onSched fun c => { c with queue := [{ ticket := 5, rcd := rec1 ||| 0x800000000000000000 }] }

theorem test_RampsAndHintsAdvance :
    settledB issuing ∧ (after .instanceCold issuing).gov.cold = true ∧
    (after .staggerEnd (issuing.onGov fun g => { g with stagger := true })).gov.stagger = false ∧
    (after .rampStep (issuing.onGov fun g => { g with ramping := true })).gov.rampT = 16 ∧ settledB hinting ∧
    govOn hinting = true ∧
    (leastBy (liveHints hinting) fun h => (h.2.1 - hinting.sched.nextTicket).toNat).map (·.2.1) = some 5 ∧
    (after .hintExpiry hinting).gov.hintDead = [5] := by decide +kernel

theorem test_MarginTrimFollowsTheSlack :
    (after (.pathMonitorZero ⟨15, 0⟩) (issuing.onGov fun g => { g with trim := 0x0F000000 })).gov.offset = 1 ∧
    (after (.pathMonitorZero ⟨15, 0⟩) (booting.onGov fun g => { g with trim := 0x0F000000 })).gov.offset = 1 ∧
    (after (.pathMonitorZero ⟨15, 0⟩) (booting.onGov fun g => { g with trim := 0x0F000000 })).log.entries.map (·.code) = [0x74] ∧
    unitsOn booting = true ∧
    ((after (.pathMonitorZero ⟨15, 0⟩) issuing).gov.bent.toList.all fun b => b.governed = 0) = true ∧
    (after (.pathMonitorZero ⟨15, 3⟩) (after (.pathMonitorZero ⟨15, 0⟩) issuing)).gov.slack.get 0x3F 15 = 3 ∧
    (after (.trimEvaluation (List.replicate 16 5)) (issuing.onGov fun g => { g with trim := 0x3F060F000000 })).gov.offset = 1 ∧
    (after (.trimEvaluation (List.replicate 16 5)) (issuing.onGov fun g => { g with trim := 0x3F060F000000 })).gov.slack.get 0x3F 15 = 5 ∧
    (after (.trimEvaluation (List.replicate 16 6)) (issuing.onGov fun g => { g with trim := 0x3F060F000000 })).gov.offset = 0 ∧
    (after (.trimEvaluation (List.replicate 16 6)) (issuing.onGov fun g => { g with trim := 0x3F060F000000, trimHigh := 3 })).gov.trimHigh = 0 ∧
    (0 : BitVec 6) ∉ List.replicate 16 (6 : BitVec 6) := by decide +kernel

/-- READY with a word in the TCM at the pc. -/
def coreAt (w : BitVec 32) (s : State) : State :=
  s.onCore fun c => { c with tcm := (List.range 4).foldl (fun m i => m.set 0 (0x80 + i) (w.extractLsb' (8 * i) 8)) c.tcm }

/-- READY with x1 = 0x100 and x2 = 7. -/
def regs : State := lit.onCore fun c => { c with x := [(1, 0x100), (2, 7), (3, 0x8000000000000000)] }

theorem test_TheCoreRunsItsInstructions :
    coreReady regs = true ∧ inTcm regs.core.pc 4 = true ∧
    tcmRead (coreAt (mkR 0 2 1 0 31 0x33) regs) 0x80 4 = (mkR 0 2 1 0 31 0x33).toNat ∧
    getX (after (.coreInstruction 0) (coreAt (mkR 0 2 1 0 31 0x33) regs)) 31 = 0x107 ∧
    (after (.coreInstruction 0) (coreAt (mkR 0 2 1 0 31 0x33) regs)).core.pc = 0x84 ∧
    getX (after (.coreInstruction 0) (coreAt (mkR 0x20 1 2 0 31 0x33) regs)) 31 = 0xFFFFFFFFFFFFFF07 ∧
    getX (after (.coreInstruction 0) (coreAt (mkR 1 2 1 0 31 0x33) regs)) 31 = 0x700 ∧
    getX (after (.coreInstruction 0) (coreAt (mkI 0xFFF 1 0 0 0x13) regs)) 0 = 0 ∧
    getX (after (.coreInstruction 0) (coreAt (mkI 0xFFF 1 0 5 0x13) regs)) 5 = 0xFF ∧
    getX (after (.coreInstruction 0) (coreAt (mkI 0xF80 1 3 5 0x03) regs)) 5 = 0xF800B283 ∧
    (after (.coreInstruction 0) (coreAt (mkS 8 2 1 3) regs)).core.tcm.get 0 0x108 = 7 ∧
    (after (.coreInstruction 0) (coreAt (mkJ 0x1FFFFE 1) regs)).core.pc = 0x7E := by decide +kernel

theorem test_TheCoreRunsItsInstructions_2 :
    getX (after (.coreInstruction 0) (coreAt (mkJ 0x1FFFFE 1) regs)) 1 = 0x84 ∧
    (after (.coreInstruction 0) (coreAt (mkB 0x10 1 1 0) regs)).core.pc = 0x90 ∧
    (after (.coreInstruction 0) (coreAt (mkB 0x10 1 2 0) regs)).core.pc = 0x84 ∧
    (after (.coreInstruction 2) regs).aon.st = .fault ∧
    getX (after (.coreInstruction 0) (coreAt (mkR 0x20 2 3 5 31 0x33) regs)) 31 = 0xFF00000000000000 ∧
    getX (after (.coreInstruction 0) (coreAt (mkR 1 3 1 1 31 0x33) regs)) 31 = 0xFFFFFFFFFFFFFF80 ∧
    getX (after (.coreInstruction 0) (coreAt (mkR 1 0 1 4 31 0x33) regs)) 31 = 0xFFFFFFFFFFFFFFFF ∧
    getX (after (.coreInstruction 0) (coreAt (mkR 0 2 3 0 31 0x3B) regs)) 31 = 7 ∧
    getX (after (.coreInstruction 0) (coreAt 0x800002B7 regs)) 5 = 0xFFFFFFFF80000000 ∧
    getX (after (.coreInstruction 0) (coreAt 0xFFFFF297 regs)) 5 = 0xFFFFFFFFFFFFF080 ∧
    (after (.coreInstruction 0) (coreAt (mkI 5 1 0 1 0x67) regs)).core.pc = 0x104 ∧
    getX (after (.coreInstruction 0) (coreAt (mkI 5 1 0 1 0x67) regs)) 1 = 0x84 := by decide +kernel

theorem test_TheCoreRunsItsInstructions_3 :
    (after (.coreInstruction 0) (coreAt (mkB 0x10 2 3 4) regs)).core.pc = 0x90 ∧
    (after (.coreInstruction 0) (coreAt (mkB 0x10 2 3 6) regs)).core.pc = 0x84 ∧
    getX (after (.coreInstruction 0) (coreAt (mkI 0xF83 1 0 5 0x03) regs)) 5 = 0xFFFFFFFFFFFFFFF8 ∧
    (after (.coreInstruction 0) (coreAt (mkI 0xF82 1 2 5 0x03) regs)).core.mcause = 4 ∧
    (after (.coreInstruction 0) (coreAt (mkS 7 2 1 3) regs)).core.mcause = 6 ∧ settledB regs ∧
    regs.core.postFault = 0 ∧ isLive regs = true ∧
    (after (.coreInstruction 0) (coreAt (mkR 0 2 1 0 0 0x33) regs)).core.minstret = 1 ∧
    (after (.coreInstruction 0) (coreAt (mkB 0x10 1 2 0) regs)).core.minstret = 1 ∧
    (after (.coreInstruction 0) (coreAt (mkS 8 2 1 3) regs)).core.tcm.get 0 0x100 = 0 := by decide +kernel

/-- The same with that address reserved, MSCRATCH 9 and -1 there. -/
def resved : State := regs.onCore fun c => { c with resv := some 0x100, mscratch := 9, tcm := (List.range 8).map fun i => (0x100 + i, 0xFF) }

theorem test_AtomicsCsrsAndCompressedForms :
    settledB regs ∧ (after (.coreInstruction 0) (coreAt (mkR 8 0 1 3 5 0x2F) regs)).core.resv = some 0x100 ∧
    getX (after (.coreInstruction 0) (coreAt (mkR 0xC 2 1 3 5 0x2F) regs)) 5 = 1 ∧
    getX (after (.coreInstruction 0) (coreAt (mkR 0xC 2 1 3 5 0x2F) resved)) 5 = 0 ∧
    (after (.coreInstruction 0) (coreAt (mkR 0xC 2 1 3 5 0x2F) resved)).core.tcm.get 0 0x100 = 7 ∧
    (after (.coreInstruction 0) (coreAt (mkR 0xC 2 1 3 5 0x2F) resved)).core.resv = none ∧
    getX (after (.coreInstruction 0) (coreAt (mkR 0 2 1 2 5 0x2F) resved)) 5 = 0xFFFFFFFFFFFFFFFF ∧
    (after (.coreInstruction 0) (coreAt (mkR 0 2 1 2 5 0x2F) resved)).core.tcm.get 0 0x100 = 6 ∧
    getX (after (.coreInstruction 0) (coreAt (mkI 0x340 2 1 5 0x73) resved)) 5 = 9 ∧
    (after (.coreInstruction 0) (coreAt (mkI 0x340 2 1 5 0x73) resved)).core.mscratch = 7 ∧
    (after (.coreInstruction 0) (coreAt (mkI 0x340 2 6 5 0x73) resved)).core.mscratch = 11 ∧
    (after (.coreInstruction 0) (coreAt (mkI 0x340 2 3 5 0x73) resved)).core.mscratch = 8 ∧
    (after (.coreInstruction 0) (coreAt (mkI 0x305 2 1 0 0x73) resved)).core.mtvec = 4 ∧
    getX (after (.coreInstruction 0) (coreAt (mkI 0xF13 0 2 5 0x73) resved)) 5 = 0x200 ∧
    (after (.coreInstruction 0) (coreAt (mkI 0xF13 2 1 5 0x73) resved)).core.mcause = 2 := by decide +kernel

theorem test_AtomicsCsrsAndCompressedForms_2 :
    (after (.coreInstruction 0) (coreAt (mkI 0x7C0 2 1 5 0x73) resved)).core.mcause = 2 ∧
    (after (.coreInstruction 0) (coreAt (mkI 0xB02 2 1 5 0x73) resved)).core.minstret = 7 ∧
    getX (after (.coreInstruction 0) (coreAt 0x10FD regs)) 1 = 0xFF ∧
    getX (after (.coreInstruction 0) (coreAt 0x50FD regs)) 1 = 0xFFFFFFFFFFFFFFFF ∧
    getX (after (.coreInstruction 0) (coreAt 0x908A regs)) 1 = 0x107 ∧
    (after (.coreInstruction 0) (coreAt 0x8082 regs)).core.pc = 0x100 ∧
    (after (.coreInstruction 0) (coreAt 0x9082 regs)).core.pc = 0x100 ∧
    getX (after (.coreInstruction 0) (coreAt 0x9082 regs)) 1 = 0x82 ∧
    (after (.coreInstruction 0) (coreAt 0xA011 regs)).core.pc = 0x84 ∧
    (after (.coreInstruction 0) (coreAt 0xC011 regs)).core.pc = 0x84 ∧
    (after (.coreInstruction 0) (coreAt 0xE011 regs)).core.pc = 0x82 ∧
    (after (.coreInstruction 0) (coreAt 0xE006 (regs.onCore fun c => { c with x := [(1, 0x1234), (2, 0x200)] }))).core.tcm.get 0 0x200 = 0x34 ∧
    (after (.coreInstruction 0) (coreAt 0x9002 regs)).core.mcause = 3 ∧
    (after (.coreInstruction 0) (coreAt 0x0000 regs)).core.mcause = 2 ∧
    inTcm regs.core.pc 2 = true := by decide +kernel

/-- READY with a handler at 0x40 and the external interrupt enabled. -/
def handling : State := lit.onCore fun c => { c with mtvec := 0x40, mie := 0x800, mstatus := 0x1808 }

theorem test_TrapsAreTakenAndReturnedFrom :
    settledB handling ∧ (after (.coreException 2 0x33) handling).core.pc = 0x40 ∧
    (after (.coreException 2 0x33) handling).core.mepc = 0x80 ∧
    (after (.coreException 2 0x33) handling).core.mstatus = 0x1880 ∧
    (after (.coreException 11 0) (handling.onCore fun c => { c with nest := true })).aon.st = .fault ∧
    irqDue (handling.onCore fun c => { c with irqBell := true }) = true ∧
    (after .coreInterrupt (handling.onCore fun c => { c with irqBell := true })).core.mcause = 0x800000000000000B ∧
    (after .mret (after (.coreException 2 0x33) handling)).core.pc = 0x80 ∧
    (after .mret (after (.coreException 2 0x33) handling)).core.mstatus = 0x1888 ∧
    (after .wfi handling).core.run = .wfi ∧
    (after .wfi (handling.onCore fun c => { c with irqBell := true })).core.run = .running := by decide +kernel

theorem test_TrapsAreTakenAndReturnedFrom_2 :
    (after .fence handling).core.pc = 0x84 ∧
    (after .fence (handling.onCore fun c => { c with posted := [{}] })).core.pc = 0x80 ∧ isCause 2 = true ∧
    coreReady handling = true ∧ (after (.coreException 2 0x33) handling).core.mtval = 0x33 ∧
    (after (.coreException 2 0x33) handling).aon.st = .ready ∧
    (after (.coreException 11 0) (handling.onCore fun c => { c with nest := true })).core.run = .halted ∧
    (after .fence (handling.onCore fun c => { c with postFault := 2 })).core.mcause = 7 ∧
    (after .fence (handling.onCore fun c => { c with postFault := 2 })).core.postFault = 1 ∧
    (after .fence (handling.onCore fun c => { c with postFault := 2 })).core.mepc = 0x80 := by decide +kernel

/-- READY with x1 = CE_THRESH in the register window, x3 an address in the memory aperture and a window over it. -/
def reaching : State := (filling.onCore fun c => { c with x := [(1, 0x10020020), (2, 9), (3, 0x0010000000010008)] })

/-- The same with x1 at a scheduling-hazard register, a vent register and an unassigned offset, and a plan pending. -/
def reachAt (o : BitVec 64) : State := reaching.onCore fun c => { c with x := [(1, 0x10000000 + o), (2, 9), (3, 0x0010000000010008)] }

/-- The aperture stalls: no tag free, the port busy, 16 posted stores. -/
def noTag : State := reaching.onMem fun m => { m with txns := [{ tag := 3, port := 0, client := .load, paddr := 0, len := 1 }] }
def busyPort : State := reaching.onMem fun m => { m with req := Vector.replicate 8 (some { paddr := 0, len := 1 }) }
def posted16 : State := reaching.onCore fun c => { c with posted := List.replicate 16 {} }

theorem test_PathAndApertureAccesses :
    settledB reaching ∧ inWindow (getX reaching 1) = true ∧
    getX (after (.registerPathLoad 5 1 0 false) reaching) 5 = 0x100 ∧
    (after (.registerPathStore 1 2 0 true) reaching).trf.ceThresh = 9 ∧
    (after (.registerPathStore 1 2 0 true) reaching).core.pc = 0x82 ∧ inAperture (getX reaching 3) = true ∧
    (apertureWindow reaching false (getX reaching 3)).isSome = true ∧ tagFree reaching .load 3 = true ∧
    (after (.apertureLoad 5 3 0 false 3) reaching).mem.txns.map (fun t => (t.tag, t.paddr)) = [(3, 0x410000)] ∧
    (after (.apertureStore 3 2 0 false 4) reaching).core.posted.map (·.tag) = [4] ∧
    apertureWindow lit false 0x0010000000010008 = none ∧
    (after (.apertureLoad 5 3 0 false 3) (reaching.onCfg fun c => { c with active := {} })).core.mcause = 5 ∧
    (after (.apertureStore 3 2 0 false 3) (reaching.onCfg fun c => { c with active := {} })).core.mcause = 7 ∧
    (regInfo 0x20020).map (fun i => i.owner == .vent) = some false ∧
    (regInfo 0xA0128).map (fun i => i.sh && i.owner != .vent) = some true := by decide +kernel

theorem test_PathAndApertureAccesses_2 :
    (after (.registerPathStore 1 2 0 true) ((reachAt 0xA0128).onCfg fun c => { c with pending := true })).core.pc = 0x82 ∧
    (after (.registerPathStore 1 2 0 true) ((reachAt 0xA0128).onCfg fun c => { c with pending := true })).cfg.pending = true ∧
    (regInfo 0xA0120).map (fun i => i.owner == .vent) = some true ∧
    (after (.registerPathStore 1 2 0 true) (reachAt 0xA0120)).core.pc = 0x82 ∧ regInfo 0x3FFF8 = none ∧
    (after (.registerPathStore 1 2 0 true) (reachAt 0x3FFF8)).trf = reaching.trf ∧ tagFree noTag .load 3 = false ∧
    (after (.apertureLoad 5 3 0 false 3) noTag) = noTag ∧ tagFree noTag .store 3 = false ∧
    (after (.apertureLoad 5 3 0 false 3) busyPort) = busyPort ∧
    (after (.apertureStore 3 2 0 false 3) busyPort) = busyPort ∧
    (after (.apertureStore 3 2 0 false 3) posted16) = posted16 ∧
    (after (.apertureLoad 5 3 0 false 3) (reaching.onCfg fun c => { c with active := {} })).core.mepc = 0x80 ∧
    (after (.apertureLoad 5 3 0 false 3) reaching).core.apAddr = 0x0010000000010008 := by decide +kernel

/-- READY with the phase record at TCM 0x400 and x1 = 0x400. -/
def scheduling : State := pushable.onCore fun c =>
  { c with x := [(1, 0x400), (2, 4), (3, 0x401)], tcm := ((List.range 256).map fun i => (0x400 + i, rec1.extractLsb' (8 * i) 8)).filter (·.2 != 0) }

theorem test_ScheduleInstructionsAct :
    settledB scheduling ∧ tcmRecord 0x400 scheduling = rec1 ∧
    (after (.phPush 5 1) scheduling).sched.queue.map (·.ticket) = [0] ∧
    getX (after (.phPush 5 1) scheduling) 5 = 0x100 ∧ (after (.phPush 5 3) scheduling).sched.lastCode = 0x30 ∧
    getX (after (.phStat 5 2) scheduling) 5 = schStatus scheduling ∧
    getX (after (.tokRead 5 0) full3) 5 = mortW1 full3 0 ∧ (after (.phAbort 5 0) queued1).sched.queue = [] ∧
    getX (after (.phAbort 5 2) queued1) 5 = 0 ∧ getX (after (.phAbort 5 1) scheduling) 5 = 0x39 := by decide +kernel

theorem test_ScheduleInstructionsAct_2 :
    recordCheck scheduling (tcmRecord 0x400 scheduling) = 0 ∧
    recordCheck (scheduling.onTruss fun t => { t with valid := 0 }) (tcmRecord 0x400 scheduling) ≠ 0 ∧
    ((after (.phPush 5 1) (scheduling.onTruss fun t => { t with valid := 0 })).sched.queue.length) = 0 ∧
    slotOfTicket issuing 0 = some 0 ∧
    issuing.sched.queue.find? (fun q => q.ticket == (field (getX issuing 0) 0 32 : BitVec 32)) = none ∧
    (after (.phAbort 5 0) issuing).sched.slot[0].st = .abort ∧
    (after (.phAbort 5 0) issuing).sched.slot[0].abortCode = 0x37 ∧ getX (after (.phAbort 5 0) issuing) 5 = 0 ∧
    slotOfTicket scheduling 0x100 = none ∧ (after (.phStat 5 2) scheduling).core.pc = 0x84 := by decide +kernel

theorem test_StepRunsTheFrontCommand :
    ({ lit with pending := [.mcmdFree .firmware 3, .mcmdNop .firmware 0] } : State).pending ≠ [] ∧
    (match step { lit with pending := [.mcmdFree .firmware 3, .mcmdNop .firmware 0] } with
    | .next t => (t.trf.code, t.pending) | _ => (0, [])) = (8, [.mcmdNop .firmware 0]) := by decide +kernel

theorem test_EmptyQueueTicks :
    lit.pending = [] ∧ aonOn lit = true ∧ aonOn dark = false ∧
    (match step lit with | .next t => (t.time.bclk, t.time.root) | _ => (0, 0)) = (1, 1) ∧
    (match step dark with | .next t => t.time.root | _ => 1) = 0 ∧ mainOn lit = true ∧
    bitAt ({ lit with time := { lit.time with bclk := 1 } }.time.bclk + 1) 0 = false ∧
    (after (.mcmdFree .firmware 3) full3).trf.mbusy = true ∧
    (cclk (after (.mcmdFree .firmware 3) full3)).trf.mbusy = false := by decide +kernel

theorem test_reset_is_settled :
    settledB State.reset ∧ State.reset.log.entries.length ≤ 64 ∧
    regRead 0x20030 State.reset = 0x001B7740 := by decide +kernel

theorem test_beam_map :
    bankOf 0xFFFFF = 0 ∧ lineOf 0xFFFFF = 0x7FF ∧ beamAt 0 0x7FF = 0xFFFFF ∧ bankOf 0x00200 = 1 ∧ bayOf 0x00010 = 1 ∧
    lineOf (beamAt 5 0x123) = 0x123 ∧ bankOf (beamAt 5 0x123) = 5 := by decide +kernel

theorem test_StochasticUpdatesDraw256Values :
    ({ dfmt := 3, sr := true } : Update).sr = true ∧ lfsrShift 0x80000000 = 1 ∧ lfsrShift 0x00000001 = 3 ∧
    lfsrSeed 5 5 = 0xFFFFFFFF ∧ ({ dfmt := 3 } : Update).sr = false := by decide +kernel

theorem test_decode_table_word :
    decodeTableWord 64 5 = none ∧ lit.withFetchWord 64 5 = lit := by decide +kernel

theorem test_wellformed :
    (Instr.purgeComplete [(1048576, { cw0 := [(0, 1)] })]).wf = false ∧
    (Instr.purgeComplete [(1048575, { cw0 := [(139, 1)] })]).wf = true ∧ (Instr.sectionTableRead [0]).wf = false ∧
    (Instr.hostCmdReserved .firmware 3).wf = false ∧ (Instr.mcmdReserved .firmware 8).wf = false ∧
    (Instr.mcmdReserved .firmware 9).wf = true ∧ (Instr.scrubRead 0 { cw1 := [(140, 1)] }).wf = false ∧
    (Instr.bsReserved .firmware 2).wf = false ∧ (Instr.operandRead 0 0 { cw0 := [(1, 0)] } false).wf = false ∧
    (Instr.indexRead 0 0 { cw0 := [(1, 1), (1, 1)] } false).wf = false ∧
    (Instr.gatherRead 0 { cw0 := [(140, 1)] } false).wf = false ∧ (Instr.portCmdReserved .firmware 3).wf = false ∧
    (Instr.sinterRead 0 { cw0 := [(140, 1)] }).wf = false := by decide +kernel

theorem test_wellformed_2 :
    (Instr.tallyCmdReserved .firmware 2).wf = false ∧ (Instr.schCmdReserved .firmware 4).wf = false ∧
    (Instr.layCmdReserved .firmware 2).wf = false ∧ (Instr.sidePortBeat 0 ⟨{ cw0 := [(140, 1)] }, 0⟩).wf = false ∧
    (Instr.data 0 { nbeam := 2 } [7] 0 false).wf = false ∧
    (Instr.collectivePacketSend false { cw0 := [(140, 1)] }).wf = false ∧
    (Instr.colCmdReserved .firmware 5).wf = false ∧ (Instr.reservedPacket 0 ⟨{}, []⟩ false).wf = false ∧
    (Instr.governorEvaluation []).wf = false ∧ (Instr.trimEvaluation []).wf = false ∧
    (Instr.moveTcmToTrf .firmware 0x4000000000000000).wf = false ∧ (Instr.moveTrfToTcm .firmware 0).wf = false ∧
    (Instr.moveMemToTcm .firmware 0).wf = false := by decide +kernel

theorem test_wellformed_3 :
    (Instr.moveTcmToMem .firmware 0).wf = false ∧ (Instr.woRecords 0 0 (List.replicate 4097 0) false).wf = false ∧
    (Instr.woDescs 0 0 (List.replicate 4097 0) false).wf = false ∧
    (Instr.woCollectives 0 0 (List.replicate 4097 0) false).wf = false ∧
    (Instr.mboxPut (List.replicate 256 0) none).wf = false ∧ (Instr.ventReservedCommand ⟨6, false⟩).wf = false ∧
    (Instr.cfgRaiseReserved .firmware 4).wf = false ∧ (Instr.errCmdReserved .firmware 2).wf = false ∧
    (Instr.dbgCmdReserved .firmware 0).wf = false ∧ (Instr.debugReadComplete { cw0 := [(140, 1)] }).wf = false ∧
    (Instr.tapBypass ⟨5, true, []⟩).wf = false ∧
    (Instr.budgetReservedSub 0 ⟨{}, false⟩ 4).wf = false := by decide +kernel

theorem test_WorkOrdersSubmitTheirObjects :
    (after (.woRecords 1 0 [rec1] false) (serving (orderOf 1 1) 1 pushable)).core.wo.map (fun k => (k.code, k.done, k.accepted)) = some (0, true, 1) ∧
    (after (.woRecords 1 0 [rec1, 0] false) (serving (orderOf 1 2) 2 pushable)).core.wo.map (fun k => (k.code, k.done, k.accepted)) = some ((giveRecord 0 pushable).1, true, 1) ∧
    ((after (.woRecords 1 0 [rec1, rec1] false) (serving (orderOf 1 2) 2 pushable)).sched.queue.map (·.ticket)) = [0, 1] ∧
    ((after (.woDescs 1 0 [desc1, desc1] false) (serving (orderOf 2 2) 2 filling)).layout.queue.map (·.ticket)) = [0, 1] ∧
    (after (.woDescs 1 0 [desc1, desc1] false) (serving (orderOf 2 2) 2 filling)).core.wo.map (fun k => (k.code, k.done, k.accepted)) = some (0, true, 2) ∧
    (after (.woCollectives 1 0 [0, 0] false) (serving (orderOf 3 2) 2 lit)).core.wo.map (·.accepted) = some 0 := by decide +kernel

end Sys2Proof.Tests
end

/-! ## The scope of the model: the reset, the register map and the ridge's membership

The state after reset, the registers of the map, and the collective unit's membership packets. -/

section
namespace Sys2Proof.Machine

/-! ### The state after reset -/

/-- Nothing waits to be logged, the die is in RESET, and the core stands halted but not in a wait. -/
theorem settled_reset : Settled State.reset :=
  ⟨⟨rfl, rfl⟩, ⟨nofun, nofun⟩, nofun⟩

/-- One register of each unit whose reset value the map gives. -/
theorem regRead_reset_units :
    ∀ p ∈ ([(0x000000, 0x0A7E05D002000000), (0x010000, 1), (0x010008, 0x30), (0x020000, 0x0000032002000800),
      (0x020020, 0x100), (0x020030, 0x001B7740), (0x030000, 0x0000401004004008), (0x040008, 0x0100000080000400),
      (0x050008, 0x1000), (0x050010, 0x3F800000), (0x060000, 0x00000008060C0440), (0x070000, 0x0000010020080400),
      (0x080008, 0x0036EE80), (0x090018, 0x001B7740), (0x090020, 0x80), (0x0A0018, 0x40), (0x0B0050, 0x100),
      (0x0C0018, 0x0C), (0x0D0000, 0), (0x0E1000, 0x0000043000011800)] : List (Nat × BitVec 64)),
    regRead p.1 State.reset = p.2 := by decide +kernel

/-- The banks' counts of corrected errors: none, and no line named. -/
theorem regRead_reset_ceBank : ∀ n : Fin 512, regRead (0x021000 + 8 * n.val) State.reset = 0x0000FF0000000000 := by
  decide +kernel

/-- Every port is off. -/
theorem regRead_reset_portStat : ∀ e : Fin 16, regRead (0x040100 + 8 * e.val) State.reset = 1 := by decide +kernel

/-- Every bent is at the reset ceiling. -/
theorem regRead_reset_bentStat : ∀ b : Fin 17, regRead (0x0A0700 + 8 * b.val) State.reset = 0x0F400040 := by
  decide +kernel

/-- Settles O4: the tables are canonical because the reset builds them so; the registers' values are computed. -/
theorem resetIsSettledAndReadsItsValues : Obligations.ResetIsSettledAndReadsItsValues :=
  ⟨⟨settled_reset, trfCanonical_reset, Nat.zero_le _, rfl, rfl, fun _ => rfl⟩,
    regRead_reset_units, regRead_reset_ceBank, regRead_reset_portStat, regRead_reset_bentStat⟩

end Sys2Proof.Machine
end

section
namespace Sys2Proof.Machine

/-! ### The plain registers of the map

Each has a row: its place, its RW bits, what it holds and what a write stores. That the model's map, reads and writes
agree with the rows, and that the rows are all the plain registers there are, is proved row by row; what O25 says of a
plain register is then a fact about the rows. -/

/-- The plain registers, by the part of the state they stand in; those of the configuration set in its shadow. -/
inductive Cell : Part → Type
  | ceThresh : Cell .trf
  | tokTimeout : Cell .trf
  | mcmdW0 : Cell .trf
  | mcmdW1 : Cell .trf
  | ceBank (n : Fin 512) : Cell .trf
  | scrub : Cell .cfg
  | window (n : Fin 256) (w : Fin 3) : Cell .cfg
  | govLim (r : Fin 3) : Cell .cfg
  | govCap : Cell .cfg
  | govRamp : Cell .cfg
  | govFloor : Cell .cfg
  | govOpt (n : Fin 16) : Cell .cfg
  | govOptCeil (n : Fin 16) : Cell .cfg
  | trussCount (n : Fin 6) : Cell .truss
  | timeouts : Cell .ports
  | portCount (e : Fin 16) (n : Fin 8) : Cell .ports
  | hotThresh : Cell .sinter
  | clip : Cell .sinter
  | hot : Cell .sinter
  | sntCount (n : Fin 10) : Cell .sinter
  | schCtl : Cell .sched
  | pbuf (n : Fin 32) : Cell .sched
  | schCount (n : Fin 8) : Cell .sched
  | layDbuf (n : Fin 16) : Cell .layout
  | layCount (n : Fin 8) : Cell .layout
  | memTimeout : Cell .mem
  | memCount (n : Fin 10) : Cell .mem
  | arbCount (n : Fin 4) : Cell .arb
  | maxLoss (b : Fin 32) (r : Fin 8) : Cell .arb
  | progress : Cell .col
  | colDbuf (n : Fin 8) : Cell .col
  | colCount (n : Fin 8) : Cell .col
  | govCtl : Cell .gov
  | govExt : Cell .gov
  | govModel : Cell .gov
  | govStatic : Cell .gov
  | govTrim : Cell .gov
  | govShift : Cell .gov
  | govQ (n : Fin 16) : Cell .gov
  | thermin (n : Fin 8) : Cell .gov
  | slackMin (n : Fin 16) : Cell .gov
  | rdur (n : Fin 9) : Cell .gov
  | revt (n : Fin 9) : Cell .gov
  | govAct (n : Fin 16) : Cell .gov
  | demand (n : Fin 256) : Cell .gov
  | wdog : Cell .core
  | moveAddr : Cell .core
  | irqRoute : Cell .core
  | irqEn : Cell .core
  | pecReq : Cell .aon
  | alertEn : Cell .aon
  | mboxOut (n : Fin 4) : Cell .aon
  | errCount : Cell .log

/-- Where a plain register stands in the map, its RW bits, what it holds, and what a write does. -/
structure CellSpec where
  /-- The sub-window. -/
  win : Nat
  /-- The offset in it. -/
  loc : Nat
  /-- What the map gives it. -/
  info : RegInfo
  /-- What it holds. -/
  get : State → W64
  /-- What a write does. -/
  put : W64 → State → State

/-- The map's row of each plain register. -/
def Cell.spec : {q : Part} → Cell q → CellSpec
  | _, .ceThresh => ⟨2, 0x20, { owner := .host, rw := 0xFFFFFFFF }, fun s => s.trf.ceThresh.setWidth 64,
      fun v s => s.onTrf fun t => { t with ceThresh := field v 0 32 }⟩
  | _, .tokTimeout => ⟨2, 0x30, { owner := .host, rw := 0xFFFFFFFF }, fun s => s.trf.tokTimeout.setWidth 64,
      fun v s => s.onTrf fun t => { t with tokTimeout := field v 0 32 }⟩
  | _, .mcmdW0 => ⟨2, 0x100, { owner := .host, rw := 0x0FFFFFFFFFFFFFFF }, fun s => s.trf.w0 &&& 0x0FFFFFFFFFFFFFFF,
      fun v s => s.onTrf fun t => { t with w0 := v }⟩
  | _, .mcmdW1 => ⟨2, 0x108, { owner := .host, rw := 0xFFFF, other := 0x01FFFFFFFFFF0000 }, fun s => s.trf.w1,
      fun v s => s.onTrf fun t => { t with w1 := v &&& 0x01FFFFFFFFFFFFFF }⟩
  | _, .ceBank n => ⟨2, 0x1000 + 8 * n.val, { owner := .host, rw := 0xFFFFFFFF, other := 0x0000FF0000000000 },
      fun s => (0 : BitVec 16) ++ s.trf.lastSym.get 0xFF n.val ++ (0 : BitVec 8) ++ s.trf.ceBank.get 0 n.val,
      setCeBank n.val⟩
  | _, .scrub => ⟨2, 0x10, { owner := .host, rw := 0xFFFFF, sh := true }, fun s => s.cfg.shadow.scrub,
      fun v s => s.onCfg fun c => { c with shadow := { c.shadow with scrub := v &&& 0xFFFFF } }⟩
  | _, .window n w => ⟨7, 0x1000 + 0x20 * n.val + 8 * w.val, { owner := .host, rw := winMask w.val, sh := true },
      fun s => s.cfg.shadow.win.get 0 (4 * n.val + w.val),
      fun v s => s.onCfg fun c => { c with shadow := { c.shadow with
        win := c.shadow.win.set 0 (4 * n.val + w.val) (v &&& winMask w.val) } }⟩
  | _, .govLim r => ⟨0xA, 0x100 + 8 * r.val, { owner := .host, rw := 0x0000000FFFFFFFFF, sh := true },
      fun s => s.cfg.shadow.govLim.get 0 r.val,
      fun v s => s.onCfg fun c => { c with shadow := { c.shadow with
        govLim := c.shadow.govLim.set 0 r.val (v &&& 0x0000000FFFFFFFFF) } }⟩
  | _, .govCap => ⟨0xA, 0x120, { owner := .vent, rw := 0x000000013000FFFF, sh := true }, fun s => s.cfg.shadow.govCap,
      fun v s => s.onCfg fun c => { c with shadow := { c.shadow with govCap := v &&& 0x000000013000FFFF } }⟩
  | _, .govRamp => ⟨0xA, 0x128, { owner := .host, rw := 0xFFFFFFFFFFFF007F, sh := true },
      fun s => s.cfg.shadow.govRamp,
      fun v s => s.onCfg fun c => { c with shadow := { c.shadow with govRamp := v &&& 0xFFFFFFFFFFFF007F } }⟩
  | _, .govFloor => ⟨0xA, 0x130, { owner := .host, rw := 0x000000007F3F7F7F, sh := true },
      fun s => s.cfg.shadow.govFloor,
      fun v s => s.onCfg fun c => { c with shadow := { c.shadow with govFloor := v &&& 0x000000007F3F7F7F } }⟩
  | _, .govOpt n => ⟨0xA, 0x208 + 0x10 * n.val, { owner := .host, rw := 0x00000001FFFFFFFF, sh := true },
      fun s => s.cfg.shadow.govOpt.get 0 (2 * n.val + 1),
      fun v s => s.onCfg fun c => { c with shadow := { c.shadow with
        govOpt := c.shadow.govOpt.set 0 (2 * n.val + 1) (v &&& 0x00000001FFFFFFFF) } }⟩
  | _, .govOptCeil n => ⟨0xA, 0x200 + 0x10 * n.val, { owner := .host, rw := 0x007F1FFF0000000F, sh := true },
      fun s => s.cfg.shadow.govOpt.get 0 (2 * n.val),
      fun v s => s.onCfg fun c => { c with shadow := { c.shadow with
        govOpt := c.shadow.govOpt.set 0 (2 * n.val) (v &&& 0x007F1FFF0000000F) } }⟩
  | _, .trussCount n => ⟨3, 0x40 + 8 * n.val, { owner := .host, rw := 0xFFFFFFFFFFFFFFFF },
      fun s => s.truss.count.get 0 n.val,
      fun v s => s.onTruss fun t => { t with count := t.count.set 0 n.val v }⟩
  | _, .timeouts => ⟨4, 0x08, { owner := .host, rw := 0x7FFFFFFFFFFFFFFF }, fun s => s.ports.timeouts,
      fun v s => s.onPorts fun t => { t with timeouts := v &&& 0x7FFFFFFFFFFFFFFF }⟩
  | _, .portCount e n => ⟨4, 0x800 + 0x40 * e.val + 8 * n.val, { owner := .host, rw := 0xFFFFFFFFFFFFFFFF },
      fun s => s.ports.port[e].count.get 0 n.val,
      fun v s => s.onPort e fun q => { q with count := q.count.set 0 n.val v }⟩
  | _, .hotThresh => ⟨5, 0x08, { owner := .host, rw := 0xFFFFFFFF }, fun s => s.sinter.hotThresh.setWidth 64,
      fun v s => s.onSinter fun k => { k with hotThresh := field v 0 32 }⟩
  | _, .clip => ⟨5, 0x10, { owner := .host, rw := 0xFFFFFFFF, other := 0x0000FFFF00000000 },
      fun s => (0 : BitVec 16) ++ s.sinter.clipGen ++ s.sinter.clip,
      fun v s => s.onSinter fun k => { k with clip := field v 0 32 }⟩
  | _, .hot => ⟨5, 0x28, { owner := .host, rw := 0xFFFFFFFF, other := 0x000001FF00000000 },
      fun s => (0 : BitVec 23) ++ s.sinter.hotBank ++ s.sinter.hotBclk, setHot⟩
  | _, .sntCount n => ⟨5, 0x100 + 8 * n.val, { owner := .host, rw := 0xFFFFFFFFFFFFFFFF },
      fun s => s.sinter.count.get 0 n.val,
      fun v s => s.onSinter fun k => { k with count := k.count.set 0 n.val v }⟩
  | _, .schCtl => ⟨6, 0x10, { owner := .host, rw := 0x3 },
      fun s => (0 : BitVec 62) ++ flagBits 1 s.sched.haltAbort ++ flagBits 1 s.sched.haltRefuse,
      fun v s => s.onSched fun c => { c with haltRefuse := bitAt v 0, haltAbort := bitAt v 1 }⟩
  | _, .pbuf n => ⟨6, 0x100 + 8 * n.val, { owner := .host, rw := 0xFFFFFFFFFFFFFFFF },
      fun s => wordOf s.sched.pbuf n.val,
      fun v s => s.onSched fun c => { c with pbuf := setWord c.pbuf n.val v }⟩
  | _, .schCount n => ⟨6, 0x400 + 8 * n.val, { owner := .host, rw := 0xFFFFFFFFFFFFFFFF },
      fun s => s.sched.count.get 0 n.val,
      fun v s => s.onSched fun c => { c with count := c.count.set 0 n.val v }⟩
  | _, .layDbuf n => ⟨7, 0x100 + 8 * n.val, { owner := .host, rw := 0xFFFFFFFFFFFFFFFF },
      fun s => wordOf s.layout.dbuf n.val,
      fun v s => s.onLayout fun l => { l with dbuf := setWord l.dbuf n.val v }⟩
  | _, .layCount n => ⟨7, 0x300 + 8 * n.val, { owner := .host, rw := 0xFFFFFFFFFFFFFFFF },
      fun s => s.layout.count.get 0 n.val,
      fun v s => s.onLayout fun l => { l with count := l.count.set 0 n.val v }⟩
  | _, .memTimeout => ⟨8, 0x8, { owner := .host, rw := 0xFFFFFFFF }, fun s => s.mem.timeout.setWidth 64,
      fun v s => s.onMem fun m => { m with timeout := field v 0 32 }⟩
  | _, .memCount n => ⟨8, 0x100 + 8 * n.val, { owner := .host, rw := 0xFFFFFFFFFFFFFFFF },
      fun s => s.mem.count.get 0 n.val,
      fun v s => s.onMem fun m => { m with count := m.count.set 0 n.val v }⟩
  | _, .arbCount n => ⟨8, 0x200 + 8 * n.val, { owner := .host, rw := 0xFFFFFFFFFFFFFFFF },
      fun s => s.arb.count.get 0 n.val,
      fun v s => s.onArb fun a => { a with count := a.count.set 0 n.val v }⟩
  | _, .maxLoss b r => ⟨8, 0x3000 + 0x40 * b.val + 8 * r.val,
      { owner := .both, rw := 0x000007FF00000000, other := 0x7FF },
      fun s => (0 : BitVec 21) ++ s.arb.bay[b].maxLoss.get 0 r.val ++ (0 : BitVec 21) ++
        s.arb.bay[b].losses.get 0 r.val,
      fun v s => s.onBay b fun y => { y with maxLoss := y.maxLoss.set 0 r.val (field v 32 11) }⟩
  | _, .progress => ⟨9, 0x18, { owner := .host, rw := 0xFFFFFFFF }, fun s => s.col.progress.setWidth 64,
      fun v s => s.onCol fun c => { c with progress := field v 0 32 }⟩
  | _, .colDbuf n => ⟨9, 0x100 + 8 * n.val, { owner := .host, rw := 0xFFFFFFFFFFFFFFFF },
      fun s => wordOf s.col.dbuf n.val,
      fun v s => s.onCol fun c => { c with dbuf := setWord c.dbuf n.val v }⟩
  | _, .colCount n => ⟨9, 0x300 + 8 * n.val, { owner := .host, rw := 0xFFFFFFFFFFFFFFFF },
      fun s => s.col.count.get 0 n.val,
      fun v s => s.onCol fun c => { c with count := c.count.set 0 n.val v }⟩
  | _, .govCtl => ⟨0xA, 0x10, { owner := .host, rw := 0xFFFFFFFFFFF0C006 }, fun s => s.gov.ctl,
      fun v s => s.onGov fun g => { g with ctl := v &&& 0xFFFFFFFFFFF0C006 }⟩
  | _, .govExt => ⟨0xA, 0x18, { owner := .both, rw := 0x7F }, fun s => s.gov.ext.setWidth 64,
      fun v s => s.onGov fun g => { g with ext := field (v &&& 0x7F) 0 7 }⟩
  | _, .govModel => ⟨0xA, 0x20, { owner := .host, rw := 0xFF000001FFFFFFFF }, fun s => s.gov.model,
      fun v s => s.onGov fun g => { g with model := v &&& 0xFF000001FFFFFFFF }⟩
  | _, .govStatic => ⟨0xA, 0x28, { owner := .host, rw := 0x0000000FFFFFFFFF }, fun s => s.gov.static,
      fun v s => s.onGov fun g => { g with static := v &&& 0x0000000FFFFFFFFF }⟩
  | _, .govTrim => ⟨0xA, 0x30, { owner := .host, rw := 0x00003F3F1F1F1F00, other := 0x1F },
      fun s => s.gov.trim ||| s.gov.offset.setWidth 64,
      fun v s => s.onGov fun g => { g with
        trim := v &&& 0x00003F3F1F1F1F00
        offset := if s.aon.st == .boot then field (v &&& 0x00003F3F1F1F1F00) 8 5 else g.offset }⟩
  | _, .govShift => ⟨0xA, 0x38, { owner := .host, rw := 0xFFFFFFFF00000001, other := 0xFFFF0000 },
      fun s => s.gov.shiftCfg ||| (s.gov.shift.setWidth 64 <<< 16),
      fun v s => s.onGov fun g => { g with shiftCfg := v &&& 0xFFFFFFFF00000001 }⟩
  | _, .govQ n => ⟨0xA, 0x400 + 8 * n.val, { owner := .host, rw := 0xFFFFFF },
      fun s => (s.gov.q.get 0 n.val).setWidth 64,
      fun v s => s.onGov fun g => { g with q := g.q.set 0 n.val (field (v &&& 0xFFFFFF) 0 24) }⟩
  | _, .thermin n => ⟨0xA, 0x480 + 8 * n.val, { owner := .host, rw := 0x00000001FFFF007F },
      fun s => s.gov.thermin.get 0 n.val,
      fun v s => s.onGov fun g => { g with thermin := g.thermin.set 0 n.val (v &&& 0x00000001FFFF007F) }⟩
  | _, .slackMin n => ⟨0xA, 0x500 + 8 * n.val, { owner := .both, rw := 0x3F00, other := 0x3F },
      fun s => (0 : BitVec 50) ++ s.gov.slackMin.get 0x3F n.val ++ (0 : BitVec 2) ++ s.gov.slack.get 0x3F n.val,
      fun v s => s.onGov fun g => { g with slackMin := g.slackMin.set 0x3F n.val (field (v &&& 0x3F00) 8 6) }⟩
  | _, .rdur n => ⟨0xA, 0x800 + 8 * n.val, { owner := .host, rw := 0xFFFFFFFFFFFFFFFF },
      fun s => s.gov.rdur.get 0 n.val,
      fun v s => s.onGov fun g => { g with rdur := g.rdur.set 0 n.val (v &&& 0xFFFFFFFFFFFFFFFF) }⟩
  | _, .revt n => ⟨0xA, 0x880 + 8 * n.val, { owner := .host, rw := 0xFFFFFFFF },
      fun s => (s.gov.revt.get 0 n.val).setWidth 64,
      fun v s => s.onGov fun g => { g with revt := g.revt.set 0 n.val (field (v &&& 0xFFFFFFFF) 0 32) }⟩
  | _, .govAct n => ⟨0xA, 0x900 + 8 * n.val, { owner := .host, rw := 0xFFFFFFFFFFFFFFFF },
      fun s => s.gov.act.get 0 n.val,
      fun v s => s.onGov fun g => { g with act := g.act.set 0 n.val (v &&& 0xFFFFFFFFFFFFFFFF) }⟩
  | _, .demand n => ⟨0xA, 0x1000 + 8 * n.val, { owner := .host, rw := 0x1FFFF },
      fun s => (s.gov.demand.get 0 n.val).setWidth 64,
      fun v s => s.onGov fun g => { g with demand := g.demand.set 0 n.val (field (v &&& 0x1FFFF) 0 17) }⟩
  | _, .wdog => ⟨0xB, 0x20, { owner := .host, rw := 0xFFFFFFFF, other := 0x100000000 },
      fun s => s.core.period.setWidth 64, wdogWord⟩
  | _, .moveAddr => ⟨0xB, 0x28, { owner := .host, rw := 0xFFFFFFFFFFFFF }, fun s => s.core.moveAddr.setWidth 64,
      fun v s => s.onCore fun c => { c with moveAddr := field v 0 52 }⟩
  | _, .irqRoute => ⟨0xB, 0x40, { owner := .host, rw := 0xBBBBBBBB }, fun s => s.core.irqRoute,
      fun v s => s.onCore fun c => { c with irqRoute := v &&& 0xBBBBBBBB }⟩
  | _, .irqEn => ⟨0xB, 0x50, { owner := .host, rw := 0x1FF }, fun s => s.core.irqEn.setWidth 64,
      fun v s => s.onCore fun c => { c with irqEn := field v 0 9 }⟩
  | _, .pecReq => ⟨0xC, 0x08, { owner := .vent, rw := 0x1 }, fun s => (flagBits 1 s.aon.pecReq).setWidth 64,
      fun v s => s.onAon fun a => { a with pecReq := bitAt v 0 }⟩
  | _, .alertEn => ⟨0xC, 0x18, { owner := .vent, rw := 0x7F },
      fun s => s.aon.alertEn.setWidth 64, fun v => alertEnable (field v 0 7)⟩
  | _, .mboxOut n => ⟨0xC, 0x60 + 8 * n.val, { owner := .host, rw := 0xFFFFFFFFFFFFFFFF },
      fun s => wordOf s.aon.mboxOut n.val,
      fun v s => s.onAon fun a => { a with mboxOut := setWord a.mboxOut n.val v }⟩
  | _, .errCount => ⟨0xD, 0x10, { owner := .host, rw := 0xFFFFFFFFFFFFFFFF },
      fun s => s.log.masked ++ s.log.discarded,
      fun v s => s.onLog fun l => { l with masked := field v 32 32, discarded := field v 0 32 }⟩

/-- The register's offset in the map. -/
def Cell.off {q : Part} (c : Cell q) : Nat := 0x10000 * c.spec.win + c.spec.loc

variable {q : Part} (c : Cell q)

theorem Cell.loc_lt : c.spec.loc < 0x10000 := by
  cases c <;> simp only [Cell.spec] <;> omega

theorem Cell.loc_mod : c.spec.loc % 8 = 0 := by
  cases c <;> simp only [Cell.spec] <;> omega

@[simp] theorem Cell.subWindow_off : subWindow c.off = c.spec.win := by
  have := c.loc_lt
  simp only [subWindow, Cell.off]; omega

@[simp] theorem Cell.localOff_off : localOff c.off = c.spec.loc := by
  have := c.loc_lt
  simp only [localOff, Cell.off]; omega

theorem Cell.off_mod : c.off % 8 = 0 := by
  have := c.loc_mod
  simp only [Cell.off]; omega

end Sys2Proof.Machine
end

section
namespace Sys2Proof.Machine

/-! ### Offsets of the arrays -/

/-- The number of the word at an offset of an array. -/
theorem addr_index (a n : Nat) : (a + 8 * n - a) / 8 = n := by omega

section
variable {α : Type} {a b o : Nat} {x y : α}

theorem ite_inRange (h : a ≤ o ∧ o < b) :
    (if (decide (a ≤ o) && decide (o < b)) = true then x else y) = x := if_pos (by simpa using h)

theorem ite_outRange (h : ¬ (a ≤ o ∧ o < b)) :
    (if (decide (a ≤ o) && decide (o < b)) = true then x else y) = y := if_neg (by simpa using h)

theorem ite_inRange_and {p : Prop} [Decidable p] (h : a ≤ o ∧ o < b) (hp : p) :
    (if (decide (a ≤ o) && decide (o < b) && decide p) = true then x else y) = x := if_pos (by simp [h, hp])

theorem ite_outRange_and {p : Bool} (h : ¬ (a ≤ o ∧ o < b)) :
    (if (decide (a ≤ o) && decide (o < b) && p) = true then x else y) = y :=
  if_neg fun hp => h (by simp only [Bool.and_eq_true, decide_eq_true_eq] at hp; exact hp.1)

theorem ite_aligned (h : o % 8 = 0) : (if (o % 8 != 0) = true then x else y) = y :=
  if_neg (by simp [h])

end

/-- The number of a window word. -/
theorem window_index (n : Fin 256) (w : Fin 3) :
    (0x1000 + 0x20 * n.val + 8 * w.val - 0x1000) / 8 = 4 * n.val + w.val := by omega

/-- The place of a word in its window. -/
theorem window_mod (n : Fin 256) (w : Fin 3) : (0x1000 + 0x20 * n.val + 8 * w.val) / 8 % 4 = w.val := by omega

variable {q : Part} (c : Cell q)

/-! ### The map, the reads and the writes -/

/-- What the map gives each of these registers. -/
theorem Cell.regInfo_off : regInfo c.off = some c.spec.info := by
  simp only [regInfo, c.off_mod, Cell.subWindow_off, Cell.localOff_off, bne_self_eq_false, Bool.false_eq_true, if_false]
  cases c with
  | window n w =>
    have h3 : (w.val != 3) = true := by simp; omega
    dsimp only [Cell.spec]
    simp (disch := omega) only [layInfo, ↓ite_aligned, ↓ite_inRange, ↓ite_outRange, window_mod, h3]
  | ceBank | trussCount | portCount | sntCount | pbuf | schCount | layDbuf | layCount | memCount | arbCount | maxLoss
  | colDbuf | colCount | govQ | thermin | slackMin | rdur | revt | govAct | demand | govLim | govOpt | govOptCeil =>
    dsimp only [Cell.spec]
    simp (disch := omega) only [trfInfo, trussInfo, portInfo, sntInfo, schInfo, layInfo, memInfo, colInfo,
      govInfo, govShInfo, ↓ite_aligned, ↓ite_inRange, ↓ite_inRange_and, ↓ite_outRange, ↓ite_outRange_and, ↓if_neg,
      ↓if_pos]
  | mboxOut n => fin_cases n <;> rfl
  | _ => rfl

/-- The bay and the requester of an ARB_LOSS register. -/
theorem lossIx_maxLoss (b : Fin 32) (r : Fin 8) : lossIx (0x3000 + 0x40 * b.val + 8 * r.val) = (b, r.val) := by
  refine Prod.ext (Fin.ext ?_) ?_ <;> simp [lossIx] <;> omega

/-- The port of a PORT_COUNT register. -/
theorem portIx_portCount (e : Fin 16) (n : Fin 8) : portIx (0x800 + 0x40 * e.val + 8 * n.val - 0x800) = e :=
  Fin.ext (by simp [portIx]; omega)

/-- The number of a counter of a port. -/
theorem portCount_index (e : Fin 16) (n : Fin 8) : (0x800 + 0x40 * e.val + 8 * n.val) / 8 % 8 = n.val := by omega

/-- The word of an operating point that holds its ceilings. -/
theorem govOptCeil_index (n : Fin 16) : (0x200 + 0x10 * n.val - 0x200) / 8 = 2 * n.val := by omega

/-- The word of an operating point that holds the rest. -/
theorem govOpt_index (n : Fin 16) : (0x208 + 0x10 * n.val - 0x200) / 8 = 2 * n.val + 1 := by omega

/-- What each of them holds. -/
theorem Cell.regHolds_off (s : State) : regHolds c.off s = c.spec.get s := by
  simp only [regHolds, c.regInfo_off, Cell.subWindow_off, Cell.localOff_off, Option.isNone_some, Bool.false_eq_true,
    if_false]
  cases c with
  | ceBank | window | trussCount | portCount | sntCount | pbuf | schCount | layDbuf | layCount | memCount | arbCount
  | maxLoss | colDbuf | colCount | govQ | thermin | slackMin | rdur | revt | govAct | demand | govLim | govOpt
  | govOptCeil =>
    dsimp only [Cell.spec]
    simp (disch := omega) only [trfRead, trussRead, portRead, portAt, sntRead, schRead, layRead, memRead, arbLoss,
      colRead, govRead, govShRead, addr_index, window_index, portCount_index, portIx_portCount, lossIx_maxLoss,
      govOpt_index, govOptCeil_index, ↓ite_inRange, ↓ite_outRange, ↓if_neg]
  | mboxOut n => fin_cases n <;> rfl
  | _ => rfl

/-- A write that no rule of the governor drops stores the bits of the register's fields. -/
theorem govWrite_takes {o : Nat} {v : W64} {i : RegInfo} (hi : govInfo o = some i) (hp : isProfile o = false)
    (hrw : i.rw ≠ 0) (h50 : o ≠ 0x50) (hb : govBad o v = false) (s : State) :
    govWrite o v s = govSet o (v &&& i.rw) s := by
  have h0 : (i.rw == 0) = false := beq_eq_false_iff_ne.mpr hrw
  simp only [govWrite, hi, hp, h0, hb, Bool.false_and, Bool.or_self, Bool.false_eq_true, if_false, if_neg h50]

/-- The governor's registers among them, as its sub-window has them. -/
theorem Cell.govInfo_loc (h : c.spec.win = 0xA) :
    govInfo c.spec.loc = some c.spec.info ∧ isProfile c.spec.loc = false ∧ c.spec.info.rw ≠ 0 ∧ c.spec.loc ≠ 0x50 := by
  have hi := c.regInfo_off
  simp only [regInfo, c.off_mod, Cell.subWindow_off, Cell.localOff_off, h, bne_self_eq_false, Bool.false_eq_true,
    if_false] at hi
  refine ⟨hi, ?_, ?_, ?_⟩
  · cases c <;> simp only [Cell.spec, isProfile] at h ⊢ <;> grind
  · cases c <;> simp [Cell.spec] at h ⊢
  · cases c <;> simp only [Cell.spec] at h ⊢ <;> omega

/-- The value that the governor stores in one of them. -/
theorem Cell.govSet_loc (h : c.spec.win = 0xA) (v : W64) (s : State) :
    govSet c.spec.loc (v &&& c.spec.info.rw) s = c.spec.put v s := by
  cases c with
  | govQ | thermin | slackMin | rdur | revt | govAct | demand | govLim | govOpt | govOptCeil =>
    dsimp only [Cell.spec]
    simp (disch := omega) only [govSet, govShWrite, addr_index, govOpt_index, govOptCeil_index, ↓ite_inRange,
      ↓ite_outRange, ↓if_neg, ↓if_pos]
  | govCap | govRamp | govFloor | govCtl | govExt | govModel | govStatic | govTrim | govShift => rfl
  | _ => simp [Cell.spec] at h

/-- What a write does to each of them, one of the governor's with a ceiling above 64 aside. -/
theorem Cell.regEffect_off (src : Src) (v : W64) (s : State) (hb : c.spec.win = 0xA → govBad c.spec.loc v = false) :
    regEffect src c.off v s = c.spec.put v s := by
  simp only [regEffect, Cell.subWindow_off, Cell.localOff_off]
  by_cases hw : c.spec.win = 0xA
  · obtain ⟨hi, hp, hrw, h50⟩ := c.govInfo_loc hw
    simp only [hw, govWrite_takes hi hp hrw h50 (hb hw), c.govSet_loc hw]
  cases c with
  | ceBank | window | trussCount | portCount | sntCount | pbuf | schCount | layDbuf | layCount | memCount | arbCount
  | maxLoss | colDbuf | colCount =>
    dsimp only [Cell.spec]
    simp (disch := omega) only [trfWrite, trussWrite, portWrite, sntWrite, schWrite, layWrite, memWrite, colWrite,
      addr_index, window_index, window_mod, portCount_index, portIx_portCount, lossIx_maxLoss, ↓ite_inRange,
      ↓ite_outRange, ↓if_neg]
  | mboxOut n => fin_cases n <;> rfl
  | govLim | govCap | govRamp | govFloor | govOpt | govOptCeil | govCtl | govExt | govModel | govStatic | govTrim
  | govShift | govQ | thermin | slackMin | rdur | revt | govAct | demand => exact absurd rfl hw
  | _ => rfl
end Sys2Proof.Machine
end

section
namespace Sys2Proof.Machine

/-! ### Which registers they are -/

/-- One of the registers stands at an offset of a sub-window. -/
def HasCell (w o : Nat) : Prop := ∃ q, ∃ c : Cell q, c.spec.win = w ∧ c.spec.loc = o

/-- The map gives a register RW fields. -/
def hasRw (i : Option RegInfo) : Bool := i.any fun i => i.rw != 0

@[simp] theorem hasRw_none : hasRw none = false := rfl

@[simp] theorem hasRw_some (i : RegInfo) : hasRw (some i) = (i.rw != 0) := rfl

section
variable {o : Nat}

theorem trf_hasCell (h : hasRw (trfInfo o) = true) : HasCell 2 o := by
  simp only [trfInfo] at h
  split at h
  case h_3 => exact ⟨_, .scrub, rfl, rfl⟩
  case h_5 => exact ⟨_, .ceThresh, rfl, rfl⟩
  case h_7 => exact ⟨_, .tokTimeout, rfl, rfl⟩
  case h_10 => exact ⟨_, .mcmdW0, rfl, rfl⟩
  case h_11 => exact ⟨_, .mcmdW1, rfl, rfl⟩
  case h_15 =>
    simp only [Bool.and_eq_true, decide_eq_true_eq] at h
    split_ifs at h <;> simp at h
    exact ⟨_, .ceBank ⟨(o - 0x1000) / 8, by omega⟩, rfl, by simp only [Cell.spec]; omega⟩
  all_goals simp at h

theorem bootInfo_hasRw : hasRw (bootInfo o) = false := by
  simp only [bootInfo, cfgInfo]
  split <;> try rfl
  split <;> rfl

theorem truss_hasCell (h : hasRw (trussInfo o) = true) (hp : o < 0x4000) : HasCell 3 o := by
  simp only [trussInfo] at h
  split at h
  case h_6 =>
    simp only [Bool.and_eq_true, decide_eq_true_eq, bne_iff_ne] at h
    split_ifs at h <;> simp at h
    · exact ⟨_, .trussCount ⟨(o - 0x40) / 8, by omega⟩, rfl, by simp only [Cell.spec]; omega⟩
    · omega
  all_goals simp at h

theorem port_hasCell (h : hasRw (portInfo o) = true) : HasCell 4 o := by
  simp only [portInfo] at h
  split at h
  case h_2 => exact ⟨_, .timeouts, rfl, rfl⟩
  case h_5 =>
    simp only [Bool.and_eq_true, decide_eq_true_eq, bne_iff_ne] at h
    split_ifs at h <;> simp at h
    exact ⟨_, .portCount ⟨(o - 0x800) / 0x40, by omega⟩ ⟨o / 8 % 8, by omega⟩, rfl, by simp only [Cell.spec]; omega⟩
  all_goals simp at h

theorem snt_hasCell (h : hasRw (sntInfo o) = true) : HasCell 5 o := by
  simp only [sntInfo] at h
  split at h
  case h_2 => exact ⟨_, .hotThresh, rfl, rfl⟩
  case h_3 => exact ⟨_, .clip, rfl, rfl⟩
  case h_6 => exact ⟨_, .hot, rfl, rfl⟩
  case h_7 =>
    simp only [Bool.and_eq_true, decide_eq_true_eq, bne_iff_ne] at h
    split_ifs at h <;> simp at h
    exact ⟨_, .sntCount ⟨(o - 0x100) / 8, by omega⟩, rfl, by simp only [Cell.spec]; omega⟩
  all_goals simp at h

theorem sch_hasCell (h : hasRw (schInfo o) = true) : HasCell 6 o := by
  simp only [schInfo] at h
  split at h
  case h_3 => exact ⟨_, .schCtl, rfl, rfl⟩
  case h_10 =>
    simp only [Bool.and_eq_true, decide_eq_true_eq, bne_iff_ne] at h
    split_ifs at h <;> simp at h
    · exact ⟨_, .pbuf ⟨(o - 0x100) / 8, by omega⟩, rfl, by simp only [Cell.spec]; omega⟩
    · exact ⟨_, .schCount ⟨(o - 0x400) / 8, by omega⟩, rfl, by simp only [Cell.spec]; omega⟩
  all_goals simp at h

theorem lay_hasCell (h : hasRw (layInfo o) = true) : HasCell 7 o := by
  simp only [layInfo] at h
  split at h
  case h_9 =>
    simp only [Bool.and_eq_true, decide_eq_true_eq, bne_iff_ne] at h
    split_ifs at h with h8 hd hs hc hw <;> simp at h
    · exact ⟨_, .layDbuf ⟨(o - 0x100) / 8, by omega⟩, rfl, by simp only [Cell.spec]; omega⟩
    · exact ⟨_, .layCount ⟨(o - 0x300) / 8, by omega⟩, rfl, by simp only [Cell.spec]; omega⟩
    · have h3 : o / 8 % 4 ≠ 3 := fun e => by simp [winMask, e] at h
      exact ⟨_, .window ⟨(o - 0x1000) / 0x20, by omega⟩ ⟨o / 8 % 4, by omega⟩, rfl, by simp only [Cell.spec]; omega⟩
  all_goals simp at h

theorem mem_hasCell (h : hasRw (memInfo o) = true) (hp : ¬ (0x1000 ≤ o ∧ o < 0x1100)) : HasCell 8 o := by
  simp only [memInfo, Bool.and_eq_true, decide_eq_true_eq, bne_iff_ne] at h
  split_ifs at h with h8 h0 ht <;> simp at h
  · exact ⟨_, .memTimeout, rfl, ht.symm⟩
  · exact ⟨_, .memCount ⟨(o - 0x100) / 8, by omega⟩, rfl, by simp only [Cell.spec]; omega⟩
  · exact ⟨_, .arbCount ⟨(o - 0x200) / 8, by omega⟩, rfl, by simp only [Cell.spec]; omega⟩
  · exact ⟨_, .maxLoss ⟨(o - 0x3000) / 0x40, by omega⟩ ⟨o / 8 % 8, by omega⟩, rfl, by simp only [Cell.spec]; omega⟩

theorem col_hasCell (h : hasRw (colInfo o) = true) (hp : o ≠ 0x10) : HasCell 9 o := by
  simp only [colInfo] at h
  split at h
  case h_3 => exact absurd rfl hp
  case h_4 => exact ⟨_, .progress, rfl, rfl⟩
  case h_13 =>
    simp only [Bool.and_eq_true, decide_eq_true_eq, bne_iff_ne] at h
    split_ifs at h <;> simp at h
    · exact ⟨_, .colDbuf ⟨(o - 0x100) / 8, by omega⟩, rfl, by simp only [Cell.spec]; omega⟩
    · exact ⟨_, .colCount ⟨(o - 0x300) / 8, by omega⟩, rfl, by simp only [Cell.spec]; omega⟩
  all_goals simp at h

/-- The governor's registers of the configuration set. -/
theorem govShInfo_cell (h8 : o % 8 = 0) (h : (govShInfo o).isSome = true) :
    ∃ c : Cell .cfg, c.spec.win = 0xA ∧ c.spec.loc = o := by
  simp only [govShInfo, Bool.and_eq_true, decide_eq_true_eq] at h
  split_ifs at h with hl hc hr hf ho h16 <;> simp at h
  · exact ⟨.govLim ⟨(o - 0x100) / 8, by omega⟩, rfl, by simp only [Cell.spec]; omega⟩
  · exact ⟨.govCap, rfl, hc.symm⟩
  · exact ⟨.govRamp, rfl, hr.symm⟩
  · exact ⟨.govFloor, rfl, hf.symm⟩
  · exact ⟨.govOptCeil ⟨(o - 0x200) / 0x10, by omega⟩, rfl, by simp only [Cell.spec]; omega⟩
  · exact ⟨.govOpt ⟨(o - 0x200) / 0x10, by omega⟩, rfl, by simp only [Cell.spec]; omega⟩

theorem gov_hasCell (h : hasRw (govInfo o) = true) (hp : isProfile o = false) : HasCell 0xA o := by
  have hp' : ¬ (0x300 ≤ o ∧ o < 0x340) := by simpa [isProfile] using hp
  have h8 : o % 8 = 0 := by
    by_contra h8
    simp [govInfo, h8] at h
  simp only [govInfo, h8, bne_self_eq_false, Bool.false_eq_true, if_false] at h
  split at h
  case h_3 => exact ⟨_, .govCtl, rfl, rfl⟩
  case h_4 => exact ⟨_, .govExt, rfl, rfl⟩
  case h_5 => exact ⟨_, .govModel, rfl, rfl⟩
  case h_6 => exact ⟨_, .govStatic, rfl, rfl⟩
  case h_7 => exact ⟨_, .govTrim, rfl, rfl⟩
  case h_8 => exact ⟨_, .govShift, rfl, rfl⟩
  case h_13 =>
    rw [ite_outRange hp'] at h
    by_cases hr : 0x400 ≤ o ∧ o < 0x480
    · exact ⟨_, .govQ ⟨(o - 0x400) / 8, by omega⟩, rfl, by simp only [Cell.spec]; omega⟩
    rw [ite_outRange hr] at h
    by_cases hr : 0x480 ≤ o ∧ o < 0x4C0
    · exact ⟨_, .thermin ⟨(o - 0x480) / 8, by omega⟩, rfl, by simp only [Cell.spec]; omega⟩
    rw [ite_outRange hr] at h
    by_cases hr : 0x500 ≤ o ∧ o < 0x580
    · exact ⟨_, .slackMin ⟨(o - 0x500) / 8, by omega⟩, rfl, by simp only [Cell.spec]; omega⟩
    rw [ite_outRange hr] at h
    split at h
    · simp at h
    split at h
    · simp at h
    by_cases hr : 0x800 ≤ o ∧ o < 0x848
    · exact ⟨_, .rdur ⟨(o - 0x800) / 8, by omega⟩, rfl, by simp only [Cell.spec]; omega⟩
    rw [ite_outRange hr] at h
    by_cases hr : 0x880 ≤ o ∧ o < 0x8C8
    · exact ⟨_, .revt ⟨(o - 0x880) / 8, by omega⟩, rfl, by simp only [Cell.spec]; omega⟩
    rw [ite_outRange hr] at h
    by_cases hr : 0x900 ≤ o ∧ o < 0x980
    · exact ⟨_, .govAct ⟨(o - 0x900) / 8, by omega⟩, rfl, by simp only [Cell.spec]; omega⟩
    rw [ite_outRange hr] at h
    split at h
    · simp at h
    by_cases hr : 0x1000 ≤ o ∧ o < 0x1800
    · exact ⟨_, .demand ⟨(o - 0x1000) / 8, by omega⟩, rfl, by simp only [Cell.spec]; omega⟩
    rw [ite_outRange hr] at h
    split at h
    · cases hi : govShInfo (o - 0x8000) <;> simp [hi] at h
    · exact ⟨_, govShInfo_cell h8 (Option.isSome_of_any h)⟩
  all_goals simp at h

theorem core_hasCell (h : hasRw (coreInfo o) = true) (hp : o < 0x100) : HasCell 0xB o := by
  simp only [coreInfo] at h
  split at h
  case h_5 => exact ⟨_, .wdog, rfl, rfl⟩
  case h_6 => exact ⟨_, .moveAddr, rfl, rfl⟩
  case h_9 => exact ⟨_, .irqRoute, rfl, rfl⟩
  case h_11 => exact ⟨_, .irqEn, rfl, rfl⟩
  case h_13 =>
    rw [if_neg (by simp; omega)] at h
    simp at h
  all_goals simp at h

theorem vent_hasCell (h : hasRw (ventInfo o) = true) (hp : o ≠ 0x20) : HasCell 0xC o := by
  simp only [ventInfo] at h
  split at h
  case h_2 => exact ⟨_, .pecReq, rfl, rfl⟩
  case h_4 => exact ⟨_, .alertEn, rfl, rfl⟩
  case h_5 => exact absurd rfl hp
  case h_10 => exact ⟨_, .mboxOut 0, rfl, rfl⟩
  case h_11 => exact ⟨_, .mboxOut 1, rfl, rfl⟩
  case h_12 => exact ⟨_, .mboxOut 2, rfl, rfl⟩
  case h_13 => exact ⟨_, .mboxOut 3, rfl, rfl⟩
  all_goals simp at h

theorem dbgInfo_hasRw : hasRw (dbgInfo o) = false := by
  simp only [dbgInfo]
  split
  case h_5 => split <;> rfl
  all_goals rfl

/-- An offset is its sub-window's and the offset in it. -/
theorem cell_of_hasCell {off : Nat} (h : HasCell (subWindow off) (localOff off)) : ∃ q, ∃ c : Cell q, c.off = off := by
  obtain ⟨q, c, hw, hl⟩ := h
  refine ⟨q, c, ?_⟩
  simp only [Cell.off, hw, hl, subWindow, localOff]
  omega

/-- The plain registers are the registers of this list. -/
theorem cell_of_plainReg {off : Nat} (h : plainReg off = true) : ∃ q, ∃ c : Cell q, c.off = off := by
  apply cell_of_hasCell
  simp only [plainReg, Bool.and_eq_true] at h
  obtain ⟨hr, hp⟩ := h
  change hasRw (regInfo off) = true at hr
  simp only [regInfo] at hr
  generalize localOff off = o at *
  generalize subWindow off = w at *
  by_cases h8 : off % 8 = 0
  · simp only [h8, bne_self_eq_false, Bool.false_eq_true, if_false] at hr
    split at hr
    case h_1 => split_ifs at hr <;> simp at hr
    case h_2 => simp [bootInfo_hasRw] at hr
    case h_3 => exact trf_hasCell hr
    case h_4 => exact truss_hasCell hr (by simpa using hp)
    case h_5 => exact port_hasCell hr
    case h_6 => exact snt_hasCell hr
    case h_7 => exact sch_hasCell hr
    case h_8 => exact lay_hasCell hr
    case h_9 => exact mem_hasCell hr (by simpa [imp_iff_not_or] using hp)
    case h_10 => exact col_hasCell hr (by simpa using hp)
    case h_11 => exact gov_hasCell hr (by simp at hp; exact hp.1)
    case h_12 => exact core_hasCell hr (by simpa using hp)
    case h_13 => exact vent_hasCell hr (by simpa using hp)
    case h_14 => exact ⟨_, .errCount, rfl, (of_decide_eq_true hp).symm⟩
    case h_15 => simp [dbgInfo_hasRw] at hr
    case h_16 => simp at hr
  · simp [h8] at hr

end
end Sys2Proof.Machine
end

section
namespace Sys2Proof.Machine

/-! ### Reading back -/

/-- Two words agree under a mask when they agree on the bits it selects. -/
theorem and_eq_and_of_bits {x v m : W64} (h : ∀ i < 64, m.getLsbD i = true → x.getLsbD i = v.getLsbD i) :
    x &&& m = v &&& m := by
  refine BitVec.eq_of_getLsbD_eq fun i hi => ?_
  by_cases hm : m.getLsbD i = true
  · simp [hm, h i hi hm]
  · simp [hm]

/-- The mask of a field. -/
def fieldMask (lo n : Nat) : W64 := (BitVec.allOnes n).setWidth 64 <<< lo

/-- Two words agree on a field's bits when the fields are equal. -/
theorem and_fieldMask {x v : W64} {lo n : Nat} (h : field x lo n = field v lo n) :
    x &&& fieldMask lo n = v &&& fieldMask lo n := by
  refine and_eq_and_of_bits fun i hi hm => ?_
  simp only [fieldMask, BitVec.getLsbD_shiftLeft, BitVec.getLsbD_setWidth, BitVec.getLsbD_allOnes, Bool.and_eq_true,
    decide_eq_true_eq, Bool.not_eq_true', decide_eq_false_iff_not] at hm
  have hb := congrArg (fun w => w.getLsbD (i - lo)) h
  have hi' : lo + (i - lo) = i := by omega
  simpa [field, hm, hi'] using hb


/-- The low part of two words joined. -/
theorem field_append_low {n m : Nat} (a : BitVec n) (b : BitVec m) : field (a ++ b) 0 m = b := by
  refine BitVec.eq_of_getLsbD_eq fun i hi => ?_
  simp [field, hi, BitVec.getLsbD_append]

/-- A field of the high part of two words joined. -/
theorem field_append_high {n m : Nat} (a : BitVec n) (b : BitVec m) (lo w : Nat) :
    field (a ++ b) (m + lo) w = field a lo w := by
  refine BitVec.eq_of_getLsbD_eq fun i hi => ?_
  have h1 : ¬ m + lo + i < m := by omega
  have h2 : m + lo + i - m = lo + i := by omega
  simp [field, hi, BitVec.getLsbD_append, h1, h2]

/-- A word widened holds it. -/
theorem field_setWidth {n : Nat} (a : BitVec n) (h : n ≤ 64) : field (a.setWidth 64) 0 n = a := by
  refine BitVec.eq_of_getLsbD_eq fun i hi => ?_
  have h1 : i < 64 := by omega
  simp [field, hi, h1]

/-- Bits outside a mask do not count under it. -/
theorem or_and_mask {m y : W64} (v : W64) (h : ∀ i < 64, m.getLsbD i = true → y.getLsbD i = false) :
    (v &&& m ||| y) &&& m = v &&& m := by
  refine and_eq_and_of_bits fun i hi hm => ?_
  rw [BitVec.getLsbD_or, BitVec.getLsbD_and, hm, h i hi hm, Bool.and_true, Bool.or_false]

/-- TRIM_CODE and the offset loaded share no bit. -/
theorem trim_or_offset (v : W64) (o : BitVec 5) :
    (v &&& 0x00003F3F1F1F1F00 ||| o.setWidth 64) &&& 0x00003F3F1F1F1F00 = v &&& 0x00003F3F1F1F1F00 := by
  refine or_and_mask v fun i hi hm => ?_
  have h5 : 5 ≤ i := by
    by_contra h
    interval_cases i <;> simp_all
  exact BitVec.getLsbD_setWidth .. ▸ by simp [BitVec.getLsbD_of_ge o i h5]

/-- The shift's configuration and its level share no bit. -/
theorem shift_or_level (v : W64) (l : BitVec 16) :
    (v &&& 0xFFFFFFFF00000001 ||| (l.setWidth 64 <<< 16)) &&& 0xFFFFFFFF00000001 = v &&& 0xFFFFFFFF00000001 := by
  refine or_and_mask v fun i hi hm => ?_
  by_cases h : i < 16
  · simp [h]
  have h5 : 16 ≤ i - 16 := by
    by_contra h'
    interval_cases i <;> simp_all
  simp [BitVec.getLsbD_of_ge l _ h5]

/-- The bits of two flags joined. -/
theorem getLsbD_flagPair (a b : Bool) : ((0 : BitVec 62) ++ flagBits 1 b ++ flagBits 1 a).getLsbD 0 = a ∧
    ((0 : BitVec 62) ++ flagBits 1 b ++ flagBits 1 a).getLsbD 1 = b := by
  revert a b
  decide

/-- Two flags in the low bits of a word. -/
theorem flagPair_and (v : W64) :
    ((0 : BitVec 62) ++ flagBits 1 (bitAt v 1) ++ flagBits 1 (bitAt v 0)) &&& 3 = v &&& 3 := by
  refine and_eq_and_of_bits fun i hi hm => ?_
  obtain rfl | rfl : i = 0 ∨ i = 1 := by
    by_contra h
    interval_cases i <;> simp_all
  · exact (getLsbD_flagPair _ _).1
  · exact (getLsbD_flagPair _ _).2

/-- The bit of a flag. -/
theorem getLsbD_flag (a : Bool) : ((flagBits 1 a).setWidth 64).getLsbD 0 = a := by
  revert a
  decide

/-- A flag in the low bit of a word. -/
theorem flag_and (v : W64) : (flagBits 1 (bitAt v 0)).setWidth 64 &&& 1 = v &&& 1 := by
  refine and_eq_and_of_bits fun i hi hm => ?_
  obtain rfl : i = 0 := by
    by_contra h
    interval_cases i <;> simp_all
  exact getLsbD_flag _

section
variable {q : Part} (c : Cell q)

/-- Where no ceiling of a value of 127 is too high, none is. -/
theorem govBad_of_plain {o : Nat} (h : govBad o 0x7F7F7F7F7F7F7F7F = false) (v : W64) : govBad o v = false := by
  simp only [govBad] at h ⊢
  split_ifs at h ⊢ <;> simp_all

/-- A register of the configuration set, in its shadow. -/
@[simp] theorem Cell.isShadow_off : isShadow c.off = c.spec.info.sh := by
  simp only [isShadow, c.regInfo_off, Option.any_some]

/-- The part of the state that the register stands in. -/
theorem Cell.regPart_off : regPart c.off = q := by
  simp only [regPart, c.isShadow_off, Cell.subWindow_off, Cell.localOff_off]
  cases c with
  | memCount n => exact if_neg (show ¬ 0x200 ≤ 0x100 + 8 * n.val by omega)
  | arbCount n => exact if_pos (show 0x200 ≤ 0x200 + 8 * n.val by omega)
  | maxLoss b r => exact if_pos (show 0x200 ≤ 0x3000 + 0x40 * b.val + 8 * r.val by omega)
  | _ => rfl

/-- A write of one of these registers changes its part of the state alone. -/
theorem Cell.put_only (v : W64) (s : State) : OnlyIn [q] s (c.spec.put v s) := by
  refine ⟨by cases c <;> rfl, fun p hp => ?_⟩
  have hpq : p ≠ q := by simpa using hp
  cases c <;> cases p <;> (try contradiction) <;> rfl

/-- What one of these registers holds stands in its part of the state. -/
theorem Cell.get_congr {s t : State} (h : SamePart s t q) : c.spec.get t = c.spec.get s := by
  cases c <;> simp only [SamePart] at h <;> simp only [Cell.spec, h]

end
/-- A field of the low bits, widened. -/
theorem setWidth_field_and {n : Nat} (v : W64) (h : n ≤ 64) :
    (field v 0 n).setWidth 64 &&& fieldMask 0 n = v &&& fieldMask 0 n := and_fieldMask (field_setWidth _ h)

/-- Masking a field's other bits away leaves the field. -/
theorem field_and_fieldMask (v : W64) {lo n : Nat} (h : lo + n ≤ 64) :
    field (v &&& fieldMask lo n) lo n = field v lo n := by
  refine BitVec.eq_of_getLsbD_eq fun i hi => ?_
  have h1 : lo + i < 64 := by omega
  simp [field, fieldMask, hi, h1]

/-- The bits of a record with a word replaced. -/
theorem getLsbD_setWord {w : Nat} (x : BitVec w) (i : Nat) (v : W64) (k : Nat) (hk : k < w) :
    (setWord x i v).getLsbD k = if 64 * i ≤ k ∧ k < 64 * i + 64 then v.getLsbD (k - 64 * i) else x.getLsbD k := by
  simp only [setWord, setField, BitVec.getLsbD_or, BitVec.getLsbD_and, BitVec.getLsbD_not, BitVec.getLsbD_shiftLeft,
    BitVec.getLsbD_setWidth, BitVec.getLsbD_allOnes, hk, decide_true, Bool.true_and]
  have hw : k - 64 * i < w := by omega
  split_ifs with h
  · have h1 : ¬ k < 64 * i := by omega
    have h2 : k - 64 * i < 64 := by omega
    simp [h1, h2, hw]
  · obtain h1 | h1 : k < 64 * i ∨ 64 ≤ k - 64 * i := by omega
    · simp [h1]
    · have h2 : ¬ k - 64 * i < 64 := by omega
      simp [h2, BitVec.getLsbD_of_ge v _ h1]

/-- The word replaced. -/
theorem wordOf_setWord_same {w : Nat} (x : BitVec w) (i : Nat) (v : W64) (h : 64 * i + 64 ≤ w) :
    wordOf (setWord x i v) i = v := by
  refine BitVec.eq_of_getLsbD_eq fun j hj => ?_
  rw [wordOf, BitVec.getLsbD_extractLsb', getLsbD_setWord x i v _ (by omega), if_pos (by omega)]
  simp [hj]

/-- Another word of the record. -/
theorem wordOf_setWord_other {w : Nat} (x : BitVec w) {i j : Nat} (v : W64) (h : 64 * j + 64 ≤ w) (hij : j ≠ i) :
    wordOf (setWord x i v) j = wordOf x j := by
  refine BitVec.eq_of_getLsbD_eq fun k hk => ?_
  rw [wordOf, BitVec.getLsbD_extractLsb', getLsbD_setWord x i v _ (by omega), if_neg (by omega)]
  simp [wordOf]

/-- Two counts side by side are the word they were cut from. -/
theorem field_append_field (v : W64) : (field v 32 32 ++ field v 0 32 : BitVec 64) = v := by
  refine BitVec.eq_of_getLsbD_eq fun i hi => ?_
  rw [BitVec.getLsbD_append]
  split_ifs with h
  · simp [field, h]
  · have h1 : i - 32 < 32 := by omega
    have h2 : 32 + (i - 32) = i := by omega
    simp [field, h1, h2]

/-- A register reads back what its RW fields were given. -/
theorem Cell.get_put_same {q : Part} (c : Cell q) (v : W64) (s : State) :
    c.spec.get (c.spec.put v s) &&& c.spec.info.rw = v &&& c.spec.info.rw := by
  have hm (m : W64) : v &&& m &&& m = v &&& m := (BitVec.and_assoc ..).trans (congrArg (v &&& ·) (BitVec.and_self ..))
  cases c with
  | ceThresh | tokTimeout | hotThresh | memTimeout | progress | moveAddr | irqEn | alertEn | wdog =>
    show (field v 0 _).setWidth 64 &&& _ = _
    exact setWidth_field_and v (by decide)
  | govExt => exact (setWidth_field_and (n := 7) _ (by decide)).trans (hm _)
  | govQ n =>
    show ((SMap.set 0 s.gov.q n.val _).get 0 n.val).setWidth 64 &&& _ = _
    rw [SMap.get_set_same]
    exact (setWidth_field_and (n := 24) _ (by decide)).trans (hm _)
  | revt n =>
    show ((SMap.set 0 s.gov.revt n.val _).get 0 n.val).setWidth 64 &&& _ = _
    rw [SMap.get_set_same]
    exact (setWidth_field_and (n := 32) _ (by decide)).trans (hm _)
  | demand n =>
    show ((SMap.set 0 s.gov.demand n.val _).get 0 n.val).setWidth 64 &&& _ = _
    rw [SMap.get_set_same]
    exact (setWidth_field_and (n := 17) _ (by decide)).trans (hm _)
  | scrub | timeouts | govCap | govRamp | govFloor | govCtl | govModel | govStatic | irqRoute => exact hm _
  | pecReq => exact flag_and v
  | schCtl => exact flagPair_and v
  | govTrim => exact trim_or_offset v _
  | govShift => exact shift_or_level v _
  | mcmdW0 => exact hm _
  | mcmdW1 => exact (BitVec.and_assoc ..).trans (congrArg (v &&& ·) rfl)
  | trussCount | sntCount | schCount | layCount | memCount | arbCount | colCount =>
    exact congrArg (· &&& _) (SMap.get_set_same ..)
  | window | govLim | govOpt | govOptCeil | thermin | rdur | govAct =>
    exact (congrArg (· &&& _) (SMap.get_set_same ..)).trans (hm _)
  | pbuf n | layDbuf n | colDbuf n | mboxOut n => exact congrArg (· &&& _) (wordOf_setWord_same _ _ _ (by omega))
  | errCount => exact congrArg (· &&& _) (field_append_field v)
  | clip | hot => exact and_fieldMask (n := 32) (lo := 0) (field_append_low ..)
  | ceBank n =>
    exact and_fieldMask (n := 32) (lo := 0) ((field_append_low ..).trans (SMap.get_set_same ..))
  | portCount e n =>
    simp [Cell.spec, vmod, vset, SMap.get_set_same]
  | maxLoss b r =>
    refine and_fieldMask (n := 11) (lo := 32) ?_
    refine (field_append_high (_ : BitVec 53) (_ : BitVec 11) 21 11).trans ?_
    refine (field_append_high (_ : BitVec 32) (_ : BitVec 21) 0 11).trans ?_
    refine (field_append_low (_ : BitVec 21) (_ : BitVec 11)).trans ?_
    simp [Cell.spec, vmod, vset, SMap.get_set_same]
  | slackMin n =>
    refine and_fieldMask (n := 6) (lo := 8) ?_
    refine (field_append_high (_ : BitVec 58) (_ : BitVec 6) 2 6).trans ?_
    refine (field_append_high (_ : BitVec 56) (_ : BitVec 2) 0 6).trans ?_
    refine (field_append_low (_ : BitVec 50) (_ : BitVec 6)).trans ?_
    exact (SMap.get_set_same ..).trans (field_and_fieldMask v (by decide))

/-- A write of one of these registers leaves what every one of another kind holds. -/
theorem Cell.get_put_of_ctor {q : Part} (c d : Cell q) (v : W64) (s : State) (h : d.ctorIdx ≠ c.ctorIdx) :
    d.spec.get (c.spec.put v s) = d.spec.get s := by
  cases c <;> cases d <;> try exact absurd rfl h
  case govOpt.govOptCeil _ _ => exact SMap.get_set_other _ _ _ (by omega)
  case govOptCeil.govOpt _ _ => exact SMap.get_set_other _ _ _ (by omega)
  all_goals rfl

/-- A write of one of these registers leaves what every other one holds. -/
theorem Cell.get_put_other {q : Part} (c d : Cell q) (v : W64) (s : State) (h : d ≠ c) :
    d.spec.get (c.spec.put v s) = d.spec.get s := by
  by_cases hk : d.ctorIdx = c.ctorIdx
  swap
  · exact c.get_put_of_ctor d v s hk
  have hne {n : Nat} {f : Fin n → Cell q} {i j : Fin n} (hf : f i ≠ f j) : i.val ≠ j.val :=
    fun e => hf (congrArg f (Fin.ext e))
  cases c <;> cases d <;> (try exact absurd rfl h) <;> (try exact absurd hk (Nat.ne_of_beq_eq_false rfl))
  case pos.window.window n w m y =>
    have hnm : 4 * m.val + y.val ≠ 4 * n.val + w.val := fun e =>
      h (by rw [Fin.ext (show m.val = n.val by omega), Fin.ext (show y.val = w.val by omega)])
    exact SMap.get_set_other _ _ _ hnm
  case pos.ceBank.ceBank n m =>
    exact congrArg (_ ++ _ ++ _ ++ ·) (SMap.get_set_other _ _ _ (hne h))
  case pos.slackMin.slackMin n m =>
    exact congrArg (_ ++ · ++ _ ++ _) (SMap.get_set_other _ _ _ (hne h))
  case pos.govQ.govQ n m | pos.revt.revt n m | pos.demand.demand n m =>
    simp only [Cell.spec, State.onGov_gov, SMap.get_set_other _ _ _ (hne h)]
  case pos.portCount.portCount e n i m =>
    by_cases he : i = e
    · subst he
      have hnm : m.val ≠ n.val := fun e => h (by rw [Fin.ext e])
      simp [Cell.spec, vmod, vset, SMap.get_set_other _ _ _ hnm]
    · have hei : e.val ≠ i.val := fun e => he (Fin.ext e.symm)
      simp [Cell.spec, vmod, vset, hei]
  case pos.maxLoss.maxLoss e n i m =>
    by_cases he : i = e
    · subst he
      have hnm : m.val ≠ n.val := fun e => h (by rw [Fin.ext e])
      simp [Cell.spec, vmod, vset, SMap.get_set_other _ _ _ hnm]
    · have hei : e.val ≠ i.val := fun e => he (Fin.ext e.symm)
      simp [Cell.spec, vmod, vset, hei]
  case pos.govOpt.govOpt n m | pos.govOptCeil.govOptCeil n m =>
    have := hne h
    exact SMap.get_set_other _ _ _ (by omega)
  case pos.pbuf.pbuf n m | pos.layDbuf.layDbuf n m | pos.colDbuf.colDbuf n m | pos.mboxOut.mboxOut n m =>
    exact wordOf_setWord_other _ _ (by omega) (hne h)
  all_goals exact SMap.get_set_other _ _ _ (hne h)
end Sys2Proof.Machine
end

section
namespace Sys2Proof.Machine

/-! ### The clauses about a write's effect -/

section
variable {o : Nat}

/-- A plain register has no ceiling that a value could break. -/
theorem Cell.govBad_of_plainReg {q : Part} (c : Cell q) (h : plainReg c.off = true) (hw : c.spec.win = 0xA) (v : W64) :
    govBad c.spec.loc v = false := by
  simp only [plainReg, Cell.subWindow_off, Cell.localOff_off, hw, Bool.and_eq_true, Bool.not_eq_true'] at h
  exact govBad_of_plain h.2.2 v

/-- A write of one plain register leaves what every other one holds. -/
theorem Cell.get_put_of_off_ne {p q : Part} (c : Cell q) (d : Cell p) (v : W64) (s : State) (h : d.off ≠ c.off) :
    d.spec.get (c.spec.put v s) = d.spec.get s := by
  by_cases hpq : p = q
  · subst hpq
    exact c.get_put_other d v s fun e => h (by rw [e])
  · exact d.get_congr ((c.put_only v s).2 p (by simpa using hpq))

/-- A plain register reads back what its RW fields were given, its part of the state alone changes, and no other plain
register's value does. -/
theorem regEffect_plain (src : Src) (v : W64) (s : State) {i : RegInfo} (hi : regInfo o = some i)
    (h : plainReg o = true) :
    regHolds o (regEffect src o v s) &&& i.rw = v &&& i.rw ∧ OnlyIn [regPart o] s (regEffect src o v s) ∧
      ∀ p, plainReg p = true → p ≠ o → regHolds p (regEffect src o v s) = regHolds p s := by
  obtain ⟨q, c, rfl⟩ := cell_of_plainReg h
  obtain rfl : i = c.spec.info := Option.some.inj (hi.symm.trans c.regInfo_off)
  rw [c.regEffect_off src v s fun hw => c.govBad_of_plainReg h hw v, c.regHolds_off, c.regPart_off]
  refine ⟨c.get_put_same v s, c.put_only v s, fun p hp hne => ?_⟩
  obtain ⟨r, d, rfl⟩ := cell_of_plainReg hp
  rw [d.regHolds_off, d.regHolds_off, c.get_put_of_off_ne d v s hne]

/-- The governor's write of a register with RW fields: a profile's is dropped, a ceiling above 64 refused. -/
theorem regEffect_gov (src : Src) (v : W64) (s : State) {i : RegInfo} (hw : subWindow o = 0xA) (hi : regInfo o = some i)
    (hrw : i.rw ≠ 0) :
    (isProfile (localOff o) = true → regEffect src o v s = s) ∧
    (isProfile (localOff o) = false → govBad (localOff o) v = true → regEffect src o v s = report { code := 0x79 } s) ∧
    (isProfile (localOff o) = false → govBad (localOff o) v = false →
      regHolds o (regEffect src o v s) &&& i.rw = v &&& i.rw) := by
  have hg : govInfo (localOff o) = some i := by
    simp only [regInfo, hw] at hi
    split at hi
    · simp at hi
    · exact hi
  have h0 : (i.rw == 0) = false := beq_eq_false_iff_ne.mpr hrw
  refine ⟨fun hp => ?_, fun hp hb => ?_, fun hp hb => ?_⟩
  · simp only [regEffect, hw, govWrite, hg, hp, Bool.true_or, if_true]
  · simp only [regEffect, hw, govWrite, hg, hp, hb, h0, Bool.false_and, Bool.or_self, Bool.false_eq_true, if_false,
      if_true]
  · have hc : HasCell (subWindow o) (localOff o) := hw ▸ gov_hasCell (by simpa [hg] using hrw) hp
    obtain ⟨q, c, rfl⟩ := cell_of_hasCell hc
    obtain rfl : i = c.spec.info := Option.some.inj (hi.symm.trans c.regInfo_off)
    rw [Cell.localOff_off] at hb
    rw [c.regEffect_off src v s fun _ => hb, c.regHolds_off]
    exact c.get_put_same v s

end
end Sys2Proof.Machine
end

section
namespace Sys2Proof.Machine

/-! ### ARB_CFG and ERR_MASK -/

/-- ARB_CFG[b] stands in the memory sub-window. -/
theorem arbCfg_at (b : Fin 32) : subWindow (0x81000 + 8 * b.val) = 8 ∧
    localOff (0x81000 + 8 * b.val) = 0x1000 + 8 * b.val ∧ (0x81000 + 8 * b.val) % 8 = 0 := by
  simp only [subWindow, localOff]
  omega

/-- ARB_CFG[b] is a register of the configuration set. -/
theorem regInfo_arbCfg (b : Fin 32) :
    regInfo (0x81000 + 8 * b.val) = some { owner := .host, rw := 0x0000007F00FFFFFF, sh := true } := by
  obtain ⟨hw, hl, h8⟩ := arbCfg_at b
  simp only [regInfo, hw, hl, h8, bne_self_eq_false, Bool.false_eq_true, if_false]
  simp (disch := omega) only [memInfo, ↓ite_aligned, ↓ite_inRange, ↓ite_outRange, ↓if_neg]

/-- What ARB_CFG[b] holds. -/
theorem regHolds_arbCfg (b : Fin 32) (s : State) : regHolds (0x81000 + 8 * b.val) s = s.cfg.shadow.arb.get 0 b.val := by
  obtain ⟨hw, hl, -⟩ := arbCfg_at b
  simp only [regHolds, regInfo_arbCfg, hw, hl, Option.isNone_some, Bool.false_eq_true, if_false]
  simp (disch := omega) only [memRead, ↓ite_inRange, ↓ite_outRange, ↓if_neg, addr_index]

/-- A write of ARB_CFG[b]. -/
theorem regEffect_arbCfg (src : Src) (b : Fin 32) (v : W64) (s : State) :
    regEffect src (0x81000 + 8 * b.val) v s = writeArbCfg b.val v s := by
  obtain ⟨hw, hl, -⟩ := arbCfg_at b
  simp only [regEffect, hw, hl]
  simp (disch := omega) only [memWrite, ↓ite_inRange, ↓ite_outRange, ↓if_neg, addr_index]

/-- ARB_CFG[b] takes a valid value, and reports an invalid one. -/
theorem arbCfg_takes (src : Src) (b : Fin 32) (v : W64) (s : State) :
    (arbCfgOk v = true →
      regHolds (0x81000 + 8 * b.val) (regEffect src (0x81000 + 8 * b.val) v s) = v &&& 0x0000007F00FFFFFF) ∧
    (arbCfgOk v = false →
      regEffect src (0x81000 + 8 * b.val) v s = report { code := 0x52, unit := BitVec.ofNat 12 b.val } s) := by
  simp only [regHolds_arbCfg, regEffect_arbCfg, writeArbCfg]
  refine ⟨fun h => ?_, fun h => ?_⟩
  · rw [if_pos h]
    exact SMap.get_set_same ..
  · rw [if_neg (by simp [h])]

/-- ERR_MASK[k] stands in the error log's sub-window. -/
theorem errMask_at (k : Fin 4) :
    subWindow (0xD0040 + 8 * k.val) = 0xD ∧ localOff (0xD0040 + 8 * k.val) = 0x40 + 8 * k.val := by
  simp only [subWindow, localOff]
  omega

/-- What ERR_MASK[k] holds. -/
theorem regHolds_errMask (k : Fin 4) (s : State) :
    regHolds (0xD0040 + 8 * k.val) s = s.cfg.shadow.errMask.get 0 k.val := by
  fin_cases k <;> rfl

/-- A write of ERR_MASK[k] masks no code that cannot be masked. -/
theorem regEffect_errMask (src : Src) (k : Fin 4) (v : W64) (s : State) :
    regEffect src (0xD0040 + 8 * k.val) v s = s.onCfg fun c =>
      { c with shadow := { c.shadow with errMask := c.shadow.errMask.set 0 k.val (v &&& maskBits k.val) } } := by
  fin_cases k <;> rfl

/-- ERR_MASK[k] takes the bits of the codes that can be masked. -/
theorem errMask_takes (src : Src) (k : Fin 4) (v : W64) (s : State) :
    regHolds (0xD0040 + 8 * k.val) (regEffect src (0xD0040 + 8 * k.val) v s) = v &&& maskBits k.val := by
  rw [regHolds_errMask, regEffect_errMask]
  exact SMap.get_set_same ..

/-! ### The mirrors of the configuration set (R14) -/

section
variable {o : Nat}

theorem bootInfo_sh : (bootInfo o).any (·.sh) = false := by
  simp only [bootInfo, cfgInfo]
  split <;> try rfl
  split <;> rfl

theorem trussInfo_sh : (trussInfo o).any (·.sh) = false := by
  simp only [trussInfo]
  split <;> try rfl
  split_ifs <;> rfl

theorem portInfo_sh : (portInfo o).any (·.sh) = false := by
  simp only [portInfo]
  split <;> try rfl
  split_ifs <;> rfl

theorem sntInfo_sh : (sntInfo o).any (·.sh) = false := by
  simp only [sntInfo]
  split <;> try rfl
  split_ifs <;> rfl

theorem schInfo_sh : (schInfo o).any (·.sh) = false := by
  simp only [schInfo]
  split <;> try rfl
  split_ifs <;> rfl

theorem colInfo_sh : (colInfo o).any (·.sh) = false := by
  simp only [colInfo]
  split <;> try rfl
  split_ifs <;> rfl

theorem coreInfo_sh : (coreInfo o).any (·.sh) = false := by
  simp only [coreInfo]
  split <;> try rfl
  split_ifs <;> try rfl
  split <;> rfl

theorem ventInfo_sh : (ventInfo o).any (·.sh) = false := by
  simp only [ventInfo]
  split <;> rfl

theorem dbgInfo_sh : (dbgInfo o).any (·.sh) = false := by
  simp only [dbgInfo]
  split <;> try rfl
  split_ifs <;> rfl

theorem errInfo_sh (h : (errInfo o).any (·.sh) = true) : ∃ k : Fin 4, o = 0x40 + 8 * k.val := by
  simp only [errInfo] at h
  split at h
  case h_4 => exact ⟨0, rfl⟩
  case h_5 => exact ⟨1, rfl⟩
  case h_6 => exact ⟨2, rfl⟩
  case h_7 => exact ⟨3, rfl⟩
  case h_12 => split_ifs at h <;> simp at h
  all_goals simp at h

theorem memInfo_sh (h : (memInfo o).any (·.sh) = true) : ∃ b : Fin 32, o = 0x1000 + 8 * b.val := by
  simp only [memInfo, Bool.and_eq_true, decide_eq_true_eq, bne_iff_ne] at h
  split_ifs at h <;> simp at h
  exact ⟨⟨(o - 0x1000) / 8, by omega⟩, by simp only; omega⟩

theorem trfInfo_sh (h : (trfInfo o).any (·.sh) = true) : ∃ c : Cell .cfg, c.spec.win = 2 ∧ c.spec.loc = o := by
  simp only [trfInfo] at h
  split at h
  case h_3 => exact ⟨.scrub, rfl, rfl⟩
  case h_15 => split_ifs at h <;> simp at h
  all_goals simp at h

theorem layInfo_sh (h : (layInfo o).any (·.sh) = true) : ∃ c : Cell .cfg, c.spec.win = 7 ∧ c.spec.loc = o := by
  simp only [layInfo] at h
  split at h
  case h_9 =>
    simp only [Bool.and_eq_true, decide_eq_true_eq, bne_iff_ne] at h
    split_ifs at h <;> simp at h
    exact ⟨.window ⟨(o - 0x1000) / 0x20, by omega⟩ ⟨o / 8 % 4, by omega⟩, rfl, by simp only [Cell.spec]; omega⟩
  all_goals simp at h

/-- The first branch of a map is no register of the configuration set. -/
theorem any_sh_else {p : Prop} [Decidable p] {i : RegInfo} {x : Option RegInfo} (hi : i.sh = false)
    (h : (if p then some i else x).any (·.sh) = true) : x.any (·.sh) = true := by
  split_ifs at h
  · simp [hi] at h
  · exact h

theorem govInfo_sh (h8 : o % 8 = 0) (h : (govInfo o).any (·.sh) = true) :
    ∃ c : Cell .cfg, c.spec.win = 0xA ∧ c.spec.loc = o := by
  simp only [govInfo, h8, bne_self_eq_false, Bool.false_eq_true, if_false] at h
  split at h
  case h_13 =>
    have hq := any_sh_else rfl (any_sh_else rfl (any_sh_else rfl (any_sh_else rfl h)))
    have hb := any_sh_else rfl (any_sh_else rfl (any_sh_else rfl (any_sh_else rfl hq)))
    have hm := any_sh_else rfl (any_sh_else rfl (any_sh_else rfl hb))
    split at hm
    · cases hi : govShInfo (o - 0x8000) <;> simp [hi] at hm
    · exact govShInfo_cell h8 (Option.isSome_of_any hm)
  all_goals simp at h

/-- The registers of the configuration set: the plain ones, ARB_CFG and ERR_MASK. -/
theorem shadow_cases {off : Nat} (h : isShadow off = true) :
    (∃ c : Cell .cfg, c.off = off) ∨ (∃ b : Fin 32, off = 0x81000 + 8 * b.val) ∨
      ∃ k : Fin 4, off = 0xD0040 + 8 * k.val := by
  have hoff : off = 0x10000 * subWindow off + localOff off := by simp only [subWindow, localOff]; omega
  have cell (hc : ∃ c : Cell .cfg, c.spec.win = subWindow off ∧ c.spec.loc = localOff off) :
      ∃ c : Cell .cfg, c.off = off := by
    obtain ⟨c, hw, hl⟩ := hc
    exact ⟨c, by rw [Cell.off, hw, hl, ← hoff]⟩
  by_cases h8 : off % 8 = 0
  swap
  · simp [isShadow, regInfo, h8] at h
  have hl8 : localOff off % 8 = 0 := by simp only [localOff]; omega
  simp only [isShadow, regInfo, h8, bne_self_eq_false, Bool.false_eq_true, if_false] at h
  split at h
  case h_1 => split_ifs at h <;> simp at h
  case h_2 => simp [bootInfo_sh] at h
  case h_3 hw => exact .inl (cell (hw ▸ trfInfo_sh h))
  case h_4 => simp [trussInfo_sh] at h
  case h_5 => simp [portInfo_sh] at h
  case h_6 => simp [sntInfo_sh] at h
  case h_7 => simp [schInfo_sh] at h
  case h_8 hw => exact .inl (cell (hw ▸ layInfo_sh h))
  case h_9 hw =>
    obtain ⟨b, hb⟩ := memInfo_sh h
    exact .inr (.inl ⟨b, by omega⟩)
  case h_10 => simp [colInfo_sh] at h
  case h_11 hw => exact .inl (cell (hw ▸ govInfo_sh hl8 h))
  case h_12 => simp [coreInfo_sh] at h
  case h_13 => simp [ventInfo_sh] at h
  case h_14 hw =>
    obtain ⟨k, hk⟩ := errInfo_sh h
    exact .inr (.inr ⟨k, by omega⟩)
  case h_15 => simp [dbgInfo_sh] at h
  case h_16 => simp at h

end
end Sys2Proof.Machine
end

section
namespace Sys2Proof.Machine

/-- A state whose shadow is the active set. -/
def asActive (s : State) : State := { s with cfg := { s.cfg with shadow := s.cfg.active } }

section
variable {off : Nat}

/-- The mirror of a register in the lower half of its sub-window. -/
theorem mirror_at (h : localOff off < 0x8000) :
    subWindow (off + 0x8000) = subWindow off ∧ localOff (off + 0x8000) = localOff off + 0x8000 ∧
      (off + 0x8000) % 8 = off % 8 := by
  simp only [subWindow, localOff] at h ⊢
  omega

/-- A register of the configuration set and its mirror have the same bits from the image. -/
theorem imageBits_mirror (h : localOff off < 0x8000) (h9 : subWindow off ≠ 9) (hB : subWindow off ≠ 0xB)
    (hA : subWindow off = 0xA → 0x100 ≤ localOff off ∧ localOff off < 0x300) :
    imageBits (off + 0x8000) = imageBits off := by
  obtain ⟨hw, hl, -⟩ := mirror_at h
  have hm : 0x8000 ≤ localOff off + 0x8000 := by omega
  have hn : ¬ 0x8000 ≤ localOff off := by omega
  simp only [imageBits, hw, hl]
  split
  case h_1 => exact absurd (by assumption) h9
  case h_2 ha =>
    obtain ⟨h1, h2⟩ := hA ha
    have low (x : Nat) (h1 : 0x100 ≤ x) (h2 : ¬ (0x300 ≤ x ∧ x < 0x340)) (h3 : ¬ (0x400 ≤ x ∧ x < 0x4C0)) :
        ([0x10, 0x20, 0x28, 0x30, 0x38].contains x || (decide (0x300 ≤ x) && decide (x < 0x340)) ||
          (decide (0x400 ≤ x) && decide (x < 0x4C0))) = false := by
      simp
      omega
    rw [low _ (by omega) (by omega) (by omega), low _ h1 (by omega) (by omega)]
    simp only [Bool.false_eq_true, if_false, if_pos hm, if_neg hn, Nat.add_sub_cancel]
  case h_3 => exact absurd (by assumption) hB
  case h_4 => simp only [if_pos hm, if_neg hn, Nat.add_sub_cancel]

/-- What a mirror reads, when it holds the active value. -/
theorem regRead_mirror (h : localOff off < 0x8000) (h9 : subWindow off ≠ 9) (hB : subWindow off ≠ 0xB)
    (hA : subWindow off = 0xA → 0x100 ≤ localOff off ∧ localOff off < 0x300) (s : State)
    (hr : regHolds (off + 0x8000) s = regHolds off (asActive s)) :
    regRead (off + 0x8000) s = regRead off (asActive s) := by
  simp only [regRead, imageBits_mirror h h9 hB hA, hr]
  rfl

end

section
variable (c : Cell .cfg) (s : State)

theorem Cell.loc_lt_mirror : c.spec.loc < 0x8000 := by
  cases c <;> simp only [Cell.spec] <;> omega

theorem Cell.mirror_off : subWindow (c.off + 0x8000) = c.spec.win ∧ localOff (c.off + 0x8000) = c.spec.loc + 0x8000 ∧
    (c.off + 0x8000) % 8 = 0 := by
  have h := mirror_at (off := c.off) (by simpa using c.loc_lt_mirror)
  rwa [Cell.subWindow_off, Cell.localOff_off, c.off_mod] at h

/-- The number of the word that a mirror of the layout unit's windows reads. -/
theorem window_mirror_index (n : Fin 256) (w : Fin 3) :
    (0x1000 + 0x20 * n.val + 8 * w.val + 0x8000 - 0x9000) / 8 = 4 * n.val + w.val := by omega

/-- The place of a word in its window, in the mirror. -/
theorem window_mirror_mod (n : Fin 256) (w : Fin 3) :
    (0x1000 + 0x20 * n.val + 8 * w.val + 0x8000) / 8 % 4 = w.val := by omega

/-- What the map gives a mirror: fields to read alone. -/
theorem Cell.regInfo_mirror : regInfo (c.off + 0x8000) = some { owner := .both, other := c.spec.info.rw } := by
  obtain ⟨hw, hl, h8⟩ := c.mirror_off
  simp only [regInfo, hw, hl, h8, bne_self_eq_false, Bool.false_eq_true, if_false]
  cases c with
  | window | govLim | govOpt | govOptCeil =>
    dsimp only [Cell.spec]
    simp (disch := omega) only [layInfo, window_mirror_mod, govInfo, govShInfo, ↓ite_aligned, ↓ite_inRange,
      ↓ite_outRange, ↓ite_outRange_and, ↓if_pos, ↓if_neg, Option.map_some]
  | _ =>
    dsimp only [Cell.spec, Nat.reduceAdd]
    rfl

/-- The mirror reads the active value. -/
theorem Cell.regHolds_mirror : regHolds (c.off + 0x8000) s = c.spec.get (asActive s) := by
  obtain ⟨hw, hl, -⟩ := c.mirror_off
  simp only [regHolds, c.regInfo_mirror, hw, hl, Option.isNone_some, Bool.false_eq_true, if_false]
  cases c with
  | window | govLim | govOpt | govOptCeil =>
    dsimp only [Cell.spec]
    simp (disch := omega) only [layRead, govRead, govShRead, window_mirror_index, addr_index,
      govOpt_index, govOptCeil_index, Nat.add_sub_cancel, ↓ite_inRange, ↓ite_outRange, ↓if_pos, ↓if_neg]
    rfl
  | _ =>
    dsimp only [Cell.spec, Nat.reduceAdd]
    rfl

/-- The governor keeps a register without RW fields. -/
theorem govWrite_readOnly {o : Nat} {i : RegInfo} (hi : govInfo o = some i) (h : i.rw = 0) (h50 : o ≠ 0x50) (v : W64) :
    govWrite o v s = s := by
  have h50' : (o != 0x50) = true := by simp [h50]
  simp only [govWrite, hi, h, beq_self_eq_true, h50', Bool.and_self, Bool.or_true, if_true]

/-- The mirror ignores writes. -/
theorem Cell.regEffect_mirror (src : Src) (v : W64) : regEffect src (c.off + 0x8000) v s = s := by
  obtain ⟨hw, hl, h8⟩ := c.mirror_off
  simp only [regEffect, hw, hl]
  by_cases hA : c.spec.win = 0xA
  · have hi := c.regInfo_mirror
    simp only [regInfo, hw, hl, h8, hA, bne_self_eq_false, Bool.false_eq_true, if_false] at hi
    simp only [hA, govWrite_readOnly s hi rfl (show c.spec.loc + 0x8000 ≠ 0x50 by omega) v]
  cases c with
  | window =>
    dsimp only [Cell.spec]
    simp (disch := omega) only [layWrite, ↓ite_outRange]
  | scrub =>
    dsimp only [Cell.spec, Nat.reduceAdd]
    rfl
  | govLim | govCap | govRamp | govFloor | govOpt | govOptCeil => exact absurd rfl hA

/-- The mirror of a plain register of the configuration set. -/
theorem Cell.mirror : localOff c.off < 0x8000 ∧ regRead (c.off + 0x8000) s = regRead c.off (asActive s) ∧
    ∀ src v, regEffect src (c.off + 0x8000) v s = s := by
  have hl : localOff c.off < 0x8000 := by simpa using c.loc_lt_mirror
  refine ⟨hl, regRead_mirror hl ?_ ?_ ?_ s ?_, fun src v => c.regEffect_mirror s src v⟩
  · rw [Cell.subWindow_off]
    cases c <;> simp [Cell.spec]
  · rw [Cell.subWindow_off]
    cases c <;> simp [Cell.spec]
  · rw [Cell.subWindow_off, Cell.localOff_off]
    cases c <;> simp only [Cell.spec] <;> omega
  · rw [c.regHolds_mirror, c.regHolds_off]

/-- The mirror of ARB_CFG[b]. -/
theorem arbCfg_mirror (b : Fin 32) : localOff (0x81000 + 8 * b.val) < 0x8000 ∧
    regRead (0x81000 + 8 * b.val + 0x8000) s = regRead (0x81000 + 8 * b.val) (asActive s) ∧
    ∀ src v, regEffect src (0x81000 + 8 * b.val + 0x8000) v s = s := by
  obtain ⟨hw, hl, h8⟩ := arbCfg_at b
  have hlt : localOff (0x81000 + 8 * b.val) < 0x8000 := by omega
  obtain ⟨hw', hl', h8'⟩ := mirror_at hlt
  rw [hw] at hw'
  rw [hl] at hl'
  rw [h8] at h8'
  have hk : (0x1000 + 8 * b.val + 0x8000 - 0x9000) / 8 = b.val := by omega
  have hi : regInfo (0x81000 + 8 * b.val + 0x8000) = some { owner := .both, other := 0x0000007F00FFFFFF } := by
    simp only [regInfo, hw', hl', h8', bne_self_eq_false, Bool.false_eq_true, if_false]
    simp (disch := omega) only [memInfo, ↓ite_aligned, ↓ite_inRange, ↓ite_outRange, ↓if_neg]
  refine ⟨hlt, regRead_mirror hlt (by omega) (by omega) (by omega) s ?_, fun src v => ?_⟩
  · simp only [regHolds_arbCfg]
    simp only [regHolds, hi, hw', hl', Option.isNone_some, Bool.false_eq_true, if_false]
    simp (disch := omega) only [memRead, ↓ite_inRange, ↓ite_outRange, ↓if_neg, hk]
    rfl
  · simp only [regEffect, hw', hl']
    simp (disch := omega) only [memWrite, ↓ite_outRange, ↓if_neg]

/-- The mirror of ERR_MASK[k]. -/
theorem errMask_mirror (k : Fin 4) : localOff (0xD0040 + 8 * k.val) < 0x8000 ∧
    regRead (0xD0040 + 8 * k.val + 0x8000) s = regRead (0xD0040 + 8 * k.val) (asActive s) ∧
    ∀ src v, regEffect src (0xD0040 + 8 * k.val + 0x8000) v s = s := by
  obtain ⟨hw, hl⟩ := errMask_at k
  have hlt : localOff (0xD0040 + 8 * k.val) < 0x8000 := by omega
  obtain ⟨hw', hl', h8'⟩ := mirror_at hlt
  rw [hw] at hw'
  rw [hl] at hl'
  have hk : (0x40 + 8 * k.val + 0x8000 - 0x8040) / 8 = k.val := by omega
  have hi : regInfo (0xD0040 + 8 * k.val + 0x8000) = some { owner := .both, other := 0xFFFFFFFFFFFFFFFF } := by
    fin_cases k <;> rfl
  refine ⟨hlt, regRead_mirror hlt (by omega) (by omega) (by omega) s ?_, fun src v => ?_⟩
  · simp only [regHolds_errMask]
    simp only [regHolds, hi, hw', hl', Option.isNone_some, Bool.false_eq_true, if_false]
    simp (disch := omega) only [errRead, ↓ite_inRange, ↓ite_outRange, hk]
    rfl
  · simp only [regEffect, hw', hl']
    simp (disch := omega) only [errWrite, ↓ite_outRange]

/-- The mirror of a register of the configuration set reads the active value and ignores writes (R14). -/
theorem shadow_mirror {off : Nat} (h : isShadow off = true) : localOff off < 0x8000 ∧
    regRead (off + 0x8000) s = regRead off (asActive s) ∧ ∀ src v, regEffect src (off + 0x8000) v s = s := by
  obtain ⟨c, rfl⟩ | ⟨b, rfl⟩ | ⟨k, rfl⟩ := shadow_cases h
  · exact c.mirror s
  · exact arbCfg_mirror s b
  · exact errMask_mirror s k

end
end Sys2Proof.Machine
end

section
namespace Sys2Proof.Machine

/-! ### Settling where no fatal error is due

A command that leaves the phases, the drains and the block state alone ends with the log and the core's wake. -/

/-- The state with everything blanked that writing the log and waking the core can change. -/
def State.unlogged (s : State) : State :=
  { s with
    log := {}
    trf := { s.trf with mort := [] }
    core := { s.core with run := .halted, irqErr := false }
    aon := { s.aon with alert := 0, smbalert := false } }

theorem unlogged_onLog (f : Log → Log) (s : State) : (s.onLog f).unlogged = s.unlogged := rfl

theorem unlogged_signalNew (e : LogEntry) (s : State) : (signalNew e s).unlogged = s.unlogged := by
  unfold signalNew
  dsimp only
  split <;> rfl

theorem unlogged_notePoisonEntry (r : Report) (q : BitVec 32) (s : State) :
    (notePoisonEntry r q s).unlogged = s.unlogged := by
  unfold notePoisonEntry
  split <;> rfl

theorem unlogged_noteDrop (r : Report) (q : BitVec 32) (s : State) : (noteDrop r q s).unlogged = s.unlogged := by
  unfold noteDrop
  split <;> rfl

theorem unlogged_writeNew (r : Report) (s : State) : (writeNew r s).unlogged = s.unlogged := by
  unfold writeNew
  dsimp only
  split
  · rw [unlogged_signalNew, unlogged_noteDrop, unlogged_notePoisonEntry, unlogged_onLog]
  · split
    · split
      · rw [unlogged_signalNew, unlogged_onLog]
      · rfl
    · rfl

theorem unlogged_logOne (r : Report) (p : State × Nat) : (logOne r p).1.unlogged = p.1.unlogged := by
  unfold logOne
  dsimp only
  split
  · rfl
  · split
    · split <;> rfl
    · split
      · rfl
      · exact unlogged_noteDrop _ _ _
      · split
        · exact unlogged_writeNew _ _
        · rfl

/-- Writing the log changes nothing else that `unlogged` keeps. -/
theorem unlogged_flushLog (s : State) : (flushLog s).unlogged = s.unlogged := by
  unfold flushLog
  rw [foldOver_same (fun p : State × Nat => p.1.unlogged) unlogged_logOne, unlogged_onLog]

theorem unlogged_wakeCore (s : State) : (wakeCore s).unlogged = s.unlogged := by
  unfold wakeCore
  split <;> rfl

/-- A report that sets no POISON leaves the tile register file alone. -/
theorem logOne_trf {r : Report} (hr : r.setsPoison = false) (p : State × Nat) : (logOne r p).1.trf = p.1.trf := by
  have drop (q : BitVec 32) (t : State) : (noteDrop r q t).trf = t.trf := by
    unfold noteDrop
    split <;> rfl
  have poison (q : BitVec 32) (t : State) : (notePoisonEntry r q t).trf = t.trf := by
    unfold notePoisonEntry
    rw [hr]
  have signal (e : LogEntry) (t : State) : (signalNew e t).trf = t.trf := by
    unfold signalNew
    dsimp only
    split <;> rfl
  have new (t : State) : (writeNew r t).trf = t.trf := by
    unfold writeNew
    dsimp only
    split
    · rw [signal, drop, poison, State.onLog_trf]
    · split
      · split
        · rw [signal, State.onLog_trf]
        · rfl
      · rfl
  unfold logOne
  dsimp only
  split
  · rfl
  · split
    · split <;> rfl
    · split
      · rfl
      · exact drop _ _
      · split
        · exact new _
        · rfl

/-- One report that sets no POISON leaves the tile register file alone. -/
theorem flushLog_trf {s : State} {r : Report} (h : s.log.raised = [r]) (hr : r.setsPoison = false) :
    (flushLog s).trf = s.trf := by
  unfold flushLog
  rw [h]
  exact logOne_trf hr _

/-- From s to t neither the phases, the drains nor the block state change, and no fatal error is due. -/
structure Calm (s t : State) : Prop where
  noFatal : t.aon.fatalDue = false
  st : t.aon.st = s.aon.st
  sched : t.sched = s.sched
  ports : t.ports = s.ports
  sinter : t.sinter = s.sinter

section
variable {s t : State} (hs : Settled s) (h : Calm s t)
include hs h

/-- A calm command ends with the log and the core's wake. -/
theorem Calm.settle_eq : settle t = wakeCore (flushLog t) := settle_log hs h.noFatal h.st h.sched h.ports h.sinter

/-- A calm command's end changes nothing that `unlogged` keeps. -/
theorem Calm.unlogged_settle : (settle t).unlogged = t.unlogged := by
  rw [h.settle_eq hs, unlogged_wakeCore, unlogged_flushLog]

theorem Calm.settle_cfg : (settle t).cfg = t.cfg := congrArg (·.cfg) (h.unlogged_settle hs)
theorem Calm.settle_col : (settle t).col = t.col := congrArg (·.col) (h.unlogged_settle hs)
theorem Calm.settle_arb : (settle t).arb = t.arb := congrArg (·.arb) (h.unlogged_settle hs)
theorem Calm.settle_link : (settle t).aon.link = t.aon.link := congrArg (·.aon.link) (h.unlogged_settle hs)
theorem Calm.settle_bypCw : (settle t).aon.bypCw = t.aon.bypCw := congrArg (·.aon.bypCw) (h.unlogged_settle hs)
theorem Calm.settle_bypCcw : (settle t).aon.bypCcw = t.aon.bypCcw := congrArg (·.aon.bypCcw) (h.unlogged_settle hs)
theorem Calm.settle_ventLast : (settle t).aon.ventLast = t.aon.ventLast :=
  congrArg (·.aon.ventLast) (h.unlogged_settle hs)
theorem Calm.settle_hpRsp : (settle t).aon.hpRsp = t.aon.hpRsp := congrArg (·.aon.hpRsp) (h.unlogged_settle hs)

/-- One that raises no code ends with the core's wake alone. -/
theorem Calm.settle_wake (hr : t.log.raised = []) : settle t = wakeCore t := by
  rw [h.settle_eq hs, flushLog_quiet hr]

end

end Sys2Proof.Machine
end

section
namespace Sys2Proof.Machine

/-! ### What changes in which part -/

section
variable {s t u : State} {ps qs : List Part}

theorem SamePart.trans {p : Part} (h : SamePart s t p) (k : SamePart t u p) : SamePart s u p := by
  cases p <;> exact Eq.trans k h

theorem OnlyIn.trans (h : OnlyIn ps s t) (k : OnlyIn ps t u) : OnlyIn ps s u :=
  ⟨k.1.trans h.1, fun p hp => (h.2 p hp).trans (k.2 p hp)⟩

theorem OnlyIn.mono (h : OnlyIn ps s t) (hpq : ∀ p ∈ ps, p ∈ qs) : OnlyIn qs s t :=
  ⟨h.1, fun p hp => h.2 p fun hm => hp (hpq p hm)⟩

theorem answer_onlyIn (src : Src) (a : Answer) (v : W64) (s : State) : OnlyIn [.aon] s (answer src a v s) :=
  ⟨answer_pending src a v s, fun p hp => by cases p <;> simp_all [SamePart]⟩

theorem report_onlyIn (r : Report) (s : State) : OnlyIn [.log] s (report r s) :=
  ⟨rfl, fun p hp => by cases p <;> simp_all [SamePart, report]⟩

theorem noteBinding_onlyIn (s : State) : OnlyIn [.gov] s (noteBinding s) := by
  unfold noteBinding
  dsimp only
  split
  · exact ⟨rfl, fun p _ => by cases p <;> rfl⟩
  · exact ⟨rfl, fun p hp => by cases p <;> simp_all [SamePart]⟩

theorem wakeCore_onlyIn (s : State) : OnlyIn [.core] s (wakeCore s) := by
  unfold wakeCore
  split
  · exact ⟨rfl, fun p hp => by cases p <;> simp_all [SamePart]⟩
  · exact ⟨rfl, fun p _ => by cases p <;> rfl⟩

/-- A calm command's end changes the log, the always-on domain and the core alone, unless it sets a mortise's POISON. -/
theorem Calm.settle_onlyIn (hs : Settled s) (h : Calm s t) (htrf : (settle t).trf = t.trf) :
    OnlyIn [.aon, .core, .log] t (settle t) := by
  have hu := h.unlogged_settle hs
  refine ⟨settle_pending t, fun p hp => ?_⟩
  cases p with
  | log | aon | core => simp at hp
  | trf => exact htrf
  | cfg => exact h.settle_cfg hs
  | arb => exact h.settle_arb hs
  | col => exact h.settle_col hs
  | _ => simp [SamePart]

end


/-! ### A write of the window -/

/-- The checks let an admitted initiator's write through. -/
theorem writeVerdict_of_writes {src : Src} {o : Owner} {s : State} (h : Writes src o s) (off : Nat) :
    writeVerdict src off o s = .allow := by
  unfold writeVerdict stateVerdict ownerDrops ownershipDrops
  cases src with
  | firmware =>
    obtain ⟨h0, h1, h2⟩ := h
    cases o <;> simp_all
  | vent =>
    obtain ⟨h0, h1, h2⟩ := h
    cases o <;> simp_all
  | host id =>
    obtain ⟨h0, h1, h2, h3⟩ := h
    rcases h3 with h3 | h3 <;> cases o <;> simp_all

/-- An initiator that may write a register of both classes may access any. -/
theorem stateVerdict_of_writes {src : Src} {s : State} (h : Writes src .both s) (off : Nat) :
    stateVerdict src off s = .allow := by
  have hv := writeVerdict_of_writes h off
  unfold writeVerdict at hv
  split at hv
  · assumption
  · exact hv

/-- A write of the wrong owner class is dropped. -/
theorem writeVerdict_of_ownerDrops {src : Src} {o : Owner} {s : State} (h : Writes src .both s) (off : Nat)
    (ho : ownerDrops src o = true) : writeVerdict src off o s = .drop := by
  simp [writeVerdict, stateVerdict_of_writes h off, ho]

section
variable {src : Src} {off : Nat} {v : W64} {s : State} {i : RegInfo}

/-- A write that its register does not turn away is answered and takes its effect. -/
theorem regWrite_takes (hw : Writes src i.owner s) (hi : regInfo off = some i)
    (ht : writeTurned src off i v s = false) :
    regWrite src off v s = regEffect src off v (answered src off (unitDrops off v s) s) := by
  simp only [regWrite, hi, ht, Bool.false_eq_true, if_false]
  cases unitDrops off v s with
  | false => rw [writeDropping_false, writeReg_of_writes hw]; rfl
  | true => rw [writeDropping_of_writes (writeVerdict_of_writes hw off)]; rfl

/-- A write that its register turns away. -/
theorem regWrite_turned (hw : Writes src i.owner s) (hi : regInfo off = some i)
    (ht : writeTurned src off i v s = true) : regWrite src off v s = turnWrite src off v s := by
  simp only [regWrite, hi, ht, if_true, writeUnless, writeVerdict_of_writes hw off, beq_self_eq_true, Bool.and_self]

/-- A write of the wrong owner class changes nothing but the answer, and reports the drop. -/
theorem windowWrite_dropped (hw : Writes src .both s) (hi : regInfo off = some i)
    (ho : ownerDrops src i.owner = true) :
    windowWrite src off v s = logDrop src (answer src .dropped 0 s) := by
  have hv := writeVerdict_of_ownerDrops hw off ho
  have drop (late : Bool) (turn act : State → State) :
      writeUnless src off i.owner late turn act s = logDrop src (answer src .dropped 0 s) := by
    simp [writeUnless, writeReg, hv]
  unfold windowWrite
  split
  · next h10 =>
    subst h10
    obtain rfl : i = { owner := .host, other := 0xFFFFFFFFFFFFFFFF } := Option.some.inj (hi.symm.trans rfl)
    exact drop _ _ _
  · simp only [regWrite, hi, writeDropping, drop, ite_self]

/-- A write of an unassigned offset is answered. -/
theorem windowWrite_unassigned (hw : Writes src .both s) (hi : regInfo off = none) :
    windowWrite src off v s = answer src .ok 0 s := by
  have h10 : off ≠ 0x10020 := fun e => by simp [e, regInfo, subWindow, localOff, bootInfo] at hi
  simp only [windowWrite, if_neg h10, regWrite, hi, readReg, stateVerdict_of_writes hw off]

/-- A read of a register outside the debug sub-window is answered with what it reads. -/
theorem regAccess_reads (hw : Writes src .both s) (hE : subWindow off ≠ 0xE) :
    regAccess src off s = answer src .ok (regRead off s) s := by
  simp [regAccess, hE, readReg, stateVerdict_of_writes hw off]

end
end Sys2Proof.Machine
end

section
namespace Sys2Proof.Machine

/-! ### How a write of the window ends -/

section
variable {s t : State}

theorem Calm.noteBinding (h : Calm s t) : Calm s (noteBinding t) := by
  have hb := noteBinding_onlyIn t
  have ha : (Machine.noteBinding t).aon = t.aon := hb.2 .aon (by simp)
  have hc : (Machine.noteBinding t).sched = t.sched := hb.2 .sched (by simp)
  have hp : (Machine.noteBinding t).ports = t.ports := hb.2 .ports (by simp)
  have hk : (Machine.noteBinding t).sinter = t.sinter := hb.2 .sinter (by simp)
  exact ⟨ha ▸ h.noFatal, ha ▸ h.st, hc.trans h.sched, hp.trans h.ports, hk.trans h.sinter⟩

theorem noteBinding_log (t : State) : (noteBinding t).log = t.log := (noteBinding_onlyIn t).2 .log (by simp)
theorem noteBinding_aon (t : State) : (noteBinding t).aon = t.aon := (noteBinding_onlyIn t).2 .aon (by simp)
theorem noteBinding_cfg (t : State) : (noteBinding t).cfg = t.cfg := (noteBinding_onlyIn t).2 .cfg (by simp)

theorem calm_answer (hs : Settled s) (src : Src) (a : Answer) (v : W64) : Calm s (answer src a v s) :=
  ⟨by simpa using hs.1.2, by simp, by simp, by simp, by simp⟩

theorem Calm.report (h : Calm s t) (r : Report) : Calm s (report r t) := ⟨h.noFatal, h.st, h.sched, h.ports, h.sinter⟩

/-- A command that raises nothing ends with the core's wake. -/
theorem Calm.settle_quiet_onlyIn (hs : Settled s) (h : Calm s t) (hr : t.log.raised = []) :
    OnlyIn [.core] t (settle t) := by
  rw [h.settle_wake hs hr]
  exact wakeCore_onlyIn t

/-- A command that raises one report ends with the log and what follows from it. -/
theorem Calm.settle_report_onlyIn (hs : Settled s) (h : Calm s t) {r : Report} (hr : t.log.raised = [r])
    (hp : r.setsPoison = false) : OnlyIn [.aon, .core, .log] t (settle t) := by
  refine h.settle_onlyIn hs ?_
  rw [h.settle_eq hs, (wakeCore_onlyIn _).2 .trf (by simp)]
  exact flushLog_trf hr hp

/-- An access that is answered alone. -/
theorem answered_onlyIn (hs : Settled s) (src : Src) (a : Answer) (v : W64) :
    OnlyIn [.aon, .gov, .core] s (settle (noteBinding (answer src a v s))) := by
  have h := (calm_answer hs src a v).noteBinding
  have hr : (Machine.noteBinding (answer src a v s)).log.raised = [] := by
    rw [noteBinding_log, answer_log]
    exact hs.1.1
  exact ((answer_onlyIn src a v s).mono (by simp)).trans
    (((noteBinding_onlyIn _).mono (by simp)).trans ((h.settle_quiet_onlyIn hs hr).mono (by simp)))

/-- An access that is answered, and reported with a code that sets no POISON. -/
theorem answered_report_onlyIn (hs : Settled s) (src : Src) (a : Answer) (v : W64) {r : Report}
    (hp : r.setsPoison = false) :
    OnlyIn [.aon, .gov, .core, .log] s (settle (noteBinding (report r (answer src a v s)))) := by
  have h := ((calm_answer hs src a v).report r).noteBinding
  have hr : ∃ r', (Machine.noteBinding (Machine.report r (answer src a v s))).log.raised = [r'] ∧
      r'.setsPoison = false := by
    rw [noteBinding_log]
    have hq : (answer src a v s).log.raised = [] := by rw [answer_log, hs.1.1]
    refine ⟨{ r with nested := r.nested || (isFatalCode r.code && (answer src a v s).aon.st == .fault) }, ?_, hp⟩
    simp only [Machine.report, State.onLog_log, hq, List.nil_append]
  obtain ⟨r', hr, hp'⟩ := hr
  exact ((answer_onlyIn src a v s).mono (by simp)).trans (((report_onlyIn r _).mono (by simp)).trans
    (((noteBinding_onlyIn _).mono (by simp)).trans ((h.settle_report_onlyIn hs hr hp').mono (by simp))))

/-- What a settled access leaves in the vent port's answer. -/
theorem Calm.ventLast_noteBinding (hs : Settled s) (h : Calm s t) :
    (settle (Machine.noteBinding t)).aon.ventLast = t.aon.ventLast := by
  rw [h.noteBinding.settle_ventLast hs, noteBinding_aon]

end

section
variable {src : Src} {off : BitVec 24} {v : BitVec 64} {s : State} {i : RegInfo}

/-- A write of DBG_CMD that is refused changes nothing but the answer, the log and what follows from it. -/
theorem dbgTurned_write (hs : Settled s) (hw : Writes src i.owner s) (hi : regInfo off.toNat = some i)
    (ho : off.toNat = 0xE0000) (ht : dbgTurned src v s = true) :
    Completes (.registerWrite src off (some v)) s fun t =>
      t.dbg = s.dbg ∧ OnlyIn [.aon, .gov, .core, .log] s t ∧ (src = .vent → t.aon.ventLast = 2) := by
  have hturn : writeTurned src off.toNat i v s = true := by simp [writeTurned, ho, ht]
  have he : exec (.registerWrite src off (some v)) s = .next (settle (noteBinding (dbgTurn src v s))) := by
    show doneGov (windowWrite src off.toNat v s) = _
    rw [windowWrite, if_neg (by omega), regWrite_turned hw hi hturn, turnWrite, if_pos ho]
    rfl
  have hc : OnlyIn [.aon, .gov, .core, .log] s (settle (noteBinding (dbgTurn src v s))) ∧ Calm s (dbgTurn src v s) := by
    unfold dbgTurn
    dsimp only
    split
    · exact ⟨answered_report_onlyIn hs _ _ _ rfl, (calm_answer hs _ _ _).report _⟩
    · exact ⟨(answered_onlyIn hs _ _ _).mono (by simp), calm_answer hs _ _ _⟩
  refine ⟨_, he, hc.1.2 .dbg (by simp), hc.1, fun hv => ?_⟩
  rw [hc.2.ventLast_noteBinding hs]
  subst hv
  unfold dbgTurn
  dsimp only
  split <;> rfl

/-- A write that is not turned away takes its effect. -/
theorem exec_registerWrite_takes (hw : Writes src i.owner s) (hi : regInfo off.toNat = some i)
    (h10 : off.toNat ≠ 0x10020) (ht : writeTurned src off.toNat i v s = false) :
    exec (.registerWrite src off (some v)) s = .next (settle (noteBinding
      (regEffect src off.toNat v (answered src off.toNat (unitDrops off.toNat v s) s)))) := by
  show doneGov (windowWrite src off.toNat v s) = _
  rw [windowWrite, if_neg h10, regWrite_takes hw hi ht]
  rfl

/-- A register of the configuration set is not DBG_CMD. -/
theorem shadow_ne_dbgCmd (hi : regInfo off.toNat = some i) (hsh : i.sh = true) : off.toNat ≠ 0xE0000 := fun e => by
  rw [e] at hi
  obtain rfl : i = { owner := .both, other := 0xC00000003FFFFFFF } := Option.some.inj (hi.symm.trans rfl)
  exact absurd hsh (by decide)

/-- A write of the configuration set takes its effect while no raise is pending. -/
theorem exec_shadowWrite_takes (hw : Writes src i.owner s) (hi : regInfo off.toNat = some i) (h10 : off.toNat ≠ 0x10020)
    (hsh : i.sh = true) (hp : s.cfg.pending = false) :
    exec (.shadowRegisterWrite src off v) s = .next (settle
      (regEffect src off.toNat v (answered src off.toNat (unitDrops off.toNat v s) s))) := by
  have hturn : writeTurned src off.toNat i v s = false := by
    simp [writeTurned, shadow_ne_dbgCmd hi hsh, h10, hp]
  show done (onlyIf (isShadow off.toNat) (regWrite src off.toNat v) s) = _
  rw [onlyIf_pos _ _ (by simp [isShadow, hi, hsh]), regWrite_takes hw hi hturn]
  rfl

/-- While a raise is pending a register of the configuration set turns a write away. -/
theorem regWrite_locked (hw : Writes src i.owner s) (hi : regInfo off.toNat = some i) (h10 : off.toNat ≠ 0x10020)
    (hsh : i.sh = true) (hp : s.cfg.pending = true) : regWrite src off.toNat v s = shadowLocked src s := by
  have hE := shadow_ne_dbgCmd hi hsh
  have hturn : writeTurned src off.toNat i v s = true := by simp [writeTurned, hE, h10, hp, hsh]
  rw [regWrite_turned hw hi hturn, turnWrite, if_neg hE, if_neg h10]

theorem shadowLocked_cfg : (shadowLocked src s).cfg = s.cfg := answer_cfg src .dropped 0 s

theorem calm_shadowLocked (hs : Settled s) : Calm s (shadowLocked src s) := (calm_answer hs src .dropped 0).report _

/-- While a raise is pending a register write does not change the configuration sets. -/
theorem registerWrite_locked (hs : Settled s) (hw : Writes src i.owner s) (hi : regInfo off.toNat = some i)
    (h10 : off.toNat ≠ 0x10020) (hsh : i.sh = true) (hp : s.cfg.pending = true) :
    Completes (.registerWrite src off (some v)) s fun t => t.cfg = s.cfg := by
  refine ⟨settle (noteBinding (shadowLocked src s)), ?_, ?_⟩
  · show doneGov (windowWrite src off.toNat v s) = _
    rw [windowWrite, if_neg h10, regWrite_locked hw hi h10 hsh hp]
    rfl
  · exact ((calm_shadowLocked hs).noteBinding.settle_cfg hs).trans ((noteBinding_cfg _).trans shadowLocked_cfg)

/-- Nor does a write of the configuration set. -/
theorem shadowWrite_locked (hs : Settled s) (hw : Writes src i.owner s) (hi : regInfo off.toNat = some i)
    (h10 : off.toNat ≠ 0x10020) (hsh : i.sh = true) (hp : s.cfg.pending = true) :
    Completes (.shadowRegisterWrite src off v) s fun t => t.cfg = s.cfg := by
  refine ⟨settle (shadowLocked src s), ?_, ?_⟩
  · show done (onlyIf (isShadow off.toNat) (regWrite src off.toNat v) s) = _
    rw [onlyIf_pos _ _ (by simp [isShadow, hi, hsh]), regWrite_locked hw hi h10 hsh hp]
    rfl
  · exact ((calm_shadowLocked hs).settle_cfg hs).trans shadowLocked_cfg

/-- A write of an unassigned offset is ignored. -/
theorem unassigned_write (hs : Settled s) (hw : Writes src .both s) (hi : regInfo off.toNat = none) :
    Completes (.registerWrite src off (some v)) s fun t => OnlyIn [.aon, .gov, .core] s t := by
  refine ⟨settle (noteBinding (answer src .ok 0 s)), ?_, answered_onlyIn hs _ _ _⟩
  show doneGov (windowWrite src off.toNat v s) = _
  rw [windowWrite_unassigned hw hi]
  rfl

/-- A write of the wrong owner class is dropped. -/
theorem wrongOwner_write (hs : Settled s) (hw : Writes src .both s) (hi : regInfo off.toNat = some i)
    (ho : ownerDrops src i.owner = true) :
    Completes (.registerWrite src off (some v)) s fun t =>
      OnlyIn [.aon, .gov, .core, .log] s t ∧ (src = .vent → t.aon.ventLast = 1) := by
  have hm : mainOn (answer src .dropped 0 s) = true := by
    have hm : mainOn s = true := by
      cases src with
      | firmware | host => exact hw.2.1
      | vent => exact hw.2.2
    simpa [mainOn] using hm
  have hl : logDrop src (answer src .dropped 0 s) = report
      { code := if src = .vent then 0x86 else 0x85, unit := srcUnit src, loc := srcId src, drop := some (srcNum src) }
      (answer src .dropped 0 s) := by
    rw [logDrop, if_pos hm]
  refine ⟨settle (noteBinding (logDrop src (answer src .dropped 0 s))), ?_, ?_, fun hv => ?_⟩
  · show doneGov (windowWrite src off.toNat v s) = _
    rw [windowWrite_dropped hw hi ho]
    rfl
  · rw [hl]
    exact answered_report_onlyIn hs _ _ _ rfl
  · rw [hl, ((calm_answer hs _ _ _).report _).ventLast_noteBinding hs]
    subst hv
    rfl

/-- With HP_REQ_WRITE low the request is a read. -/
theorem registerWrite_reads (hs : Settled s) (hw : Writes src .both s) (hE : subWindow off.toNat ≠ 0xE) :
    Completes (.registerWrite src off none) s fun t => OnlyIn [.aon, .gov, .core] s t ∧
      ∀ id, src = .host id → t.aon.hpRsp = (0 : BitVec 2) ++ regRead off.toNat s := by
  refine ⟨settle (noteBinding (answer src .ok (regRead off.toNat s) s)), ?_, answered_onlyIn hs _ _ _, fun id hid => ?_⟩
  · show doneGov (regAccess src off.toNat s) = _
    rw [regAccess_reads hw hE]
    rfl
  · rw [(calm_answer hs _ _ _).noteBinding.settle_hpRsp hs, noteBinding_aon]
    subst hid
    rfl

end

/-- Settles O25: the plain registers are listed once, with their place in the map and what a read and a write of each
do; the checks of a write, and what the end of the command leaves alone, are lemmas of their own. -/
theorem registerWritesReachTheirRegister : Obligations.RegisterWritesReachTheirRegister := by
  unfold Obligations.RegisterWritesReachTheirRegister
  refine ⟨fun src off v s => ⟨fun i hs hw hi h10 => ⟨fun ho ht => ?_, fun ht => ?_, fun hsh hp => ?_, fun hsh hp => ?_⟩,
    fun i hi h => regEffect_plain src v s hi h, fun b hb => ?_, fun i hw hi hrw => regEffect_gov src v s hw hi hrw,
    fun k hk => ?_, fun hs hw => ⟨fun hi => ?_, fun i hi ho => ?_, fun hE => ?_⟩⟩, fun off s h => shadow_mirror s h⟩
  · exact dbgTurned_write hs hw hi ho ht
  · exact exec_registerWrite_takes hw hi h10 ht
  · exact exec_shadowWrite_takes hw hi h10 hsh hp
  · exact ⟨registerWrite_locked hs hw hi h10 hsh hp, shadowWrite_locked hs hw hi h10 hsh hp⟩
  · rw [hb]
    exact arbCfg_takes src b v s
  · rw [hk]
    exact errMask_takes src k v s
  · exact unassigned_write hs hw hi
  · exact wrongOwner_write hs hw hi ho
  · exact registerWrite_reads hs hw hE

end Sys2Proof.Machine
end

section
namespace Sys2Proof.Machine

/-! ### What the ring's operations leave alone -/

/-- The always-on domain with the links and the bypass blanked. -/
def Aon.ringless (a : Aon) : Aon := { a with link := Vector.replicate 3 {}, bypCw := false, bypCcw := false }

/-- The state with everything blanked that the ring's packets can change: the collective unit, the links and the
bypass, the grants of the unit's own clients, the governor's counts and the log. -/
def State.ringless (s : State) : State :=
  { s with
    log := {}
    arb := { s.arb with bay := Vector.replicate 32 {} }
    col := {}
    gov := {}
    aon := s.aon.ringless }

/-- The collective unit with what sending can change blanked. -/
def Col.unsent (c : Col) : Col := { c with count := [] }

/-- The collective unit with what leaving an epoch can change blanked. -/
def Col.unrun (c : Col) : Col :=
  { c with count := [], run := none, last := 0, event := 0, tally := 0, tallyPoison := false }

/-- What changes in the ring's part alone is calm. -/
theorem calm_of_ringless {s t : State} (hs : Settled s) (h : t.ringless = s.ringless) : Calm s t where
  noFatal := (congrArg (·.aon.fatalDue) h).trans hs.1.2
  st := congrArg (·.aon.st) h
  sched := congrArg (·.sched) h
  ports := congrArg (·.ports) h
  sinter := congrArg (·.sinter) h

theorem ownFid_congr {s t : State} (h : t.ringless = s.ringless) : ownFid t = ownFid s := congrArg (·.aon.fabricId) h

theorem ringless_onAon {f : Aon → Aon} {s : State} (h : (f s.aon).ringless = s.aon.ringless) :
    (s.onAon f).ringless = s.ringless := by
  simp [State.ringless, h]

section
variable (s : State)

@[simp] theorem ringless_onCol (f : Col → Col) : (s.onCol f).ringless = s.ringless := rfl
@[simp] theorem ringless_onGov (f : Gov → Gov) : (s.onGov f).ringless = s.ringless := rfl
@[simp] theorem ringless_onLink (l : Fin 3) (f : LinkSt → LinkSt) : (s.onLink l f).ringless = s.ringless := rfl
@[simp] theorem ringless_report (r : Report) : (report r s).ringless = s.ringless := rfl
@[simp] theorem ringless_countCol (i : Nat) : (countCol i s).ringless = s.ringless := rfl
@[simp] theorem ringless_dropOwner (c : Client) : (dropOwner c s).ringless = s.ringless := rfl
@[simp] theorem ringless_cutOutputs : (cutOutputs s).ringless = s.ringless := rfl
@[simp] theorem ringless_bypassOn (l : Fin 3) (p : Packet) (cut : Bool) :
    (bypassOn l p cut s).ringless = s.ringless := rfl
@[simp] theorem ringless_giveBack (l : Fin 3) (p : Packet) : (giveBack l p s).ringless = s.ringless := rfl
@[simp] theorem ringless_takeIn (l : Fin 3) (p : Packet) : (takeIn l p s).ringless = s.ringless := rfl

@[simp] theorem ringless_govEvent (e n : Nat) : (govEvent e n s).ringless = s.ringless := rfl

@[simp] theorem ringless_tellLost (p : Hdr × Payload) : (tellLost p s).ringless = s.ringless := by
  unfold tellLost
  exact (ringless_onAon rfl).trans ((ringless_onLink _ _ _).trans (ringless_onLink _ _ _))

@[simp] theorem ringless_dropWaiting (p : Hdr → Bool) : (dropWaiting p s).ringless = s.ringless := rfl

@[simp] theorem unsent_countCol (i : Nat) : (countCol i s).col.unsent = s.col.unsent := rfl

@[simp] theorem ringless_drive (l : Fin 3) (p : Packet) : (drive l p s).ringless = s.ringless := by
  unfold drive
  dsimp only
  split_ifs <;> simp

@[simp] theorem unsent_drive (l : Fin 3) (p : Packet) : (drive l p s).col.unsent = s.col.unsent := by
  unfold drive
  dsimp only
  split_ifs <;> rfl

@[simp] theorem ringless_sendFrom (o : Option (Fin 3)) (l : Fin 3) (p : Packet) :
    (sendFrom o l p s).ringless = s.ringless := by
  unfold sendFrom
  split_ifs
  · rfl
  · exact ringless_drive s l p
  · rfl

@[simp] theorem unsent_sendFrom (o : Option (Fin 3)) (l : Fin 3) (p : Packet) :
    (sendFrom o l p s).col.unsent = s.col.unsent := by
  unfold sendFrom
  split_ifs
  · rfl
  · exact unsent_drive s l p
  · rfl

@[simp] theorem ringless_sendOn (l : Fin 3) (p : Packet) : (sendOn l p s).ringless = s.ringless :=
  ringless_sendFrom s none l p

@[simp] theorem unsent_sendOn (l : Fin 3) (p : Packet) : (sendOn l p s).col.unsent = s.col.unsent :=
  unsent_sendFrom s none l p

@[simp] theorem ringless_sendTo (kind : BitVec 4) (up : Bool) (dest : BitVec 12) (p : Payload) :
    (sendTo kind up dest p s).ringless = s.ringless := ringless_sendOn ..

@[simp] theorem unsent_sendTo (kind : BitVec 4) (up : Bool) (dest : BitVec 12) (p : Payload) :
    (sendTo kind up dest p s).col.unsent = s.col.unsent := unsent_sendOn ..

@[simp] theorem ringless_sendAround (kind : BitVec 4) (up : Bool) (p : Payload) :
    (sendAround kind up p s).ringless = s.ringless := ringless_sendOn ..

@[simp] theorem unsent_sendAround (kind : BitVec 4) (up : Bool) (p : Payload) :
    (sendAround kind up p s).col.unsent = s.col.unsent := unsent_sendOn ..

@[simp] theorem ringless_forwardAround (l : Fin 3) (h : Hdr) (p : Payload) :
    (forwardAround l h p s).ringless = s.ringless := ringless_sendFrom ..

@[simp] theorem unsent_forwardAround (l : Fin 3) (h : Hdr) (p : Payload) :
    (forwardAround l h p s).col.unsent = s.col.unsent := unsent_sendFrom ..

/-- Telling several instances changes what telling one changes. -/
theorem ringless_foldOver_sendTo (kind : BitVec 4) (up : Bool) (p : Payload) (l : List (BitVec 12)) :
    (foldOver l (fun f s => sendTo kind up f p s) s).ringless = s.ringless :=
  foldOver_same State.ringless (fun f s => ringless_sendTo s kind up f p) l s

theorem unsent_foldOver_sendTo (kind : BitVec 4) (up : Bool) (p : Payload) (l : List (BitVec 12)) :
    (foldOver l (fun f s => sendTo kind up f p s) s).col.unsent = s.col.unsent :=
  foldOver_same (fun s => s.col.unsent) (fun f s => unsent_sendTo s kind up f p) l s

/-! ### Leaving an epoch -/

@[simp] theorem ringless_addChunk (r : CRun) (ccw : Bool) : (addChunk r ccw s).ringless = s.ringless := rfl

@[simp] theorem unrun_addChunk (r : CRun) (ccw : Bool) : (addChunk r ccw s).col.unrun = s.col.unrun := rfl

@[simp] theorem ringless_tallyChunks (last : Bool) : (tallyChunks last s).ringless = s.ringless := by
  unfold tallyChunks
  split
  · rfl
  · dsimp only
    split_ifs <;> simp

@[simp] theorem unrun_tallyChunks (last : Bool) : (tallyChunks last s).col.unrun = s.col.unrun := by
  unfold tallyChunks
  split
  · rfl
  · dsimp only
    split_ifs <;> simp

@[simp] theorem ringless_noteEnd (ticket : BitVec 32) (irq : Bool) (status : BitVec 4) (count : Nat) (code : BitVec 8) :
    (noteEnd ticket irq status count code s).ringless = s.ringless := rfl

@[simp] theorem unrun_noteEnd (ticket : BitVec 32) (irq : Bool) (status : BitVec 4) (count : Nat) (code : BitVec 8) :
    (noteEnd ticket irq status count code s).col.unrun = s.col.unrun := rfl

theorem ringless_endRun (status : BitVec 4) (code : BitVec 8) : (endRun status code s).ringless = s.ringless := by
  unfold endRun
  split
  · rfl
  · rw [ringless_noteEnd, ringless_onCol, ringless_dropOwner, ringless_dropOwner, ringless_tallyChunks]

theorem unrun_endRun (status : BitVec 4) (code : BitVec 8) : (endRun status code s).col.unrun = s.col.unrun := by
  unfold endRun
  split
  · rfl
  · rw [unrun_noteEnd]
    exact unrun_tallyChunks s true

theorem ringless_endShort : (endShort s).ringless = s.ringless := by
  unfold endShort
  split
  · rfl
  · exact ringless_endRun _ 1 0x6D

theorem unrun_endShort : (endShort s).col.unrun = s.col.unrun := by
  unfold endShort
  split
  · rfl
  · exact unrun_endRun _ 1 0x6D

@[simp] theorem ringless_leaveEpoch (up : Bool) : (leaveEpoch up s).ringless = s.ringless := by
  unfold leaveEpoch
  dsimp only
  rw [ringless_onCol, ringless_dropWaiting]
  split_ifs
  · exact ringless_endShort s
  · rfl

@[simp] theorem unrun_leaveEpoch (up : Bool) : (leaveEpoch up s).col.unrun = s.col.unrun := by
  unfold leaveEpoch
  dsimp only
  split_ifs
  · exact unrun_endShort s
  · rfl

@[simp] theorem ringless_clearShift : (clearShift s).ringless = s.ringless := by
  unfold clearShift addShift
  dsimp only
  split_ifs <;> simp

/-- Clearing the shift ends the budget exchange and touches nothing else of the collective unit. -/
theorem clearShift_col : (clearShift s).col =
    { s.col with exchOn := false, relay := none, gaveTo := none, gaveUp := none } := by
  unfold clearShift addShift
  dsimp only
  split_ifs <;> rfl

@[simp] theorem ringless_clearMeasures (up : Bool) (ver : BitVec 4) :
    (clearMeasures up ver s).ringless = s.ringless := by
  unfold clearMeasures
  split_ifs <;> rfl

@[simp] theorem ringless_takeEpoch (e : BitVec 32) (ver : BitVec 4) (table : List Member) :
    (takeEpoch e ver table s).ringless = s.ringless := by
  simp [takeEpoch]

@[simp] theorem ringless_takeCrown (e : BitVec 32) (ver : BitVec 4) (ridges : List Member) (own : Bool) :
    (takeCrown e ver ridges own s).ringless = s.ringless := by
  simp [takeCrown]

@[simp] theorem ringless_noMember : (noMember s).ringless = s.ringless := by
  simp [noMember]

@[simp] theorem ringless_leaveAt (l : Fin 3) (h : Hdr) (p : Payload) : (leaveAt l h p s).ringless = s.ringless := by
  unfold leaveAt
  dsimp only
  split_ifs <;> simp

@[simp] theorem ringless_crownAdvance : (crownAdvance s).ringless = s.ringless := by
  unfold crownAdvance
  dsimp only
  rw [ringless_foldOver_sendTo, ringless_sendAround, ringless_takeCrown]

end

end Sys2Proof.Machine
end

section
namespace Sys2Proof.Machine

/-! ### A control packet at an open link -/

/-- Element i of a vector changed by f. -/
theorem vmod_getElem {α : Type} {n : Nat} (v : Vector α n) (i j : Fin n) (f : α → α) :
    (vmod v i f)[j] = if i = j then f v[j] else v[j] := by
  by_cases h : i = j
  · subst h
    simp [vmod, vset]
  · have hv : i.val ≠ j.val := fun e => h (Fin.ext e)
    simp [vmod, vset, h, hv]

/-- The state once the unit has taken a control packet from its input, a parity error of its payload noted (R257). -/
def received (l : Fin 3) (h : Hdr) (p : Payload) (bad : Bool) (s : State) : State :=
  if bad then report (colReport 0x62 l.val 0 h.src) (takeIn l (h, p) s) else takeIn l (h, p) s

section
variable {l : Fin 3} {h : Hdr} {p : Payload} {s : State}

/-- A control packet other than a raw one is one flit. -/
theorem flitsOf_control (hk : h.kind ≠ 0) (hp : p.kind = some h.kind) : flitsOf (h, p) = 1 := by
  have hk' : (h.kind == 0) = false := beq_eq_false_iff_ne.mpr hk
  cases p <;> simp_all [flitsOf, Payload.kind]

/-- Its header is consistent. -/
theorem hdrOk_control (hk : h.kind ≠ 0) (hp : p.kind = some h.kind) (hd : h.dirn.toNat ≤ 2) (hn : h.nbeam = 0) :
    hdrOk h p = true := by
  cases p <;> simp_all [hdrOk, Payload.kind]

/-- A control packet at an open link whose buffer has room goes its route. -/
theorem recvControl_open (bad : Bool) (ha : aonOn s = true) (hl : linkUp s l = true) (hd : h.dirn.toNat ≤ 2)
    (hn : h.nbeam = 0) (hf : flitSum (heldPackets s l true) < 8) (hk : h.kind ≠ 0) (hp : p.kind = some h.kind) :
    recvControl l h p bad s = route l h p (received l h p bad s) := by
  have hc : isControl (h, p) = true := by simpa [isControl] using hk
  have hr : hasRoom s l (h, p) = true := by
    simp only [hasRoom, hc, flitsOf_control hk hp, if_true, decide_eq_true_eq]
    omega
  have hb : (l != 2 && bypassed s l) = false := by
    rw [linkUp, ha, Bool.true_and] at hl
    by_cases h2 : l = 2
    · simp [h2]
    · simp only [if_neg h2] at hl
      simp_all
  simp only [recvControl, recvPacket, arrive, ha, hb, hl, hr, hdrOk_control hk hp hd hn, hc, Bool.not_true,
    Bool.false_eq_true, if_false, if_true]
  cases bad <;> rfl

variable (l h p) (bad : Bool) (s)

@[simp] theorem received_col : (received l h p bad s).col = s.col := by
  unfold received
  split <;> rfl

@[simp] theorem ringless_received : (received l h p bad s).ringless = s.ringless := by
  unfold received
  split <;> rfl

@[simp] theorem ownFid_received : ownFid (received l h p bad s) = ownFid s := ownFid_congr (ringless_received ..)

@[simp] theorem isRidge_received : isRidge (received l h p bad s) = isRidge s := by
  unfold received
  split <;> rfl

@[simp] theorem linkUp_received (i : Fin 3) : linkUp (received l h p bad s) i = linkUp s i := by
  unfold received
  split <;> rfl

theorem received_link (i : Fin 3) :
    (received l h p bad s).aon.link[i] = (if l = i then { s.aon.link[i] with
      inCtl := if isControl (h, p) then s.aon.link[i].inCtl + flitsOf (h, p) else s.aon.link[i].inCtl
      inData := if isControl (h, p) then s.aon.link[i].inData else s.aon.link[i].inData + flitsOf (h, p) }
      else s.aon.link[i]) := by
  have ht : (received l h p bad s).aon.link = (takeIn l (h, p) s).aon.link := by
    unfold received
    split <;> rfl
  simp only [ht, takeIn, State.onLink, vmod_getElem]
  split_ifs <;> rfl

@[simp] theorem received_out (i : Fin 3) : (received l h p bad s).aon.link[i].out = s.aon.link[i].out := by
  rw [received_link]
  split_ifs <;> rfl

@[simp] theorem received_txq (i : Fin 3) : (received l h p bad s).aon.link[i].txq = s.aon.link[i].txq := by
  rw [received_link]
  split_ifs <;> rfl

@[simp] theorem received_ctlCr (i : Fin 3) : (received l h p bad s).aon.link[i].ctlCr = s.aon.link[i].ctlCr := by
  rw [received_link]
  split_ifs <;> rfl

end

/-! ### Sending at once -/

section
variable {l : Fin 3} {p : Packet} {s : State}

/-- A control packet of one flit is driven at once where a credit is at hand and no control packet waits (R254). -/
theorem sendFrom_drives (o : Option (Fin 3)) (hl : linkUp s l = true) (hf : flitsOf p = 1) (hc : isControl p = true)
    (hcr : 1 ≤ s.aon.link[l].ctlCr) (hq : ∀ q ∈ s.aon.link[l].txq, isControl q.1 = false) :
    sendFrom o l p s = drive l p s := by
  have ha : s.aon.link[l].affords p = true := by simpa [LinkSt.affords, hf, hc] using hcr
  have hn : s.aon.link[l].queued p = false := by
    simp only [LinkSt.queued, List.any_eq_false, hc, beq_iff_eq]
    intro q hm e
    exact absurd ((hq q hm).symm.trans e) (by decide)
  simp only [sendFrom, hl, ha, hn, Bool.not_true, Bool.not_false, Bool.and_self, Bool.false_eq_true, if_false, if_true]

/-- What driving a packet does to its output. -/
theorem drive_link : (drive l p s).aon.link[l] =
    { s.aon.link[l] with
      out := s.aon.link[l].out ++ [p], sending := s.aon.link[l].sending + flitsOf p
      dataCr := if isControl p then s.aon.link[l].dataCr else s.aon.link[l].dataCr - flitsOf p
      ctlCr := if isControl p then s.aon.link[l].ctlCr - flitsOf p else s.aon.link[l].ctlCr
      lastOwn := if isControl p then s.aon.link[l].lastOwn else p.1.src == ownFid s } := by
  unfold drive
  dsimp only
  split_ifs <;> exact (vmod_getElem _ _ _ _).trans (if_pos rfl)

/-- A driven packet is the last on its output. -/
theorem drive_out : (drive l p s).aon.link[l].out = s.aon.link[l].out ++ [p] := by rw [drive_link]

/-- A driven control packet spends its credits. -/
theorem drive_ctlCr (hc : isControl p = true) :
    (drive l p s).aon.link[l].ctlCr = s.aon.link[l].ctlCr - flitsOf p := by
  rw [drive_link]
  simp only [hc, if_true]

end
end Sys2Proof.Machine
end

section
namespace Sys2Proof.Machine

/-- A control packet with this header arrives at an open link whose input buffer has room. -/
structure OpenLink (l : Fin 3) (h : Hdr) (s : State) : Prop where
  settled : Settled s
  on : aonOn s = true
  up : linkUp s l = true
  dirn : h.dirn.toNat ≤ 2
  nbeam : h.nbeam = 0
  room : flitSum (heldPackets s l true) < 8

section
variable {l : Fin 3} {h h' : Hdr} {p : Payload} {s t : State} {c : Instr} {P : State → Prop}

/-- The packet goes its route. -/
theorem OpenLink.recv (ho : OpenLink l h s) (bad : Bool) (hd : h'.dirn = h.dirn) (hn : h'.nbeam = h.nbeam)
    (hk : h'.kind ≠ 0) (hp : p.kind = some h'.kind) :
    recvControl l h' p bad s = route l h' p (received l h' p bad s) :=
  recvControl_open bad ho.on ho.up (hd ▸ ho.dirn) (hn.trans ho.nbeam) ho.room hk hp

/-- A packet that changes the ring's part alone ends with the log and the core's wake. -/
theorem OpenLink.completes (ho : OpenLink l h s) (he : exec c s = done t) (ht : t.ringless = s.ringless)
    (hP : ∀ u, u.col = t.col → u.aon.link = t.aon.link → u.aon.bypCw = t.aon.bypCw → u.aon.bypCcw = t.aon.bypCcw →
      (t.log.raised = [] → u.log = t.log) → P u) : Completes c s P := by
  have hc := calm_of_ringless ho.settled ht
  refine ⟨settle t, he, hP _ (hc.settle_col ho.settled) (hc.settle_link ho.settled) (hc.settle_bypCw ho.settled)
    (hc.settle_bypCcw ho.settled) fun hr => ?_⟩
  rw [hc.settle_wake ho.settled hr, wakeCore_log]

/-! ### JOIN and LEAVE at the ridge -/

/-- A JOIN at the ridge. -/
theorem exec_join (ho : OpenLink l h s) (hr : isRidge s = true) (bad : Bool) (m : Member) :
    exec (.join l ⟨h, bad⟩ m) s =
      done (takeJoin m (countCol 3 (received l { h with kind := 1 } (.join m) bad s))) := by
  show done (recvControl l { h with kind := 1 } (.join m) bad s) = _
  rw [ho.recv (h' := { h with kind := 1 }) bad rfl rfl (by simp) rfl]
  simp only [route, isRidge_received, hr, if_true]

theorem ringless_takeJoin (m : Member) (s : State) : (takeJoin m s).ringless = s.ringless := by
  unfold takeJoin
  dsimp only
  split_ifs
  · exact ringless_sendOn ..
  · rfl

/-- What counting leaves alone. -/
@[simp] theorem countCol_aon (i : Nat) (s : State) : (countCol i s).aon = s.aon := rfl
@[simp] theorem countCol_log (i : Nat) (s : State) : (countCol i s).log = s.log := rfl
@[simp] theorem ownFid_countCol (i : Nat) (s : State) : ownFid (countCol i s) = ownFid s := rfl
@[simp] theorem isRidge_countCol (i : Nat) (s : State) : isRidge (countCol i s) = isRidge s := rfl
@[simp] theorem linkUp_countCol (i : Nat) (k : Fin 3) (s : State) : linkUp (countCol i s) k = linkUp s k := rfl

theorem countCol_col (i : Nat) (s : State) : (countCol i s).col = { s.col with count := bump s.col.count i 1 } := rfl
@[simp] theorem report_col (r : Report) (s : State) : (report r s).col = s.col := rfl

/-- A counter that counts one. -/
theorem bump_get (m : SMap W64) (i n : Nat) : (bump m i n).get 0 i = satAdd (m.get 0 i) n := SMap.get_set_same ..

/-- A control packet of this die depends on its fabric ID and its epochs alone. -/
theorem ctlHdr_congr {s t : State} (hr : t.ringless = s.ringless) (hc : t.col.unsent = s.col.unsent) (kind : BitVec 4)
    (up : Bool) (dest : BitVec 12) : ctlHdr t kind up dest = ctlHdr s kind up dest := by
  have he : t.col.epoch = s.col.epoch := congrArg (·.epoch) hc
  have hce : t.col.crownEpoch = s.col.crownEpoch := congrArg (·.crownEpoch) hc
  simp only [ctlHdr, epochOf, ownFid_congr hr, he, hce]

/-- A JOIN of version 0 is refused round the ring. -/
theorem join_version0 (ho : OpenLink l h s) (bad : Bool) (m : Member) (hr : isRidge s = true) (hm : m.ver = 0) :
    Completes (.join l ⟨h, bad⟩ m) s fun t =>
      t.col.joins = s.col.joins ∧ t.col.members = s.col.members ∧
        (linkUp s 0 = true → 1 ≤ s.aon.link[(0 : Fin 3)].ctlCr →
          (∀ p ∈ s.aon.link[(0 : Fin 3)].txq, isControl p.1 = false) →
          t.aon.link[(0 : Fin 3)].out = s.aon.link[(0 : Fin 3)].out ++ [(ctlHdr s 5 false m.fid, .refuse 0x6B)]) := by
  have hj (u : State) : takeJoin m u = sendOn 0 (ctlHdr u 5 false m.fid, .refuse 0x6B) u := by
    simp [takeJoin, hm]
  refine ho.completes (exec_join ho hr bad m) (by simp [ringless_takeJoin]) fun u hc hl _ _ _ => ?_
  have hu : (sendOn 0 (ctlHdr s 5 false m.fid, .refuse 0x6B)
      (countCol 3 (received l { h with kind := 1 } (.join m) bad s))).col.unsent = s.col.unsent := by simp
  rw [hc, hl, hj, ctlHdr_congr (s := s) (by simp) (by simp)]
  refine ⟨congrArg (·.joins) hu, congrArg (·.members) hu, fun h0 hcr hq => ?_⟩
  rw [sendOn, sendFrom_drives none (by simpa using h0) rfl rfl (by rwa [countCol_aon, received_ctlCr])
    (by rwa [countCol_aon, received_txq]), drive_out, countCol_aon, received_out]

/-- A JOIN of version 1 or later becomes pending where the ring has room for it and does not know it. -/
theorem join_pending (ho : OpenLink l h s) (bad : Bool) (m : Member) (hr : isRidge s = true) (hm : m.ver ≠ 0)
    (hv : s.col.v1Seen = false) (hn : onRing s m.fid = false)
    (hlen : s.col.members.length + (s.col.joins.length + ((s.col.proposal.map (·.admitted)).getD []).length) < 16)
    (hnew : m.fid ∉ s.col.joins.map Member.fid ++ (s.col.proposal.map (·.admitted)).getD []) :
    Completes (.join l ⟨h, bad⟩ m) s fun t => t.col.joins = s.col.joins ++ [m] ∧ t.col.members = s.col.members ∧
      t.col.count.get 0 3 = satAdd (s.col.count.get 0 3) 1 := by
  have hj (u : State) (hu : u.col.unsent = s.col.unsent) :
      takeJoin m u = u.onCol fun c => { c with joins := c.joins ++ [m] } := by
    have h1 : u.col.v1Seen = s.col.v1Seen := congrArg (·.v1Seen) hu
    have h2 : u.col.members = s.col.members := congrArg (·.members) hu
    have h3 : u.col.joins = s.col.joins := congrArg (·.joins) hu
    have h4 : u.col.proposal = s.col.proposal := congrArg (·.proposal) hu
    have h5 : onRing u m.fid = onRing s m.fid := by simp only [onRing, ringFids, h2]
    have hlen' : ¬ 16 ≤ s.col.members.length +
        (s.col.joins.map Member.fid ++ (s.col.proposal.map (·.admitted)).getD []).length := by
      simp only [List.length_append, List.length_map]
      omega
    simp only [takeJoin, h1, h2, h3, h4, h5, hv, hn, hlen', beq_eq_false_iff_ne.mpr hm,
      Bool.eq_false_iff.mpr (fun e => hnew (List.contains_iff_mem.mp e)), Bool.or_self, decide_false,
      Bool.false_eq_true, if_false]
  refine ho.completes (exec_join ho hr bad m) (by simp [ringless_takeJoin]) fun u hc _ _ _ _ => ?_
  rw [hc, hj _ (by simp)]
  rw [State.onCol_col, countCol_col, received_col]
  exact ⟨rfl, rfl, bump_get ..⟩

/-- A LEAVE at the ridge. -/
theorem exec_leave (ho : OpenLink l h s) (hr : isRidge s = true) (bad : Bool) (f : BitVec 12) (lost : Bool) :
    exec (.leave l ⟨h, bad⟩ f lost) s = done (takeLeave l.val f lost
      (countCol 3 (received l { h with kind := 4, src := f } (.leave lost) bad s))) := by
  show done (recvControl l { h with kind := 4, src := f } (.leave lost) bad s) = _
  rw [ho.recv (h' := { h with kind := 4, src := f }) bad rfl rfl (by simp) rfl]
  simp only [route, isRidge_received, hr, if_true]

/-- A planned LEAVE of a member becomes pending. -/
theorem leave_pending (ho : OpenLink l h s) (bad : Bool) (f : BitVec 12) (hr : isRidge s = true)
    (hv : s.col.v1Seen = false) (hn : onRing s f = true) (hf : f ≠ ownFid s) :
    Completes (.leave l ⟨h, bad⟩ f false) s fun t =>
      t.col.leaves = insertNew s.col.leaves f ∧ t.col.members = s.col.members := by
  have hl (u : State) (hu : u.col.unsent = s.col.unsent) (hu' : u.ringless = s.ringless) :
      takeLeave l.val f false u = u.onCol fun c => { c with leaves := insertNew c.leaves f } := by
    have h1 : u.col.v1Seen = s.col.v1Seen := congrArg (·.v1Seen) hu
    have h2 : u.col.members = s.col.members := congrArg (·.members) hu
    have h5 : onRing u f = true := by simpa only [onRing, ringFids, h2] using hn
    simp only [takeLeave, inRing, h5, ownFid_congr hu', beq_eq_false_iff_ne.mpr hf, h1, hv, Bool.true_or, Bool.not_true,
      Bool.or_self, Bool.false_eq_true, if_false]
  refine ho.completes (exec_leave ho hr bad f false) ?_ fun u hc _ _ _ _ => ?_
  · rw [hl _ (by simp) (by simp)]
    simp
  · rw [hc, hl _ (by simp) (by simp)]
    simp [countCol_col]

/-- A proposal without a lost member: it admits every other one that waits. -/
theorem proposeNow_lost (f : BitVec 12) (u : State) : (proposeNow (some f) u).col.members = u.col.members ∧
    ∃ q, (proposeNow (some f) u).col.proposal = some q ∧ q.epoch = nextEpoch u.col.epoch ∧ f ∈ q.removed ∧
      f ∉ q.admitted ∧ ∀ m ∈ u.col.joins, m.fid ≠ f → m.fid ∈ q.admitted := by
  unfold proposeNow
  dsimp only
  refine ⟨congrArg (·.members) (unsent_sendAround _ _ _ _), _, congrArg (·.proposal) (unsent_sendAround _ _ _ _), rfl,
    by simp, by simp, fun m hm hne => ?_⟩
  simp only [List.mem_filter, List.mem_append, List.mem_map]
  exact ⟨.inr ⟨m, hm, rfl⟩, by simpa using Ne.symm hne⟩

/-- A LEAVE of a lost member starts a proposal without it at once. -/
theorem leave_lost (ho : OpenLink l h s) (bad : Bool) (f : BitVec 12) (hr : isRidge s = true)
    (hv : s.col.v1Seen = false) (hn : inRing s f = true) (hf : f ≠ ownFid s) :
    Completes (.leave l ⟨h, bad⟩ f true) s fun t => t.col.members = s.col.members ∧
      ∃ q, t.col.proposal = some q ∧ q.epoch = nextEpoch s.col.epoch ∧ f ∈ q.removed ∧ f ∉ q.admitted ∧
        ∀ m ∈ s.col.joins, m.fid ≠ f → m.fid ∈ q.admitted := by
  have hl (u : State) (hu : u.col.unsent = s.col.unsent) (hu' : u.ringless = s.ringless) :
      takeLeave l.val f true u = proposeNow (some f) (report (colReport 0x6D l 0 f) u) := by
    have h1 : u.col.v1Seen = s.col.v1Seen := congrArg (·.v1Seen) hu
    have h2 : u.col.members = s.col.members := congrArg (·.members) hu
    have h3 : u.col.proposal = s.col.proposal := congrArg (·.proposal) hu
    have h5 : inRing u f = true := by simpa only [inRing, onRing, ringFids, h2, h3] using hn
    have h6 : (report (colReport 0x6D l 0 f) u).col = u.col := rfl
    simp only [takeLeave, h5, ownFid_congr hu', beq_eq_false_iff_ne.mpr hf, h6, h1, hv, Bool.not_true, Bool.or_self,
      Bool.false_eq_true, if_false, if_true]
  refine ho.completes (exec_leave ho hr bad f true) ?_ fun u hc _ _ _ _ => ?_
  · rw [hl _ (by simp) (by simp)]
    simp [proposeNow]
  · rw [hc, hl _ (by simp) (by simp)]
    have hp := proposeNow_lost f (report (colReport 0x6D l 0 f) (countCol 3
      (received l { h with kind := 4, src := f } (.leave true) bad s)))
    simp only [report_col, countCol_col, received_col] at hp
    exact hp
end

end Sys2Proof.Machine
end

section
namespace Sys2Proof.Machine

/-! ### A member that its ring has removed -/

section
variable (s : State) (l : Fin 3)

@[simp] theorem aon_tallyChunks (last : Bool) : (tallyChunks last s).aon = s.aon := by
  unfold tallyChunks
  split
  · rfl
  · dsimp only
    split_ifs <;> rfl

@[simp] theorem aon_dropOwner (c : Client) : (dropOwner c s).aon = s.aon := rfl

@[simp] theorem aon_noteEnd (ticket : BitVec 32) (irq : Bool) (status : BitVec 4) (count : Nat) (code : BitVec 8) :
    (noteEnd ticket irq status count code s).aon = s.aon := rfl

@[simp] theorem aon_endRun (status : BitVec 4) (code : BitVec 8) : (endRun status code s).aon = s.aon := by
  unfold endRun
  split
  · rfl
  · simp

@[simp] theorem aon_clearShift : (clearShift s).aon = s.aon := by
  unfold clearShift addShift
  dsimp only
  split_ifs <;> rfl

/-- The end of a collective leaves the bypass as it is. -/
theorem bypassed_endShort : bypassed (endShort s) l = bypassed s l := by
  unfold endShort
  split
  · rfl
  · simp only [bypassed, State.onAon_aon, aon_endRun]
    rfl

@[simp] theorem bypassed_leaveEpoch (up : Bool) : bypassed (leaveEpoch up s) l = bypassed s l := by
  unfold leaveEpoch
  dsimp only
  split_ifs
  · exact bypassed_endShort s l
  · rfl

@[simp] theorem bypassed_noMember : bypassed (noMember s) l = bypassed s l := by
  have h : bypassed (noMember s) l = bypassed (leaveEpoch true (leaveEpoch false s)) l := by
    simp only [bypassed, noMember, State.onCol_aon, aon_clearShift]
  rw [h, bypassed_leaveEpoch, bypassed_leaveEpoch]

end

section
variable {s : State} {l : Fin 3}

/-- A packet that a closed bypass passes is the last on its output. -/
theorem bypassOn_out (p : Packet) : (bypassOn l p false s).aon.link[l].out = s.aon.link[l].out ++ [p] := by
  show (vmod s.aon.link l _)[l].out = _
  rw [vmod_getElem, if_pos rfl]

/-- A bypass that closes sends its LEAVE on each direction that had been open. -/
theorem tellLost_out (h2 : l ≠ 2) (hb : bypassed s l = false) (p : Hdr × Payload) :
    (tellLost p s).aon.link[l].out =
      s.aon.link[l].out ++ [({ p.1 with dirn := BitVec.ofNat 3 l.val }, p.2)] := by
  unfold tellLost
  dsimp only [State.onLink, State.onAon]
  obtain rfl | rfl : l = 0 ∨ l = 1 := by omega
  · have hb' : s.aon.bypCw = false := hb
    rw [vmod_getElem, if_neg (by decide), vmod_getElem, if_pos rfl, hb']
    rfl
  · have hb' : s.aon.bypCcw = false := hb
    rw [vmod_getElem, if_pos rfl, hb', vmod_getElem, if_neg (show ¬ (0 : Fin 3) = 1 by decide)]
    rfl

@[simp] theorem bypassed_bypassOn (k : Fin 3) (p : Packet) (cut : Bool) :
    bypassed (bypassOn k p cut s) l = bypassed s l := rfl
@[simp] theorem bypassed_giveBack (k : Fin 3) (p : Packet) : bypassed (giveBack k p s) l = bypassed s l := rfl
@[simp] theorem bypassed_cutOutputs : bypassed (cutOutputs s) l = bypassed s l := rfl
@[simp] theorem tellLost_col (p : Hdr × Payload) : (tellLost p s).col = s.col := by
  simp only [tellLost, State.onAon_col, State.onLink_col]

@[simp] theorem bypassOn_col (p : Packet) (cut : Bool) : (bypassOn l p cut s).col = s.col := rfl
@[simp] theorem giveBack_col (p : Packet) : (giveBack l p s).col = s.col := rfl
@[simp] theorem cutOutputs_col : (cutOutputs s).col = s.col := rfl

theorem tellLost_closes (p : Hdr × Payload) : (tellLost p s).aon.bypCw = true ∧ (tellLost p s).aon.bypCcw = true :=
  ⟨rfl, rfl⟩

/-- What the abrupt close of a member's bypass does. -/
theorem leaveAt_closes (h2 : l ≠ 2) (hb : bypassed s l = false) (h : Hdr) (p : Payload) :
    (leaveAt l h p s).col.epoch = 0 ∧ (leaveAt l h p s).col.members = [] ∧
      (leaveAt l h p s).aon.bypCw = true ∧ (leaveAt l h p s).aon.bypCcw = true ∧
      ∃ before, (leaveAt l h p s).aon.link[l].out = before ++ [(h, p),
        ({ kind := 4, dirn := BitVec.ofNat 3 l.val, src := ownFid s, dest := h.src }, .leave true)] := by
  have hl : leaveAt l h p s = tellLost (leaveTo h.src (cutOutputs (giveBack l (h, p) (noMember s))))
      (bypassOn l (h, p) false (cutOutputs (giveBack l (h, p) (noMember s)))) := by
    simp only [leaveAt, if_neg h2]
  have hf : (cutOutputs (giveBack l (h, p) (noMember s))).aon.fabricId = ownFid s := ownFid_congr (by simp)
  have hb' : bypassed (bypassOn l (h, p) false (cutOutputs (giveBack l (h, p) (noMember s)))) l = false := by
    simp [hb]
  have hc : (leaveAt l h p s).col = (noMember s).col := by rw [hl]; simp
  obtain ⟨hcw, hccw⟩ := tellLost_closes (s := bypassOn l (h, p) false (cutOutputs (giveBack l (h, p) (noMember s))))
    (leaveTo h.src (cutOutputs (giveBack l (h, p) (noMember s))))
  rw [hc, hl]
  refine ⟨rfl, rfl, hcw, hccw, (cutOutputs (giveBack l (h, p) (noMember s))).aon.link[l].out, ?_⟩
  rw [tellLost_out h2 hb', bypassOn_out, leaveTo, hf, List.append_assoc]
  rfl

end

/-! ### PROPOSE -/

section
variable {l : Fin 3} {h : Hdr} {s : State}

/-- A PROPOSE at a member. -/
theorem exec_propose (ho : OpenLink l h s) (bad : Bool) (q : Proposal) :
    exec (.propose l ⟨h, bad⟩ q) s =
      done (proposeAt l { h with kind := 2 } q (received l { h with kind := 2 } (.propose q) bad s)) := by
  show done (recvControl l { h with kind := 2 } (.propose q) bad s) = _
  rw [ho.recv (h' := { h with kind := 2 }) bad rfl rfl (by simp) rfl]
  rfl

/-- An open link's bypass is open. -/
theorem OpenLink.open_bypass (ho : OpenLink l h s) (h2 : l ≠ 2) : bypassed s l = false := by
  have hu := ho.up
  simp only [linkUp, if_neg h2, Bool.and_eq_true, Bool.not_eq_true'] at hu
  exact hu.2

theorem bypassed_received (p : Payload) (bad : Bool) : bypassed (received l h p bad s) l = bypassed s l := by
  unfold received
  split <;> rfl

/-- A member that the proposal removes closes its bypass abruptly. -/
theorem propose_removed (ho : OpenLink l h s) (bad : Bool) (q : Proposal) (hr : isRidge s = false) (h2 : l ≠ 2)
    (hq : ownFid s ∈ q.removed) : Completes (.propose l ⟨h, bad⟩ q) s fun t =>
      t.col.epoch = 0 ∧ t.col.members = [] ∧ t.aon.bypCw = true ∧ t.aon.bypCcw = true ∧
        ∃ before, t.aon.link[l].out = before ++ [({ h with kind := 2 }, .propose q),
          ({ kind := 4, dirn := BitVec.ofNat 3 l.val, src := ownFid s, dest := h.src }, .leave true)] := by
  have hp : proposeAt l { h with kind := 2 } q (received l { h with kind := 2 } (.propose q) bad s) =
      leaveAt l { h with kind := 2 } (.propose q)
        (countCol 3 (received l { h with kind := 2 } (.propose q) bad s)) := by
    have hc : q.removed.contains (ownFid s) = true := List.contains_iff_mem.mpr hq
    simp only [proposeAt, isRidge_received, hr, ownFid_countCol, ownFid_received, hc, Bool.false_eq_true, if_false,
      if_true]
  have hb : bypassed (countCol 3 (received l { h with kind := 2 } (.propose q) bad s)) l = false :=
    (bypassed_received _ _).trans (ho.open_bypass h2)
  refine ho.completes ((exec_propose ho bad q).trans (congrArg done hp)) (by simp) fun u hc hl hcw hccw _ => ?_
  rw [hc, hl, hcw, hccw]
  have hx := leaveAt_closes h2 hb { h with kind := 2 } (.propose q)
  rw [ownFid_countCol, ownFid_received] at hx
  exact hx

/-- What a PROPOSE passed on clockwise leaves. -/
theorem forwardAround_passes (p : Payload) (hk : h.kind ≠ 0) (hp : p.kind = some h.kind) (h0 : linkUp s 0 = true)
    (hcr : 1 ≤ s.aon.link[(0 : Fin 3)].ctlCr) (hq : ∀ q ∈ s.aon.link[(0 : Fin 3)].txq, isControl q.1 = false) :
    (forwardAround l h p s).aon.link[(0 : Fin 3)].out =
        s.aon.link[(0 : Fin 3)].out ++ [({ h with hops := h.hops + 1 }, p)] ∧
      (forwardAround l h p s).aon.link[(0 : Fin 3)].ctlCr = s.aon.link[(0 : Fin 3)].ctlCr - 1 := by
  have hf : flitsOf ({ h with hops := h.hops + 1 }, p) = 1 := flitsOf_control hk hp
  have hc : isControl ({ h with hops := h.hops + 1 }, p) = true := by simpa [isControl] using hk
  rw [forwardAround, sendFrom_drives (some l) h0 hf hc hcr hq, drive_out, drive_ctlCr hc, hf]
  exact ⟨rfl, rfl⟩

/-- A member's part in a proposal depends on its fabric ID, its epoch and its mark of a ridge that has started again. -/
theorem takesPart_congr {s t : State} (hr : t.ringless = s.ringless) (hc : t.col.unsent = s.col.unsent) (q : Proposal) :
    takesPart t q = takesPart s q := by
  have he : t.col.epoch = s.col.epoch := congrArg (·.epoch) hc
  have hx : t.col.cutOff = s.col.cutOff := congrArg (·.cutOff) hc
  simp only [takesPart, ownFid_congr hr, he, hx]

/-- A PROPOSE that goes on: the packet that the clockwise output gets, and the credit that it takes. -/
theorem propose_passes (bad : Bool) (q q' : Proposal) (h0 : linkUp s 0 = true)
    (hcr : 1 ≤ s.aon.link[(0 : Fin 3)].ctlCr) (hq : ∀ p ∈ s.aon.link[(0 : Fin 3)].txq, isControl p.1 = false) :
    let t := forwardAround l { h with kind := 2 } (.propose q')
      (countCol 3 (received l { h with kind := 2 } (.propose q) bad s))
    t.aon.link[(0 : Fin 3)].out =
        s.aon.link[(0 : Fin 3)].out ++ [({ h with kind := 2, hops := h.hops + 1 }, .propose q')] ∧
      t.aon.link[(0 : Fin 3)].ctlCr = s.aon.link[(0 : Fin 3)].ctlCr - 1 ∧ t.col.unsent = s.col.unsent := by
  have hx := forwardAround_passes (l := l) (h := { h with kind := 2 }) (.propose q')
    (s := countCol 3 (received l { h with kind := 2 } (.propose q) bad s)) (by simp) rfl (by simpa using h0)
    (by rwa [countCol_aon, received_ctlCr]) (by rwa [countCol_aon, received_txq])
  rw [countCol_aon, received_out, received_ctlCr] at hx
  exact ⟨hx.1, hx.2, by simp⟩

/-- A member that takes part passes the proposal on with its entry. -/
theorem propose_takesPart (ho : OpenLink l h s) (bad : Bool) (q : Proposal) (hr : isRidge s = false)
    (hn : ownFid s ∉ q.removed) (h0 : linkUp s 0 = true) (hcr : 1 ≤ s.aon.link[(0 : Fin 3)].ctlCr)
    (hq : ∀ p ∈ s.aon.link[(0 : Fin 3)].txq, isControl p.1 = false) (ht : takesPart s q = true) :
    Completes (.propose l ⟨h, bad⟩ q) s fun t =>
      (t.aon.link[(0 : Fin 3)].out = s.aon.link[(0 : Fin 3)].out ++
          [({ h with kind := 2, hops := h.hops + 1 }, .propose { q with order := q.order ++ [ownEntry s] })] ∧
        t.aon.link[(0 : Fin 3)].ctlCr = s.aon.link[(0 : Fin 3)].ctlCr - 1 ∧ t.col.members = s.col.members) ∧
      t.col.cutOff = s.col.cutOff := by
  have hp : proposeAt l { h with kind := 2 } q (received l { h with kind := 2 } (.propose q) bad s) =
      forwardAround l { h with kind := 2 } (.propose { q with order := q.order ++ [ownEntry s] })
        (countCol 3 (received l { h with kind := 2 } (.propose q) bad s)) := by
    have hc : q.removed.contains (ownFid s) = false := Bool.eq_false_iff.mpr fun e => hn (List.contains_iff_mem.mp e)
    have hu : takesPart (countCol 3 (received l { h with kind := 2 } (.propose q) bad s)) q = takesPart s q :=
      takesPart_congr (by simp) (by simp) q
    simp only [proposeAt, isRidge_received, hr, ownEntry, ownFid_countCol, ownFid_received, hc, Bool.false_eq_true,
      if_false, hu, ht, if_true]
  refine ho.completes ((exec_propose ho bad q).trans (congrArg done hp)) (by simp) fun u hc hl _ _ _ => ?_
  obtain ⟨h1, h2, h3⟩ := propose_passes (l := l) (h := h) bad q { q with order := q.order ++ [ownEntry s] } h0 hcr hq
  rw [hc, hl]
  exact ⟨⟨h1, h2, congrArg (·.members) h3⟩, congrArg (·.cutOff) h3⟩

/-- A member whose ridge has started again passes the proposal on as it came, and takes no part in it. -/
theorem propose_restarted (ho : OpenLink l h s) (bad : Bool) (q : Proposal) (hr : isRidge s = false)
    (hn : ownFid s ∉ q.removed) (h0 : linkUp s 0 = true) (hcr : 1 ≤ s.aon.link[(0 : Fin 3)].ctlCr)
    (hq : ∀ p ∈ s.aon.link[(0 : Fin 3)].txq, isControl p.1 = false) (ha : ownFid s ∉ q.admitted)
    (he : s.col.epoch ≠ 0) (hl : laterEpoch q.epoch s.col.epoch = false) :
    Completes (.propose l ⟨h, bad⟩ q) s fun t =>
      (t.aon.link[(0 : Fin 3)].out = s.aon.link[(0 : Fin 3)].out ++
          [({ h with kind := 2, hops := h.hops + 1 }, .propose q)] ∧
        t.aon.link[(0 : Fin 3)].ctlCr = s.aon.link[(0 : Fin 3)].ctlCr - 1 ∧ t.col.members = s.col.members) ∧
      t.col.cutOff = true ∧ t.col.epoch = s.col.epoch := by
  have ht : takesPart s q = false := by
    have hc : q.admitted.contains (ownFid s) = false := Bool.eq_false_iff.mpr fun e => ha (List.contains_iff_mem.mp e)
    simp only [takesPart, hc, hl, Bool.and_false, Bool.or_self]
  obtain ⟨h1, h2, h3⟩ := propose_passes (l := l) (h := h) bad q q h0 hcr hq
  have hp : proposeAt l { h with kind := 2 } q (received l { h with kind := 2 } (.propose q) bad s) =
      (forwardAround l { h with kind := 2 } (.propose q)
        (countCol 3 (received l { h with kind := 2 } (.propose q) bad s))).onCol
          fun c => { c with cutOff := true } := by
    have hc : q.removed.contains (ownFid s) = false := Bool.eq_false_iff.mpr fun e => hn (List.contains_iff_mem.mp e)
    have he' := congrArg (·.epoch) h3
    simp only [Col.unsent] at he'
    have hu : takesPart (countCol 3 (received l { h with kind := 2 } (.propose q) bad s)) q = takesPart s q :=
      takesPart_congr (by simp) (by simp) q
    simp only [proposeAt, isRidge_received, hr, ownFid_countCol, ownFid_received, hc, Bool.false_eq_true, if_false,
      hu, ht, metRestart, he', hl, bne_iff_ne.mpr he, Bool.not_false,
      Bool.and_self, if_true]
  refine ho.completes ((exec_propose ho bad q).trans (congrArg done hp)) (by simp) fun u hc hl _ _ _ => ?_
  rw [hc, hl]
  exact ⟨⟨h1, h2, congrArg (·.members) h3⟩, rfl, congrArg (·.epoch) h3⟩

end
end Sys2Proof.Machine
end

section
namespace Sys2Proof.Machine

/-! ### COMMIT -/

section
variable {s : State}

/-- Clearing the measures of barriers touches nothing else of the collective unit. -/
theorem clearMeasures_col (up : Bool) (ver : BitVec 4) (s : State) : (clearMeasures up ver s).col =
    if ver == 1 then { s.col with slack := 0, late := [], clate := if up then [] else s.col.clate, lates := [] }
    else s.col := by
  unfold clearMeasures
  split_ifs <;> rfl

/-- The participants counted depend on the crown order and the own fabric ID alone. -/
theorem contributors_congr {s t : State} (hr : t.ringless = s.ringless) (hc : t.col.unsent = s.col.unsent) (r : CRun) :
    contributors t r = contributors s r := by
  have hx : t.col.ridges = s.col.ridges := congrArg (·.ridges) hc
  simp only [contributors, ownFid_congr hr, hx]

/-- A running collective that ends is COL_LAST from now on. -/
theorem endRun_ends {r : CRun} (hr : s.col.run = some r) (status : BitVec 4) (code : BitVec 8)
    (h0 : (status == 0 || status == 4) = false) : (endRun status code s).col.run = none ∧
      (endRun status code s).col.last = colLast r.ticket status (contributors s r) code := by
  unfold endRun
  rw [hr]
  simp only [h0, Bool.false_eq_true, if_false]
  exact ⟨rfl, rfl⟩

/-- A collective of the ring ends SHORT when the ring leaves its epoch (R267). -/
theorem leaveEpoch_ends {r : CRun} (hr : s.col.run = some r) (hu : CDesc.uplink r.desc = false) :
    (leaveEpoch false s).col.run = none ∧
      (leaveEpoch false s).col.last = colLast r.ticket 1 (contributors s r) 0x6D := by
  have hs : (endShort s).col = (endRun 1 0x6D (report (colReport 0x6D 3 r.ticket 0) s)).col := by
    simp only [endShort, hr, State.onAon_col]
  have hl : (leaveEpoch false s).col.run = (endShort s).col.run ∧
      (leaveEpoch false s).col.last = (endShort s).col.last := by
    have ha : (s.col.run.any fun r => CDesc.uplink r.desc == false) = true := by simp [hr, hu]
    simp only [leaveEpoch, ha, if_true]
    exact ⟨rfl, rfl⟩
  rw [hl.1, hl.2, hs]
  exact endRun_ends (s := report (colReport 0x6D 3 r.ticket 0) s) hr 1 0x6D rfl

/-- What a member that takes a ring epoch holds. -/
theorem takeEpoch_installs (e : BitVec 32) (ver : BitVec 4) (table : List Member) (s : State) :
    (takeEpoch e ver table s).col.epoch = e ∧ (takeEpoch e ver table s).col.ver = ver ∧
      (takeEpoch e ver table s).col.members = table ∧ (takeEpoch e ver table s).col.ringSeq = 0 ∧
      (takeEpoch e ver table s).col.joining = false ∧ bitAt (takeEpoch e ver table s).col.event 3 = true ∧
      (takeEpoch e ver table s).col.run = (leaveEpoch false s).col.run ∧
      (takeEpoch e ver table s).col.last = (leaveEpoch false s).col.last := by
  have hb (x : BitVec 4) : bitAt (x ||| 8) 3 = true := by simp [bitAt]
  unfold takeEpoch
  dsimp only
  rw [clearMeasures_col, State.onCol_col, clearShift_col]
  split_ifs <;> exact ⟨rfl, rfl, rfl, rfl, rfl, hb _, rfl, rfl⟩

end

section
variable {l : Fin 3} {h : Hdr} {s : State}

/-- A COMMIT that names this member installs its epoch; a collective of the old one ends SHORT. -/
theorem commit_installs (ho : OpenLink l h s) (bad : Bool) (e : BitVec 32) (v : BitVec 4) (table : List Member)
    (hr : isRidge s = false) (hm : ∃ m ∈ table, m.fid = ownFid s) :
    Completes (.commit l ⟨h, bad⟩ e v table) s fun t =>
      t.col.epoch = e ∧ t.col.ver = v ∧ t.col.members = table ∧ t.col.ringSeq = 0 ∧ t.col.joining = false ∧
        bitAt t.col.event 3 = true ∧ ∀ r, s.col.run = some r → CDesc.uplink r.desc = false →
          t.col.run = none ∧ t.col.last = colLast r.ticket 1 (contributors s r) 0x6D := by
  let h' : Hdr := { h with kind := 3 }
  let u : State := forwardAround l h' (.commit e v table) (countCol 3 (received l h' (.commit e v table) bad s))
  have hu : u.ringless = s.ringless := by simp [u]
  have huc : u.col.unsent = s.col.unsent := by simp [u]
  have he : exec (.commit l ⟨h, bad⟩ e v table) s = done (takeEpoch e v table u) := by
    have ha : (table.any fun m => m.fid == ownFid s) = true := by simpa using hm
    show done (recvControl l h' (.commit e v table) bad s) = _
    rw [ho.recv (h' := h') bad rfl rfl (by simp [h']) rfl]
    simp only [route, commitAt, isRidge_received, hr, ownFid_countCol, ownFid_received, ha, Bool.false_eq_true,
      if_false, if_true, u]
  refine ho.completes he (by simp [hu]) fun t hc _ _ _ _ => ?_
  obtain ⟨h1, h2, h3, h4, h5, h6, h7, h8⟩ := takeEpoch_installs e v table u
  rw [hc]
  refine ⟨h1, h2, h3, h4, h5, h6, fun r hrun hup => ?_⟩
  rw [h7, h8, ← contributors_congr hu huc r]
  exact leaveEpoch_ends ((congrArg (·.run) huc).trans hrun) hup

/-! ### CROWN_COMMIT -/

/-- What a member that takes a crown epoch holds. -/
theorem takeCrown_installs (e : BitVec 32) (ver : BitVec 4) (ridges : List Member) (own : Bool) (s : State) :
    (takeCrown e ver ridges own s).col.crownEpoch = e ∧ (takeCrown e ver ridges own s).col.crownVer = ver ∧
      (takeCrown e ver ridges own s).col.ridges = ridges ∧ (takeCrown e ver ridges own s).col.crownSeq = 0 ∧
      (takeCrown e ver ridges own s).col.upRing = own ∧
      (takeCrown e ver ridges own s).col.members = s.col.members ∧
      (takeCrown e ver ridges own s).col.dieTable = s.col.dieTable := by
  have hl := unrun_leaveEpoch s true
  have hm : (leaveEpoch true s).col.members = s.col.members := congrArg (·.members) hl
  have hd : (leaveEpoch true s).col.dieTable = s.col.dieTable := congrArg (·.dieTable) hl
  unfold takeCrown
  dsimp only
  rw [clearMeasures_col, State.onCol_col, clearShift_col]
  split_ifs <;> exact ⟨rfl, rfl, rfl, rfl, rfl, hm, hd⟩

/-- A CROWN_COMMIT goes round, and then reaches this member. -/
theorem exec_crownCommit (ho : OpenLink l h s) (bad : Bool) (e : BitVec 32) (v : BitVec 4) (ridges : List Member)
    (hr : isRidge s = false ∨ l = 2) : exec (.crownCommit l ⟨h, bad⟩ e v ridges) s =
      done (crownAt { h with kind := 0xC } e v ridges (countCol 3 (forwardAround l { h with kind := 0xC }
        (.crownCommit e v ridges) (received l { h with kind := 0xC } (.crownCommit e v ridges) bad s)))) := by
  show done (recvControl l { h with kind := 0xC } (.crownCommit e v ridges) bad s) = _
  rw [ho.recv (h' := { h with kind := 0xC }) bad rfl rfl (by simp) rfl]
  have hx : (isRidge s && l != 2) = false := by
    rcases hr with hr | hr <;> simp [hr]
  simp only [route, roundTrip, isRidge_received, hx, Bool.false_eq_true, if_false]

/-- A CROWN_COMMIT that names this member's ring installs its epoch. -/
theorem crownCommit_installs (ho : OpenLink l h s) (bad : Bool) (e : BitVec 32) (v : BitVec 4) (ridges : List Member)
    (hr : isRidge s = false ∨ l = 2) (hm : ∃ m ∈ ridges, ownFid s ∈ m.ring) :
    Completes (.crownCommit l ⟨h, bad⟩ e v ridges) s fun t =>
      t.col.crownEpoch = e ∧ t.col.crownVer = v ∧ t.col.ridges = ridges ∧ t.col.crownSeq = 0 ∧
        t.col.upRing = (h.dirn != 2) ∧ t.col.members = s.col.members := by
  let h' : Hdr := { h with kind := 0xC }
  let u : State := countCol 3 (forwardAround l h' (.crownCommit e v ridges)
    (received l h' (.crownCommit e v ridges) bad s))
  have hu : u.ringless = s.ringless := by simp [u]
  have huc : u.col.unsent = s.col.unsent := by simp [u]
  have ht : crownAt h' e v ridges u = takeCrown e v ridges (h.dirn != 2) u := by
    have ha : (ridges.any fun m => m.ring.contains (ownFid u)) = true := by simpa [ownFid_congr hu] using hm
    simp only [crownAt, ha, if_true, h']
  refine ho.completes ((exec_crownCommit ho bad e v ridges hr).trans (congrArg done ht)) (by simp [hu])
    fun t hc _ _ _ _ => ?_
  obtain ⟨h1, h2, h3, h4, h5, h6, -⟩ := takeCrown_installs e v ridges (h.dirn != 2) u
  rw [hc]
  exact ⟨h1, h2, h3, h4, h5, h6.trans (congrArg (·.members) huc)⟩

/-- A CROWN_COMMIT that names no ring of this member changes nothing of its membership. -/
theorem crownCommit_passes (ho : OpenLink l h s) (bad : Bool) (e : BitVec 32) (v : BitVec 4) (ridges : List Member)
    (hr : isRidge s = false ∨ l = 2) (hm : ∀ m ∈ ridges, ownFid s ∉ m.ring) :
    Completes (.crownCommit l ⟨h, bad⟩ e v ridges) s fun t =>
      t.col.crownEpoch = s.col.crownEpoch ∧ t.col.ridges = s.col.ridges ∧ t.col.members = s.col.members := by
  let h' : Hdr := { h with kind := 0xC }
  let u : State := countCol 3 (forwardAround l h' (.crownCommit e v ridges)
    (received l h' (.crownCommit e v ridges) bad s))
  have hu : u.ringless = s.ringless := by simp [u]
  have huc : u.col.unsent = s.col.unsent := by simp [u]
  have ht : crownAt h' e v ridges u = u := by
    have ha : (ridges.any fun m => m.ring.contains (ownFid u)) = false := by simpa [ownFid_congr hu] using hm
    simp only [crownAt, ha, Bool.false_eq_true, if_false]
  refine ho.completes ((exec_crownCommit ho bad e v ridges hr).trans (congrArg done ht)) hu fun t hc _ _ _ _ => ?_
  rw [hc]
  exact ⟨congrArg (·.crownEpoch) huc, congrArg (·.ridges) huc, congrArg (·.members) huc⟩

/-! ### REFUSE and DIE_REPORT -/

/-- A REFUSE addressed to this die ends its JOIN; it is logged with a code of the collective unit alone. -/
theorem refuse_ends (ho : OpenLink l h s) (bad : Bool) (code : BitVec 8) :
    Completes (.refuse l ⟨h, bad⟩ (ownFid s) code) s fun t => t.col.joining = false ∧
      t.col.members = s.col.members ∧ (bad = false → code.toNat < 0x61 ∨ 0x6E < code.toNat → t.log = s.log) := by
  let h' : Hdr := { h with kind := 5, dest := ownFid s }
  let u : State := countCol 3 (received l h' (.refuse code) bad s)
  have he : exec (.refuse l ⟨h, bad⟩ (ownFid s) code) s = done (takeRefuse l.val h'.src code u) := by
    show done (recvControl l h' (.refuse code) bad s) = _
    rw [ho.recv (h' := h') bad rfl rfl (by simp [h']) rfl]
    simp only [route, ownFid_received, takeUnicast, h', beq_self_eq_true, if_true, u]
  have hr : (takeRefuse l.val h'.src code u).ringless = s.ringless := by
    unfold takeRefuse
    dsimp only
    split_ifs <;> simp [u]
  have hc : (takeRefuse l.val h'.src code u).col = { u.col with joining := false } := by
    unfold takeRefuse
    dsimp only
    split_ifs <;> rfl
  refine ho.completes he hr fun t htc _ _ _ hlog => ?_
  rw [htc, hc]
  refine ⟨rfl, by simp [u, countCol_col], fun hb hcode => ?_⟩
  have hl : (takeRefuse l.val h'.src code u).log = s.log := by
    have hn : ¬ ((decide (0x61 ≤ code.toNat) && decide (code.toNat ≤ 0x6E)) = true) := by
      simp only [Bool.and_eq_true, decide_eq_true_eq]
      omega
    simp only [takeRefuse, if_neg hn, State.onCol_log, u, countCol_log, received, hb, Bool.false_eq_true, if_false]
    rfl
  rw [hlog (by rw [hl]; exact ho.settled.1.1), hl]

/-- The crown's new epoch. -/
theorem crownAdvance_installs (s : State) : (crownAdvance s).col.dieTable = s.col.dieTable ∧
    (crownAdvance s).col.ridges = s.col.dieTable ∧ (crownAdvance s).col.crownEpoch = nextEpoch s.col.crownEpoch ∧
      (crownAdvance s).col.crownVer = lowestVer s.col.dieTable := by
  have hc : (crownAdvance s).col.unsent =
      (takeCrown (nextEpoch s.col.crownEpoch) (lowestVer s.col.dieTable) s.col.dieTable false s).col.unsent := by
    unfold crownAdvance
    dsimp only
    rw [unsent_foldOver_sendTo, unsent_sendAround]
  obtain ⟨h1, h2, h3, -, -, -, h7⟩ := takeCrown_installs (nextEpoch s.col.crownEpoch) (lowestVer s.col.dieTable)
    s.col.dieTable false s
  exact ⟨(congrArg (·.dieTable) hc).trans h7, (congrArg (·.ridges) hc).trans h3, (congrArg (·.crownEpoch) hc).trans h1,
    (congrArg (·.crownVer) hc).trans h2⟩

/-- A die report that is new advances the crown epoch. -/
theorem dieReport_advances (ho : OpenLink l h s) (bad : Bool) (e : BitVec 32) (table : List Member)
    (hd : h.dest = ownFid s) (hcr : isCrown s = true) (hlen : s.col.dieTable.length < 256)
    (hnew : ({ fid := h.src, ver := lowestVer table, ring := table.map Member.fid, repoch := e } : Member) ∉
      s.col.dieTable) :
    let m : Member := { fid := h.src, ver := lowestVer table, ring := table.map Member.fid, repoch := e }
    Completes (.dieReport l ⟨h, bad⟩ e table) s fun t =>
      t.col.dieTable = putRidge m s.col.dieTable ∧ t.col.ridges = putRidge m s.col.dieTable ∧
        t.col.crownEpoch = nextEpoch s.col.crownEpoch ∧ t.col.crownVer = lowestVer (putRidge m s.col.dieTable) := by
  intro m
  let h' : Hdr := { h with kind := 0xB }
  let u : State := countCol 3 (received l h' (.dieReport e table) bad s)
  have huc : u.col = { s.col with count := bump s.col.count 3 1 } := by simp [u, countCol_col]
  have hcu : isCrown u = true := by
    have hr : isRidge u = isRidge s := by simp [u]
    have hf : ownFid u = ownFid s := by simp [u]
    have hcr' := hcr
    simp only [isCrown, uplEn, crownId] at hcr' ⊢
    rw [hr, hf, huc]
    exact hcr'
  have ht : takeDieReport l.val h.src e table u =
      crownAdvance (u.onCol fun c => { c with dieTable := putRidge m c.dieTable }) := by
    have hn : u.col.dieTable.contains m = false := by
      rw [huc]
      exact Bool.eq_false_iff.mpr fun hx => hnew (List.contains_iff_mem.mp hx)
    have hl : ¬ 256 ≤ u.col.dieTable.length := by
      rw [huc]
      exact Nat.not_le.mpr hlen
    simp only [takeDieReport, hcu, hl, Bool.not_true, decide_false, Bool.and_false, Bool.false_eq_true, if_false]
    exact if_neg (by rw [hn]; decide)
  have he : exec (.dieReport l ⟨h, bad⟩ e table) s =
      done (crownAdvance (u.onCol fun c => { c with dieTable := putRidge m c.dieTable })) := by
    have hd' : (h.dest == ownFid s) = true := by simp [hd]
    show done (recvControl l h' (.dieReport e table) bad s) = _
    rw [ho.recv (h' := h') bad rfl rfl (by simp [h']) rfl, ← ht]
    simp only [route, ownFid_received, takeUnicast, h', hd', if_true, u]
  refine ho.completes he (by simp [u]) fun t hc _ _ _ _ => ?_
  obtain ⟨h1, h2, h3, h4⟩ := crownAdvance_installs (u.onCol fun c => { c with dieTable := putRidge m c.dieTable })
  rw [State.onCol_col, huc] at h1 h2 h3 h4
  rw [hc]
  exact ⟨h1, h2, h3, h4⟩

end

/-- Settles O46: a control packet at an open link goes its route; each kind's effect on the membership is a lemma, and
what the ring's operations leave alone is said once for each of them. -/
theorem membershipPackets : Obligations.MembershipPackets := by
  unfold Obligations.MembershipPackets
  intro l h bad s hs ha hu hd hn _ hroom
  have ho : OpenLink l h s := ⟨hs, ha, hu, hd, hn, hroom⟩
  refine ⟨fun m hr hm => join_version0 ho bad m hr hm,
    fun m hr hm hv hon hlen hnew => join_pending ho bad m hr hm hv hon hlen hnew,
    fun f hr hv hon hf => leave_pending ho bad f hr hv hon hf, fun f hr hv hin hf => leave_lost ho bad f hr hv hin hf,
    fun q hr h2 hq => propose_removed ho bad q hr h2 hq, fun q hr hnr h0 hcr hq => ⟨fun ht => ?_, fun hadm he hl => ?_⟩,
    fun e v table hr hm => commit_installs ho bad e v table hr hm,
    fun e v ridges hr => ⟨crownCommit_installs ho bad e v ridges hr, crownCommit_passes ho bad e v ridges hr⟩,
    fun code => refuse_ends ho bad code, fun e table hdest hcr hlen => dieReport_advances ho bad e table hdest hcr hlen⟩
  · exact propose_takesPart ho bad q hr hnr h0 hcr hq ht
  · exact propose_restarted ho bad q hr hnr h0 hcr hq hadm he hl

end Sys2Proof.Machine
end

/-! ## The block as a whole: its states, power and clocks, BOOT, the block commands, ownership and the tick

What settling leaves, what the changes of state keep, and on these the statements of the block's overview. -/

section
namespace Sys2Proof.Machine

/-! ### A change of one part -/

theorem OnlyIn.refl {ps : List Part} (s : State) : OnlyIn ps s s := ⟨rfl, fun p _ => by cases p <;> rfl⟩

section
variable (s : State)

theorem onLog_onlyIn (f : Log → Log) : OnlyIn [.log] s (s.onLog f) :=
  ⟨rfl, fun p hp => by cases p <;> simp_all [SamePart]⟩

theorem onArb_onlyIn (f : Arb → Arb) : OnlyIn [.arb] s (s.onArb f) :=
  ⟨rfl, fun p hp => by cases p <;> simp_all [SamePart]⟩

theorem onCol_onlyIn (f : Col → Col) : OnlyIn [.col] s (s.onCol f) :=
  ⟨rfl, fun p hp => by cases p <;> simp_all [SamePart]⟩

theorem onCore_onlyIn (f : Core → Core) : OnlyIn [.core] s (s.onCore f) :=
  ⟨rfl, fun p hp => by cases p <;> simp_all [SamePart]⟩

theorem onAon_onlyIn (f : Aon → Aon) : OnlyIn [.aon] s (s.onAon f) :=
  ⟨rfl, fun p hp => by cases p <;> simp_all [SamePart]⟩

end

/-! ### What a change of the block state keeps -/

/-- The fields of the always-on domain that a change of the block state does not keep, blanked. -/
def Aon.unstated (a : Aon) : Aon := { a with st := .off, prev := .off, changes := 0, alert := 0, smbalert := false }

/-- The fields of the always-on domain that entering FAULT does not keep, a failed BOOT's aside, blanked. -/
def Aon.unfaulted (a : Aon) : Aon :=
  { a.unstated.ringless with bootLast := 0, chatLog := false, pendFatal := false, killed := false }

theorem Aon.unfaulted_fatalDue (a : Aon) : a.unfaulted.fatalDue = a.fatalDue := rfl

section
variable (b : BlkState) (s : State)

@[simp] theorem setState_st : (setState b s).aon.st = b := by
  unfold setState
  split
  · assumption
  · rfl

theorem setState_unstated : (setState b s).aon.unstated = s.aon.unstated := by
  unfold setState
  split
  · rfl
  · simp only [alertSet, stopUnadmitted, Aon.unstated, State.onAon_aon, State.onCol_aon, State.onCore_aon, State.onArb_aon]

/-- A state entered anew keeps the one before it, and counts (R22). -/
theorem setState_prev (h : s.aon.st ≠ b) :
    (setState b s).aon.prev = s.aon.st ∧ (setState b s).aon.changes = satAdd s.aon.changes 1 ∧
      (setState b s).core.irqState = true := by
  unfold setState
  rw [if_neg h]
  exact ⟨rfl, rfl, rfl⟩

/-- A change of the block state touches nothing but the block state, its interrupt, the owners it stops and a JOIN's
retries. -/
theorem setState_onlyIn : OnlyIn [.aon, .core, .arb, .col] s (setState b s) := by
  unfold setState
  split
  · exact OnlyIn.refl s
  · exact ((onAon_onlyIn _ _).mono (by simp)).trans (((onArb_onlyIn _ _).mono (by simp)).trans
      (((onCore_onlyIn _ _).mono (by simp)).trans (((onCol_onlyIn _ _).mono (by simp)).trans
      ((onAon_onlyIn _ _).mono (by simp)))))

@[simp] theorem setState_log : (setState b s).log = s.log := (setState_onlyIn b s).2 .log (by simp)
@[simp] theorem setState_sched : (setState b s).sched = s.sched := (setState_onlyIn b s).2 .sched (by simp)
@[simp] theorem setState_ports : (setState b s).ports = s.ports := (setState_onlyIn b s).2 .ports (by simp)
@[simp] theorem setState_sinter : (setState b s).sinter = s.sinter := (setState_onlyIn b s).2 .sinter (by simp)
@[simp] theorem setState_trf : (setState b s).trf = s.trf := (setState_onlyIn b s).2 .trf (by simp)
@[simp] theorem setState_time : (setState b s).time = s.time := (setState_onlyIn b s).2 .time (by simp)

@[simp] theorem setState_fatalDue : (setState b s).aon.fatalDue = s.aon.fatalDue :=
  congrArg (·.fatalDue) (setState_unstated b s)

@[simp] theorem setState_run : (setState b s).core.run = s.core.run := by
  unfold setState
  split <;> rfl

end

/-! ### What entering FAULT does -/

section
variable (s : State)

theorem closeBypass_ringless : (closeBypass s).ringless = s.ringless :=
  (ringless_tellLost _ _).trans (ringless_cutOutputs s)

theorem discardRaise_aon : (discardRaise s).aon = s.aon := by
  unfold discardRaise
  split <;> rfl

theorem discardRaise_core : (discardRaise s).core = s.core := by
  unfold discardRaise
  split <;> rfl

theorem logChatter_unfaulted : (logChatter s).aon.unfaulted = s.aon.unfaulted := by
  unfold logChatter
  split <;> rfl

theorem logChatter_st : (logChatter s).aon.st = s.aon.st := by
  unfold logChatter
  split <;> rfl

theorem noteBootTime_unfaulted : (noteBootTime s).aon.unfaulted = s.aon.unfaulted := by
  unfold noteBootTime
  split <;> rfl

theorem setState_unfaulted (b : BlkState) : (setState b s).aon.unfaulted = s.aon.unfaulted :=
  congrArg (fun a : Aon => { a.ringless with bootLast := 0, chatLog := false, pendFatal := false, killed := false })
    (setState_unstated b s)

theorem failBoot_fatalDue : (failBoot s).aon.fatalDue = s.aon.fatalDue := by
  unfold failBoot
  split <;> rfl

/-- What enters FAULT, up to the closing of the bypass. -/
theorem enterFault_ringless : (enterFault s).ringless =
    ((discardRaise (((logChatter (setState .fault (noteBootTime (failBoot s)))).onCore fun c =>
      { c with run := .halted }).onAon fun a => { a with pendFatal := false, killed := false })).ringless) := by
  rw [enterFault, closeBypass_ringless]

theorem ringless_unfaulted : s.ringless.aon.unfaulted = s.aon.unfaulted := rfl

theorem notPending_unfaulted : (s.onAon fun a => { a with pendFatal := false, killed := false }).aon.unfaulted =
    s.aon.unfaulted := rfl

/-- Of the always-on domain, FAULT changes what a failed BOOT clears and what `unfaulted` blanks. -/
theorem enterFault_unfaulted : (enterFault s).aon.unfaulted = (failBoot s).aon.unfaulted := by
  rw [← ringless_unfaulted, enterFault_ringless, ringless_unfaulted, discardRaise_aon, notPending_unfaulted,
    State.onCore_aon, logChatter_unfaulted, setState_unfaulted, noteBootTime_unfaulted]

@[simp] theorem enterFault_st : (enterFault s).aon.st = .fault := by
  have h := congrArg (·.aon.st) (enterFault_ringless s)
  simpa only [State.ringless, Aon.ringless, discardRaise_aon, State.onAon_aon, State.onCore_aon, logChatter_st,
    setState_st] using h

@[simp] theorem enterFault_run : (enterFault s).core.run = .halted := by
  have h := congrArg (·.core.run) (enterFault_ringless s)
  simpa only [State.ringless, discardRaise_core, State.onAon_core, State.onCore_core] using h

@[simp] theorem enterFault_fatalDue : (enterFault s).aon.fatalDue = s.aon.fatalDue := by
  rw [← Aon.unfaulted_fatalDue, enterFault_unfaulted, Aon.unfaulted_fatalDue, failBoot_fatalDue]

end
end Sys2Proof.Machine
end

section
namespace Sys2Proof.Machine

/-! ### What settling leaves -/

section
variable (s : State)

/-- No fatal error is left to act on (R24). -/
@[simp] theorem takeFatal_fatalDue : (takeFatal s).aon.fatalDue = false := by
  unfold takeFatal
  split
  · dsimp only
    split <;> (try split) <;> simp
  · next h => simpa using h

@[simp] theorem followState_fatalDue : (followState s).aon.fatalDue = s.aon.fatalDue := by
  unfold followState
  split <;> (try split) <;> simp

/-- The block state depends on the phases and the drains alone. -/
theorem stateFits_congr {s t : State} (h : StateFits s) (h1 : t.aon.st = s.aon.st) (h2 : t.sched = s.sched)
    (h3 : t.ports = s.ports) (h4 : t.sinter = s.sinter) : StateFits t := by
  unfold StateFits
  rw [h1, anyPhase_congr h2, h2, drainsDone_congr h3 h4]
  exact h

/-- READY goes to RUN with a phase, and RUN to READY with nothing left (R23). -/
theorem followState_stateFits : StateFits (followState s) := by
  have hp (b : BlkState) : anyPhase (setState b s) = anyPhase s := anyPhase_congr (setState_sched b s)
  cases hst : s.aon.st with
  | ready =>
    cases ha : anyPhase s with
    | true => simp [followState, hst, ha, StateFits, hp]
    | false => simp [followState, hst, ha, StateFits]
  | run =>
    cases hq : (s.sched.queue.isEmpty && !anyPhase s && drainsDone s) with
    | true =>
      have ha : anyPhase s = false := by
        simp only [Bool.and_eq_true, Bool.not_eq_true'] at hq
        exact hq.1.2
      simp only [followState, hst, hq, if_true]
      exact ⟨fun _ => (hp _).trans ha, fun h => by simp at h⟩
    | false =>
      simp only [followState, hst, hq, Bool.false_eq_true, if_false]
      refine ⟨fun h => by simp [hst] at h, fun _ => ?_⟩
      cases ha : anyPhase s <;> cases hd : drainsDone s <;> simp_all
  | _ => simp [followState, hst, StateFits]

/-- An enabled external interrupt has ended WFI (R317). -/
theorem wakeCore_wakesOnTime : WakesOnTime (wakeCore s) := by
  unfold wakeCore
  split
  · exact nofun
  · next h => exact fun hw hm => h (by simp [hw, hm])

/-- What settling ends with, the log and the core's wake, changes none of what `unlogged` keeps. -/
theorem settle_unlogged : (settle s).unlogged = (followState (takeFatal s)).unlogged := by
  rw [settle, unlogged_wakeCore, unlogged_flushLog]

theorem settle_st : (settle s).aon.st = (followState (takeFatal s)).aon.st := congrArg (·.aon.st) (settle_unlogged s)

/-- Every settled state is one: each of the four parts of settling gives its clause, and the later ones keep it. -/
theorem settled_settle : Settled (settle s) := by
  have hu := settle_unlogged s
  have hf : (settle s).aon.fatalDue = false := by
    have h := congrArg (·.aon.fatalDue) hu
    simpa only [State.unlogged, followState_fatalDue, takeFatal_fatalDue] using h
  refine ⟨⟨settle_raised s, hf⟩, ?_, wakeCore_wakesOnTime _⟩
  exact stateFits_congr (followState_stateFits (takeFatal s)) (congrArg (·.aon.st) hu) (congrArg (·.sched) hu)
    (congrArg (·.ports) hu) (congrArg (·.sinter) hu)

end

/-- Settles O3: every step ends in `settle`, and what `settle` leaves is settled. -/
theorem everyStepSettles : Obligations.EveryStepSettles := by
  intro s
  obtain ⟨u, hu⟩ := step_settles s
  exact ⟨settle u, hu, settled_settle u⟩

end Sys2Proof.Machine
end

section
namespace Sys2Proof.Machine

/-! ### A command that leaves nothing to settle -/

/-- The part of the state that settling looks at: what is raised, the block state and what it follows from, and the core's
sleep with the interrupts that end it. -/
def State.waking (s : State) : State :=
  { ({} : State) with
    log := { ({} : Log) with raised := s.log.raised }
    aon := { ({} : Aon) with st := s.aon.st, fatalDue := s.aon.fatalDue, inFull := s.aon.inFull }
    core := { ({} : Core) with run := s.core.run, mie := s.core.mie, woEvent := s.core.woEvent, irqErr := s.core.irqErr
                               irqState := s.core.irqState, irqBell := s.core.irqBell, irqEn := s.core.irqEn }
    sched := s.sched, ports := s.ports, sinter := s.sinter
    layout := { ({} : Layout) with event := s.layout.event }
    col := { ({} : Col) with event := s.col.event }
    gov := { ({} : Gov) with event := s.gov.event } }

theorem meip_of_waking {s t : State} (h : t.waking = s.waking) : meip t = meip s :=
  (meip_congr (s := t.waking) (t := t) rfl rfl rfl rfl rfl rfl rfl rfl rfl rfl).trans
    ((congrArg meip h).trans (meip_congr rfl rfl rfl rfl rfl rfl rfl rfl rfl rfl))

/-- A command that leaves alone what settling looks at ends where it is. -/
theorem settle_of_waking {s t : State} (hs : Settled s) (h : t.waking = s.waking) : settle t = t :=
  settle_same hs ((congrArg (·.aon.fatalDue) h).trans hs.1.2) (congrArg (·.aon.st) h) (congrArg (·.sched) h)
    (congrArg (·.ports) h) (congrArg (·.sinter) h) ((congrArg (·.log.raised) h).trans hs.1.1)
    (congrArg (·.core.run) h) (meip_of_waking h) (congrArg (·.core.mie) h)

/-- An event that does not take place leaves a settled state as it is. -/
theorem settle_settled {s : State} (hs : Settled s) : settle s = s := settle_of_waking hs rfl

theorem waking_answer (src : Src) (a : Answer) (v : W64) (s : State) : (answer src a v s).waking = s.waking := by
  cases src <;> rfl

theorem waking_endDrops (src : Src) (s : State) : (endDrops src s).waking = s.waking := rfl

theorem waking_accept (src : Src) (off : Nat) (s : State) : (accept src off s).waking = s.waking := by
  unfold accept
  rw [waking_answer]
  split
  · rfl
  · exact waking_endDrops src s

end Sys2Proof.Machine
end

section
namespace Sys2Proof.Machine

/-! ### What settling makes of a fatal error -/

section
variable (s : State)

theorem settle_aon_unsettled : (settle s).aon.unsettled = s.aon.unsettled := congrArg (·.aon) (unsettled_settle s)

theorem settle_core_unsettled : (settle s).core.unsettled = s.core.unsettled := congrArg (·.core) (unsettled_settle s)

theorem logOne_run (r : Report) (p : State × Nat) : (logOne r p).1.core.run = p.1.core.run := by
  have drop (q : BitVec 32) (t : State) : (noteDrop r q t).core = t.core := by
    unfold noteDrop
    split <;> rfl
  have poison (q : BitVec 32) (t : State) : (notePoisonEntry r q t).core = t.core := by
    unfold notePoisonEntry
    split <;> rfl
  have signal (e : LogEntry) (t : State) : (signalNew e t).core.run = t.core.run := by
    unfold signalNew
    dsimp only
    split <;> rfl
  have new (t : State) : (writeNew r t).core.run = t.core.run := by
    unfold writeNew
    dsimp only
    split
    · rw [signal, drop, poison, State.onLog_core]
    · split
      · split
        · rw [signal, State.onLog_core]
        · rfl
      · rfl
  unfold logOne
  dsimp only
  split
  · rfl
  · split
    · split <;> rfl
    · split
      · rfl
      · rw [drop, State.onLog_core]
      · split
        · exact new _
        · rfl

@[simp] theorem flushLog_run : (flushLog s).core.run = s.core.run := by
  unfold flushLog
  rw [foldOver_same (fun p : State × Nat => p.1.core.run) logOne_run, State.onLog_core]

@[simp] theorem followState_run : (followState s).core.run = s.core.run := by
  unfold followState
  split <;> (try split) <;> simp

theorem wakeCore_run (h : s.core.run ≠ .wfi) : (wakeCore s).core.run = s.core.run := by
  unfold wakeCore
  rw [if_neg (by simp [h])]

/-- A core that is not in WFI goes on as it is. -/
theorem settle_run (h : (takeFatal s).core.run ≠ .wfi) : (settle s).core.run = (takeFatal s).core.run := by
  have hr : (flushLog (followState (takeFatal s))).core.run = (takeFatal s).core.run := by simp
  rw [settle, wakeCore_run _ (hr ▸ h), hr]

variable {s}

/-- Outside READY and RUN settling acts on the fatal error and writes the log. -/
theorem settle_unlogged_of_st (h1 : (takeFatal s).aon.st ≠ .ready) (h2 : (takeFatal s).aon.st ≠ .run) :
    (settle s).unlogged = (takeFatal s).unlogged := by
  have hf : followState (takeFatal s) = takeFatal s := by
    unfold followState
    split <;> simp_all
  rw [settle_unlogged, hf]

theorem isLive_iff : isLive s = true ↔ s.aon.st = .ready ∨ s.aon.st = .run ∨ s.aon.st = .pause ∨ s.aon.st = .ember := by
  simp [isLive]

/-- A fatal error leads a live block to FAULT (R24). -/
theorem takeFatal_live (hd : s.aon.fatalDue = true) (hl : isLive s = true) :
    takeFatal s = enterFault (s.onAon fun a => { a with fatalDue := false }) := by
  unfold takeFatal
  rw [if_pos hd]
  rcases isLive_iff.mp hl with h | h | h | h <;> simp [h]

theorem settle_fatal_live (hd : s.aon.fatalDue = true) (hl : isLive s = true) :
    (settle s).aon.st = .fault ∧ (settle s).core.run = .halted := by
  have ht := takeFatal_live hd hl
  have hst : (takeFatal s).aon.st = .fault := by rw [ht, enterFault_st]
  refine ⟨(congrArg (·.aon.st) (settle_unlogged_of_st (by simp [hst]) (by simp [hst]))).trans hst, ?_⟩
  rw [settle_run s (by rw [ht, enterFault_run]; exact nofun), ht, enterFault_run]

/-- During PURGE it waits (R24). -/
theorem takeFatal_purge (hd : s.aon.fatalDue = true) (hp : s.aon.st = .purge) :
    takeFatal s = s.onAon fun a => { a with fatalDue := false, pendFatal := true } := by
  unfold takeFatal
  rw [if_pos hd]
  simp only [State.onAon_aon, hp]
  rfl

end
end Sys2Proof.Machine
end

section
namespace Sys2Proof.Machine

/-! ### HOST_OWN and the watchdog (R322, R327) -/

section
variable {s : State}

/-- The checks let a write of HOST_OWN by any host through: ownership is judged by the register itself. -/
theorem writeReg_hostOwn (id : BitVec 8) (act : State → State) (hm : mainOn s = true) (hb : s.aon.st ≠ .boot) :
    writeReg (.host id) 0xB0008 .both act s = act (answer (.host id) .ok 0 s) := by
  simp [writeReg, writeVerdict, stateVerdict, ownerDrops, ownershipDrops, accept, hm, hb]

/-- A write of HOST_OWN that takes effect ends its source's episode of drops and changes the ownership alone. -/
theorem settle_hostOwn (hs : Settled s) (src : Src) (owned : Bool) (id : BitVec 8) :
    settle ((endDrops src (answer src .ok 0 s)).onCore fun c => { c with owned := owned, ownerId := id }) =
      (endDrops src (answer src .ok 0 s)).onCore fun c => { c with owned := owned, ownerId := id } :=
  settle_of_waking hs ((waking_endDrops src _).trans (waking_answer src .ok 0 s))

/-- The owner of HOST_OWN and the vent port give it back. -/
theorem hostRelease_frees (hs : Settled s) {src : Src} (hw : Writes src .both s)
    (ho : releaseOp src (answer src .ok 0 s) =
      (endDrops src (answer src .ok 0 s)).onCore fun c => { c with owned := false }) :
    exec (.hostRelease src) s =
      .next ((endDrops src (answer src .ok 0 s)).onCore fun c => { c with owned := false }) := by
  show done (writeReg src 0xB0008 .both (releaseOp src) s) = _
  rw [writeReg_of_writes hw]
  show Host.Outcome.next (settle (releaseOp src (answer src .ok 0 s))) = _
  rw [ho]
  exact congrArg _ (settle_of_waking hs ((waking_endDrops src _).trans (waking_answer src .ok 0 s)))

/-- A dropped claim or release changes the answer and the log alone, and what follows from it. -/
theorem settle_ownDrop (id : BitVec 8) (t : State) :
    (settle (ownDrop (.host id) t)).core.unsettled = t.core.unsettled ∧
      (settle (ownDrop (.host id) t)).aon.hpRsp = (1#2) ++ (0 : BitVec 64) := by
  have hl (u : State) : (logDrop (.host id) u).core = u.core ∧ (logDrop (.host id) u).aon = u.aon := by
    unfold logDrop
    split <;> exact ⟨rfl, rfl⟩
  refine ⟨?_, ?_⟩
  · rw [settle_core_unsettled, ownDrop, (hl _).1, answer_core]
  · have h := congrArg Aon.hpRsp (settle_aon_unsettled (ownDrop (.host id) t))
    simpa only [Aon.unsettled, ownDrop, (hl _).2, answer, State.onAon_aon] using h

end

section
variable {s : State}

/-- Another host's claim or release is dropped. -/
theorem hostOwn_keeps {c : Instr} {id : BitVec 8} {act : State → State}
    (hc : exec c s = done (writeReg (.host id) 0xB0008 .both act s)) (hm : mainOn s = true) (hb : s.aon.st ≠ .boot)
    (ha : act (answer (.host id) .ok 0 s) = ownDrop (.host id) (answer (.host id) .ok 0 s)) (ho : s.core.owned = true) :
    Completes c s fun t => t.core.owned = true ∧ t.core.ownerId = s.core.ownerId ∧
      t.aon.hpRsp = (1#2) ++ (0 : BitVec 64) := by
  refine ⟨_, hc, ?_⟩
  rw [writeReg_hostOwn id act hm hb, ha]
  obtain ⟨hcore, hrsp⟩ := settle_ownDrop id (answer (.host id) .ok 0 s)
  refine ⟨?_, ?_, hrsp⟩
  · simpa only [Core.unsettled, answer_core, ho] using congrArg Core.owned hcore
  · simpa only [Core.unsettled, answer_core] using congrArg Core.ownerId hcore

theorem wdogFire_wdogOut (s : State) : (wdogFire s).core.wdogOut = true := rfl

/-- The watchdog's expiry with the count running out for the first time. -/
theorem exec_watchdogExpiry (hu : unitsOn s = true) (hb : s.aon.st ≠ .boot) (hp : s.core.period ≠ 0)
    (ho : s.core.wdogOut = false) : exec .watchdogExpiry s = .next (settle (wdogFire s)) := by
  show done (onlyIf _ wdogFire s) = _
  rw [onlyIf_pos _ _ (by simpa [hu, hb, ho] using hp)]
  rfl

theorem unitsOn_of_st (hm : mainOn s = true) (h : s.aon.st ≠ .fault) : unitsOn s = true := by
  simp [unitsOn, hm, h]

end

/-- Settles O20: a write of HOST_OWN is judged by the register; the watchdog's code is fatal, in PURGE later. -/
theorem ownershipAndWatchdog : Obligations.OwnershipAndWatchdog := by
  refine ⟨fun s hs => ⟨fun id hw ho => ?_, fun id hw => ?_, fun hw => ?_, fun id hm hb ho hid => ⟨?_, ?_⟩⟩,
    fun src v s hs hw => ?_, fun s hm hp => ⟨fun ho => ⟨fun hl => ?_, fun hpu => ?_⟩, fun hs ho => ?_⟩⟩
  · show done (writeReg (.host id) 0xB0008 .both (claimOp (.host id)) s) = _
    rw [writeReg_of_writes hw]
    have ha : claimOp (.host id) (answer (.host id) .ok 0 s) =
        (endDrops (.host id) (answer (.host id) .ok 0 s)).onCore fun c => { c with owned := true, ownerId := id } := by
      simp [claimOp, ho]
    exact (congrArg done ha).trans (congrArg _ (settle_hostOwn hs _ _ _))
  · have ho : (s.core.owned && s.core.ownerId != id) = false := by
      obtain ⟨-, -, -, ho | ho⟩ := hw <;> simp [ho]
    exact hostRelease_frees hs hw (by simp [releaseOp, ho])
  · exact hostRelease_frees hs hw rfl
  · exact hostOwn_keeps rfl hm hb (by simp [claimOp, ho, hid]) ho
  · exact hostOwn_keeps rfl hm hb (by simp [releaseOp, ho, hid]) ho
  · show done (writeReg src 0xB0020 .host (wdogWord v) s) = _
    rw [writeReg_of_writes hw]
    have hk : (wdogWord v (accept src 0xB0020 s)).waking = s.waking := waking_accept src 0xB0020 s
    exact congrArg Host.Outcome.next (settle_of_waking hs hk)
  · have hst := isLive_iff.mp hl
    have hf : s.aon.st ≠ .fault ∧ s.aon.st ≠ .boot := by rcases hst with h | h | h | h <;> simp [h]
    exact ⟨_, exec_watchdogExpiry (unitsOn_of_st hm hf.1) hf.2 hp ho, settle_fatal_live rfl hl⟩
  · have ht : takeFatal (wdogFire s) = (wdogFire s).onAon fun a => { a with fatalDue := false, pendFatal := true } :=
      takeFatal_purge rfl hpu
    have hst : (takeFatal (wdogFire s)).aon.st = .purge := (congrArg (·.aon.st) ht).trans hpu
    have hu := settle_unlogged_of_st (s := wdogFire s) (by simp [hst]) (by simp [hst])
    refine ⟨_, exec_watchdogExpiry (unitsOn_of_st hm (by simp [hpu])) (by simp [hpu]) hp ho, ?_, ?_, ?_⟩
    · simpa only [State.unlogged, hst] using congrArg (·.aon.st) hu
    · simpa only [State.unlogged, ht, State.onAon_aon] using congrArg (·.aon.pendFatal) hu
    · have h := congrArg Core.wdogOut (settle_core_unsettled (wdogFire s))
      simpa only [Core.unsettled, wdogFire_wdogOut] using h
  · show done (onlyIf _ wdogFire s) = _
    rw [onlyIf_neg _ _ (by simp [ho])]
    exact congrArg _ (settle_settled hs)

end Sys2Proof.Machine
end

section
namespace Sys2Proof.Machine

/-! ### The block commands (R23, R24, R26, R329) -/

section
variable {s t : State}

theorem wakeCore_cases (s : State) :
    wakeCore s = s ∨ wakeCore s = s.onCore fun c => { c with run := .running } := by
  unfold wakeCore
  split
  · exact .inr rfl
  · exact .inl rfl

/-- A quiet state that fits its block state settles by waking the core alone. -/
theorem settle_fits (hq : Quiet s) (hf : StateFits s) : settle s = wakeCore s := by
  rw [settle, takeFatal_quiet hq.2, followState_same hf rfl rfl rfl rfl, flushLog_quiet hq.1]

theorem accept_onlyIn (src : Src) (off : Nat) (s : State) : OnlyIn [.log, .aon] s (accept src off s) := by
  unfold accept
  split
  · exact (answer_onlyIn ..).mono (by simp)
  · exact ((onLog_onlyIn s _).mono (by simp)).trans ((answer_onlyIn ..).mono (by simp))

end

/-- A block command that HOST_CMD takes, with BUSY after it (R329, assumption 12). -/
def hostTaken (src : Src) (act : State → State) (s : State) : State :=
  (act (accept src 0xB0010 s)).onCore fun c => { c with cmdBusy := true }

section
variable {src : Src} {s : State} {act : State → State} {c : Instr}

theorem hostCmd_takes (hw : Writes src .both s) (hb : s.core.cmdBusy = false) :
    hostCmd src act s = hostTaken src act s := by
  simp [hostCmd, hb, writeDropping_false, writeReg_of_writes hw, hostGate, unlessBusy, hostTaken]

theorem exec_hostCmd (hc : exec c s = done (hostCmd src act s)) (hw : Writes src .both s) (hb : s.core.cmdBusy = false) :
    exec c s = .next (settle (hostTaken src act s)) := by
  rw [hc, hostCmd_takes hw hb]
  rfl

/-- A command that only reports its code. -/
theorem waking_hostTaken_code (code : BitVec 8) : (hostTaken src (hostCode code) s).waking = s.waking :=
  waking_accept src 0xB0010 s

theorem anyPhase_accept (off : Nat) : anyPhase (accept src off s) = anyPhase s := anyPhase_congr (accept_sched ..)

/-- What a change to PAUSE, READY or RUN does: a command of HOST_CMD that enters a block state which fits. -/
theorem hostTaken_setState {b : BlkState} (hs : Settled s) (hne : s.aon.st ≠ b)
    (hr : b = .ready → anyPhase s = false) (hn : b = .run → anyPhase s = true) :
    let t := settle (hostTaken src (fun s => hostCode 0 (setState b s)) s)
    t.aon.st = b ∧ t.aon.prev = s.aon.st ∧ t.aon.changes = satAdd s.aon.changes 1 ∧ t.core.cmdCode = 0 ∧
      t.core.irqState = true ∧ OnlyIn [.log, .aon, .core, .arb, .col] s t := by
  intro t
  let u := hostTaken src (fun s => hostCode 0 (setState b s)) s
  obtain ⟨hprev, hch, hirq⟩ := setState_prev b (accept src 0xB0010 s) (by simpa using hne)
  have hst : u.aon.st = b := by simp [u, hostTaken, hostCode]
  have hp : anyPhase u = anyPhase s := anyPhase_congr (by simp [u, hostTaken, hostCode])
  have hq : Quiet u := by simpa [Quiet, u, hostTaken, hostCode] using hs.1
  have hf : StateFits u := ⟨fun h => hp.trans (hr (hst.symm.trans h)), fun h => .inl (hp.trans (hn (hst.symm.trans h)))⟩
  have hu : OnlyIn [.log, .aon, .core, .arb, .col] s u :=
    ((accept_onlyIn src 0xB0010 s).mono (by simp)).trans (((setState_onlyIn b _).mono (by simp)).trans
      (((onCore_onlyIn _ _).mono (by simp)).trans ((onCore_onlyIn _ _).mono (by simp))))
  have hw : OnlyIn [.log, .aon, .core, .arb, .col] u (wakeCore u) := (wakeCore_onlyIn u).mono (by simp)
  have hcore : (wakeCore u).core.cmdCode = 0 ∧ (wakeCore u).core.irqState = true := by
    have hi : u.core.cmdCode = 0 ∧ u.core.irqState = true := by simpa [u, hostTaken, hostCode] using hirq
    rcases wakeCore_cases u with h | h <;> rw [h] <;> exact hi
  have haon : u.aon = (setState b (accept src 0xB0010 s)).aon := by simp only [u, hostTaken, hostCode, State.onCore_aon]
  rw [show t = wakeCore u from settle_fits hq hf, wakeCore_aon]
  refine ⟨hst, ?_, ?_, hcore.1, hcore.2, hu.trans hw⟩
  · rw [haon, hprev, accept_aon_st]
  · rw [haon, hch, accept_aon_changes]

/-- A refused block command reports code 0x8C. -/
theorem settle_hostRefuse_code : (settle (hostTaken src (hostRefuse src) s)).core.cmdCode = 0x8C := by
  have h := congrArg Core.cmdCode (settle_core_unsettled (hostTaken src (hostRefuse src) s))
  simpa only [Core.unsettled, hostTaken, hostRefuse, hostCode, report, State.onLog_core, State.onCore_core] using h

/-- An accepted job kill leads to PURGE (R381). -/
theorem jobKill_purges (unit : BitVec 12) (s : State) :
    (jobKill unit s).aon.st = .purge ∧ (jobKill unit s).aon.killed = true := by
  unfold jobKill
  dsimp only
  refine ⟨setState_st _ _, ?_⟩
  generalize State.onCore _ _ = u
  have h := congrArg Aon.killed (setState_unstated .purge (u.onAon fun a => { a with killed := true }))
  simpa only [Aon.unstated, State.onAon_aon] using h

/-- In PURGE settling keeps the block state and KILLED: a fatal error waits. -/
theorem settle_purge {u : State} (hp : u.aon.st = .purge) (hk : u.aon.killed = true) :
    (settle u).aon.st = .purge ∧ (settle u).aon.killed = true := by
  have ht : (takeFatal u).aon.st = .purge ∧ (takeFatal u).aon.killed = true := by
    cases hd : u.aon.fatalDue with
    | false => rw [takeFatal_quiet hd]; exact ⟨hp, hk⟩
    | true => rw [takeFatal_purge hd hp]; exact ⟨hp, hk⟩
  have hu := settle_unlogged_of_st (s := u) (by simp [ht.1]) (by simp [ht.1])
  refine ⟨?_, ?_⟩
  · simpa only [State.unlogged, ht.1] using congrArg (·.aon.st) hu
  · simpa only [State.unlogged, ht.2] using congrArg (·.aon.killed) hu

theorem settle_hostTaken_kill (unit : BitVec 12) :
    let t := settle (hostTaken src (fun s => hostCode 0 (jobKill unit s)) s)
    t.aon.st = .purge ∧ t.aon.killed = true ∧ t.core.cmdCode = 0 := by
  obtain ⟨hp, hk⟩ := jobKill_purges unit (accept src 0xB0010 s)
  simp only [hostTaken, hostCode]
  generalize jobKill unit _ = k at hp hk ⊢
  obtain ⟨h1, h2⟩ := settle_purge (u := (k.onCore fun c => { c with cmdCode := 0 }).onCore fun c => { c with cmdBusy := true })
    hp hk
  refine ⟨h1, h2, ?_⟩
  have h3 := congrArg Core.cmdCode (settle_core_unsettled
    ((k.onCore fun c => { c with cmdCode := 0 }).onCore fun c => { c with cmdBusy := true }))
  simpa only [Core.unsettled, State.onCore_core] using h3

end

section
variable {src : Src} {s : State}

/-- PAUSE and RESUME by the block state. -/
theorem pauseOp_accept (off : Nat) :
    (s.aon.st = .ready ∨ s.aon.st = .run →
      pauseOp src (accept src off s) = hostCode 0 (setState .pause (accept src off s)) ∧
      resumeOp src (accept src off s) = hostCode 0 (accept src off s)) ∧
    (s.aon.st = .pause → pauseOp src (accept src off s) = hostCode 0 (accept src off s) ∧
      resumeOp src (accept src off s) =
        hostCode 0 (setState (if anyPhase s then .run else .ready) (accept src off s))) ∧
    (s.aon.st = .ember ∨ s.aon.st = .fault ∨ s.aon.st = .purge →
      pauseOp src (accept src off s) = hostRefuse src (accept src off s) ∧
      resumeOp src (accept src off s) = hostRefuse src (accept src off s)) := by
  refine ⟨?_, fun h => ?_, ?_⟩
  · rintro (h | h) <;> simp [pauseOp, resumeOp, h]
  · simp [pauseOp, resumeOp, h, anyPhase_accept]
  · rintro (h | h | h) <;> simp [pauseOp, resumeOp, h]

theorem killOp_live (hl : isLive s = true) (off : Nat) : killOp src (accept src off s) =
    hostCode 0 (jobKill (if src = .vent then 1 else 0) (accept src off s)) := by
  have h : isLive (accept src off s) = true := by
    unfold isLive at hl ⊢
    rwa [accept_aon_st]
  simp only [killOp, killAllowed, h, if_true]

theorem hostTaken_congr {act act' : State → State} (h : act (accept src 0xB0010 s) = act' (accept src 0xB0010 s)) :
    hostTaken src act s = hostTaken src act' s := by
  unfold hostTaken
  rw [h]

end

/-- Settles O19: HOST_CMD takes the command, and the block state decides what it does. -/
theorem blockCommandsTakeEffect : Obligations.BlockCommandsTakeEffect := by
  refine ⟨fun src s hs hw hb => ?_, fun src s hq hw hb => ⟨fun hl => ?_, fun raw hr => ?_⟩⟩
  · obtain ⟨hlive, hpause, hother⟩ := pauseOp_accept (src := src) (s := s) 0xB0010
    have hP : exec (.hostPause src) s = .next (settle (hostTaken src (pauseOp src) s)) := exec_hostCmd rfl hw hb
    have hR : exec (.hostResume src) s = .next (settle (hostTaken src (resumeOp src) s)) := exec_hostCmd rfl hw hb
    have hcode : settle (hostTaken src (hostCode 0) s) = hostTaken src (hostCode 0) s :=
      settle_of_waking hs (waking_hostTaken_code 0)
    have hst : (hostTaken src (hostCode 0) s).aon.st = s.aon.st := accept_aon_st ..
    refine ⟨?_, fun h => ?_, fun h => ?_, fun h => ?_, fun h => ?_, fun h => ?_⟩
    · rw [exec_hostCmd (act := hostCode 0) rfl hw hb, hcode]
      rfl
    · rw [hostTaken_congr (act' := fun s => hostCode 0 (setState .pause s)) (hlive h).1] at hP
      exact ⟨_, hP, hostTaken_setState hs (by rcases h with h | h <;> simp [h]) nofun nofun⟩
    · rw [hostTaken_congr (act' := fun t => hostCode 0 (setState (if anyPhase s then .run else .ready) t)) (hpause h).2] at hR
      obtain ⟨h1, h2, -, h3, -, h4⟩ := hostTaken_setState (src := src) (b := if anyPhase s then .run else .ready) hs
        (by split <;> simp [h]) (by cases anyPhase s <;> simp) (by cases anyPhase s <;> simp)
      exact ⟨_, hR, h1, h2.trans h, h3, h4⟩
    · rw [hostTaken_congr (hpause h).1, hcode] at hP
      exact ⟨_, hP, hst.trans h, rfl⟩
    · rw [hostTaken_congr (hlive h).2, hcode] at hR
      exact ⟨_, hR, hst, rfl⟩
    · rw [hostTaken_congr (hother h).1] at hP
      rw [hostTaken_congr (hother h).2] at hR
      exact ⟨hP, hR⟩
  · have hx : exec (.hostKill src) s = .next (settle (hostTaken src (killOp src) s)) := exec_hostCmd rfl hw hb
    rw [hostTaken_congr (act' := fun s => hostCode 0 (jobKill (if src = .vent then 1 else 0) s)) (killOp_live hl _)] at hx
    exact ⟨_, hx, settle_hostTaken_kill _⟩
  · have hx : exec (.hostCmdReserved src raw) s = .next (settle (hostTaken src (hostRefuse src) s)) := by
      show done (onlyIf (hostReservedWord raw) (hostCmd src (hostWord src raw)) s) = _
      rw [onlyIf_pos _ _ hr, hostCmd_takes hw hb, hostTaken_congr (act' := hostRefuse src) (by simp [hostWord, hr])]
      rfl
    exact ⟨_, hx, rfl, settle_hostRefuse_code⟩

end Sys2Proof.Machine
end

section
namespace Sys2Proof.Machine

/-! ### A second uncorrectable read at a bay's path

A beat that reads a beam of an entry can itself be uncorrectable; where another beam's uncorrectable read is still
pending, it raises code 0x06, which is fatal (R92), and FAULT stops the owner of the path (R243). -/

/-- The move's read of the four beams of entry 3, all in bay 0. -/
def pendingGrant : Grant :=
  { req := 5, client := .move, jobs := [{ beam := 0, key := 0, mort := 3 }, { beam := 1, key := 1, mort := 3 }] }

/-- READY, a bulk move out of entry 3 holding the path of bay 0, the uncorrectable read of the entry's beam 3 pending. -/
def pendingUe : State :=
  { ({} : State) with
    aon := { ({} : Aon) with st := .ready, prev := .boot, arstN := true, mrstN := true, pwrok := true }
    trf := { ({} : Trf) with
             lost := false
             mort := [(3, { base := 0, len := 4, st := .full, poison := true, uePend := true, ueOffset := 3 })] }
    core := { ({} : Core) with
              run := .running, move := some { mort := 3, kind := 1, count := 4, left := [0, 1, 2, 3] } }
    arb := { ({} : Arb) with bay := vmod (Vector.replicate 32 {}) 0 fun y => { y with owner := some pendingGrant } } }

/-- Three symbols of codeword 0 wrong: more than the code corrects (R74). -/
def threeSymbols : LineErr := { cw0 := [(0, 1), (1, 1), (2, 1)] }

/-- The beat raises code 0x06, and FAULT stops the owner. -/
theorem pendingUe_beat_stopsOwner {t : State}
    (h : exec (.sidePortBeat 0 ⟨threeSymbols, 0⟩) pendingUe = .next t) : t.arb.bay[(0 : Fin 32)].owner = none := by
  have ht : settle (serveLinks (sideBeat 0 threeSymbols pendingUe)) = t := Host.Outcome.next.inj h
  rw [← ht]
  decide +kernel

/-- Refutes O45: the beat's own read is the second uncorrectable one of its entry, so that the block enters FAULT and the
path of bay 0 has lost its owner, where the statement has it keep its remaining job. -/
theorem not_sidePortPaths : ¬ Obligations.SidePortPaths := by
  intro h
  have hs : Settled pendingUe := ⟨⟨rfl, rfl⟩, ⟨fun _ => by decide +kernel, nofun⟩, nofun⟩
  obtain ⟨-, -, hbeat, -⟩ := h 0 pendingUe hs (by decide +kernel)
  obtain ⟨t, he, -, -, x, -, -, -, -, howner, -⟩ :=
    hbeat pendingGrant { beam := 0, key := 0, mort := 3 } [{ beam := 1, key := 1, mort := 3 }] threeSymbols 0
      (by decide +kernel) (by decide +kernel) rfl nofun nofun (.inl rfl) (.inl rfl)
  rw [pendingUe_beat_stopsOwner he] at howner
  exact nomatch howner

end Sys2Proof.Machine
end

section
namespace Sys2Proof.Machine

/-! ### Entering BOOT (R351, R361) -/

section
variable {s : State}

theorem bootDue_st (h : bootDue s = true) : s.aon.st = .reset := by
  simp only [bootDue, Bool.and_eq_true, beq_iff_eq] at h
  exact h.1.1.1.2

/-- What BOOT's entry does to the always-on domain. -/
theorem enterBoot_aon (h : s.aon.st = .reset) :
    let a := (enterBoot s).aon
    a.st = .boot ∧ a.prev = .reset ∧ a.boots = satAdd s.aon.boots 1 ∧ a.bSlot = 3 ∧ a.bLoaded = false ∧ a.imageId = 0 ∧
      ((∀ k, s.aon.drive ≠ .free k) → a.drive = .normal) ∧
      a.seqr.phase = (if fromHost s then .headers else .discovery) ∧ a.fatalDue = s.aon.fatalDue := by
  have hu := setState_unstated .boot s
  obtain ⟨hprev, -, -⟩ := setState_prev .boot s (by simp [h])
  have hboots : (setState .boot s).aon.boots = s.aon.boots := by simpa only [Aon.unstated] using congrArg Aon.boots hu
  have hdrive : (setState .boot s).aon.drive = s.aon.drive := by simpa only [Aon.unstated] using congrArg Aon.drive hu
  have hsrc : (setState .boot s).aon.bootSrc = s.aon.bootSrc := by simpa only [Aon.unstated] using congrArg Aon.bootSrc hu
  simp only [enterBoot, purgeStart, fromHost, State.onTrf_aon, State.onAon_aon, setState_st, setState_fatalDue, hprev, h,
    hboots, hsrc, true_and, and_true]
  refine ⟨fun hd => ?_, rfl⟩
  rw [hdrive]
  cases hk : s.aon.drive with
  | free k => exact absurd hk (hd k)
  | _ => rfl

theorem enterBoot_rest (s : State) : (enterBoot s).log = s.log ∧ (enterBoot s).core.tcm = [] ∧
    (enterBoot s).trf.purging = true ∧ (enterBoot s).time.bclk = 0 := by
  simp only [enterBoot, purgeStart, State.onTrf_log, State.onTrf_core, State.onTrf_trf, State.onTrf_time, State.onAon_log,
    setState_log, true_and]

end
end Sys2Proof.Machine
end

section
namespace Sys2Proof.Machine

/-! ### The end of BOOT (R23, R351, R361) -/

section
variable (s : State)

theorem onPort_onlyIn (e : Fin 16) (f : Port → Port) : OnlyIn [.ports] s (s.onPort e f) :=
  ⟨rfl, fun p hp => by cases p <;> simp_all [SamePart]⟩

theorem onTrf_onlyIn (f : Trf → Trf) : OnlyIn [.trf] s (s.onTrf f) :=
  ⟨rfl, fun p hp => by cases p <;> simp_all [SamePart]⟩

theorem onGov_onlyIn (f : Gov → Gov) : OnlyIn [.gov] s (s.onGov f) :=
  ⟨rfl, fun p hp => by cases p <;> simp_all [SamePart]⟩

theorem portRelease_onlyIn (e : Fin 16) : OnlyIn [.ports] s (portRelease e s) := by
  unfold portRelease
  split
  · exact (onPort_onlyIn s e _).trans (onPort_onlyIn _ e _)
  · exact onPort_onlyIn s e _

theorem portsAfterBoot_onlyIn : OnlyIn [.ports] s (portsAfterBoot s) :=
  foldOver_keeps (OnlyIn [.ports] s) (fun e t h => h.trans (portRelease_onlyIn t e)) _ (OnlyIn.refl s)

theorem colAfterBoot_ringless : (colAfterBoot s).ringless = s.ringless := by
  have ho : (openBypass s).ringless = s.ringless := ringless_onAon rfl
  unfold colAfterBoot
  split
  · unfold proposeNow
    rw [ringless_sendAround, ringless_onCol, ho]
  · split
    · unfold sendJoin
      dsimp only
      split <;> simp
    · rfl

/-- What the units do once BOOT is over leaves the block state, the core and the phases alone. -/
theorem unitsAfterBoot_keep : let t := colAfterBoot (portsAfterBoot (scrubRestart (lowerCeilings s)))
    t.aon.ringless = s.aon.ringless ∧ t.core = s.core ∧ t.sched = s.sched := by
  intro t
  have h : OnlyIn [.gov, .trf, .arb, .ports] s (portsAfterBoot (scrubRestart (lowerCeilings s))) :=
    ((onGov_onlyIn s _).mono (by simp)).trans (((onTrf_onlyIn _ _).mono (by simp)).trans
      (((onArb_onlyIn _ _).mono (by simp)).trans ((portsAfterBoot_onlyIn _).mono (by simp))))
  have hr := colAfterBoot_ringless (portsAfterBoot (scrubRestart (lowerCeilings s)))
  have haon : (portsAfterBoot (scrubRestart (lowerCeilings s))).aon = s.aon := h.2 .aon (by simp)
  have hcore : (portsAfterBoot (scrubRestart (lowerCeilings s))).core = s.core := h.2 .core (by simp)
  have hsched : (portsAfterBoot (scrubRestart (lowerCeilings s))).sched = s.sched := h.2 .sched (by simp)
  refine ⟨?_, ?_, ?_⟩
  · simpa only [State.ringless, haon] using congrArg (·.aon) hr
  · simpa only [State.ringless, hcore] using congrArg (·.core) hr
  · simpa only [State.ringless, hsched] using congrArg (·.sched) hr

/-- EMBER is entered as any state; the log entry of a quench latched at a reset is due no longer. -/
theorem enterEmber_keeps : (enterEmber s).sched = s.sched ∧
    (enterEmber s).aon = { (setState .ember s).aon with qLogDue := false } := by
  unfold enterEmber
  dsimp only
  split
  · exact ⟨setState_sched .ember s, rfl⟩
  · next h =>
    refine ⟨setState_sched .ember s, ?_⟩
    simp only [Bool.not_eq_true] at h
    rw [← h]

/-- The block as BOOT leaves it, its units not yet at work. -/
def bootLeft (s : State) : State :=
  let n := noteBootTime s
  logChatter (if n.aon.qState == .latched then enterEmber n else setState .ready n)

theorem leaveBoot_eq : leaveBoot s = colAfterBoot (portsAfterBoot (scrubRestart (lowerCeilings (releaseCore (bootLeft s))))) :=
  rfl

theorem noteBootTime_keeps : (noteBootTime s).sched = s.sched ∧ (noteBootTime s).aon.fatalDue = s.aon.fatalDue ∧
    (noteBootTime s).aon.qState = s.aon.qState ∧ (noteBootTime s).aon.seqr = s.aon.seqr := by
  unfold noteBootTime
  split <;> exact ⟨rfl, rfl, rfl, rfl⟩

theorem logChatter_keeps : (logChatter s).sched = s.sched ∧ (logChatter s).aon.fatalDue = s.aon.fatalDue ∧
    (logChatter s).aon.st = s.aon.st ∧ (logChatter s).aon.seqr = s.aon.seqr := by
  unfold logChatter
  split <;> exact ⟨rfl, rfl, rfl, rfl⟩

theorem setState_seqr (b : BlkState) : (setState b s).aon.seqr = s.aon.seqr := by
  simpa only [Aon.unstated] using congrArg Aon.seqr (setState_unstated b s)

/-- BOOT ends in EMBER while a quench is latched, else in READY (R23, R310). -/
theorem bootLeft_keeps : (bootLeft s).aon.st = (if s.aon.qState = .latched then .ember else .ready) ∧
    (bootLeft s).aon.fatalDue = s.aon.fatalDue ∧ (bootLeft s).aon.seqr = s.aon.seqr ∧ (bootLeft s).sched = s.sched := by
  obtain ⟨hsched, hfatal, hq, hseq⟩ := noteBootTime_keeps s
  unfold bootLeft
  dsimp only
  obtain ⟨h1, h2, h3, h4⟩ := logChatter_keeps
    (if (noteBootTime s).aon.qState == .latched then enterEmber (noteBootTime s) else setState .ready (noteBootTime s))
  rw [h1, h2, h3, h4, hq]
  by_cases hl : s.aon.qState = .latched
  · obtain ⟨he, ha⟩ := enterEmber_keeps (noteBootTime s)
    simp [hl, he, ha, hsched, hfatal, setState_seqr, hseq]
  · simp [hl, hsched, hfatal, setState_seqr, hseq]

/-- What a successful BOOT leaves (R23, R323, R351). -/
theorem leaveBoot_keeps : (leaveBoot s).aon.st = (if s.aon.qState = .latched then .ember else .ready) ∧
    (leaveBoot s).aon.fatalDue = s.aon.fatalDue ∧ (leaveBoot s).sched = s.sched ∧
    (leaveBoot s).core.run = .running ∧ (leaveBoot s).core.pc = BitVec.ofNat 64 (ImgHdr.resetPc s.aon.seqr.hdr) := by
  obtain ⟨hst, hfatal, hseq, hsched⟩ := bootLeft_keeps s
  obtain ⟨haon, hcore, hsch⟩ := unitsAfterBoot_keep (releaseCore (bootLeft s))
  rw [← leaveBoot_eq] at haon hcore hsch
  have h1 := congrArg Aon.st haon
  have h2 := congrArg Aon.fatalDue haon
  simp only [Aon.ringless, releaseCore, State.onCore_aon] at h1 h2
  simp only [h1, h2, hst, hfatal, hsch, hcore, releaseCore, State.onCore_sched, State.onCore_core, hsched, hseq, and_self]

/-- What a failed BOOT leaves: FAULT, with nothing of the image (R361). -/
theorem bootFault_keeps (hb : s.aon.st = .boot) : (bootFault s).aon.st = .fault ∧
    (bootFault s).aon.fatalDue = s.aon.fatalDue ∧ (bootFault s).core.run = .halted ∧
    (bootFault s).aon.bLoaded = false ∧ (bootFault s).aon.bStep = 6 ∧ (bootFault s).core.tcm = [] := by
  have haon : (undoLoad s).aon = s.aon := rfl
  have hf : (failBoot (undoLoad s)).aon.bLoaded = false ∧ (failBoot (undoLoad s)).aon.bStep = 6 := by
    unfold failBoot
    rw [haon, hb]
    exact ⟨rfl, rfl⟩
  have hu := enterFault_unfaulted (undoLoad s)
  have h1 := congrArg Aon.bLoaded hu
  have h2 := congrArg Aon.bStep hu
  have h3 := congrArg (·.core.tcm) (unsettled_enterFault (undoLoad s))
  simp only [Aon.unfaulted, Aon.unstated, Aon.ringless, hf.1, hf.2] at h1 h2
  simp only [State.unsettled, Core.unsettled, undoLoad] at h3
  unfold bootFault
  exact ⟨enterFault_st _, enterFault_fatalDue _, enterFault_run _, h1, h2, h3⟩

end

section
variable {s : State}

/-- A command that can change a ceiling and ends where no fatal error is due and the core does not wait: the core goes on
as it was, and what settling keeps is kept. -/
theorem settle_noteBinding (hd : s.aon.fatalDue = false) (hr : s.core.run ≠ .wfi) :
    let t := settle (noteBinding s)
    t.core.run = s.core.run ∧ t.core.unsettled = s.core.unsettled ∧
      (s.aon.st ≠ .run → (s.aon.st = .ready → anyPhase s = false) →
        t.aon.st = s.aon.st ∧ t.aon.bLoaded = s.aon.bLoaded ∧ t.aon.bStep = s.aon.bStep) := by
  intro t
  have hb := noteBinding_onlyIn s
  have haon : (noteBinding s).aon = s.aon := noteBinding_aon s
  have hcore : (noteBinding s).core = s.core := hb.2 .core (by simp)
  have ht : takeFatal (noteBinding s) = noteBinding s := takeFatal_quiet (by rw [haon, hd])
  refine ⟨?_, ?_, fun h1 h2 => ?_⟩
  · rw [show t = settle (noteBinding s) from rfl, settle_run _ (by rwa [ht, hcore]), ht, hcore]
  · rw [show t = settle (noteBinding s) from rfl, settle_core_unsettled, hcore]
  · have hfits : StateFits (noteBinding s) := by
      unfold StateFits
      rw [haon, anyPhase_congr (hb.2 .sched (by simp))]
      exact ⟨h2, fun h => absurd h h1⟩
    have hu : t.unlogged = (noteBinding s).unlogged := by
      rw [show t = settle (noteBinding s) from rfl, settle_unlogged, ht, followState_same hfits rfl rfl rfl rfl]
    have h3 := congrArg (·.aon.st) hu
    have h4 := congrArg (·.aon.bLoaded) hu
    have h5 := congrArg (·.aon.bStep) hu
    simp only [State.unlogged, haon] at h3 h4 h5
    exact ⟨h3, h4, h5⟩

/-- BOOT_COMPLETE, once the load and the purge are done. -/
theorem exec_bootComplete (hb : s.aon.st = .boot) (hr : s.aon.rootclk = true) (hp : s.trf.purging = false)
    (hl : s.aon.seqr.loaded = true ∨ s.aon.seqr.failed = true) :
    exec .bootComplete s = .next (settle (noteBinding (if s.aon.seqr.loaded then leaveBoot s else bootFault s))) := by
  show doneGov (onlyIf _ _ s) = _
  rw [onlyIf_pos _ _ (by rcases hl with h | h <;> simp [hb, hr, hp, h])]
  rfl

end

/-- Settles O14: what BOOT's entry and end do, and that settling leaves it. -/
theorem bootBeginsAndEnds : Obligations.BootBeginsAndEnds := by
  refine ⟨fun s hs hd => ⟨fun ha => ?_, fun ha => ?_⟩, fun s hs hb hr hp => ⟨fun hl => ?_, fun hl hf => ?_⟩⟩
  · obtain ⟨h1, h2, h3, h4, h5, h6, h7, h8, hfatal⟩ := enterBoot_aon (bootDue_st hd)
    obtain ⟨hlog, htcm, hpurge, hbclk⟩ := enterBoot_rest s
    have hq : Quiet (enterBoot s) := ⟨hlog ▸ hs.1.1, hfatal.trans hs.1.2⟩
    have he : exec .bootEntry s = .next (settle (enterBoot s)) := by
      show done (onlyIf _ enterBoot s) = _
      rw [onlyIf_pos _ _ (by simp [hd, ha])]
      rfl
    rw [settle_quiet hq (by simp [h1]) (by simp [h1])] at he
    refine ⟨_, he, ?_⟩
    beta_reduce
    rw [wakeCore_aon]
    have hw : (wakeCore (enterBoot s)).core.tcm = [] ∧ (wakeCore (enterBoot s)).trf.purging = true ∧
        (wakeCore (enterBoot s)).time.bclk = 0 := by
      rcases wakeCore_cases (enterBoot s) with h | h <;> rw [h] <;> exact ⟨htcm, hpurge, hbclk⟩
    exact ⟨h1, h2, h3, h4, h5, h6, h7, hw.1, hw.2.1, hw.2.2, h8⟩
  · show done (onlyIf _ enterBoot s) = _
    rw [onlyIf_neg _ _ (by simp [ha])]
    exact congrArg _ (settle_settled hs)
  · obtain ⟨hst, hfatal, hsched, hrun, hpc⟩ := leaveBoot_keeps s
    have hx := exec_bootComplete hb hr hp (.inl hl)
    rw [if_pos hl] at hx
    obtain ⟨k1, k2, k3⟩ := settle_noteBinding (s := leaveBoot s) (hfatal.trans hs.1.2) (by rw [hrun]; exact nofun)
    have k4 := congrArg Core.pc k2
    simp only [Core.unsettled, hpc] at k4
    refine ⟨_, hx, k1.trans hrun, k4, fun h => ?_, fun h ha => ?_⟩
    · rw [if_pos h] at hst
      exact (k3 (by simp [hst]) (by simp [hst])).1.trans hst
    · rw [if_neg h] at hst
      exact (k3 (by simp [hst]) (fun _ => (anyPhase_congr hsched).trans ha)).1.trans hst
  · obtain ⟨hst, hfatal, hrun, hld, hstep, htcm⟩ := bootFault_keeps s hb
    have hx := exec_bootComplete hb hr hp (.inr hf)
    rw [if_neg (by simp [hl])] at hx
    obtain ⟨k1, k2, k3⟩ := settle_noteBinding (s := bootFault s) (hfatal.trans hs.1.2) (by rw [hrun]; exact nofun)
    have k4 := congrArg Core.tcm k2
    simp only [Core.unsettled, htcm] at k4
    obtain ⟨m1, m2, m3⟩ := k3 (by simp [hst]) (by simp [hst])
    exact ⟨_, hx, m1.trans hst, k1.trans hrun, m2.trans hld, m3.trans hstep, k4⟩

end Sys2Proof.Machine
end

section
namespace Sys2Proof.Machine

/-! ### Power, the rails and the outputs (R23, R334, R348, R395, R403) -/

/-- The block without VAON or just given it holds nothing to settle. -/
theorem settled_dark {s : State} (h1 : s.log = {}) (h2 : s.aon.fatalDue = false) (h3 : s.aon.st = .off ∨ s.aon.st = .reset)
    (h4 : s.core = {}) : Settled s := by
  refine ⟨⟨by rw [h1], h2⟩, ⟨fun h => ?_, fun h => ?_⟩, fun h => ?_⟩
  · rcases h3 with h3 | h3 <;> simp [h3] at h
  · rcases h3 with h3 | h3 <;> simp [h3] at h
  · rw [h4] at h
    exact nomatch h

section
variable {s : State}

theorem exec_vaonApplied (hv : s.aon.vaon = false) : exec .vaonApplied s = .next
    { ({} : State) with aon := { ({} : Aon) with clkSe := s.aon.clkSe }
                        time := { ({} : Time) with free := s.time.free }, pending := s.pending } := by
  show done (onlyIf _ _ s) = _
  rw [onlyIf_pos _ _ (by simp [hv])]
  exact congrArg Host.Outcome.next (settle_settled (settled_dark rfl rfl (.inr rfl) rfl))

theorem exec_vaonRemoved (hv : s.aon.vaon = true) : exec .vaonRemoved s = .next (powerOff s) := by
  show done (onlyIf _ _ s) = _
  rw [onlyIf_pos _ _ hv]
  exact congrArg Host.Outcome.next (settle_settled (settled_dark rfl rfl (.inl rfl) rfl))

/-- Without VAON the lines IRQ[3:0] are low, or any level beside a rail still present (R395). -/
theorem irqLines_powerOff (s : State) :
    irqLines (powerOff s) = if railsStay s then Config.pinBits s.time.free 0 .irq 4 else 0 := by
  cases h : railsStay s <;> simp [irqLines, outLevel, powerOff, anyLevel, h]

/-- A rail that falls early frees the outputs and loses what the TRF stores (R348). -/
theorem exec_railFall (hs : Settled s) (hv : s.aon.vaon = true) (hp : s.aon.pwrok = true) :
    exec .railFallBeforePwrok s = .next
      { s with aon := { s.aon with drive := .free s.time.free }, trf := { s.trf with lost := true }
               time := { s.time with free := s.time.free + 1 } } := by
  show done (onlyIf _ _ s) = _
  rw [onlyIf_pos _ _ (by simp [hv, hp])]
  exact congrArg Host.Outcome.next (settle_of_waking hs rfl)

/-- An output that the isolation cells hold is low. -/
theorem outLevel_isolated {w : Nat} (pin : OutPin) (v : BitVec w)
    (h : s.aon.drive = .held ∨ (s.aon.st = .reset ∧ s.aon.drive ≠ .normal)) : outLevel pin s v = 0 := by
  unfold outLevel
  split
  · next hd => simp [hd] at h
  · rfl
  · next k hd =>
    have hst : s.aon.st = .reset := by simpa [hd] using h
    simp [hst]

/-- An output that nothing holds carries what its unit gives. -/
theorem outLevel_normal {w : Nat} (pin : OutPin) (v : BitVec w) (h : s.aon.drive = .normal) : outLevel pin s v = v := by
  unfold outLevel
  rw [h]

theorem engResetPin_iff (h : s.aon.drive = .normal) (e : Fin 16) :
    engResetPin s e = 1 ↔ (portAt s e).st = .training ∨ (portAt s e).st = .agreed := by
  unfold engResetPin
  dsimp only
  rw [outLevel_normal _ _ h]
  cases (portAt s e).st <;> decide

end
end Sys2Proof.Machine
end

section
namespace Sys2Proof.Machine

/-! ### The clocks (R343, R344, R401) -/

section
variable {s : State} {mhz : BitVec 16}

/-- A measurement that does not trip the monitor is published, and counted. -/
theorem measureClock_counts {n : Nat} (hn : (if outOfBand mhz then min 4 (s.aon.badMeas + 1) else 0) = n)
    (ht : n = 4 → s.aon.st = .reset ∧ s.aon.seQuiet = true) :
    measureClock mhz s = s.onAon fun a => { a with roMhz := mhz &&& 0xFFF8, badMeas := n } := by
  have htrip : (n = 4 && !(s.aon.st == .reset && s.aon.seQuiet)) = false := by
    by_cases h : n = 4
    · simp [ht h]
    · simp [h]
  simp only [measureClock, hn, htrip, Bool.false_and, Bool.or_false, Bool.false_eq_true, if_false]

theorem exec_measure_counts (hs : Settled s) (ha : aonOn s = true) {n : Nat}
    (hn : (if outOfBand mhz then min 4 (s.aon.badMeas + 1) else 0) = n)
    (ht : n = 4 → s.aon.st = .reset ∧ s.aon.seQuiet = true) :
    exec (.clockMonitorMeasure mhz) s =
      .next (s.onAon fun a => { a with roMhz := mhz &&& 0xFFF8, badMeas := n }) := by
  show done (onlyIf _ _ s) = _
  rw [onlyIf_pos _ _ ha, measureClock_counts hn ht]
  exact congrArg Host.Outcome.next (settle_of_waking hs rfl)

/-- The fourth measurement in a row outside the band is fatal to a live block (R344). -/
theorem exec_measure_trips (ha : aonOn s = true) (hl : isLive s = true) (ho : outOfBand mhz = true)
    (hb : 3 ≤ s.aon.badMeas) : Completes (.clockMonitorMeasure mhz) s fun t =>
      t.aon.monFault = true ∧ t.aon.st = .fault := by
  have hst := isLive_iff.mp hl
  have hr : s.aon.rootclk = true := by simp_all [aonOn]
  let u : State := fatal { code := 0x98 } (s.onAon fun a =>
    { a with roMhz := mhz &&& 0xFFF8, badMeas := 4, monFault := a.monFault || true })
  have hm : measureClock mhz s = u := by
    have h4 : (if outOfBand mhz then min 4 (s.aon.badMeas + 1) else 0) = 4 := by simp [ho]; omega
    have htrip : (s.aon.st == .reset && s.aon.seQuiet) = false := by rcases hst with h | h | h | h <;> simp [h]
    have hboot : (s.aon.st == .boot) = false := by rcases hst with h | h | h | h <;> simp [h]
    have hon : (s.aon.st != .off && s.aon.st != .reset && s.aon.rootclk) = true := by
      rcases hst with h | h | h | h <;> simp [h, hr]
    simp only [measureClock, h4, htrip, mainOn, State.onAon_aon, hboot, hon, decide_true, Bool.not_false, Bool.and_true,
      Bool.and_false, Bool.false_and, Bool.false_eq_true, if_false, if_true, u]
  refine ⟨settle u, ?_, ?_, (settle_fatal_live (s := u) rfl hl).1⟩
  · show done (onlyIf _ _ s) = _
    rw [onlyIf_pos _ _ ha, hm]
    rfl
  · have h := congrArg Aon.monFault (settle_aon_unsettled u)
    simpa only [Aon.unsettled, u, fatal, report, State.onAon_aon, State.onLog_aon, Bool.or_true] using h

end
end Sys2Proof.Machine
end

section
namespace Sys2Proof.Machine

/-! ### DFT mode (R407) -/

section
variable (s : State)

theorem latchAtReset_keeps : (latchAtReset s).aon.dft = s.aon.dft ∧ (latchAtReset s).trf = s.trf := by
  unfold latchAtReset
  split
  · simp only [setLatch, alertSet, State.onAon_aon, State.onAon_trf, and_self]
  · exact ⟨rfl, rfl⟩

/-- A main reset leaves the block in RESET, its stored beams and DFT mode as they were (R346). -/
theorem toReset_keeps : (toReset s).aon.st = .reset ∧ (toReset s).aon.dft = s.aon.dft ∧
    (toReset s).trf.beams = s.trf.beams ∧ Settled (toReset s) := by
  have hc := closeBypass_ringless (setState .reset (latchAtReset s))
  have k1 := congrArg (·.aon.st) hc
  have k2 := congrArg (·.aon.dft) hc
  have k3 := congrArg (·.trf.beams) hc
  have k4 := congrArg Aon.dft (setState_unstated .reset (latchAtReset s))
  obtain ⟨l1, l2⟩ := latchAtReset_keeps s
  simp only [State.ringless, Aon.ringless, Aon.unstated, setState_st, setState_trf, l1, l2] at k1 k2 k3 k4
  rw [k4] at k2
  unfold toReset
  generalize closeBypass _ = x at k1 k2 k3 ⊢
  exact ⟨k1, k2, k3, settled_dark rfl rfl (.inr k1) rfl⟩

theorem exec_dftModeAssert {s : State} (hv : s.aon.vaon = true) (ha : aonOn s = true) :
    Completes .dftModeAssert s fun t => t.aon.dft = true ∧ t.aon.st = .reset ∧ t.trf.beams = s.trf.beams := by
  obtain ⟨h1, h2, h3, h4⟩ := toReset_keeps (s.onAon fun a => { a with dft := true })
  refine ⟨toReset (s.onAon fun a => { a with dft := true }), ?_, h2, h1, h3⟩
  have hr : dftRise s = toReset (s.onAon fun a => { a with dft := true }) := if_pos ha
  show done (onlyIf _ _ s) = _
  rw [onlyIf_pos _ _ hv, hr]
  exact congrArg Host.Outcome.next (settle_settled h4)

/-- The end of a main reset clears the log, and the quench latch after a long quiet (R310, R369). -/
theorem endReset_keeps {s : State} (hs : Settled s) : (endReset s).waking = s.waking ∧ OnlyIn [.log, .aon] s (endReset s) := by
  have hl : (s.onLog fun _ => {}).waking = s.waking := by simp [State.waking, hs.1.1]
  unfold endReset
  dsimp only
  split
  · exact ⟨hl, ((onLog_onlyIn s _).mono (by simp)).trans ((onAon_onlyIn _ _).mono (by simp))⟩
  · exact ⟨hl, (onLog_onlyIn s _).mono (by simp)⟩

theorem exec_dftModeDeassert {s : State} (hs : Settled s) (hv : s.aon.vaon = true) (hd : s.aon.dft = true) :
    Completes .dftModeDeassert s fun t => t.aon.dft = false ∧ t.aon.st = s.aon.st ∧ OnlyIn [.aon, .log] s t := by
  let e : State := if aonOn s && s.aon.mrstN then endReset s else s
  have he : e.waking = s.waking ∧ OnlyIn [.log, .aon] s e := by
    by_cases h : (aonOn s && s.aon.mrstN) = true
    · rw [show e = endReset s from if_pos h]
      exact endReset_keeps hs
    · rw [show e = s from if_neg h]
      exact ⟨rfl, OnlyIn.refl s⟩
  refine ⟨e.onAon fun a => { a with dft := false }, ?_, rfl, congrArg (·.aon.st) he.1,
    (he.2.mono (by simp)).trans ((onAon_onlyIn _ _).mono (by simp))⟩
  show done (onlyIf _ _ s) = _
  rw [onlyIf_pos _ _ (by simp [hv, hd])]
  exact congrArg Host.Outcome.next (settle_of_waking hs he.1)

end

/-- Settles O12: what each event does, and that the state it leaves has nothing to settle; the monitor's code is fatal. -/
theorem powerAndClockEvents : Obligations.PowerAndClockEvents := by
  refine ⟨fun s => ⟨exec_vaonApplied, fun hv => ?_, fun hv hp hs => ⟨exec_railFall hs hv hp, ?_⟩⟩,
    fun s => ⟨fun h => ?_, fun h => ⟨outLevel_normal _ _ h, engResetPin_iff h⟩⟩,
    fun s hs => ⟨?_, fun hr chatter => ?_, fun hv level => ?_, fun ha mhz => ⟨fun h1 h2 => ?_, fun ho => ⟨fun hb => ?_,
      fun hb => ⟨fun hl => ?_, fun hst hq => ?_⟩⟩⟩⟩,
    fun s hv => ⟨exec_dftModeAssert hv, fun hs => exec_dftModeDeassert hs hv⟩⟩
  · exact ⟨_, exec_vaonRemoved hv, rfl, rfl, rfl, fun hp => by simp [railsStay, hp], irqLines_powerOff s, rfl, rfl, rfl, rfl,
      rfl⟩
  · by_cases h : s.aon.st = .reset <;> simp [irqLines, outLevel, anyLevel, h]
  · exact ⟨outLevel_isolated _ _ h, outLevel_isolated _ _ h, fun port e => ⟨outLevel_isolated _ _ h,
      outLevel_isolated _ _ h, outLevel_isolated _ _ h, outLevel_isolated _ _ h⟩⟩
  · exact congrArg Host.Outcome.next (settle_of_waking hs rfl)
  · have hi : inputsOn s = false := by simp [inputsOn, hr]
    have he (f : State → State) : done (onlyIf (inputsOn s) f s) = .next s := by
      rw [onlyIf_neg _ _ hi]
      exact congrArg _ (settle_settled hs)
    exact ⟨he _, he _, he _⟩
  · show done (onlyIf _ _ s) = _
    rw [onlyIf_pos _ _ hv]
    exact congrArg Host.Outcome.next (settle_of_waking hs rfl)
  · have hi : outOfBand mhz = false := by simp [outOfBand]; omega
    exact exec_measure_counts hs ha (by simp [hi]) (by simp)
  · have hi : outOfBand mhz = true := by simp [outOfBand]; omega
    exact exec_measure_counts hs ha (by simp [hi]; omega) (by omega)
  · exact exec_measure_trips ha hl (by simp [outOfBand]; omega) hb
  · have hi : outOfBand mhz = true := by simp [outOfBand]; omega
    exact exec_measure_counts hs ha (by simp [hi]; omega) fun _ => ⟨hst, hq⟩

end Sys2Proof.Machine
end

section
namespace Sys2Proof.Machine

/-! ### What one BCLK leaves alone (R21, R81)

The part of the state that the rest of a BCLK leaves alone once the clocks have counted and BUSY has cleared: the counts,
the commands' BUSY, the queues and the stored beams. -/

def Sched.slow (c : Sched) : Sched := { ({} : Sched) with queue := c.queue, cmdBusy := c.cmdBusy, pushBusy := c.pushBusy }

def Layout.slow (l : Layout) : Layout := { ({} : Layout) with queue := l.queue, subBusy := l.subBusy, cmdBusy := l.cmdBusy }

def State.slow (s : State) : State :=
  { ({} : State) with
    time := { ({} : Time) with root := s.time.root, bclk := s.time.bclk }
    trf := { ({} : Trf) with beams := s.trf.beams, mbusy := s.trf.mbusy }
    truss := { ({} : Truss) with busy := s.truss.busy }
    ports := { ({} : Ports) with busy := s.ports.busy }
    sched := s.sched.slow
    layout := s.layout.slow
    col := { ({} : Col) with cmdBusy := s.col.cmdBusy }
    core := { ({} : Core) with cmdBusy := s.core.cmdBusy }
    cfg := { ({} : Cfg) with busy := s.cfg.busy }
    pending := s.pending }

section
variable (s : State)

@[simp] theorem slow_onMem (f : Mem → Mem) : (s.onMem f).slow = s.slow := rfl
@[simp] theorem slow_onArb (f : Arb → Arb) : (s.onArb f).slow = s.slow := rfl
@[simp] theorem slow_onBay (b : Fin 32) (f : Bay → Bay) : (s.onBay b f).slow = s.slow := rfl
@[simp] theorem slow_onGov (f : Gov → Gov) : (s.onGov f).slow = s.slow := rfl
@[simp] theorem slow_onAon (f : Aon → Aon) : (s.onAon f).slow = s.slow := rfl
@[simp] theorem slow_onLink (l : Fin 3) (f : LinkSt → LinkSt) : (s.onLink l f).slow = s.slow := rfl
@[simp] theorem slow_onLog (f : Log → Log) : (s.onLog f).slow = s.slow := rfl
@[simp] theorem slow_onSinter (f : Sinter → Sinter) : (s.onSinter f).slow = s.slow := rfl
@[simp] theorem slow_onLSlot (n : Fin 8) (f : LSlot → LSlot) : (s.onLSlot n f).slow = s.slow := rfl

variable {s}

theorem slow_onSched {f : Sched → Sched} (h : (f s.sched).slow = s.sched.slow) : (s.onSched f).slow = s.slow := by
  simp only [State.slow, State.onSched, h]

theorem slow_onLayout {f : Layout → Layout} (h : (f s.layout).slow = s.layout.slow) : (s.onLayout f).slow = s.slow := by
  simp only [State.slow, State.onLayout, h]

theorem slow_onCol {f : Col → Col} (h : (f s.col).cmdBusy = s.col.cmdBusy) : (s.onCol f).slow = s.slow := by
  simp only [State.slow, State.onCol, h]

theorem slow_onCore {f : Core → Core} (h : (f s.core).cmdBusy = s.core.cmdBusy) : (s.onCore f).slow = s.slow := by
  simp only [State.slow, State.onCore, h]

theorem slow_onPorts {f : Ports → Ports} (h : (f s.ports).busy = s.ports.busy) : (s.onPorts f).slow = s.slow := by
  simp only [State.slow, State.onPorts, h]

end

section
variable (s : State)

@[simp] theorem slow_countSch (i n : Nat) : (countSch i n s).slow = s.slow := slow_onSched rfl

@[simp] theorem slow_countCol (i : Nat) : (countCol i s).slow = s.slow := slow_onCol rfl

@[simp] theorem slow_govEvent (e n : Nat) : (govEvent e n s).slow = s.slow := rfl

theorem slow_tickWdog : (tickWdog s).slow = s.slow := by
  have hw (t : State) : (t.onCore fun c => { c with wdog := c.wdog + 1 }).slow = t.slow := slow_onCore rfl
  have hf (t : State) : (wdogFire t).slow = t.slow := by
    unfold wdogFire fatal report
    rw [slow_onAon, slow_onLog, slow_onCore rfl]
  unfold tickWdog
  split
  · rfl
  · dsimp only
    split
    · rw [hf, hw]
    · exact hw s

theorem slow_tickWaits : (tickWaits s).slow = s.slow := by
  unfold tickWaits
  split
  · rfl
  · dsimp only
    split
    · rw [slow_onCol rfl, slow_onLayout rfl, slow_countSch, slow_onSched rfl]
    · rw [slow_onLayout rfl, slow_countSch, slow_onSched rfl]

theorem slow_tickSched : (tickSched s).slow = s.slow := by
  unfold tickSched
  dsimp only
  split
  · rw [slow_countSch, slow_onSched rfl]
  · exact slow_onSched rfl

theorem slow_tickQueues : (tickQueues s).slow = s.slow := by
  unfold tickQueues
  dsimp only
  rw [slow_onPorts rfl, slow_onSinter]

theorem slow_tickEvents : (tickEvents s).slow = s.slow := by
  unfold tickEvents
  dsimp only
  have h : (if bitAt s.time.bclk 0 || s.core.run == .wfi then s else govEvent 13 1 s).slow = s.slow := by
    split
    · rfl
    · exact slow_govEvent s 13 1
  generalize (if bitAt s.time.bclk 0 || s.core.run == .wfi then s else govEvent 13 1 s) = u at h ⊢
  split
  · exact h
  · rw [slow_onSched rfl, slow_onGov, h]

theorem slow_tickGov : (tickGov s).slow = s.slow := by
  unfold tickGov
  dsimp only
  rw [slow_onGov]
  split
  · exact (slow_onGov _ _).trans (slow_onGov _ _)
  · rfl

/-- Sealing a store's granules draws free values alone. -/
theorem slow_sealGrans (l : List (BitVec 1025)) : (sealGrans l s).2.slow = s.slow := by
  induction l generalizing s with
  | nil => rfl
  | cons g gs ih =>
    show (sealGrans gs (sealGran g s).2).2.slow = s.slow
    rw [ih]
    unfold sealGran
    dsimp only
    split <;> rfl

theorem slow_presentNext (tag : State → BitVec 13) (port : Fin 8) : (presentNext tag port s).slow = s.slow := by
  have hg (r : MemReq) : (writeGrans r s).2.slow = s.slow := by
    unfold writeGrans
    split
    · rfl
    · split
      · exact slow_sealGrans s _
      · rfl
  have hn (r : MemReq) (t : State) : (noteRequest r t).slow = t.slow := by
    unfold noteRequest
    split
    · split <;> exact slow_onLSlot _ _ _
    · exact slow_onCore rfl
  unfold presentNext
  split
  · unfold onlyIf
    split
    · unfold presentReq
      dsimp only
      rw [hn, holdReq, slow_onMem, hg]
    · rfl
  · rfl

theorem slow_drive (l : Fin 3) (p : Packet) : (drive l p s).slow = s.slow := by
  unfold drive
  dsimp only
  split
  · simp
  · split <;> simp

theorem slow_drainTx (l : Fin 3) (control : Bool) : (drainTx l control s).slow = s.slow := by
  unfold drainTx
  dsimp only
  split
  · split
    · rw [slow_drive, slow_onLink]
    · rfl
  · rfl

theorem slow_drainLink (l : Fin 3) : (drainLink l s).slow = s.slow := by
  have hc (t : State) : (closeDue l t).slow = t.slow := by
    unfold closeDue
    split
    · rw [slow_onAon, slow_onLink]
    · rfl
  unfold drainLink
  split
  · rw [hc, slow_drainTx, slow_drainTx]
  · rfl

theorem slow_tickPaths : (tickPaths s).slow = s.slow := by
  have hb (b : Fin 32) (t : State) : (presentBeat b t).slow = t.slow := slow_onBay t b _
  have hc (n : Nat) (t : State) : (t.onCol fun c => { c with count := bump c.count 7 n }).slow = t.slow := slow_onCol rfl
  unfold tickPaths
  dsimp only
  rw [foldOver_same State.slow (fun l t => slow_drainLink t l), slow_onAon, hc,
    foldOver_same State.slow hb, slow_onArb,
    foldOver_same State.slow (fun p t => slow_presentNext t lowTag p), countMem, slow_onMem]

/-- After the clocks have counted and BUSY has cleared, a BCLK of the main domain leaves what `slow` keeps. -/
theorem slow_tickMain : (tickMain s).slow = (tickBusy (tickStamp s)).slow := by
  unfold tickMain
  dsimp only
  split
  · rw [slow_tickGov, slow_tickEvents, slow_tickPaths, slow_tickQueues, slow_tickSched, slow_tickWaits, slow_tickWdog]
  · exact slow_tickWdog _

@[simp] theorem slow_noteBinding : (noteBinding s).slow = s.slow := by
  unfold noteBinding
  dsimp only
  split
  · rfl
  · exact slow_onGov s _

@[simp] theorem slow_settle : (settle s).slow = s.slow := by
  have h (t : State) : t.unsettled.slow = t.slow := rfl
  rw [← h (settle s), unsettled_settle, h]

end

/-! ### The tick -/

/-- What every BCLK keeps: the stored beams, the two queues and the commands still waiting. -/
def Keeps (s t : State) : Prop :=
  t.trf.beams = s.trf.beams ∧ t.sched.queue = s.sched.queue ∧ t.layout.queue = s.layout.queue ∧ t.pending = s.pending

/-- No command counts as running: BUSY is clear in every unit (assumption 12). -/
def NoneBusy (t : State) : Prop :=
  t.trf.mbusy = false ∧ t.truss.busy = false ∧ t.ports.busy = false ∧ t.sched.cmdBusy = false ∧
    t.sched.pushBusy = false ∧ t.layout.subBusy = false ∧ t.layout.cmdBusy = false ∧ t.col.cmdBusy = false ∧
    t.core.cmdBusy = false ∧ t.cfg.busy = false

section
variable {s t u : State}

theorem Keeps.trans (h : Keeps s t) (h' : Keeps t u) : Keeps s u := by
  obtain ⟨hb, hq, hl, hp⟩ := h
  obtain ⟨hb', hq', hl', hp'⟩ := h'
  exact ⟨hb'.trans hb, hq'.trans hq, hl'.trans hl, hp'.trans hp⟩

theorem keeps_of_slow (h : t.slow = s.slow) : Keeps s t :=
  ⟨congrArg (·.trf.beams) h, congrArg (·.sched.queue) h, congrArg (·.layout.queue) h, congrArg (·.pending) h⟩

theorem root_of_slow (h : t.slow = s.slow) : t.time.root = s.time.root := congrArg (·.time.root) h

theorem bclk_of_slow (h : t.slow = s.slow) : t.time.bclk = s.time.bclk := congrArg (·.time.bclk) h

theorem noneBusy_of_slow (h : t.slow = s.slow) (hs : NoneBusy s) : NoneBusy t := by
  have hiff (u : State) : NoneBusy u.slow ↔ NoneBusy u := Iff.rfl
  rwa [← hiff, h, hiff]

/-- The end of a CCLK clears BUSY. -/
theorem tickBusy_noneBusy (h : bitAt s.time.bclk 0 = false) : NoneBusy (tickBusy s) := by
  unfold tickBusy
  rw [h]
  exact ⟨rfl, rfl, rfl, rfl, rfl, rfl, rfl, rfl, rfl, rfl⟩

variable (s)

theorem tickBusy_keeps : (tickBusy s).time = s.time ∧ Keeps s (tickBusy s) := by
  unfold tickBusy
  split <;> exact ⟨rfl, rfl, rfl, rfl, rfl⟩

theorem tickStamp_counts : (tickStamp s).time.root = s.time.root ∧ (tickStamp s).time.bclk = s.time.bclk + 1 ∧
    Keeps s (tickStamp s) := by
  unfold tickStamp
  dsimp only
  split <;> exact ⟨rfl, rfl, rfl, rfl, rfl, rfl⟩

theorem tickRoot_counts : (tickRoot s).time.root = s.time.root + 1 ∧ (tickRoot s).time.bclk = s.time.bclk ∧
    mainOn (tickRoot s) = mainOn s ∧ Keeps s (tickRoot s) := by
  unfold tickRoot tickQuiet
  split <;> exact ⟨rfl, rfl, rfl, rfl, rfl, rfl, rfl⟩

/-- A BCLK of the main domain counts the block's clock, and at the end of a CCLK no command runs any more. -/
theorem tickMain_counts : (tickMain s).time.root = s.time.root ∧ (tickMain s).time.bclk = s.time.bclk + 1 ∧
    Keeps s (tickMain s) ∧ (bitAt (s.time.bclk + 1) 0 = false → NoneBusy (tickMain s)) := by
  have hm := slow_tickMain s
  obtain ⟨hroot, hbclk, hk⟩ := tickStamp_counts s
  obtain ⟨htime, hk'⟩ := tickBusy_keeps (tickStamp s)
  refine ⟨?_, ?_, (hk.trans hk').trans (keeps_of_slow hm), fun h => ?_⟩
  · rw [root_of_slow hm, htime, hroot]
  · rw [bclk_of_slow hm, htime, hbclk]
  · exact noneBusy_of_slow hm (tickBusy_noneBusy (by rw [hbclk, h]))

/-- With no command waiting a step is a tick and what settles it, which `slow` does not see. -/
theorem step_of_empty (h : s.pending = []) :
    step s = .next (settle (noteBinding (tick s))) ∧ (settle (noteBinding (tick s))).slow = (tick s).slow := by
  refine ⟨?_, by rw [slow_settle, slow_noteBinding]⟩
  unfold step
  rw [h]
  rfl

theorem noteBinding_time : (noteBinding s).time = s.time := by
  unfold noteBinding
  dsimp only
  split <;> rfl

/-- While the always-on domain runs, a BCLK counts its clock, and the main domain's with it where that runs. -/
theorem tick_counts (h : aonOn s = true) : (tick s).time.root = s.time.root + 1 ∧
    (tick s).time.bclk = (if mainOn s then s.time.bclk + 1 else s.time.bclk) ∧ Keeps s (tick s) ∧
    (mainOn s = true → bitAt (s.time.bclk + 1) 0 = false → NoneBusy (tick s)) := by
  obtain ⟨hroot, hbclk, hmain, hk⟩ := tickRoot_counts s
  cases hm : mainOn s with
  | true =>
    have ht : tick s = tickMain (tickRoot s) := by simp [tick, h, hmain, hm]
    obtain ⟨hroot', hbclk', hk', hb⟩ := tickMain_counts (tickRoot s)
    rw [hbclk] at hbclk' hb
    rw [ht]
    exact ⟨hroot'.trans hroot, hbclk', hk.trans hk', fun _ => hb⟩
  | false =>
    have ht : tick s = tickRoot s := by simp [tick, h, hmain, hm]
    rw [ht]
    exact ⟨hroot, hbclk, hk, nofun⟩

end

/-- Settles O2: on an empty queue a step is a tick and what settles it, and a tick counts the clocks and clears BUSY. -/
theorem emptyQueueTicks : Obligations.EmptyQueueTicks := by
  intro s hs
  obtain ⟨hstep, hslow⟩ := step_of_empty s hs
  refine ⟨fun h => ⟨_, hstep, ?_⟩, fun h => ⟨_, hstep, ?_⟩⟩
  · obtain ⟨hroot, hbclk, hk, hbusy⟩ := tick_counts s h
    obtain ⟨hbeams, hq, hl, hp⟩ := hk.trans (keeps_of_slow hslow)
    exact ⟨hp.trans hs, (root_of_slow hslow).trans hroot, (bclk_of_slow hslow).trans hbclk, hbeams, hq, hl,
      fun hm hb => noneBusy_of_slow hslow (hbusy hm hb)⟩
  · have ht : tick s = s := by simp [tick, h]
    rw [ht] at hslow ⊢
    obtain ⟨-, -, -, hp⟩ := keeps_of_slow hslow
    exact ⟨hp.trans hs, by rw [settle_time, noteBinding_time]⟩

end Sys2Proof.Machine
end

section
namespace Sys2Proof.Machine

/-! ### The map of beams to banks and lines (R64, R65) -/

/-- A beam is its line above its low 9 bits. -/
theorem lineOf_append_low (b : BitVec 20) : lineOf b ++ field b 0 9 = b := by
  refine BitVec.eq_of_getLsbD_eq fun i hi => ?_
  rw [show (lineOf b ++ field b 0 9).getLsbD i = _ from BitVec.getLsbD_append]
  by_cases h : i < 9
  · simp [field, h]
  · have h2 : 9 + (i - 9) = i := by omega
    have h3 : i - 9 < 11 := by omega
    simp [lineOf, field, h, h2, h3]

/-- The bank's hash takes 9 bits of the line: those of the beam itself. -/
theorem field_lineOf (b : BitVec 20) : field (lineOf b) 0 9 = field b 9 9 := by
  refine BitVec.eq_of_getLsbD_eq fun i hi => ?_
  have h : i < 11 := by omega
  simp [lineOf, field, hi, h]

theorem lineOf_beamAt (bank : BitVec 9) (line : BitVec 11) : lineOf (beamAt bank line) = line := by
  unfold lineOf beamAt
  rw [field_append_high _ _ 0 11]
  exact BitVec.extractLsb'_eq_self

theorem low_beamAt (bank : BitVec 9) (line : BitVec 11) :
    field (beamAt bank line) 0 9 = bank ^^^ field line 0 9 := field_append_low ..

theorem bankOf_beamAt (bank : BitVec 9) (line : BitVec 11) : bankOf (beamAt bank line) = bank := by
  rw [bankOf, low_beamAt, ← field_lineOf, lineOf_beamAt, BitVec.xor_assoc, BitVec.xor_self, BitVec.xor_zero]

theorem beamAt_bankOf_lineOf (b : BitVec 20) : beamAt (bankOf b) (lineOf b) = b := by
  rw [beamAt, bankOf, field_lineOf, BitVec.xor_assoc, BitVec.xor_self, BitVec.xor_zero, lineOf_append_low]

/-- Settles O5: what is hashed into the bank number is the line's, so that the same xor takes it out again. -/
theorem theBeamMapIsOneToOne : Obligations.TheBeamMapIsOneToOne := by
  unfold Obligations.TheBeamMapIsOneToOne
  refine ⟨fun bank line => ⟨lineOf_beamAt bank line, low_beamAt bank line, bankOf_beamAt bank line,
    lineOf_beamAt bank line⟩, fun b c => ⟨beamAt_bankOf_lineOf b, fun hb hl => ?_⟩⟩
  rw [← beamAt_bankOf_lineOf b, hb, hl, beamAt_bankOf_lineOf]

end Sys2Proof.Machine
end

section
namespace Sys2Proof.Machine

/-! ### The units outside the tile register file leave it alone

One lemma for each operation, in the order of the model: the tile register file is as it was. -/

section Combinators

@[simp] theorem ite_trf (p : Prop) [Decidable p] (s t : State) :
    (if p then s else t).trf = if p then s.trf else t.trf :=
  apply_ite ..

@[simp] theorem foldOver_trf {α : Type} {f : α → State → State} (h : ∀ a t, (f a t).trf = t.trf) (l : List α)
    (s : State) : (foldOver l f s).trf = s.trf := foldOver_same State.trf h l s

@[simp] theorem foldUpTo_trf {f : Nat → State → State} (h : ∀ a t, (f a t).trf = t.trf) (n : Nat) (s : State) :
    (foldUpTo n f s).trf = s.trf := foldOver_same State.trf h (List.range n) s

@[simp] theorem onlyIf_trf {c : Bool} {f : State → State} (h : ∀ t, (f t).trf = t.trf) (s : State) :
    (onlyIf c f s).trf = s.trf := by
  unfold onlyIf
  split
  · exact h s
  · rfl

end Combinators

section
variable (s : State)

/-! #### The shared operations -/

@[simp] theorem takeFree_trf (w : Nat) : (takeFree w s).2.trf = s.trf := by rfl
@[simp] theorem govEvent_trf (e n : Nat) : (govEvent e n s).trf = s.trf := by rfl
@[simp] theorem alertSet_trf (bits : BitVec 7) : (alertSet bits s).trf = s.trf := by rfl
@[simp] theorem alertSettle_trf : (alertSettle s).trf = s.trf := by rfl
@[simp] theorem report_trf (r : Report) : (report r s).trf = s.trf := by rfl
@[simp] theorem fatal_trf (r : Report) : (fatal r s).trf = s.trf := by rfl
@[simp] theorem signalNew_trf (e : LogEntry) : (signalNew e s).trf = s.trf := by simp [signalNew]

@[simp] theorem noteDrop_trf (r : Report) (seq : BitVec 32) : (noteDrop r seq s).trf = s.trf := by
  unfold noteDrop
  split <;> simp

@[simp] theorem stopUnadmitted_trf : (stopUnadmitted s).trf = s.trf := by rfl
@[simp] theorem enterEmber_trf : (enterEmber s).trf = s.trf := by simp [enterEmber]
@[simp] theorem cutOutputs_trf : (cutOutputs s).trf = s.trf := by rfl
@[simp] theorem tellLost_trf (p : Hdr × Payload) : (tellLost p s).trf = s.trf := by simp [tellLost]
@[simp] theorem closeBypass_trf : (closeBypass s).trf = s.trf := by simp [closeBypass]
@[simp] theorem discardRaise_trf : (discardRaise s).trf = s.trf := by simp [discardRaise]
@[simp] theorem noteBootTime_trf : (noteBootTime s).trf = s.trf := by simp [noteBootTime]
@[simp] theorem logChatter_trf : (logChatter s).trf = s.trf := by simp [logChatter]
@[simp] theorem portsReset_trf : (portsReset s).trf = s.trf := by rfl
@[simp] theorem failBoot_trf : (failBoot s).trf = s.trf := by simp [failBoot]
@[simp] theorem enterFault_trf : (enterFault s).trf = s.trf := by simp [enterFault]

@[simp] theorem takeFatal_trf : (takeFatal s).trf = s.trf := by
  unfold takeFatal
  dsimp only
  repeat' split
  all_goals simp

@[simp] theorem followState_trf : (followState s).trf = s.trf := by
  unfold followState
  split <;> simp

@[simp] theorem wakeCore_trf : (wakeCore s).trf = s.trf := by simp [wakeCore]

/-! #### The tile register file -/

@[simp] theorem cancelScrub_trf (b : BitVec 20) : (cancelScrub b s).trf = s.trf := by rfl

/-! #### Side-port transfers -/

@[simp] theorem transferDone_trf (b : Fin 32) (r : Fin 8) : (transferDone b r s).trf = s.trf := by rfl
@[simp] theorem countBeats_trf (n : Nat) : (countBeats n s).trf = s.trf := by rfl
@[simp] theorem loseReq_trf (b : Fin 32) (r : Fin 8) : (loseReq b r s).trf = s.trf := by simp [loseReq]

/-! #### The geometry of a collective -/

@[simp] theorem ownRead_trf (v : Nat) (b : MarkedBeam) : (ownRead v b s).trf = s.trf := by rfl

/-! #### The core -/

@[simp] theorem setX_trf (r : BitVec 5) (v : W64) : (setX r v s).trf = s.trf := by simp [setX]
@[simp] theorem tcmWrite_trf (a n v : Nat) : (tcmWrite a n v s).trf = s.trf := by rfl
@[simp] theorem breakResv_trf (a n : Nat) : (breakResv a n s).trf = s.trf := by rfl
@[simp] theorem retire_trf (len : Nat) : (retire len s).trf = s.trf := by rfl
@[simp] theorem enterTrap_trf (cause tval : W64) : (enterTrap cause tval s).trf = s.trf := by rfl

@[simp] theorem takeException_trf (cause : Nat) (tval : W64) :
    (takeException cause tval s).trf = s.trf := by simp [takeException]

@[simp] theorem leaveTrap_trf : (leaveTrap s).trf = s.trf := by rfl
@[simp] theorem countTcmCe_trf : (countTcmCe s).trf = s.trf := by rfl
@[simp] theorem tcmFatal_trf : (tcmFatal s).trf = s.trf := by rfl
@[simp] theorem tcmUpset_trf (u : BitVec 2) : (tcmUpset u s).trf = s.trf := by simp [tcmUpset]
@[simp] theorem logAperture_trf : (logAperture s).trf = s.trf := by rfl

@[simp] theorem finishLoad_trf (g : BitVec 513) : (finishLoad g s).trf = s.trf := by
  unfold finishLoad
  split <;> simp

@[simp] theorem finishStore_trf (tag : BitVec 13) (bad : Bool) :
    (finishStore tag bad s).trf = s.trf := by simp [finishStore]

@[simp] theorem takePostFault_trf : (takePostFault s).trf = s.trf := by simp [takePostFault]
@[simp] theorem onMove_trf (f : MoveJob → MoveJob) : (onMove f s).trf = s.trf := by rfl

@[simp] theorem moveGranule_trf (i : Nat) (g : BitVec 513) : (moveGranule i g s).trf = s.trf := by
  unfold moveGranule
  split <;> simp

@[simp] theorem moveBeamIn_trf (i : Nat) (b : MarkedBeam) : (moveBeamIn i b s).trf = s.trf := by
  unfold moveBeamIn
  split <;> simp

/-! #### Register accesses -/

@[simp] theorem logDrop_trf (src : Src) : (logDrop src s).trf = s.trf := by simp [logDrop]
@[simp] theorem endDrops_trf (src : Src) : (endDrops src s).trf = s.trf := by rfl

@[simp] theorem writeReg_trf {act : State → State} (h : ∀ t, (act t).trf = t.trf) (src : Src) (off : Nat) (o : Owner)
    (s : State) : (writeReg src off o act s).trf = s.trf := by
  unfold writeReg
  split <;> simp [h]

@[simp] theorem writeUnless_trf {turn act : State → State} (ht : ∀ t, (turn t).trf = t.trf) (h : ∀ t, (act t).trf = t.trf)
    (src : Src) (off : Nat) (o : Owner) (late : Bool) (s : State) : (writeUnless src off o late turn act s).trf = s.trf := by
  simp [writeUnless, h, ht]

@[simp] theorem writeDropping_trf {act : State → State} (h : ∀ t, (act t).trf = t.trf) (src : Src) (off : Nat) (o : Owner)
    (drops : Bool) (s : State) : (writeDropping src off o drops act s).trf = s.trf := by
  simp [writeDropping, h]

@[simp] theorem readReg_trf (src : Src) (off : Nat) (value : State → W64) :
    (readReg src off value s).trf = s.trf := by
  unfold readReg
  split <;> simp

@[simp] theorem unlessBusy_trf {lost mark act : State → State} (hl : ∀ t, (lost t).trf = t.trf)
    (hm : ∀ t, (mark t).trf = t.trf) (h : ∀ t, (act t).trf = t.trf) (busy : Bool) (s : State) :
    (unlessBusy busy lost mark act s).trf = s.trf := by
  simp [unlessBusy, hl, hm, h]

/-! #### Tallies -/

@[simp] theorem tallyCode_trf (c : BitVec 8) : (tallyCode c s).trf = s.trf := by rfl
@[simp] theorem tallyRefuse_trf (i : Nat) : (tallyRefuse i s).trf = s.trf := by rfl
@[simp] theorem clearTally_trf (i : Fin 4) : (clearTally i s).trf = s.trf := by simp [clearTally]
@[simp] theorem startFold_trf (i : Fin 4) : (startFold i s).trf = s.trf := by rfl
@[simp] theorem tallyCmd_trf (fold : Bool) (i : Fin 4) : (tallyCmd fold i s).trf = s.trf := by simp [tallyCmd]
@[simp] theorem runTallyQ_trf (i : Fin 4) : (runTallyQ i s).trf = s.trf := by simp [runTallyQ]
@[simp] theorem endFold_trf (i : Fin 4) : (endFold i s).trf = s.trf := by simp [endFold]

/-! #### Phases -/

@[simp] theorem dropRoutes_trf (n : Fin 4) : (dropRoutes n s).trf = s.trf := by rfl
@[simp] theorem leaveSlot_trf (n : Fin 4) (code : BitVec 8) : (leaveSlot n code s).trf = s.trf := by
  simp [leaveSlot]
@[simp] theorem noteRefusal_trf (code : BitVec 8) : (noteRefusal code s).trf = s.trf := by rfl

@[simp] theorem refusePhase_trf (n : Fin 4) (code : BitVec 8) (port : Nat) :
    (refusePhase n code port s).trf = s.trf := by simp [refusePhase]

@[simp] theorem dropOrphans_trf : (dropOrphans s).trf = s.trf := by rfl

@[simp] theorem abortPhase_trf (n : Fin 4) (code : BitVec 8) (cause : AbortCause) :
    (abortPhase n code cause s).trf = s.trf := by
  unfold abortPhase
  dsimp only
  split
  · rfl
  · rw [ite_trf, endFold_trf, ite_self, dropOrphans_trf, State.onSched_trf, foldOver_trf fun _ _ => State.onPort_trf ..,
      State.onSlot_trf, ite_trf, State.onSinter_trf, ite_self]

@[simp] theorem portDown_trf (e : Fin 16) (st : PortState) : (portDown e st s).trf = s.trf := by rfl

@[simp] theorem portFail_trf (e : Fin 16) (code : BitVec 8) (st : PortState) (loc : BitVec 64) :
    (portFail e code st loc s).trf = s.trf := by simp [portFail]

@[simp] theorem advanceSlot_trf (n : Fin 4) : (advanceSlot n s).trf = s.trf := by simp [advanceSlot]
@[simp] theorem advanceSlots_trf : (advanceSlots s).trf = s.trf := by simp [advanceSlots]

/-! #### The drain and the loop-back path -/

@[simp] theorem askDidx_trf (old s : State) : (askDidx old s).trf = s.trf := by
  simp [askDidx]

@[simp] theorem countDropped_trf (us : List (Option Update)) : (countDropped us s).trf = s.trf := by rfl
@[simp] theorem toNet_trf (source : Nat) (us : List Update) : (toNet source us s).trf = s.trf := by rfl

@[simp] theorem toSequencer_trf (ticket : BitVec 32) (num : Nat) (us : List Update) :
    (toSequencer ticket num us s).trf = s.trf := by rfl

@[simp] theorem beginDelivery_trf (b : SBeam) : (beginDelivery b s).trf = s.trf := by
  unfold beginDelivery
  split <;> simp

@[simp] theorem loopFlush_trf (n : Fin 4) (k : Nat) (s : State) : (loopFlush n k s).trf = s.trf := by
  induction k generalizing s with
  | zero => rfl
  | succ k ih =>
    unfold loopFlush
    dsimp only
    repeat' split
    all_goals simp [ih]

@[simp] theorem flushLoops_trf (s : State) : (flushLoops s).trf = s.trf := by simp [flushLoops]

/-! #### The sinter units -/

@[simp] theorem setQueue_trf (k : Nat) (q : List Update) : (setQueue k q s).trf = s.trf := by rfl
@[simp] theorem countSnt_trf (i n : Nat) : (countSnt i n s).trf = s.trf := by rfl

@[simp] theorem enqueueHead_trf (source : Nat) : (enqueueHead source s).trf = s.trf := by
  unfold enqueueHead
  split <;> simp

@[simp] theorem dropHead_trf (k : Nat) (u : Update) (rest : List Update) :
    (dropHead k u rest s).trf = s.trf := by
  rfl

@[simp] theorem sntReport_trf (code : BitVec 8) (unit : Nat) (u : Update) :
    (sntReport code unit u s).trf = s.trf := by rfl

@[simp] theorem noteSats_trf (n : Nat) (u : Update) : (noteSats n u s).trf = s.trf := by simp [noteSats]

@[simp] theorem addTally_trf (k : Nat) (u : Update) (sq : W64) : (addTally k u sq s).trf = s.trf := by
  unfold addTally
  split <;> simp

@[simp] theorem withParity_trf (parity : Bool) (k : Nat) (u : Update) :
    (withParity parity k u s).2.trf = s.trf :=
  by
  unfold withParity
  split <;> simp

@[simp] theorem seqRelease_trf (n : Fin 4) : (seqRelease n s).trf = s.trf := by
  unfold seqRelease
  split <;> simp

@[simp] theorem hotQueue_trf (k : Nat) (run : BitVec 32) : (hotQueue k run s).trf = s.trf := by
  unfold hotQueue
  dsimp only
  split <;> simp

@[simp] theorem setHot_trf (v : W64) : (setHot v s).trf = s.trf := by rfl

@[simp] theorem tallyWord_trf (v : W64) : (tallyWord v s).trf = s.trf := by
  unfold tallyWord
  repeat' split
  all_goals simp

@[simp] theorem foldEnd_trf (i : Fin 4) : (foldEnd i s).trf = s.trf := by simp [foldEnd]

@[simp] theorem sntWrite_trf (off : Nat) (v : W64) : (sntWrite off v s).trf = s.trf := by
  unfold sntWrite
  split <;> simp

/-! #### A transfer's progress -/

@[simp] theorem countLay_trf (i n : Nat) : (countLay i n s).trf = s.trf := by rfl
@[simp] theorem noteOob_trf (n : Fin 8) (i oob : Nat) : (noteOob n i oob s).trf = s.trf := by rfl
@[simp] theorem buildFill_trf (n : Fin 8) : (buildFill n s).trf = s.trf := by rfl

@[simp] theorem sealGran_trf (g : BitVec 1025) : (sealGran g s).2.trf = s.trf := by
  unfold sealGran
  dsimp only
  split <;> simp

@[simp] theorem noteDropped_trf (n : Fin 8) (k : Nat) : (noteDropped n k s).trf = s.trf := by
  simp [noteDropped]
@[simp] theorem buildStore_trf (n : Fin 8) : (buildStore n s).trf = s.trf := by simp [buildStore]
@[simp] theorem buildCopy_trf (n : Fin 8) : (buildCopy n s).trf = s.trf := by rfl
@[simp] theorem buildGroup_trf (n : Fin 8) : (buildGroup n s).trf = s.trf := by simp [buildGroup]
@[simp] theorem nextGroup_trf (n : Fin 8) : (nextGroup n s).trf = s.trf := by simp [nextGroup]
@[simp] theorem advanceTransfer_trf (n : Fin 8) : (advanceTransfer n s).trf = s.trf := by
  simp [advanceTransfer]
@[simp] theorem advanceTransfers_trf : (advanceTransfers s).trf = s.trf := by simp [advanceTransfers]
@[simp] theorem dropOwner_trf (c : Client) : (dropOwner c s).trf = s.trf := by rfl

@[simp] theorem deliverBeam_trf (n : Fin 8) (key : Nat) (v : MarkedBeam) :
    (deliverBeam n key v s).trf = s.trf := by simp [deliverBeam]

@[simp] theorem commitBeam_trf (n : Fin 8) (key : Nat) : (commitBeam n key s).trf = s.trf := by rfl

/-! #### The layout unit -/

@[simp] theorem layRefuse_trf (r : Report) : (layRefuse r s).trf = s.trf := by rfl
@[simp] theorem descAccept_trf (d : Desc) : (descAccept d s).trf = s.trf := by rfl
@[simp] theorem submitDesc_trf (d : Desc) : (submitDesc d s).2.trf = s.trf := by simp [submitDesc]
@[simp] theorem hostSubmit_trf : (hostSubmit s).trf = s.trf := by simp [hostSubmit]
@[simp] theorem submitWord_trf (v : W64) : (submitWord v s).trf = s.trf := by simp [submitWord]

@[simp] theorem subGate_trf {act : State → State} (h : ∀ t, (act t).trf = t.trf) :
    (subGate  act s).trf = s.trf := by simp [subGate, unlessBusy, h]

@[simp] theorem submitWrite_trf (v : W64) : (submitWrite v s).trf = s.trf := by simp [submitWrite]
@[simp] theorem enterLSlot_trf (n : Fin 8) (q : LRec) : (enterLSlot n q s).trf = s.trf := by rfl
@[simp] theorem leaveLSlot_trf (n : Fin 8) (code : BitVec 8) : (leaveLSlot n code s).trf = s.trf := by rfl
@[simp] theorem refuseLatch_trf (n : Fin 8) : (refuseLatch n s).trf = s.trf := by rfl
@[simp] theorem acceptTransfer_trf (n : Fin 8) : (acceptTransfer n s).trf = s.trf := by simp [acceptTransfer]
@[simp] theorem noteLayAbort_trf (code : BitVec 8) : (noteLayAbort code s).trf = s.trf := by rfl

@[simp] theorem abortTransfer_trf (n : Fin 8) (code : BitVec 8) :
    (abortTransfer n code s).trf = s.trf := by simp [abortTransfer]

@[simp] theorem layCode_trf (c : BitVec 8) : (layCode c s).trf = s.trf := by rfl
@[simp] theorem layCmdRefuse_trf (t : BitVec 32) : (layCmdRefuse t s).trf = s.trf := by rfl
@[simp] theorem unqueueDesc_trf (q : LRec) : (unqueueDesc q s).trf = s.trf := by rfl
@[simp] theorem abortLSlot_trf (n : Fin 8) : (abortLSlot n s).trf = s.trf := by simp [abortLSlot]

@[simp] theorem layAbortOp_trf (t : BitVec 32) : (layAbortOp t s).trf = s.trf := by
  unfold layAbortOp
  repeat' split
  all_goals simp

@[simp] theorem layFlushOp_trf : (layFlushOp s).trf = s.trf := by simp [layFlushOp]

@[simp] theorem layWord_trf (v : W64) : (layWord v s).trf = s.trf := by
  unfold layWord
  repeat' split
  all_goals simp

@[simp] theorem layGate_trf {act : State → State} (h : ∀ t, (act t).trf = t.trf) :
    (layGate  act s).trf = s.trf := by simp [layGate, unlessBusy, h]

@[simp] theorem layCmd_trf {act : State → State} (h : ∀ t, (act t).trf = t.trf) (src : Src) :
    (layCmd src act s).trf = s.trf := by simp [layCmd, onlyIf_trf h]

@[simp] theorem layWrite_trf (off : Nat) (v : W64) : (layWrite off v s).trf = s.trf := by
  unfold layWrite
  repeat' split
  all_goals simp

/-! #### The memory ports -/

@[simp] theorem countMem_trf (i n : Nat) : (countMem i n s).trf = s.trf := by rfl

@[simp] theorem sealGrans_trf (l : List (BitVec 1025)) (s : State) : (sealGrans l s).2.trf = s.trf := by
  induction l generalizing s with
  | nil => rfl
  | cons g gs ih => exact (ih _).trans (sealGran_trf s g)

@[simp] theorem writeGrans_trf (r : MemReq) : (writeGrans r s).2.trf = s.trf := by
  unfold writeGrans
  repeat' split
  all_goals simp

@[simp] theorem noteRequest_trf (r : MemReq) : (noteRequest r s).trf = s.trf := by
  unfold noteRequest
  split <;> simp

@[simp] theorem holdReq_trf (port : Fin 8) (r : MemReq) : (holdReq port r s).trf = s.trf := by rfl

@[simp] theorem presentReq_trf (port : Fin 8) (tag : BitVec 13) (r : MemReq) :
    (presentReq port tag r s).trf = s.trf := by simp [presentReq]

@[simp] theorem presentNext_trf (tag : State → BitVec 13) (port : Fin 8) :
    (presentNext tag port s).trf = s.trf :=
  by
  unfold presentNext
  split <;> simp

@[simp] theorem openTxn_trf (port : Fin 8) (r : MemReq) : (openTxn port r s).trf = s.trf := by rfl
@[simp] theorem openAtOnce_trf (port : Fin 8) (r : MemReq) : (openAtOnce port r s).trf = s.trf := by rfl

@[simp] theorem acceptReq_trf (port : Fin 8) (tag : BitVec 13) : (acceptReq port tag s).trf = s.trf := by
  unfold acceptReq
  split <;> simp

@[simp] theorem onTxn_trf (tag : BitVec 13) (f : Txn → Txn) : (onTxn tag f s).trf = s.trf := by rfl
@[simp] theorem sendBeat_trf (t : WriteData) : (sendBeat t s).trf = s.trf := by simp [sendBeat]

@[simp] theorem deliverGran_trf (t : Txn) (i : Nat) (g : BitVec 513) : (deliverGran t i g s).trf = s.trf := by
  unfold deliverGran
  split <;> simp

@[simp] theorem answerWrite_trf (t : Txn) (bad : Bool) : (answerWrite t bad s).trf = s.trf := by
  unfold answerWrite
  split <;> simp

@[simp] theorem closeTxn_trf (tag : BitVec 13) : (closeTxn tag s).trf = s.trf := by rfl
@[simp] theorem failGrans_trf (t : Txn) (k : Nat) : (failGrans t k s).trf = s.trf := by simp [failGrans]

@[simp] theorem poisonGiven_trf (t : Txn) (k : Nat) : (poisonGiven t k s).trf = s.trf := by
  unfold poisonGiven
  split <;> simp

@[simp] theorem failTxn_trf (t : Txn) : (failTxn t s).trf = s.trf := by simp [failTxn]

@[simp] theorem dropResponse_trf (code : BitVec 8) (port : Fin 8) (tag : BitVec 13) :
    (dropResponse code port tag s).trf = s.trf := by rfl

@[simp] theorem malformed_trf (port : Fin 8) (t : Txn) : (malformed port t s).trf = s.trf := by
  simp [malformed]

@[simp] theorem respond_trf {act : Txn → State → State} (h : ∀ x t, (act x t).trf = t.trf) (port : Fin 8) (tag : BitVec 13)
    (s : State) : (respond port tag act s).trf = s.trf := by
  unfold respond
  split <;> simp [h]

@[simp] theorem noteStatus_trf (port : Fin 8) (tag : BitVec 13) (status : BitVec 2) :
    (noteStatus port tag status s).trf = s.trf := by
  unfold noteStatus
  split <;> simp

@[simp] theorem takeBeat_trf (port : Fin 8) (data : BitVec 2048) (status : BitVec 2) (x : Txn) (s : State) :
    (takeBeat port data status x s).trf = s.trf := by simp [takeBeat]

@[simp] theorem readBeat_trf (port : Fin 8) (data : BitVec 2048) (status : BitVec 2) (last : Bool) (t : Txn) :
    (readBeat port data status last t s).trf = s.trf := by simp [readBeat]

@[simp] theorem writeAnswer_trf (port : Fin 8) (status : BitVec 2) (t : Txn) :
    (writeAnswer port status t s).trf = s.trf := by simp [writeAnswer]

@[simp] theorem timeoutTxn_trf (t : Txn) : (timeoutTxn t s).trf = s.trf := by simp [timeoutTxn]

/-! #### The side-port arbiters -/

@[simp] theorem grantPath_trf (b : Fin 32) (r : Fin 8) (pick : Nat) : (grantPath b r pick s).trf = s.trf := by
  unfold grantPath
  dsimp only
  split <;> simp

@[simp] theorem decidePath_trf (b : Fin 32) (pick : Nat) : (decidePath b pick s).trf = s.trf := by
  unfold decidePath
  dsimp only
  split <;> simp

@[simp] theorem deliverRead_trf (t : Staged) : (deliverRead t s).trf = s.trf := by
  unfold deliverRead
  split <;> simp

@[simp] theorem endGrant_trf (b : Fin 32) (g : Grant) (all : List Staged) :
    (endGrant b g all s).trf = s.trf := by simp [endGrant]

@[simp] theorem singleBeat_trf (b : Fin 32) (g : Grant) : (singleBeat b g s).trf = s.trf := by rfl
@[simp] theorem presentBeat_trf (b : Fin 32) : (presentBeat b s).trf = s.trf := by rfl

@[simp] theorem preempt_trf (b : Fin 32) (g : Grant) (r : Fin 8) : (preempt b g r s).trf = s.trf := by
  unfold preempt
  split <;> simp

@[simp] theorem writeArbCfg_trf (b : Nat) (v : W64) : (writeArbCfg b v s).trf = s.trf := by simp [writeArbCfg]
@[simp] theorem memWrite_trf (off : Nat) (v : W64) : (memWrite off v s).trf = s.trf := by simp [memWrite]

/-! #### The governor's operations -/

@[simp] theorem holdGov_trf (old : CfgSet) : (holdGov old s).trf = s.trf := by rfl
@[simp] theorem latchOpc_trf (n : Fin 4) : (latchOpc n s).trf = s.trf := by rfl
@[simp] theorem lowerCeilings_trf : (lowerCeilings s).trf = s.trf := by rfl
@[simp] theorem slewCeilings_trf : (slewCeilings s).trf = s.trf := by rfl
@[simp] theorem clearAccs_trf : (clearAccs s).trf = s.trf := by rfl
@[simp] theorem noteBinding_trf : (noteBinding s).trf = s.trf := by simp [noteBinding]

/-! #### The operand truss -/

@[simp] theorem countTruss_trf (i n : Nat) : (countTruss i n s).trf = s.trf := by rfl
@[simp] theorem bsEnd_trf (c : BitVec 8) (n : BitVec 6) : (bsEnd c n s).trf = s.trf := by rfl
@[simp] theorem bsRefuse_trf (c : BitVec 8) (n : BitVec 6) : (bsRefuse c n s).trf = s.trf := by rfl
@[simp] theorem bsValidate_trf (n : BitVec 6) : (bsValidate n s).trf = s.trf := by simp [bsValidate]
@[simp] theorem bsInvalidate_trf (n : BitVec 6) : (bsInvalidate n s).trf = s.trf := by simp [bsInvalidate]

@[simp] theorem bsWord_trf (v : W64) : (bsWord v s).trf = s.trf := by
  unfold bsWord
  repeat' split
  all_goals simp

@[simp] theorem bsGate_trf {act : State → State} (h : ∀ t, (act t).trf = t.trf) :
    (bsGate  act s).trf = s.trf := by simp [bsGate, unlessBusy, h]

@[simp] theorem bsCmd_trf {act : State → State} (h : ∀ t, (act t).trf = t.trf) (src : Src) :
    (bsCmd src act s).trf = s.trf := by simp [bsCmd, h]

@[simp] theorem setBraceWord_trf (n w : Nat) (v : W64) : (setBraceWord n w v s).trf = s.trf := by
  simp [setBraceWord]
@[simp] theorem onStream_trf (n : Fin 4) (k : Nat) (f : Stream → Stream) :
    (onStream n k f s).trf = s.trf := by
  rfl

@[simp] theorem noteParity_trf (parity : Bool) (p : PSlot) :
    (noteParity parity p s).trf = s.trf := by simp [noteParity]

@[simp] theorem countScaled_trf (p : PSlot) (st : Stream) : (countScaled p st s).trf = s.trf := by
  simp [countScaled]

@[simp] theorem entryBeam_trf (p : PSlot) (st : Stream) (x : IdxBeam) : (entryBeam p st x s).2.trf = s.trf :=
  by
  unfold entryBeam
  repeat' split
  all_goals simp

@[simp] theorem takeEntry_trf (n : Fin 4) (k : Nat) (x : IdxBeam) (st : Stream) (parity : Bool) :
    (takeEntry n k x st parity s).trf = s.trf := by simp [takeEntry]

@[simp] theorem fillWaiting_trf (id : Nat) (beam : Beam) (poison : Bool) (n : Fin 4) :
    (fillWaiting id beam poison n s).trf = s.trf := by rfl

@[simp] theorem loadRoutes_trf (n : Fin 4) : (loadRoutes n s).trf = s.trf := by rfl
@[simp] theorem vengEvent_trf (n : Fin 4) (e c : Nat) : (vengEvent n e c s).trf = s.trf := by rfl

@[simp] theorem issueToPort_trf (n : Fin 4) (b : Bent) (e : Fin 16) :
    (issueToPort n b e s).trf = s.trf := by simp [issueToPort]

@[simp] theorem deliverIssue_trf (n : Fin 4) (k : Nat) (b : Bent) (s : State) :
    (deliverIssue n k b s).trf = s.trf := by
  simp [deliverIssue]

@[simp] theorem leaveCold_trf : (leaveCold s).trf = s.trf := by rfl
@[simp] theorem warmUp_trf (ready : Bool) : (warmUp ready s).trf = s.trf := by simp [warmUp]
@[simp] theorem setAcc_trf (id v : Nat) : (setAcc id v s).trf = s.trf := by rfl
@[simp] theorem countHolds_trf (p : PSlot) (b : Bent) : (countHolds p b s).trf = s.trf := by simp [countHolds]

@[simp] theorem bentCycle_trf (n : Fin 4) (k : Nat) (b : Bent) :
    (bentCycle n k b s).trf = s.trf := by simp [bentCycle]

@[simp] theorem loopCycle_trf (n : Fin 4) : (loopCycle n s).trf = s.trf := by simp [loopCycle]

@[simp] theorem trussWrite_trf (off : Nat) (v : W64) : (trussWrite off v s).trf = s.trf := by
  unfold trussWrite
  repeat' split
  all_goals simp

/-! #### The engine ports -/

@[simp] theorem portViolation_trf (e : Fin 16) (code : BitVec 8) (tag : BitVec 24) :
    (portViolation e code tag s).trf = s.trf := by simp [portViolation]

@[simp] theorem portTrain_trf (e : Fin 16) : (portTrain e s).trf = s.trf := by rfl
@[simp] theorem portRelease_trf (e : Fin 16) : (portRelease e s).trf = s.trf := by simp [portRelease]
@[simp] theorem portsAfterBoot_trf : (portsAfterBoot s).trf = s.trf := by simp [portsAfterBoot]
@[simp] theorem gainCredit_trf (e : Fin 16) : (gainCredit e s).trf = s.trf := by simp [gainCredit]
@[simp] theorem tileTakes_trf (e : Fin 16) (t : Tile) (tag : BitVec 24) :
    (tileTakes e t tag s).trf = s.trf := by
  rfl

@[simp] theorem acceptDrain_trf (e : Fin 16) (t : Tile) (tag : BitVec 24) (data : Beam) (poison parity : Bool) :
    (acceptDrain e t tag data poison parity s).trf = s.trf := by simp [acceptDrain]

@[simp] theorem drainBeam_trf (e : Fin 16) (tag : BitVec 24) (data : Beam) (poison parity framing : Bool) :
    (drainBeam e tag data poison parity framing s).trf = s.trf := by
  unfold drainBeam
  dsimp only
  repeat' split
  all_goals simp

@[simp] theorem dropDidx_trf (e : Fin 16) (b : DrainBeam) : (dropDidx e b s).trf = s.trf := by simp [dropDidx]

@[simp] theorem popDrain_trf (e : Fin 16) (b : DrainBeam) (us : List (Option Update)) :
    (popDrain e b us s).trf = s.trf := by simp [popDrain]

@[simp] theorem enterNetwork_trf (e : Fin 16) : (enterNetwork e s).trf = s.trf := by
  unfold enterNetwork
  repeat' split
  all_goals simp

@[simp] theorem takeCap_trf (e : Fin 16) (r : BitVec 512) : (takeCap e r s).trf = s.trf := by simp [takeCap]
@[simp] theorem agreeState_trf (e : Fin 16) : (agreeState e s).trf = s.trf := by rfl
@[simp] theorem agreePort_trf (e : Fin 16) : (agreePort e s).trf = s.trf := by simp [agreePort]
@[simp] theorem abortAcked_trf (e : Fin 16) : (abortAcked e s).trf = s.trf := by rfl
@[simp] theorem sendAbort_trf (e : Fin 16) : (sendAbort e s).trf = s.trf := by rfl

@[simp] theorem portChatter_trf (e : Fin 16) (i : PortInput) (chatter : Bool) :
    (portChatter e i chatter s).trf = s.trf := by simp [portChatter]

@[simp] theorem presentRise_trf (e : Fin 16) : (presentRise e s).trf = s.trf := by simp [presentRise]
@[simp] theorem trainingLost_trf (e : Fin 16) : (trainingLost e s).trf = s.trf := by simp [trainingLost]

@[simp] theorem presentFall_trf (e : Fin 16) : (presentFall e s).trf = s.trf := by
  unfold presentFall
  dsimp only
  repeat' split
  all_goals simp

@[simp] theorem setFaultN_trf (e : Fin 16) (high : Bool) : (setFaultN e high s).trf = s.trf := by
  simp [setFaultN]
@[simp] theorem portCode_trf (c : BitVec 8) : (portCode c s).trf = s.trf := by rfl
@[simp] theorem portRefuse_trf (e : Fin 16) : (portRefuse e s).trf = s.trf := by rfl
@[simp] theorem startHold_trf (e : Fin 16) : (startHold e s).trf = s.trf := by rfl

@[simp] theorem portRetrainOp_trf (e : Fin 16) : (portRetrainOp e s).trf = s.trf := by
  unfold portRetrainOp
  dsimp only
  repeat' split
  all_goals simp

@[simp] theorem portOnlineOp_trf (e : Fin 16) : (portOnlineOp e s).trf = s.trf := by simp [portOnlineOp]
@[simp] theorem offlinePhase_trf (n : Fin 4) : (offlinePhase n s).trf = s.trf := by simp [offlinePhase]
@[simp] theorem portOfflineOp_trf (e : Fin 16) : (portOfflineOp e s).trf = s.trf := by simp [portOfflineOp]

@[simp] theorem portWord_trf (v : W64) : (portWord v s).trf = s.trf := by
  unfold portWord
  repeat' split
  all_goals simp

@[simp] theorem portGate_trf {act : State → State} (h : ∀ t, (act t).trf = t.trf) :
    (portGate  act s).trf = s.trf := by simp [portGate, unlessBusy, h]

@[simp] theorem portCmd_trf {act : State → State} (h : ∀ t, (act t).trf = t.trf) (src : Src) :
    (portCmd src act s).trf = s.trf := by simp [portCmd, h]

@[simp] theorem portWrite_trf (off : Nat) (v : W64) : (portWrite off v s).trf = s.trf := by
  unfold portWrite
  repeat' split
  all_goals simp

/-! #### The governor -/

@[simp] theorem govFlag_trf (bits : BitVec 6) : (govFlag bits s).trf = s.trf := by simp [govFlag]
@[simp] theorem closePeriod_trf (act : Nat → Nat) : (closePeriod act s).trf = s.trf := by rfl
@[simp] theorem limEval_trf (r w : Nat) : (limEval r w s).trf = s.trf := by rfl
@[simp] theorem capEval_trf : (capEval s).trf = s.trf := by rfl
@[simp] theorem evalCeilings_trf : (evalCeilings s).trf = s.trf := by simp [evalCeilings]

@[simp] theorem chargePhase_trf (was : State) (act : List (List Nat)) (n : Fin 4) :
    (chargePhase was act n s).trf = s.trf := by rfl
@[simp] theorem learnPast_trf (was : State) (act : List (List Nat)) (p : PastPhase) :
    (learnPast was act p s).trf = s.trf := by rfl
@[simp] theorem shareEnergy_trf (act : List (List Nat)) : (shareEnergy act s).trf = s.trf := by
  simp [shareEnergy]

@[simp] theorem perfUpdate_trf : (perfUpdate s).trf = s.trf := by simp [perfUpdate]

@[simp] theorem evaluate_trf (act : List (List Nat)) : (evaluate act s).trf = s.trf := by
  unfold evaluate
  dsimp only
  rw [perfUpdate_trf, State.onGov_trf, evalCeilings_trf, capEval_trf, foldUpTo_trf fun i t => limEval_trf t _ _,
    closePeriod_trf, State.onGov_trf, shareEnergy_trf, State.onGov_trf]

@[simp] theorem noteChatter_trf (key : Nat) (level : Bool) :
    (noteChatter key level s).trf = s.trf := by simp [noteChatter]

@[simp] theorem endChatter_trf (key : Nat) : (endChatter key s).trf = s.trf := by rfl

@[simp] theorem inputAssert_trf {act : State → State} (h : ∀ t, (act t).trf = t.trf) (key : Nat) (level chatter : Bool)
    (s : State) : (inputAssert key level chatter act s).trf = s.trf := by
  simp [inputAssert, h]

@[simp] theorem inputRelease_trf {hold act : State → State} (hh : ∀ t, (hold t).trf = t.trf)
    (h : ∀ t, (act t).trf = t.trf) (key : Nat) (level chatter : Bool) (s : State) :
    (inputRelease key level chatter hold act s).trf = s.trf := by
  simp [inputRelease, h, hh]

@[simp] theorem perfFall_trf : (perfFall s).trf = s.trf := by rfl

@[simp] theorem perfRise_trf : (perfRise s).trf = s.trf := by
  unfold perfRise
  dsimp only
  split <;> simp

@[simp] theorem perfLateLog_trf (level : Bool) : (perfLateLog level s).trf = s.trf := by rfl

@[simp] theorem thermalStep_trf (ts : List (Option Int)) : (thermalStep ts s).trf = s.trf := by
  unfold thermalStep
  split <;> simp

@[simp] theorem takeReadings_trf (ts : List (Option Int)) : (takeReadings ts s).trf = s.trf := by
  simp [takeReadings]
@[simp] theorem logInvalid_trf (ts : List (Option Int)) : (logInvalid ts s).trf = s.trf := by
  simp [logInvalid]
@[simp] theorem sense_trf (i : Nat) (v : Option (BitVec 8)) : (sense i v s).trf = s.trf := by rfl
@[simp] theorem setTherm_trf (i : Fin 8) (v : Bool) : (setTherm i v s).trf = s.trf := by rfl
@[simp] theorem droopBegin_trf : (droopBegin s).trf = s.trf := by simp [droopBegin]
@[simp] theorem stuckLog_trf (which : Fin 9) : (stuckLog which s).trf = s.trf := by rfl
@[simp] theorem endStagger_trf : (endStagger s).trf = s.trf := by rfl
@[simp] theorem advanceRamp_trf : (advanceRamp s).trf = s.trf := by rfl

@[simp] theorem dropHint_trf : (dropHint s).trf = s.trf := by
  unfold dropHint
  dsimp only
  split <;> simp

@[simp] theorem moveOffset_trf (up : Bool) (i : Nat) (slack : BitVec 6) :
    (moveOffset up i slack s).trf = s.trf := by simp [moveOffset]

@[simp] theorem setSlack_trf (i : Nat) (v : BitVec 6) : (setSlack i v s).trf = s.trf := by rfl
@[simp] theorem zeroSlack_trf (i : Nat) : (zeroSlack i s).trf = s.trf := by simp [zeroSlack]
@[simp] theorem monitorReads_trf (i : Nat) (v : BitVec 6) : (monitorReads i v s).trf = s.trf := by
  simp [monitorReads]
@[simp] theorem senseSlack_trf (i : Nat) (v : BitVec 6) : (senseSlack i v s).trf = s.trf := by rfl
@[simp] theorem trimStep_trf : (trimStep s).trf = s.trf := by simp [trimStep]
@[simp] theorem trimAll_trf (slacks : List (BitVec 6)) : (trimAll slacks s).trf = s.trf := by simp [trimAll]

@[simp] theorem govSet_trf (off : Nat) (v : W64) : (govSet off v s).trf = s.trf := by
  unfold govSet
  split <;> simp

@[simp] theorem govWrite_trf (off : Nat) (v : W64) : (govWrite off v s).trf = s.trf := by
  unfold govWrite
  split <;> simp

/-! #### The collective unit's operations -/

@[simp] theorem countCol_trf (i : Nat) : (countCol i s).trf = s.trf := by rfl
@[simp] theorem colEvent_trf (bits : BitVec 4) : (colEvent bits s).trf = s.trf := by rfl
@[simp] theorem takeIn_trf (l : Fin 3) (p : Packet) : (takeIn l p s).trf = s.trf := by rfl
@[simp] theorem giveBack_trf (l : Fin 3) (p : Packet) : (giveBack l p s).trf = s.trf := by rfl
@[simp] theorem drive_trf (l : Fin 3) (p : Packet) : (drive l p s).trf = s.trf := by simp [drive]
@[simp] theorem keepFor_trf (o : Option (Fin 3)) (l : Fin 3) (p : Packet) :
    (keepFor o l p s).trf = s.trf := by
  rfl

@[simp] theorem sendFrom_trf (o : Option (Fin 3)) (l : Fin 3) (p : Packet) :
    (sendFrom o l p s).trf = s.trf := by simp [sendFrom]

@[simp] theorem sendOn_trf (l : Fin 3) (p : Packet) : (sendOn l p s).trf = s.trf := by simp [sendOn]

@[simp] theorem sendTo_trf (kind : BitVec 4) (up : Bool) (dest : BitVec 12) (p : Payload) :
    (sendTo kind up dest p s).trf = s.trf := by simp [sendTo]

@[simp] theorem sendAround_trf (kind : BitVec 4) (up : Bool) (p : Payload) :
    (sendAround kind up p s).trf = s.trf := by simp [sendAround]

@[simp] theorem abortPartners_trf (r : CRun) (status : BitVec 4) :
    (abortPartners r status s).trf = s.trf := by simp [abortPartners]

@[simp] theorem sendDown_trf (r : CRun) (kind : BitVec 4) (p : Payload) :
    (sendDown r kind p s).trf = s.trf := by simp [sendDown]

@[simp] theorem noteEnd_trf (ticket : BitVec 32) (irq : Bool) (status : BitVec 4) (count : Nat) (code : BitVec 8) :
    (noteEnd ticket irq status count code s).trf = s.trf := by rfl

@[simp] theorem addChunk_trf (r : CRun) (ccw : Bool) : (addChunk r ccw s).trf = s.trf := by rfl

@[simp] theorem tallyChunks_trf (last : Bool) : (tallyChunks last s).trf = s.trf := by
  unfold tallyChunks
  split <;> simp

@[simp] theorem endRun_trf (status : BitVec 4) (code : BitVec 8) : (endRun status code s).trf = s.trf := by
  unfold endRun
  split <;> simp

@[simp] theorem endRunAbort_trf (status : BitVec 4) (code : BitVec 8) :
    (endRunAbort status code s).trf = s.trf :=
  by
  unfold endRunAbort
  split <;> simp

@[simp] theorem endMismatch_trf (l : Fin 3) (h : Hdr) : (endMismatch l h s).trf = s.trf := by
  unfold endMismatch
  split <;> simp

@[simp] theorem abortRun_trf (code : BitVec 8) : (abortRun code s).trf = s.trf := by simp [abortRun]

@[simp] theorem endQueued_trf (q : CRec) (status : BitVec 4) (code : BitVec 8) :
    (endQueued q status code s).trf = s.trf := by rfl

@[simp] theorem toEmber_trf : (toEmber s).trf = s.trf := by simp [toEmber]

/-! #### Quench -/

@[simp] theorem quenchLog_trf : (quenchLog s).trf = s.trf := by rfl
@[simp] theorem setLatch_trf : (setLatch s).trf = s.trf := by rfl

@[simp] theorem takeQuench_trf : (takeQuench s).trf = s.trf := by
  unfold takeQuench
  dsimp only
  repeat' split
  all_goals simp

@[simp] theorem quenchBegin_trf : (quenchBegin s).trf = s.trf := by simp [quenchBegin]
@[simp] theorem noteQuenchChat_trf : (noteQuenchChat s).trf = s.trf := by rfl

/-! #### The schedule engine -/

@[simp] theorem countSch_trf (i n : Nat) : (countSch i n s).trf = s.trf := by rfl
@[simp] theorem pushRefuse_trf (code : BitVec 8) (r : Rec) : (pushRefuse code r s).trf = s.trf := by rfl
@[simp] theorem pushAccept_trf (r : Rec) : (pushAccept r s).trf = s.trf := by rfl
@[simp] theorem pushRecord_trf (r : Rec) : (pushRecord r s).2.trf = s.trf := by simp [pushRecord]
@[simp] theorem hostPush_trf : (hostPush s).trf = s.trf := by simp [hostPush]
@[simp] theorem pushWord_trf (v : W64) : (pushWord v s).trf = s.trf := by simp [pushWord]

@[simp] theorem pushGate_trf {act : State → State} (h : ∀ t, (act t).trf = t.trf) :
    (pushGate  act s).trf = s.trf := by simp [pushGate, unlessBusy, h]

@[simp] theorem pushWrite_trf (v : W64) : (pushWrite v s).trf = s.trf := by simp [pushWrite]
@[simp] theorem admitRecord_trf (n : Fin 4) (q : QRec) : (admitRecord n q s).trf = s.trf := by rfl
@[simp] theorem admitPhase_trf (n : Fin 4) : (admitPhase n s).trf = s.trf := by simp [admitPhase]
@[simp] theorem timeoutPhase_trf (n : Fin 4) : (timeoutPhase n s).trf = s.trf := by simp [timeoutPhase]
@[simp] theorem governStart_trf (n : Fin 4) : (governStart n s).trf = s.trf := by simp [governStart]
@[simp] theorem startPhase_trf (n : Fin 4) : (startPhase n s).trf = s.trf := by simp [startPhase]
@[simp] theorem releaseBounds_trf : (releaseBounds s).trf = s.trf := by rfl
@[simp] theorem abortByCommand_trf (n : Fin 4) : (abortByCommand n s).trf = s.trf := by simp [abortByCommand]
@[simp] theorem noteAborts_trf (code : BitVec 8) (n : Nat) : (noteAborts code n s).trf = s.trf := by
  simp [noteAborts]
@[simp] theorem unqueue_trf (q : QRec) : (unqueue q s).trf = s.trf := by rfl

@[simp] theorem abortTicket_trf (t : BitVec 32) : (abortTicket t s).2.trf = s.trf := by
  unfold abortTicket
  repeat' split
  all_goals simp

@[simp] theorem flushQueue_trf : (flushQueue s).trf = s.trf := by simp [flushQueue]
@[simp] theorem schCode_trf (c : BitVec 8) : (schCode c s).trf = s.trf := by rfl
@[simp] theorem schRefuse_trf (unit : BitVec 12) (t : BitVec 32) : (schRefuse unit t s).trf = s.trf := by rfl
@[simp] theorem schAbortOp_trf (t : BitVec 32) : (schAbortOp t s).trf = s.trf := by simp [schAbortOp]
@[simp] theorem schAbortSlotOp_trf (n : Fin 4) : (schAbortSlotOp n s).trf = s.trf := by simp [schAbortSlotOp]
@[simp] theorem schQresumeOp_trf : (schQresumeOp s).trf = s.trf := by rfl

@[simp] theorem schWord_trf (v : W64) : (schWord v s).trf = s.trf := by
  unfold schWord
  repeat' split
  all_goals simp

@[simp] theorem schGate_trf {act : State → State} (h : ∀ t, (act t).trf = t.trf) :
    (schGate  act s).trf = s.trf := by simp [schGate, unlessBusy, h]

@[simp] theorem schCmd_trf {act : State → State} (h : ∀ t, (act t).trf = t.trf) (src : Src) :
    (schCmd src act s).trf = s.trf := by simp [schCmd, onlyIf_trf h]

@[simp] theorem schWrite_trf (off : Nat) (v : W64) : (schWrite off v s).trf = s.trf := by
  unfold schWrite
  repeat' split
  all_goals simp

/-! #### The configuration sets -/

@[simp] theorem cfgCode_trf (c : BitVec 8) : (cfgCode c s).trf = s.trf := by rfl
@[simp] theorem cfgRefuse_trf (c : BitVec 8) : (cfgRefuse c s).trf = s.trf := by rfl
@[simp] theorem raiseOp_trf : (raiseOp s).trf = s.trf := by simp [raiseOp]
@[simp] theorem forceOp_trf : (forceOp s).trf = s.trf := by simp [forceOp]
@[simp] theorem cancelOp_trf : (cancelOp s).trf = s.trf := by simp [cancelOp]
@[simp] theorem syncOp_trf : (syncOp s).trf = s.trf := by simp [syncOp]

@[simp] theorem cfgWord_trf (v : W64) : (cfgWord v s).trf = s.trf := by
  unfold cfgWord
  repeat' split
  all_goals simp

@[simp] theorem cfgGate_trf {act : State → State} (h : ∀ t, (act t).trf = t.trf) :
    (cfgGate  act s).trf = s.trf := by simp [cfgGate, unlessBusy, h]

@[simp] theorem cfgCmd_trf {act : State → State} (h : ∀ t, (act t).trf = t.trf) (src : Src) :
    (cfgCmd src act s).trf = s.trf := by simp [cfgCmd, h]

@[simp] theorem latchAll_trf : (latchAll s).trf = s.trf := by simp [latchAll]
@[simp] theorem applyRaise_trf : (applyRaise s).trf = s.trf := by simp [applyRaise]
@[simp] theorem shadowLocked_trf (src : Src) : (shadowLocked src s).trf = s.trf := by simp [shadowLocked]

@[simp] theorem cfgWrite_trf (off : Nat) (v : W64) : (cfgWrite off v s).trf = s.trf := by
  unfold cfgWrite
  repeat' split
  all_goals simp

/-! #### Budgets -/

@[simp] theorem addShift_trf (x : Int) : (addShift x s).trf = s.trf := by simp [addShift]
@[simp] theorem clearShift_trf : (clearShift s).trf = s.trf := by simp [clearShift]
@[simp] theorem noteGave_trf (up : Bool) (e : Option (BitVec 16)) : (noteGave up e s).trf = s.trf := by rfl
@[simp] theorem notePool_trf (m : BudMsg) : (notePool m s).trf = s.trf := by simp [notePool]
@[simp] theorem budBad_trf : (budBad s).trf = s.trf := by rfl

@[simp] theorem exchangeNext_trf (m : BudMsg) : (exchangeNext s m).2.trf = s.trf := by
  unfold exchangeNext
  repeat' split
  all_goals simp

@[simp] theorem budTake_trf (m : BudMsg) : (budTake m s).2.trf = s.trf := by simp [budTake]
@[simp] theorem budGive_trf (m : BudMsg) : (budGive m s).2.trf = s.trf := by simp [budGive]

@[simp] theorem budRelay_trf (m : BudMsg) : (budRelay m s).2.trf = s.trf := by
  unfold budRelay
  split <;> simp

@[simp] theorem budReturn_trf (m : BudMsg) : (budReturn m s).2.trf = s.trf := by
  unfold budReturn
  repeat' split
  all_goals simp

@[simp] theorem budgetAct_trf (m : BudMsg) : (budgetAct m s).2.trf = s.trf := by
  unfold budgetAct
  repeat' split
  all_goals simp

@[simp] theorem budgetRun_trf (n : Nat) (m : Option (BitVec 12 × BudMsg)) (s : State) :
    (budgetRun n m s).trf = s.trf := by
  induction n generalizing m s with
  | zero => cases m <;> rfl
  | succ n ih =>
    cases m with
    | none => rfl
    | some m => simp [budgetRun, ih]

@[simp] theorem takeBudget_trf (m : BudMsg) : (takeBudget m s).trf = s.trf := by simp [takeBudget]

@[simp] theorem startExchange_trf (up : Bool) (seq : BitVec 16) (l : List (BitVec 12 × Nat)) :
    (startExchange up seq l s).trf = s.trf := by
  unfold startExchange
  split <;> simp

/-! #### A running collective -/

@[simp] theorem onRun_trf (f : CRun → CRun) : (onRun f s).trf = s.trf := by rfl
@[simp] theorem takeOwn_trf (r : CRun) (v : Nat) : (takeOwn r v s).2.trf = s.trf := by rfl
@[simp] theorem keepFwd_trf (ccw : Bool) (t v : Nat) (b : MarkedBeam) :
    (keepFwd ccw t v b s).trf = s.trf := by
  rfl
@[simp] theorem stageWrite_trf (ccw : Bool) (v : Nat) (b : MarkedBeam) :
    (stageWrite ccw v b s).trf = s.trf := by
  rfl

@[simp] theorem completeBeam_trf (r : CRun) (ccw : Bool) (v : Nat) (b : MarkedBeam) :
    (completeBeam r ccw v b s).trf = s.trf := by simp [completeBeam]

@[simp] theorem addOwn_trf (r : CRun) (v : Nat) (b : MarkedBeam) : (addOwn r v b s).2.trf = s.trf := by rfl

@[simp] theorem takeBeam_trf (r : CRun) (ccw : Bool) (t v : Nat) (b : MarkedBeam) :
    (takeBeam r ccw t v b s).trf = s.trf := by simp [takeBeam]

@[simp] theorem takeData_trf (l : Fin 3) (r : CRun) (h : Hdr) (beams : List Beam) :
    (takeData l r h beams s).trf = s.trf := by simp [takeData]

@[simp] theorem pickBeam_trf (r : CRun) (ccw : Bool) (v : Nat) : (pickBeam r ccw v s).2.trf = s.trf := by
  unfold pickBeam
  dsimp only
  split <;> simp

@[simp] theorem pickBeams_trf (r : CRun) (ccw : Bool) (v k : Nat) (s : State) :
    (pickBeams r ccw v k s).2.trf = s.trf := by
  induction k generalizing v s with
  | zero => rfl
  | succ k ih => exact (ih _ _).trans (pickBeam_trf s r ccw v)

@[simp] theorem sendData_trf (r : CRun) (ccw : Bool) : (sendData r ccw s).trf = s.trf := by simp [sendData]

@[simp] theorem localBeams_trf (r : CRun) (ccw : Bool) (s : State) :
    (localBeams r ccw s).trf = s.trf := by simp [localBeams]

@[simp] theorem drainTx_trf (l : Fin 3) (control : Bool) : (drainTx l control s).trf = s.trf := by
  unfold drainTx
  dsimp only
  split <;> simp

@[simp] theorem closeDue_trf (l : Fin 3) : (closeDue l s).trf = s.trf := by simp [closeDue]
@[simp] theorem drainLink_trf (l : Fin 3) : (drainLink l s).trf = s.trf := by simp [drainLink]

@[simp] theorem normAdvance_trf : (normAdvance s).trf = s.trf := by
  unfold normAdvance
  split <;> simp

@[simp] theorem takeNormUp_trf (src : BitVec 12) (v : W64) (bad : Bool) :
    (takeNormUp src v bad s).trf = s.trf := by simp [takeNormUp]

@[simp] theorem recordLate_trf (r : CRun) : (recordLate r s).trf = s.trf := by simp [recordLate]

@[simp] theorem takeAbort_trf (r : CRun) (status : BitVec 4) :
    (takeAbort r status s).trf = s.trf := by simp [takeAbort]

@[simp] theorem waitIn_trf (l : Fin 3) (h : Hdr) (p : Payload) (stamp : BitVec 64) :
    (waitIn l h p stamp s).trf = s.trf := by rfl

@[simp] theorem dropWaiting_trf (p : Hdr → Bool) : (dropWaiting p s).trf = s.trf := by rfl

/-! #### The ring -/

@[simp] theorem endShort_trf : (endShort s).trf = s.trf := by
  unfold endShort
  split <;> simp

@[simp] theorem leaveEpoch_trf (up : Bool) : (leaveEpoch up s).trf = s.trf := by simp [leaveEpoch]

@[simp] theorem clearMeasures_trf (up : Bool) (ver : BitVec 4) :
    (clearMeasures up ver s).trf = s.trf := by simp [clearMeasures]

@[simp] theorem takeEpoch_trf (e : BitVec 32) (ver : BitVec 4) (table : List Member) :
    (takeEpoch e ver table s).trf = s.trf := by simp [takeEpoch]

@[simp] theorem takeCrown_trf (e : BitVec 32) (ver : BitVec 4) (ridges : List Member) (own : Bool) :
    (takeCrown e ver ridges own s).trf = s.trf := by simp [takeCrown]

@[simp] theorem crownAt_trf (h : Hdr) (e : BitVec 32) (ver : BitVec 4) (ridges : List Member) :
    (crownAt h e ver ridges s).trf = s.trf := by simp [crownAt]

@[simp] theorem openBypass_trf : (openBypass s).trf = s.trf := by rfl
@[simp] theorem closePlanned_trf : (closePlanned s).trf = s.trf := by simp [closePlanned]
@[simp] theorem noMember_trf : (noMember s).trf = s.trf := by simp [noMember]
@[simp] theorem leaveRing_trf : (leaveRing s).trf = s.trf := by simp [leaveRing]
@[simp] theorem bypassOn_trf (l : Fin 3) (p : Packet) (cut : Bool) : (bypassOn l p cut s).trf = s.trf := by
  rfl
@[simp] theorem leaveAt_trf (l : Fin 3) (h : Hdr) (p : Payload) : (leaveAt l h p s).trf = s.trf := by
  simp [leaveAt]
@[simp] theorem sendJoin_trf : (sendJoin s).trf = s.trf := by simp [sendJoin]
@[simp] theorem crownAdvance_trf : (crownAdvance s).trf = s.trf := by simp [crownAdvance]

@[simp] theorem takeDieReport_trf (l : Nat) (src : BitVec 12) (e : BitVec 32) (table : List Member) :
    (takeDieReport l src e table s).trf = s.trf := by simp [takeDieReport]

@[simp] theorem afterCommit_trf : (afterCommit s).trf = s.trf := by simp [afterCommit]
@[simp] theorem proposeNow_trf (lost : Option (BitVec 12)) : (proposeNow lost s).trf = s.trf := by
  simp [proposeNow]
@[simp] theorem commitProposal_trf (q : Proposal) : (commitProposal q s).trf = s.trf := by
  simp [commitProposal]

@[simp] theorem foreignRidge_trf (l : Fin 3) (h : Hdr) (p : Payload) :
    (foreignRidge l h p s).trf = s.trf := by simp [foreignRidge]

@[simp] theorem takeJoin_trf (m : Member) : (takeJoin m s).trf = s.trf := by simp [takeJoin]

@[simp] theorem takeLeave_trf (l : Nat) (f : BitVec 12) (lost : Bool) : (takeLeave l f lost s).trf = s.trf :=
  by
  unfold takeLeave
  dsimp only
  repeat' split
  all_goals simp

@[simp] theorem takeRefuse_trf (l : Nat) (src : BitVec 12) (code : BitVec 8) :
    (takeRefuse l src code s).trf = s.trf := by simp [takeRefuse]

@[simp] theorem forward_trf (l : Fin 3) (h : Hdr) (p : Payload) : (forward l h p s).trf = s.trf := by
  simp [forward]

@[simp] theorem forwardAround_trf (l : Fin 3) (h : Hdr) (p : Payload) :
    (forwardAround l h p s).trf = s.trf := by simp [forwardAround]

@[simp] theorem pass_trf (l : Fin 3) (h : Hdr) (p : Payload) : (pass l h p s).trf = s.trf := by simp [pass]

@[simp] theorem ifCurrent_trf {act : State → State} (h : ∀ t, (act t).trf = t.trf) (p : Hdr) :
    (ifCurrent p act s).trf = s.trf := by
  simp [ifCurrent, h]

@[simp] theorem metRestart_trf (e : BitVec 32) : (metRestart e s).trf = s.trf := by simp [metRestart]

@[simp] theorem proposeAt_trf (l : Fin 3) (h : Hdr) (q : Proposal) :
    (proposeAt l h q s).trf = s.trf := by simp [proposeAt]

@[simp] theorem commitAt_trf (l : Fin 3) (h : Hdr) (e : BitVec 32) (ver : BitVec 4) (table : List Member) :
    (commitAt l h e ver table s).trf = s.trf := by simp [commitAt]

@[simp] theorem roundTrip_trf {act : State → State} (h : ∀ t, (act t).trf = t.trf) (l : Fin 3) (p : Hdr) (x : Payload)
    (s : State) : (roundTrip l p x act s).trf = s.trf := by
  simp [roundTrip, h]

@[simp] theorem dropPacket_trf (code : BitVec 8) (l : Fin 3) (h : Hdr) :
    (dropPacket code l h s).trf = s.trf := by
  rfl
@[simp] theorem strayPacket_trf (l : Fin 3) (h : Hdr) : (strayPacket l h s).trf = s.trf := by
  simp [strayPacket]

@[simp] theorem observed_trf {act : State → State} (h : ∀ t, (act t).trf = t.trf) (l : Fin 3) (p : Hdr)
    (x : Payload) (bad : BitVec 3) :
    (observed l p x bad act s).trf = s.trf := by
  simp [observed, h]

@[simp] theorem closedPass_trf (l : Fin 3) (h : Hdr) (p : Payload) (bad : BitVec 3) :
    (closedPass l h p bad s).trf = s.trf := by
  unfold closedPass
  split
  · rw [ite_trf, observed_trf _ fun t => by simp]
    simp
  · dsimp only
    split
    · rw [ite_trf, observed_trf _ fun t => by simp]
      simp
    · simp

@[simp] theorem arrive_trf {byp act : State → State} (hb : ∀ t, (byp t).trf = t.trf) (h : ∀ t, (act t).trf = t.trf)
    (l : Fin 3) (p : Packet) : (arrive l p byp act s).trf = s.trf := by
  simp [arrive, h, hb]

@[simp] theorem unreadable_trf (l : Fin 3) (h : Hdr) (p : Payload) (cut : Bool) :
    (unreadable l h p cut s).trf = s.trf := by
  simp [unreadable]

@[simp] theorem creditIn_trf (l : Fin 3) (control : Bool) : (creditIn l control s).trf = s.trf := by
  simp [creditIn]
@[simp] theorem creditThrough_trf (l : Fin 3) (control : Bool) : (creditThrough l control s).trf = s.trf := by
  rfl

/-! #### Scrub, CE_BANK and purge -/

@[simp] theorem dropCommits_trf : (dropCommits s).trf = s.trf := by rfl

/-! #### Kills -/

@[simp] theorem killPhases_trf : (killPhases s).trf = s.trf := by simp [killPhases]
@[simp] theorem killTransfers_trf : (killTransfers s).trf = s.trf := by simp [killTransfers]
@[simp] theorem killCols_trf : (killCols s).trf = s.trf := by simp [killCols]
@[simp] theorem jobKill_trf (unit : BitVec 12) : (jobKill unit s).trf = s.trf := by simp [jobKill]
@[simp] theorem purgeThenLeave_trf : (purgeThenLeave s).trf = s.trf := by simp [purgeThenLeave]

/-! #### The collective unit -/

@[simp] theorem colAccept_trf (d : CDesc) : (colAccept d s).trf = s.trf := by rfl
@[simp] theorem submitCol_trf (d : CDesc) : (submitCol d s).2.trf = s.trf := by simp [submitCol]
@[simp] theorem colCode_trf (c : BitVec 8) : (colCode c s).trf = s.trf := by rfl
@[simp] theorem colCmdRefuse_trf (t : BitVec 32) : (colCmdRefuse t s).trf = s.trf := by rfl
@[simp] theorem colSubmitOp_trf : (colSubmitOp s).trf = s.trf := by simp [colSubmitOp]

@[simp] theorem colAbortOp_trf (t : BitVec 32) : (colAbortOp t s).trf = s.trf := by
  unfold colAbortOp
  repeat' split
  all_goals simp

@[simp] theorem colFlushOp_trf : (colFlushOp s).trf = s.trf := by simp [colFlushOp]
@[simp] theorem colJoinOp_trf : (colJoinOp s).trf = s.trf := by simp [colJoinOp]
@[simp] theorem colLeaveOp_trf : (colLeaveOp s).trf = s.trf := by simp [colLeaveOp]

@[simp] theorem colWord_trf (v : W64) : (colWord v s).trf = s.trf := by
  unfold colWord
  repeat' split
  all_goals simp

@[simp] theorem colGate_trf {act : State → State} (h : ∀ t, (act t).trf = t.trf) :
    (colGate  act s).trf = s.trf := by simp [colGate, unlessBusy, h]

@[simp] theorem colCmd_trf {act : State → State} (h : ∀ t, (act t).trf = t.trf) (src : Src) :
    (colCmd src act s).trf = s.trf := by simp [colCmd, onlyIf_trf h]

@[simp] theorem writeHier_trf (v : W64) : (writeHier v s).trf = s.trf := by simp [writeHier]
@[simp] theorem colAfterBoot_trf : (colAfterBoot s).trf = s.trf := by simp [colAfterBoot]

@[simp] theorem colWrite_trf (off : Nat) (v : W64) : (colWrite off v s).trf = s.trf := by
  unfold colWrite
  repeat' split
  all_goals simp

/-! #### Debug -/

@[simp] theorem dbgCode_trf (c : BitVec 8) : (dbgCode c s).trf = s.trf := by rfl
@[simp] theorem dbgRefuse_trf (src : Src) (v : W64) : (dbgRefuse src v s).trf = s.trf := by rfl

@[simp] theorem dbgStart_trf (isRaw : Bool) (mort : BitVec 10) (beam : BitVec 20) :
    (dbgStart isRaw mort beam s).trf = s.trf := by rfl

@[simp] theorem dbgData_trf (src : Src) (v : W64) (mort : BitVec 10) (ofs : BitVec 20) :
    (dbgData src v mort ofs s).trf = s.trf := by simp [dbgData]

@[simp] theorem dbgTake_trf (src : Src) (v : W64) : (dbgTake src v s).trf = s.trf := by
  unfold dbgTake
  repeat' split
  all_goals simp

@[simp] theorem dbgTurn_trf (src : Src) (v : W64) : (dbgTurn src v s).trf = s.trf := by simp [dbgTurn]
@[simp] theorem dbgWord_trf (src : Src) (v : W64) : (dbgWord src v s).trf = s.trf := by
  simp [dbgWord, unlessBusy]
@[simp] theorem dbgGate_trf (src : Src) (v : W64) : (dbgGate src v s).trf = s.trf := by simp [dbgGate]

@[simp] theorem dbgWrite_trf (src : Src) (off : Nat) (v : W64) : (dbgWrite src off v s).trf = s.trf := by
  unfold dbgWrite
  repeat' split
  all_goals simp

/-! #### The error log -/

@[simp] theorem popOp_trf : (popOp s).trf = s.trf := by rfl
@[simp] theorem clearOp_trf : (clearOp s).trf = s.trf := by rfl

@[simp] theorem errWord_trf (v : W64) : (errWord v s).trf = s.trf := by
  unfold errWord
  repeat' split
  all_goals simp

@[simp] theorem errWrite_trf (off : Nat) (v : W64) : (errWrite off v s).trf = s.trf := by
  unfold errWrite
  split <;> simp

/-! #### The host port -/

@[simp] theorem hostCode_trf (c : BitVec 8) : (hostCode c s).trf = s.trf := by rfl
@[simp] theorem hostRefuse_trf (src : Src) : (hostRefuse src s).trf = s.trf := by rfl

@[simp] theorem pauseOp_trf (src : Src) : (pauseOp src s).trf = s.trf := by
  unfold pauseOp
  split <;> simp

@[simp] theorem resumeOp_trf (src : Src) : (resumeOp src s).trf = s.trf := by
  unfold resumeOp
  split <;> simp

@[simp] theorem killOp_trf (src : Src) : (killOp src s).trf = s.trf := by simp [killOp]

@[simp] theorem hostWord_trf (src : Src) (v : W64) : (hostWord src v s).trf = s.trf := by
  unfold hostWord
  repeat' split
  all_goals simp

@[simp] theorem hostGate_trf {act : State → State} (h : ∀ t, (act t).trf = t.trf) :
    (hostGate  act s).trf = s.trf := by simp [hostGate, unlessBusy, h]

@[simp] theorem hostCmd_trf {act : State → State} (h : ∀ t, (act t).trf = t.trf) (src : Src) :
    (hostCmd src act s).trf = s.trf := by simp [hostCmd, h]

@[simp] theorem ownDrop_trf (src : Src) : (ownDrop src s).trf = s.trf := by simp [ownDrop]

@[simp] theorem claimOp_trf (src : Src) : (claimOp src s).trf = s.trf := by
  unfold claimOp
  split <;> simp

@[simp] theorem releaseOp_trf (src : Src) : (releaseOp src s).trf = s.trf := by
  unfold releaseOp
  split <;> simp

@[simp] theorem ownWord_trf (src : Src) (v : W64) : (ownWord src v s).trf = s.trf := by simp [ownWord]
@[simp] theorem wdogWord_trf (v : W64) : (wdogWord v s).trf = s.trf := by rfl
@[simp] theorem wdogFire_trf : (wdogFire s).trf = s.trf := by rfl

@[simp] theorem startMove_trf (kind count : Nat) (tcm : BitVec 18) :
    (startMove kind count tcm s).trf = s.trf := by rfl

@[simp] theorem moveWord_trf (src : Src) (v : W64) : (moveWord src v s).trf = s.trf := by simp [moveWord]
@[simp] theorem endMove_trf : (endMove s).trf = s.trf := by rfl
@[simp] theorem modRing_trf (r : Fin 4) (f : Ring → Ring) : (modRing r f s).trf = s.trf := by rfl
@[simp] theorem ringDrop_trf (src : Src) (r : Fin 4) : (ringDrop src r s).trf = s.trf := by rfl

@[simp] theorem ringConfig_trf (src : Src) (r : Fin 4) (v : W64) :
    (ringConfig src r v s).trf = s.trf := by simp [ringConfig]

@[simp] theorem ringBell_trf (src : Src) (r : Fin 4) (v : W64) :
    (ringBell src r v s).trf = s.trf := by simp [ringBell]

@[simp] theorem coreWrite_trf (src : Src) (off : Nat) (v : W64) : (coreWrite src off v s).trf = s.trf := by
  unfold coreWrite
  repeat' split
  all_goals simp

/-! #### The vent port -/

@[simp] theorem inDoneOp_trf : (inDoneOp s).trf = s.trf := by simp [inDoneOp]
@[simp] theorem outPostOp_trf (src : Src) (len : BitVec 6) : (outPostOp src len s).trf = s.trf := by
  simp [outPostOp]
@[simp] theorem mboxWord_trf (src : Src) (v : W64) : (mboxWord src v s).trf = s.trf := by simp [mboxWord]
@[simp] theorem alertEnable_trf (v : BitVec 7) : (alertEnable v s).trf = s.trf := by rfl

@[simp] theorem ventWrite_trf (src : Src) (off : Nat) (v : W64) : (ventWrite src off v s).trf = s.trf := by
  unfold ventWrite
  split <;> simp

/-! #### Registers -/

@[simp] theorem bootWrite_trf (off : Nat) (v : W64) : (bootWrite off v s).trf = s.trf := by
  unfold bootWrite
  repeat' split
  all_goals simp

@[simp] theorem turnWrite_trf (src : Src) (off : Nat) (v : W64) :
    (turnWrite src off v s).trf = s.trf := by simp [turnWrite]

@[simp] theorem regAccess_trf (src : Src) (off : Nat) : (regAccess src off s).trf = s.trf := by
  simp [regAccess]

/-! #### Boot -/

@[simp] theorem bootStep_trf (n : BitVec 4) : (bootStep n s).trf = s.trf := by rfl
@[simp] theorem bootGo_trf (p : BootPhase) : (bootGo p s).trf = s.trf := by rfl

@[simp] theorem slotLog_trf (slot : Nat) (code : BitVec 8) (at_ : Nat) :
    (slotLog slot code at_ s).trf = s.trf := by rfl

@[simp] theorem discover_trf (r : SfdpResult) : (discover r s).trf = s.trf := by simp [discover]
@[simp] theorem bootLoaded_trf : (bootLoaded s).trf = s.trf := by rfl
@[simp] theorem releaseCore_trf : (releaseCore s).trf = s.trf := by rfl
@[simp] theorem latchAtReset_trf : (latchAtReset s).trf = s.trf := by simp [latchAtReset]

/-! #### Resets -/

@[simp] theorem endReset_trf : (endReset s).trf = s.trf := by simp [endReset]

/-! #### The test controller -/

@[simp] theorem tapShift_trf (code : BitVec 4) (out : List Byte) : (tapShift code out s).trf = s.trf := by rfl
@[simp] theorem bypassShift_trf (tdi : List Bool) : (bypassShift tdi s).trf = s.trf := by rfl
@[simp] theorem tapIdle_trf (code : BitVec 4) (tdi : List Bool) : (tapIdle code tdi s).trf = s.trf := by rfl

@[simp] theorem mtaBytes_trf (b : BitVec 20) : (mtaBytes b s).2.trf = s.trf := by
  unfold mtaBytes
  split <;> simp

@[simp] theorem noteRefused_trf (code : BitVec 4) : (noteRefused code s).trf = s.trf := by rfl
@[simp] theorem mtaOp_trf (b : BitVec 20) : (mtaOp b s).trf = s.trf := by simp [mtaOp]
@[simp] theorem monBytes_trf : (monBytes s).2.trf = s.trf := by rfl
@[simp] theorem tapReset_trf : (tapReset s).trf = s.trf := by rfl

/-! #### The instructions of the core -/

@[simp] theorem jumpTo_trf (a : W64) : (jumpTo a s).trf = s.trf := by rfl

@[simp] theorem writeBack_trf (rd : BitVec 5) (v : W64) (len : Nat) :
    (writeBack rd v len s).trf = s.trf := by simp [writeBack]

@[simp] theorem rvIllegal_trf (bits : W64) : (rvIllegal bits s).trf = s.trf := by simp [rvIllegal]

@[simp] theorem apertureLoad_trf (rd : BitVec 5) (a : W64) (len : Nat) (tag : BitVec 13) :
    (apertureLoad rd a len tag s).trf = s.trf := by
  unfold apertureLoad
  split <;> simp

@[simp] theorem apertureStore_trf (a v : W64) (len : Nat) (tag : BitVec 13) :
    (apertureStore a v len tag s).trf = s.trf := by
  unfold apertureStore
  split <;> simp

@[simp] theorem rvLoad_trf (k : Nat) (unsigned : Bool) (rd : BitVec 5) (a : W64) (len : Nat) (tag : BitVec 13) :
    (rvLoad k unsigned rd a len tag s).trf = s.trf := by simp [rvLoad]

@[simp] theorem rvLr_trf (k : Nat) (rd : BitVec 5) (a : W64) : (rvLr k rd a s).trf = s.trf := by simp [rvLr]
@[simp] theorem rvSc_trf (k : Nat) (rd : BitVec 5) (a v : W64) : (rvSc k rd a v s).trf = s.trf := by
  simp [rvSc]

@[simp] theorem rvAmo_trf (k f5 : Nat) (rd : BitVec 5) (a v bits : W64) :
    (rvAmo k f5 rd a v bits s).trf = s.trf :=
  by
  unfold rvAmo
  dsimp only
  split <;> simp

@[simp] theorem rvAtomic_trf (w : BitVec 32) : (rvAtomic w s).trf = s.trf := by simp [rvAtomic]
@[simp] theorem csrWrite_trf (n : BitVec 12) (v : W64) : (csrWrite n v s).trf = s.trf := by rfl

@[simp] theorem rvCsr_trf (w : BitVec 32) : (rvCsr w s).trf = s.trf := by
  unfold rvCsr
  dsimp only
  split <;> simp

@[simp] theorem fenceOp_trf : (fenceOp s).trf = s.trf := by simp [fenceOp]
@[simp] theorem wfiOp_trf : (wfiOp s).trf = s.trf := by rfl
@[simp] theorem rvSystem_trf (w : BitVec 32) : (rvSystem w s).trf = s.trf := by simp [rvSystem]
@[simp] theorem pushBad_trf : (pushBad s).trf = s.trf := by rfl

@[simp] theorem pushOp_trf (a : W64) : (pushOp a s).2.trf = s.trf := by
  unfold pushOp
  split <;> simp

@[simp] theorem phPushOp_trf (rd rs1 : BitVec 5) : (phPushOp rd rs1 s).trf = s.trf := by simp [phPushOp]
@[simp] theorem phStatOp_trf (rd rs1 : BitVec 5) : (phStatOp rd rs1 s).trf = s.trf := by simp [phStatOp]
@[simp] theorem tokReadOp_trf (rd rs1 : BitVec 5) : (tokReadOp rd rs1 s).trf = s.trf := by simp [tokReadOp]
@[simp] theorem phAbortOp_trf (rd rs1 : BitVec 5) : (phAbortOp rd rs1 s).trf = s.trf := by simp [phAbortOp]

@[simp] theorem rvCustom_trf (w : BitVec 32) : (rvCustom w s).trf = s.trf := by
  unfold rvCustom
  repeat' split
  all_goals simp

@[simp] theorem rvOpImm_trf (w : BitVec 32) (is32 : Bool) (bits : W64) (len : Nat) :
    (rvOpImm w is32 bits len s).trf = s.trf := by simp [rvOpImm]

@[simp] theorem rvOp_trf (w : BitVec 32) (is32 : Bool) (bits : W64) (len : Nat) :
    (rvOp w is32 bits len s).trf = s.trf := by
  unfold rvOp
  dsimp only
  repeat' split
  all_goals simp

/-! #### Side-port commands -/

@[simp] theorem sendNext_trf (ccw : Bool) : (sendNext ccw s).trf = s.trf := by
  unfold sendNext
  repeat' split
  all_goals simp

/-! #### The vent commands -/

@[simp] theorem ventReturn_trf (code : Byte) (pec : Bool) (data : List Byte) :
    (ventReturn code pec data s).trf = s.trf := by rfl

@[simp] theorem blockReturn_trf (code : Byte) (pec : Bool) (data : List Byte) :
    (blockReturn code pec data s).trf = s.trf := by rfl

@[simp] theorem ventCode_trf (c : BitVec 8) : (ventCode c s).trf = s.trf := by rfl
@[simp] theorem ventEvent_trf : (ventEvent s).trf = s.trf := by simp [ventEvent]

@[simp] theorem withPec_trf {act : State → State} (h : ∀ t, (act t).trf = t.trf) (pec : Option Bool) (s : State) :
    (withPec pec act s).trf = s.trf := by
  unfold withPec
  split
  · rfl
  · split <;> simp [h]

@[simp] theorem ventAdvance_trf : (ventAdvance s).trf = s.trf := by rfl
@[simp] theorem setAddrOp_trf (addr : BitVec 24) : (setAddrOp addr s).trf = s.trf := by simp [setAddrOp]

@[simp] theorem withCount_trf {act : State → State} (h : ∀ t, (act t).trf = t.trf) (count : BitVec 8) (n : Nat)
    (s : State) :
    (withCount count n act s).trf = s.trf := by
  simp [withCount, h]

@[simp] theorem read64Op_trf (pec : Bool) : (read64Op pec s).trf = s.trf := by simp [read64Op]
@[simp] theorem mboxPutOp_trf (bytes : List Byte) : (mboxPutOp bytes s).trf = s.trf := by simp [mboxPutOp]

@[simp] theorem outMessage_trf : (outMessage s).2.trf = s.trf := by
  unfold outMessage
  dsimp only
  repeat' split
  all_goals simp

@[simp] theorem mboxGetOp_trf (ends : ReadEnd) : (mboxGetOp ends s).trf = s.trf := by simp [mboxGetOp]
@[simp] theorem alertReturn_trf : (alertReturn s).trf = s.trf := by rfl

/-! #### Work orders -/

@[simp] theorem giveRecord_trf (x : BitVec 2048) : (giveRecord x s).2.2.trf = s.trf := by simp [giveRecord]
@[simp] theorem giveCol_trf (x : BitVec 512) : (giveCol x s).2.2.trf = s.trf := by simp [giveCol]
@[simp] theorem giveDesc_trf (x : BitVec 1024) : (giveDesc x s).2.2.trf = s.trf := by simp [giveDesc]

@[simp] theorem fetchMove_trf (a p : BitVec 52) (gs : List (BitVec 512)) (status : BitVec 2) (s : State) :
    (fetchMove a p gs status s).trf = s.trf := by simp [fetchMove]

@[simp] theorem fetchRun_trf (a : BitVec 52) (gs : List (BitVec 512)) (status : BitVec 2) :
    (fetchRun a gs status s).2.trf = s.trf := by
  unfold fetchRun
  repeat' split
  all_goals simp

@[simp] theorem fetchAll_trf (status : BitVec 2) (rs : List (Nat × Nat)) (gs : List (BitVec 512)) (s : State) :
    (fetchAll status rs gs s).2.trf = s.trf := by
  induction rs generalizing gs s with
  | nil => rfl
  | cons r rs ih =>
    unfold fetchAll
    dsimp only
    split
    · rw [ih, fetchRun_trf]
    · exact fetchRun_trf ..

@[simp] theorem woTake_trf (r : Fin 4) (wo : Wo) (status : BitVec 2) : (woTake r wo status s).2.trf = s.trf :=
  by
  unfold woTake
  repeat' split
  all_goals simp

@[simp] theorem setWo_trf (k : WoRun) : (setWo k s).trf = s.trf := by rfl
@[simp] theorem endWo_trf (k : WoRun) (code : BitVec 8) : (endWo k code s).trf = s.trf := by rfl

@[simp] theorem fetchObjs_trf {w : Nat} (k : WoRun) (objs : List (BitVec w)) :
    (fetchObjs k objs s).2.2.trf = s.trf := by
  unfold fetchObjs
  dsimp only
  split
  · rfl
  · exact fetchAll_trf ..
@[simp] theorem giveAll_trf {w : Nat} {give : BitVec w → State → BitVec 8 × BitVec 32 × State}
    (h : ∀ x t, (give x t).2.2.trf = t.trf) (xs : List (BitVec w)) (k : WoRun) (s : State) :
    (giveAll give xs k s).trf = s.trf := by
  induction xs generalizing k s with
  | nil => simp [giveAll]
  | cons x xs ih =>
    unfold giveAll
    dsimp only
    split
    · simp
    · simp
    · simp [ih, h]

@[simp] theorem serveObjects_trf {w : Nat} {give : BitVec w → State → BitVec 8 × BitVec 32 × State}
    (h : ∀ x t, (give x t).2.2.trf = t.trf) (op : Nat) (ring : Fin 4) (wo : Wo) (objs : List (BitVec w)) (poison : Bool) :
    (serveObjects op ring wo objs poison give s).trf = s.trf := by
  unfold serveObjects
  dsimp only
  split
  · simp
  · simp [h]

@[simp] theorem serveBare_trf (op : Nat) (ring : Fin 4) (wo : Wo) (met : State → Bool) :
    (serveBare op ring wo met s).trf = s.trf := by
  unfold serveBare
  dsimp only
  split <;> simp

@[simp] theorem refuseWo_trf (ring : Fin 4) (wo : Wo) (status : BitVec 2) :
    (refuseWo ring wo status s).trf = s.trf := by
  unfold refuseWo
  dsimp only
  split <;> simp

@[simp] theorem cplStore_trf (w : WinSel) (a : Nat) (v : W64) (ok : Bool) :
    (cplStore w a v ok s).trf = s.trf :=
  by
  unfold cplStore
  dsimp only
  repeat' split
  all_goals simp

@[simp] theorem writeCpl_trf (k : WoRun) (ok : Bool) : (writeCpl k ok s).trf = s.trf := by
  unfold writeCpl
  split <;> simp

@[simp] theorem completeWo_trf (k : WoRun) (ok : Bool) : (completeWo k ok s).trf = s.trf := by
  simp [completeWo]

/-! #### A BCLK -/

@[simp] theorem tickQuiet_trf : (tickQuiet s).trf = s.trf := by simp [tickQuiet]
@[simp] theorem tickRoot_trf : (tickRoot s).trf = s.trf := by simp [tickRoot]
@[simp] theorem tickStamp_trf : (tickStamp s).trf = s.trf := by simp [tickStamp]
@[simp] theorem tickEvents_trf : (tickEvents s).trf = s.trf := by simp [tickEvents]
@[simp] theorem tickWdog_trf : (tickWdog s).trf = s.trf := by simp [tickWdog]
@[simp] theorem tickWaits_trf : (tickWaits s).trf = s.trf := by simp [tickWaits]
@[simp] theorem tickSched_trf : (tickSched s).trf = s.trf := by simp [tickSched]
@[simp] theorem tickQueues_trf : (tickQueues s).trf = s.trf := by rfl
@[simp] theorem tickPaths_trf : (tickPaths s).trf = s.trf := by simp [tickPaths]
@[simp] theorem tickGov_trf : (tickGov s).trf = s.trf := by simp [tickGov]

end

end Sys2Proof.Machine
end

section
namespace Sys2Proof.Machine

/-! ### The canonical form of the nine tables (R77, R94 to R98)

What changes the tile register file keeps its sparse tables canonical: an operation that writes a table by the rules of
Laws/SMap.lean, one made of others by theirs. -/

/-- The nine sparse tables of the tile register file are in their canonical form. -/
def Trf.Canonical (t : Trf) : Prop :=
  t.beams.wf 0 = true ∧ t.errs.wf {} = true ∧ t.mort.wf {} = true ∧ t.ceBank.wf 0 = true ∧ t.lastSym.wf 0xFF = true ∧
    t.ceLogged.wf false = true ∧ t.scrubPos.wf 0 = true ∧ t.symHits.wf 0 = true ∧ t.clearAt.wf 0 = true

theorem trfCanonical_iff (s : State) : TrfCanonical s ↔ s.trf.Canonical := Iff.rfl

@[simp] theorem ite_canonical {p : Prop} [Decidable p] {s t : Trf} (hs : s.Canonical) (ht : t.Canonical) :
    (if p then s else t).Canonical := by
  split
  · exact hs
  · exact ht

@[simp] theorem foldOver_canonical {α : Type} {f : α → State → State} {s : State}
    (hf : ∀ a t, t.trf.Canonical → (f a t).trf.Canonical) (l : List α) (h : s.trf.Canonical) : (foldOver l f s).trf.Canonical :=
  foldOver_keeps (fun t : State => t.trf.Canonical) hf l h

@[simp] theorem foldUpTo_canonical {f : Nat → State → State} {s : State}
    (hf : ∀ a t, t.trf.Canonical → (f a t).trf.Canonical) (n : Nat) (h : s.trf.Canonical) : (foldUpTo n f s).trf.Canonical :=
  foldOver_canonical hf (List.range n) h

@[simp] theorem onlyIf_canonical {c : Bool} {f : State → State} {s : State}
    (hf : ∀ t, t.trf.Canonical → (f t).trf.Canonical) (h : s.trf.Canonical) : (onlyIf c f s).trf.Canonical := by
  unfold onlyIf
  split
  · exact hf s h
  · exact h

section
variable {s : State} (h : s.trf.Canonical)
include h

@[simp] theorem setMort_canonical (i : BitVec 10) (e : Mortise) : (setMort i e s).trf.Canonical :=
  trfCanonical_setMort i e h

@[simp] theorem modMort_canonical (i : BitVec 10) (f : Mortise → Mortise) : (modMort i f s).trf.Canonical :=
  trfCanonical_modMort i f h

@[simp] theorem modPair_canonical (i : BitVec 10) (f : Mortise → Mortise) : (modPair i f s).trf.Canonical :=
  trfCanonical_modPair i f h

@[simp] theorem writeLine_canonical (b : BitVec 20) (v : Beam) : (writeLine b v s).trf.Canonical :=
  trfCanonical_writeLine b v h

@[simp] theorem strike_canonical (b : BitVec 20) (u : LineErr) : (strike b u s).trf.Canonical :=
  trfCanonical_strike b u h

@[simp] theorem setPoison_canonical (i : BitVec 10) : (setPoison i s).trf.Canonical :=
  trfCanonical_setPoison i h

@[simp] theorem mortWrite_canonical (i : BitVec 10) (b : BitVec 20) (v : Beam) (p : Bool) (pid : Option (BitVec 8)) :
    (mortWrite i b v p pid s).trf.Canonical := trfCanonical_mortWrite i b v p pid h

@[simp] theorem flushLog_canonical : (flushLog s).trf.Canonical := trfCanonical_flushLog h

@[simp] theorem settle_canonical : (settle s).trf.Canonical := by simp [settle, h]

@[simp] theorem writeReg_canonical {act : State → State} (hact : ∀ t, t.trf.Canonical → (act t).trf.Canonical)
    (src : Src) (off : Nat) (o : Owner) : (writeReg src off o act s).trf.Canonical := by
  unfold writeReg
  split
  · exact h
  · simp [h]
  · simp [h]
  · exact hact _ (by simp [h])

@[simp] theorem writeUnless_canonical {turn act : State → State} (ht : ∀ t, (turn t).trf = t.trf)
    (hact : ∀ t, t.trf.Canonical → (act t).trf.Canonical) (src : Src) (off : Nat) (o : Owner) (late : Bool) :
    (writeUnless src off o late turn act s).trf.Canonical := by
  unfold writeUnless
  split
  · rw [ht]; exact h
  · exact writeReg_canonical h hact ..

@[simp] theorem writeDropping_canonical {act : State → State} (hact : ∀ t, t.trf.Canonical → (act t).trf.Canonical)
    (src : Src) (off : Nat) (o : Owner) (drops : Bool) : (writeDropping src off o drops act s).trf.Canonical := by
  unfold writeDropping writeUnless
  split
  · exact hact _ (by simp [h])
  · exact writeReg_canonical h hact ..

/-! #### The shared operations -/

@[simp] theorem undoLoad_canonical : (undoLoad s).trf.Canonical := by
  obtain ⟨hbeams, herrs, hmort, -⟩ := h
  exact ⟨hbeams, herrs, hmort, rfl, rfl, rfl, rfl, rfl, rfl⟩

@[simp] theorem bootFault_canonical : (bootFault s).trf.Canonical := by simp [bootFault, h]

/-! #### The tile register file -/

@[simp] theorem countCe_canonical (b : BitVec 20) (sym : Nat) : (countCe b sym s).trf.Canonical := by
  obtain ⟨hbeams, herrs, hmort, hbank, hlast, hlogged, hpos, hsyms, hclear⟩ := h
  unfold countCe
  dsimp only
  have hl (p : Bool) : (if p then s.trf.ceLogged.set false (bankIx b) true else s.trf.ceLogged).wf false = true := by
    split
    · exact SMap.wf_set _ hlogged _ _
    · exact hlogged
  rw [ite_trf, report_trf, ite_self]
  exact ⟨hbeams, herrs, hmort, SMap.wf_set _ hbank _ _, SMap.wf_set _ hlast _ _, hl _, hpos, hsyms, hclear⟩

@[simp] theorem ueInMort_canonical (r : Report) (i : BitVec 10) (b : BitVec 20) :
    (ueInMort r i b s).trf.Canonical := by
  unfold ueInMort
  dsimp only
  split <;> simp [h]

@[simp] theorem countUe_canonical (code : BitVec 8) (mort : Option (BitVec 10)) (pid : Option (BitVec 8)) (b : BitVec 20)
    (r : LineRead) : (countUe code mort pid b r s).trf.Canonical := by
  unfold countUe
  dsimp only
  split
  · refine ueInMort_canonical ?_ ..
    exact h
  · exact h

@[simp] theorem bankRead_canonical (code : BitVec 8) (i : BitVec 10) (pid : Option (BitVec 8)) (b : BitVec 20)
    (u : LineErr) : 
    (bankRead code i pid b u s).2.trf.Canonical := by
  have hs : (govEvent 14 1 (strike b u s)).trf.Canonical := strike_canonical h b u
  unfold bankRead
  dsimp only
  split
  · exact countUe_canonical hs ..
  · split
    · exact countCe_canonical hs ..
    · exact hs

/-! #### Range clear, scrub and debug reads -/

@[simp] theorem clearCommitted_canonical (i : BitVec 10) (beam : BitVec 20) (ofs : Nat) :
    (clearCommitted i beam ofs s).trf.Canonical := by
  obtain ⟨hbeams, herrs, hmort, hbank, hlast, hlogged, hpos, hsyms, hclear⟩ := h
  unfold clearCommitted
  split
  · exact ⟨hbeams, herrs, hmort, hbank, hlast, hlogged, hpos, hsyms,
      SMap.wf_set 0 hclear (clearKey i.toNat (bayIx beam)) (ofs + 1)⟩
  · exact ⟨hbeams, herrs, hmort, hbank, hlast, hlogged, hpos, hsyms, hclear⟩

@[simp] theorem clearForget_canonical (i : BitVec 10) : (clearForget i s).trf.Canonical := by
  obtain ⟨hbeams, herrs, hmort, hbank, hlast, hlogged, hpos, hsyms, hclear⟩ := h
  exact ⟨hbeams, herrs, hmort, hbank, hlast, hlogged, hpos, hsyms, SMap.wf_eraseRange _ hclear _ _⟩

@[simp] theorem noteSyms_canonical (k : Nat) (syms : List Nat) : (noteSyms k syms s).trf.Canonical := by
  obtain ⟨hbeams, herrs, hmort, hbank, hlast, hlogged, hpos, hsyms, hclear⟩ := h
  refine ⟨hbeams, herrs, hmort, hbank, hlast, hlogged, hpos, ?_, hclear⟩
  exact foldOver_keeps (fun m : SMap Nat => m.wf 0 = true) (f := fun y m => m.modify 0 (140 * k + y) (· + 1))
    (fun y m hm => SMap.wf_modify 0 hm _ _) syms hsyms

@[simp] theorem scrubLine_canonical (b : BitVec 20) (u : LineErr) : (scrubLine b u s).2.trf.Canonical := by
  have hs := noteSyms_canonical (s := govEvent 14 1 (strike b u s)) (strike_canonical h b u)
  unfold scrubLine
  dsimp only
  split
  · exact countUe_canonical (hs _ _) ..
  · split
    · exact countCe_canonical (hs _ _) ..
    · exact hs _ _

@[simp] theorem scrubBeat_canonical (bay : Fin 32) (j : Job) (u : LineErr) :
    (scrubBeat bay j u s).trf.Canonical :=
  by
  obtain ⟨hbeams, herrs, hmort, hbank, hlast, hlogged, hpos, hsyms, hclear⟩ := scrubLine_canonical h j.beam u
  exact ⟨hbeams, herrs, hmort, hbank, hlast, hlogged, SMap.wf_set 0 hpos bay.val (j.key + 1), hsyms, hclear⟩

@[simp] theorem scrubRestart_canonical : (scrubRestart s).trf.Canonical := by
  obtain ⟨hbeams, herrs, hmort, hbank, hlast, hlogged, hpos, hsyms, hclear⟩ := h
  exact ⟨hbeams, herrs, hmort, hbank, hlast, hlogged, rfl, rfl, hclear⟩

@[simp] theorem dbgFinishData_canonical (mort : BitVec 10) (b : BitVec 20) (upset : LineErr) :
    (dbgFinishData mort b upset s).trf.Canonical := by simp [dbgFinishData, h]

@[simp] theorem dbgFinishRaw_canonical (b : BitVec 20) (upset : LineErr) :
    (dbgFinishRaw b upset s).trf.Canonical := by simp [dbgFinishRaw, h]

@[simp] theorem debugBeat_canonical (upset : LineErr) : (debugBeat upset s).trf.Canonical := by
  unfold debugBeat
  split <;> simp [h]

/-! #### The mortise commands -/

@[simp] theorem toEmpty_canonical (i : BitVec 10) : (toEmpty i s).trf.Canonical := by simp [toEmpty, h]

@[simp] theorem applySignals_canonical (l : List (BitVec 10)) (i : BitVec 10) :
    (applySignals l i s).trf.Canonical := by
  unfold applySignals
  dsimp only
  split <;> simp [h]

@[simp] theorem applyReleases_canonical (l : List (BitVec 10)) (i : BitVec 10) :
    (applyReleases l i s).trf.Canonical := by
  unfold applyReleases
  dsimp only
  split <;> simp [h]

@[simp] theorem applyTokens_canonical (evs : List TokEvent) : (applyTokens evs s).trf.Canonical := by
  unfold applyTokens
  dsimp only
  rw [foldOver_trf fun r t => report_trf t r]
  exact foldOver_canonical (fun i t ht => applyReleases_canonical ht _ i) _
    (foldOver_canonical (fun i t ht => applySignals_canonical ht _ i) _ h)

@[simp] theorem mcmdCode_canonical (c : BitVec 8) : (mcmdCode c s).trf.Canonical := h
@[simp] theorem mcmdRefuse_canonical (c : BitVec 8) (i : BitVec 10) : (mcmdRefuse c i s).trf.Canonical := h
@[simp] theorem mortNop_canonical (i : BitVec 10) : (mortNop i s).trf.Canonical := h
@[simp] theorem mortRead_canonical (i : BitVec 10) : (mortRead i s).trf.Canonical := h

@[simp] theorem mortRegister_canonical (i : BitVec 10) : (mortRegister i s).trf.Canonical := by
  unfold mortRegister
  dsimp only
  split
  · refine mcmdCode_canonical ?_ 0
    split
    · exact modMort_canonical (setMort_canonical h _ _) _ _
    · exact setMort_canonical h _ _
  · exact mcmdRefuse_canonical h _ i

@[simp] theorem mortPairCmd_canonical {act : State → State} (hact : ∀ t, t.trf.Canonical → (act t).trf.Canonical)
    (i : BitVec 10) (refd extra : State → Bool) : (mortPairCmd i refd extra act s).trf.Canonical := by
  unfold mortPairCmd
  dsimp only
  repeat' split
  case isFalse.isFalse.isFalse.isFalse => exact hact _ (mcmdCode_canonical h 0)
  all_goals exact mcmdRefuse_canonical h _ i

@[simp] theorem mortFree_canonical (i : BitVec 10) : (mortFree i s).trf.Canonical :=
  mortPairCmd_canonical h (fun _ ht => modPair_canonical ht i _) ..

@[simp] theorem mortSetEmpty_canonical (i : BitVec 10) : (mortSetEmpty i s).trf.Canonical :=
  mortPairCmd_canonical h (fun _ ht => modPair_canonical ht i _) ..

@[simp] theorem mortSetFull_canonical (i : BitVec 10) : (mortSetFull i s).trf.Canonical :=
  mortPairCmd_canonical h (fun _ ht => modPair_canonical ht i _) ..

@[simp] theorem mortRetire_canonical (i : BitVec 10) : (mortRetire i s).trf.Canonical := by
  unfold mortRetire
  dsimp only
  repeat' split
  all_goals simp [h]

@[simp] theorem mortAckUe_canonical (i : BitVec 10) : (mortAckUe i s).trf.Canonical := by
  unfold mortAckUe
  dsimp only
  repeat' split
  all_goals simp [h]

@[simp] theorem mortClearPoison_canonical (i : BitVec 10) : (mortClearPoison i s).trf.Canonical :=
  mortPairCmd_canonical h (fun _ ht => modPair_canonical ht i _) ..

@[simp] theorem mcmdWord_canonical (v : W64) : (mcmdWord v s).trf.Canonical := by
  unfold mcmdWord
  dsimp only
  split
  · simp [h]
  · split <;> simp [h]

@[simp] theorem mcmdGate_canonical {act : State → State} (hact : ∀ t, t.trf.Canonical → (act t).trf.Canonical) :
    (mcmdGate act s).trf.Canonical := by
  unfold mcmdGate unlessBusy
  split
  · exact h
  · exact hact s h

theorem mcmd_canonical {act : State → State} (hact : ∀ t, t.trf.Canonical → (act t).trf.Canonical) (src : Src) :
    (mcmd src act s).trf.Canonical :=
  writeDropping_canonical h (fun _ ht => mcmdGate_canonical ht hact) ..

/-! #### The sinter units -/

@[simp] theorem sinterReadAt_canonical (k i : Nat) (upset : LineErr) :
    (sinterReadAt k i upset s).trf.Canonical :=
  by
  unfold sinterReadAt
  split <;> simp [h]

@[simp] theorem applyHead_canonical (k : Nat) (u : Update) (stored : Beam) (rest : List Update) :
    (applyHead k u stored rest s).trf.Canonical := by
  unfold applyHead
  dsimp only
  split <;> simp [h]

@[simp] theorem combineHead_canonical (k : Nat) (parity : Bool) : (combineHead k parity s).trf.Canonical := by
  unfold combineHead
  repeat' split
  all_goals simp [h]

/-! #### The layout unit -/

@[simp] theorem completeTransfer_canonical (n : Fin 8) :
    (completeTransfer n s).trf.Canonical := by simp [completeTransfer, h]

/-! #### The side-port arbiters -/

@[simp] theorem beatOf_canonical (g : Grant) (j : Job) (upset : LineErr) :
    (beatOf g j upset s).2.trf.Canonical :=
  by
  unfold beatOf
  split <;> simp [h]

@[simp] theorem burstBeat_canonical (b : Fin 32) (g : Grant) (j : Job) (js : List Job) (upset : LineErr) :
    (burstBeat b g j js upset s).trf.Canonical := by
  unfold burstBeat
  split <;> simp [h]

@[simp] theorem ownerBeat_canonical (b : Fin 32) (g : Grant) (upset : LineErr) :
    (ownerBeat b g upset s).trf.Canonical := by
  unfold ownerBeat
  repeat' split
  all_goals simp [h]

@[simp] theorem sideBeat_canonical (b : Fin 32) (upset : LineErr) : (sideBeat b upset s).trf.Canonical := by
  unfold sideBeat
  split <;> simp [h]

@[simp] theorem serveNow_canonical (b : Fin 32) (c : Client) (upset : LineErr) :
    (serveNow b c upset s).trf.Canonical := by simp [serveNow, h]

@[simp] theorem noteCommit_canonical (t : Staged) : (noteCommit t s).trf.Canonical := by
  unfold noteCommit
  split <;> simp [h]

@[simp] theorem commitOne_canonical (b : Fin 32) (t : Staged) : (commitOne b t s).trf.Canonical := by
  unfold commitOne
  split <;> simp [h]

/-! #### The operand truss -/

@[simp] theorem operandRead_canonical (n : Fin 4) (k : Nat) (st : Stream) (upset : LineErr) (parity : Bool) :
    (operandRead n k st upset parity s).trf.Canonical := by simp [operandRead, h]

@[simp] theorem readIndex_canonical (p : PSlot) (i : BitVec 10) (b base : Nat) (upset : LineErr) (parity : Bool) :
    (readIndex p i b base upset parity s).2.trf.Canonical := by
  unfold readIndex
  dsimp only
  split <;> simp [h]

@[simp] theorem gatherIndexRead_canonical (n : Fin 4) (k : Nat) (st : Stream) (upset : LineErr) (parity : Bool) :
    (gatherIndexRead n k st upset parity s).trf.Canonical := by simp [gatherIndexRead, h]

@[simp] theorem drainIndexRead_canonical (n : Fin 4) (port step : Nat) (upset : LineErr) (parity : Bool) :
    (drainIndexRead n port step upset parity s).trf.Canonical := by simp [drainIndexRead, h]

@[simp] theorem gatherReadDone_canonical (g : GRead) (upset : LineErr) (parity : Bool) :
    (gatherReadDone g upset parity s).trf.Canonical := by simp [gatherReadDone, h]

/-! #### The collective unit's operations -/

@[simp] theorem finishRun_canonical (r : CRun) : (finishRun r s).trf.Canonical := by simp [finishRun, h]

/-! #### The schedule engine -/

@[simp] theorem finishPhase_canonical (n : Fin 4) : (finishPhase n s).trf.Canonical := by
  simp [finishPhase, h]

/-! #### A running collective -/

@[simp] theorem applyNorm_canonical (sum : W64) (clip : BitVec 32) (bad : Bool) :
    (applyNorm sum clip bad s).trf.Canonical := by
  unfold applyNorm
  dsimp only
  split
  · exact h
  · split
    · simp [h]
    · exact finishRun_canonical (by simp [h]) _

@[simp] theorem normResult_canonical (r : CRun) : (normResult r s).trf.Canonical := by simp [normResult, h]

@[simp] theorem releaseBar_canonical : (releaseBar s).trf.Canonical := by
  unfold releaseBar
  split <;> simp [h]

@[simp] theorem crownBar_canonical : (crownBar s).trf.Canonical := by
  unfold crownBar
  split <;> simp [h]

@[simp] theorem ringBar_canonical (r : CRun) : (ringBar r s).trf.Canonical := by
  unfold ringBar
  split <;> simp [h]

@[simp] theorem barAdvance_canonical : (barAdvance s).trf.Canonical := by
  unfold barAdvance
  split <;> simp [h]

@[simp] theorem takeBarUp_canonical (src : BitVec 12) (stamp : BitVec 64) :
    (takeBarUp src stamp s).trf.Canonical := by simp [takeBarUp, h]

@[simp] theorem actOn_canonical (l : Fin 3) (r : CRun) (hd : Hdr) (p : Payload) (stamp : BitVec 64) :
    (actOn l r hd p stamp s).trf.Canonical := by
  unfold actOn
  split <;> simp [h]

@[simp] theorem takeCol_canonical (l : Fin 3) (hd : Hdr) (p : Payload) (stamp : BitVec 64) :
    (takeCol l hd p stamp s).trf.Canonical := by
  unfold takeCol
  repeat' split
  all_goals simp [h]

@[simp] theorem serveLink_canonical (l : Fin 3) : (serveLink l s).trf.Canonical := by
  unfold serveLink
  split
  · exact h
  · split
    · rw [ite_trf]
      exact ite_canonical (actOn_canonical (by exact h) ..) h
    · exact h

@[simp] theorem serveLinks_canonical : (serveLinks s).trf.Canonical :=
  foldUpTo_canonical (fun _ _ ht => foldOver_canonical (fun l _ hu => serveLink_canonical hu l) _ ht) 64 h

@[simp] theorem openRun_canonical (r : CRun) : (openRun r s).trf.Canonical := by
  unfold openRun
  dsimp only
  repeat' split
  all_goals simp [h]

@[simp] theorem startRun_canonical (q : CRec) : (startRun q s).trf.Canonical :=
  foldOver_canonical (fun _ _ ht => takeCol_canonical ht ..) _ (openRun_canonical (by simpa using h) _)

/-! #### The ring -/

@[simp] theorem ifCurrent_canonical {act : State → State} (hact : ∀ t, t.trf.Canonical → (act t).trf.Canonical)
    (hd : Hdr) : 
    (ifCurrent hd act s).trf.Canonical := by
  unfold ifCurrent
  split
  · exact hact s h
  · exact h

@[simp] theorem takeUnicast_canonical (l : Fin 3) (hd : Hdr) (p : Payload) :
    (takeUnicast l hd p s).trf.Canonical := by
  have hs : (countCol 3 s).trf.Canonical := h
  unfold takeUnicast
  dsimp only
  split
  · simp [h]
  · simp [h]
  · simp [h]
  · exact ifCurrent_canonical hs (fun _ ht => takeCol_canonical ht ..) _

@[simp] theorem roundTrip_canonical {act : State → State} (hact : ∀ t, t.trf.Canonical → (act t).trf.Canonical) (l : Fin 3)
    (hd : Hdr) (p : Payload) : (roundTrip l hd p act s).trf.Canonical := by
  unfold roundTrip
  split
  · exact h
  · exact hact _ (by simpa using h)

@[simp] theorem route_canonical (l : Fin 3) (hd : Hdr) (p : Payload) : (route l hd p s).trf.Canonical := by
  have hcol (t : State) (ht : t.trf.Canonical) : (ifCurrent hd (takeCol l hd p s.now) t).trf.Canonical :=
    ifCurrent_canonical ht (fun _ hu => takeCol_canonical hu ..) hd
  unfold route
  split
  · simp [h]
  · simp [h]
  · simp [h]
  · simp [h]
  · simp [h]
  · exact roundTrip_canonical h hcol ..
  · exact roundTrip_canonical h hcol ..
  · rw [ite_trf]
    exact ite_canonical (takeUnicast_canonical h ..) (by simpa using h)

theorem arrive_canonical {byp act : State → State} (hb : ∀ t, (byp t).trf = t.trf)
    (hact : ∀ t, t.trf.Canonical → (act t).trf.Canonical) (l : Fin 3) (p : Packet) :
    (arrive l p byp act s).trf.Canonical := by
  unfold arrive
  split_ifs
  · exact h
  · rw [hb]
    exact h
  · simpa using h
  · exact h
  · exact hact _ (by simpa using h)

@[simp] theorem recvPacket_canonical (l : Fin 3) (hd : Hdr) (p : Payload) (bad : BitVec 3) :
    (recvPacket l hd p bad s).trf.Canonical := by
  refine arrive_canonical h (fun t => closedPass_trf t ..) (fun t ht => ?_) l (hd, p)
  split
  · simpa using ht
  · exact route_canonical (by simpa using ht) ..

@[simp] theorem recvControl_canonical (l : Fin 3) (hd : Hdr) (p : Payload) (bad : Bool) :
    (recvControl l hd p bad s).trf.Canonical := by simp [recvControl, h]

/-! #### Scrub, CE_BANK and purge -/

@[simp] theorem setCeBank_canonical (n : Nat) (v : W64) : (setCeBank n v s).trf.Canonical := by
  obtain ⟨hbeams, herrs, hmort, hbank, hlast, hlogged, hpos, hsyms, hclear⟩ := h
  exact ⟨hbeams, herrs, hmort, SMap.wf_set 0 hbank n (field v 0 32), hlast, SMap.wf_set false hlogged n false, hpos, hsyms,
    hclear⟩

@[simp] theorem purgeStart_canonical : (purgeStart s).trf.Canonical := h

@[simp] theorem purgeLine_canonical (p : Nat × LineErr) : (purgeLine p s).trf.Canonical := by
  have hs : (s.onTrf fun t => { t with errs := t.errs.set {} (BitVec.ofNat 20 p.1).toNat p.2 }).trf.Canonical := by
    obtain ⟨hbeams, herrs, hmort, hbank, hlast, hlogged, hpos, hsyms, hclear⟩ := h
    exact ⟨hbeams, SMap.wf_set _ herrs _ _, hmort, hbank, hlast, hlogged, hpos, hsyms, hclear⟩
  unfold purgeLine
  dsimp only
  split
  · exact hs
  · split
    · exact countCe_canonical hs _ _
    · exact hs

@[simp] theorem purgeClear_canonical : (purgeClear s).trf.Canonical := by
  obtain ⟨hbeams, herrs, hmort, hbank, hlast, hlogged, hpos, hsyms, hclear⟩ := h
  refine ⟨rfl, rfl, ?_, hbank, hlast, hlogged, hpos, hsyms, rfl⟩
  show (if _ then [] else s.trf.mort.filter _ : SMap Mortise).wf {} = true
  split
  · rfl
  · exact SMap.wfFrom_filter _ hmort _

@[simp] theorem purgeLeave_canonical : (purgeLeave s).trf.Canonical := by
  unfold purgeLeave
  split
  · simp [h]
  · rw [ite_trf]
    exact ite_canonical (bootFault_canonical h) h
  · exact h

@[simp] theorem trfWrite_canonical (off : Nat) (v : W64) : (trfWrite off v s).trf.Canonical := by
  unfold trfWrite
  split
  case h_6 => exact mcmdGate_canonical h fun _ ht => mcmdWord_canonical ht v
  case h_8 =>
    split
    · exact setCeBank_canonical h _ v
    · exact h
  all_goals exact h

/-! #### Registers -/

@[simp] theorem regEffect_canonical (src : Src) (off : Nat) (v : W64) :
    (regEffect src off v s).trf.Canonical :=
  by
  unfold regEffect
  split <;> simp [h]

@[simp] theorem regWrite_canonical (src : Src) (off : Nat) (v : W64) : (regWrite src off v s).trf.Canonical :=
  by
  have hact (t : State) (ht : t.trf.Canonical) := regEffect_canonical ht src off v
  unfold regWrite
  split
  · split
    · exact writeUnless_canonical h (fun t => turnWrite_trf t ..) hact ..
    · exact writeDropping_canonical h hact ..
  · simpa using h

/-! #### Boot -/

@[simp] theorem bootFail_canonical : (bootFail s).trf.Canonical := by simp [bootFail, h]

@[simp] theorem trySlots_canonical (l : List (Fin 2)) : (trySlots l s).trf.Canonical := by
  induction l generalizing s with
  | nil => exact bootFail_canonical h
  | cons t ts ih =>
    unfold trySlots
    dsimp only
    split
    · exact h
    · exact ih (by simp [h])

@[simp] theorem nextSlot_canonical : (nextSlot s).trf.Canonical := by simp [nextSlot, h]

@[simp] theorem slotFail_canonical (code : BitVec 8) (at_ : Nat) :
    (slotFail code at_ s).trf.Canonical := by simp [slotFail, h]

@[simp] theorem readHeaders_canonical (h0 h1 : ImgHdr) : (readHeaders h0 h1 s).trf.Canonical := by
  refine trySlots_canonical ?_ _
  rw [foldOver_trf fun t u => ?_]
  · exact h
  · split <;> simp

@[simp] theorem takeTable_canonical (bytes : List Byte) : (takeTable bytes s).trf.Canonical := by
  unfold takeTable
  dsimp only
  repeat' split
  all_goals simp [h]

@[simp] theorem bootEffect_canonical (off : Nat) (v : W64) :
    (bootEffect off v s).trf.Canonical := by simp [bootEffect, h]

@[simp] theorem bootActive_canonical (off : Nat) (v : W64) : (bootActive off v s).trf.Canonical := h

@[simp] theorem bootReg_canonical (w v : W64) : (bootReg w v s).2.trf.Canonical := by
  unfold bootReg
  dsimp only
  repeat' split
  all_goals simp [h]

omit h in
/-- What is canonical of a pair's state is so of the state it is taken apart into. -/
theorem canonical_of_eq {b : Bool} {r : Bool × State} (hr : r.2.trf.Canonical) (e : r = (b, s)) :
    s.trf.Canonical := by
  subst e
  exact hr
@[simp] theorem takeByte_canonical (b : Byte) : (takeByte b s).trf.Canonical := by
  unfold takeByte
  dsimp only
  split
  · exact h
  · split
    · exact h
    · split
      · next heq =>
        refine slotFail_canonical (canonical_of_eq ?_ heq) ..
        split_ifs
        · simpa using h
        · exact h
        · exact bootReg_canonical (by exact h) ..
      · next u heq =>
        have hu : u.trf.Canonical := by
          refine canonical_of_eq ?_ heq
          split_ifs
          · simpa using h
          · exact h
          · exact bootReg_canonical (by exact h) ..
        split_ifs
        · exact hu
        · exact hu
        · simpa using hu
        · exact slotFail_canonical (by exact hu) ..

@[simp] theorem streamHeader_canonical : (streamHeader s).trf.Canonical := by
  unfold streamHeader
  dsimp only
  split
  · exact slotFail_canonical (by simpa using h) ..
  · simpa using h

@[simp] theorem streamLoad_canonical (o : Nat) (v : W64) : (streamLoad o v s).trf.Canonical := by
  unfold streamLoad
  dsimp only
  split
  · exact h
  · split_ifs
    · simpa using h
    · exact h
    · have hb := bootReg_canonical (s := s.onSeqr fun q => { q with begun := true }) h
        (BitVec.ofNat 64 (leNat s.aon.seqr.part)) v
      split
      · next heq => exact canonical_of_eq hb heq
      · next heq => exact slotFail_canonical (canonical_of_eq hb heq) ..

@[simp] theorem streamDone_canonical : (streamDone s).trf.Canonical := by
  unfold streamDone
  dsimp only
  split <;> simp [h]

@[simp] theorem streamWord_canonical (v : W64) : (streamWord v s).trf.Canonical := by
  unfold streamWord
  dsimp only
  split
  · rw [ite_trf]
    exact ite_canonical (streamHeader_canonical (by exact h)) h
  · rw [ite_trf]
    exact ite_canonical (takeTable_canonical (by exact h) _) h
  · exact streamDone_canonical (streamLoad_canonical (by exact h) ..)

@[simp] theorem fifoWrite_canonical (src : Src) (v : W64) : (fifoWrite src v s).trf.Canonical :=
  writeUnless_canonical h (fun _ => answer_trf ..) (fun _ ht => streamWord_canonical ht v) ..

@[simp] theorem streamTimeout_canonical : (streamTimeout s).trf.Canonical := by simp [streamTimeout, h]
@[simp] theorem leaveBoot_canonical : (leaveBoot s).trf.Canonical := by simp [leaveBoot, h]

@[simp] theorem windowWrite_canonical (src : Src) (off : Nat) (v : W64) :
    (windowWrite src off v s).trf.Canonical := by simp [windowWrite, h]

/-! #### Resets -/

@[simp] theorem mainReset_canonical : (mainReset s).trf.Canonical := by
  obtain ⟨hbeams, herrs, -⟩ := h
  exact ⟨hbeams, herrs, rfl, rfl, rfl, rfl, rfl, rfl, rfl⟩

@[simp] theorem toReset_canonical : (toReset s).trf.Canonical := by
  refine mainReset_canonical ?_
  rw [closeBypass_trf, setState_trf, latchAtReset_trf]
  exact h

omit h in
@[simp] theorem aonReset_canonical : (aonReset s).trf.Canonical :=
  ⟨rfl, rfl, rfl, rfl, rfl, rfl, rfl, rfl, rfl⟩

omit h in
@[simp] theorem powerOff_canonical : (powerOff s).trf.Canonical :=
  ⟨rfl, rfl, rfl, rfl, rfl, rfl, rfl, rfl, rfl⟩

@[simp] theorem mrstFall_canonical (chatter : Bool) : (mrstFall chatter s).trf.Canonical := by
  unfold mrstFall
  dsimp only
  rw [ite_trf]
  exact ite_canonical (toReset_canonical (by exact h)) h

@[simp] theorem pwrokLow_canonical (chatter : Bool) : (pwrokLow chatter s).trf.Canonical := by
  unfold pwrokLow
  dsimp only
  rw [ite_trf]
  refine ite_canonical (toReset_canonical ?_) ?_
  · exact h
  · exact h

@[simp] theorem measureClock_canonical (mhz : BitVec 16) : (measureClock mhz s).trf.Canonical := by
  unfold measureClock
  dsimp only
  rw [ite_trf, fatal_trf, ite_self, ite_trf]
  exact ite_canonical (undoLoad_canonical (by exact h)) h

@[simp] theorem enterBoot_canonical : (enterBoot s).trf.Canonical := by simp [enterBoot, h]

/-! #### The test controller -/

@[simp] theorem dftRise_canonical : (dftRise s).trf.Canonical := by
  unfold dftRise
  dsimp only
  rw [ite_trf]
  exact ite_canonical (toReset_canonical (by exact h)) h

/-! #### The instructions of the core -/

@[simp] theorem rvStore_canonical (k : Nat) (a v : W64) (len : Nat) (tag : BitVec 13) :
    (rvStore k a v len tag s).trf.Canonical := by
  unfold rvStore
  dsimp only
  repeat' split
  all_goals simp [h]

@[simp] theorem rvExec_canonical (w : BitVec 32) (bits : W64) (len : Nat) :
    (rvExec w bits len s).trf.Canonical :=
  by
  unfold rvExec
  repeat' split
  all_goals simp [h]

@[simp] theorem fetchExec_canonical : (fetchExec s).trf.Canonical := by
  unfold fetchExec
  dsimp only
  repeat' split
  all_goals simp [h]

/-! #### Side-port commands -/

@[simp] theorem readLacking_canonical (r : CRun) (ccw : Bool) (upset : LineErr) :
    (readLacking r ccw upset s).trf.Canonical := by
  unfold readLacking
  split
  · exact onlyIf_canonical (fun _ ht => serveLinks_canonical (serveNow_canonical ht ..)) h
  · exact h

/-! #### The vent commands -/

@[simp] theorem write64Op_canonical (v : BitVec 64) : (write64Op v s).trf.Canonical := by simp [write64Op, h]

end

end Sys2Proof.Machine
end

section
namespace Sys2Proof.Machine

/-! ### Every command and every step keeps the tables canonical -/

section
variable {s : State} (h : s.trf.Canonical)
include h

theorem noteBinding_canonical : (noteBinding s).trf.Canonical := by simpa using h

theorem advanceSlots_canonical : (advanceSlots s).trf.Canonical := by simpa using h

theorem execPurgeComplete_canonical (bad : List (Nat × LineErr)) :
    ∃ u, execPurgeComplete bad s = .next (settle u) ∧ u.trf.Canonical := by
  refine ⟨_, rfl, onlyIf_canonical (fun t ht => ?_) h⟩
  rw [purgeThenLeave_trf]
  exact purgeLeave_canonical (scrubRestart_canonical (foldOver_canonical (fun p _ hu => purgeLine_canonical hu p) bad
    (purgeClear_canonical ht)))

theorem execIndexRead_canonical (slot : Fin 4) (k : Nat) (upset : LineErr) (parity : Bool) :
    ∃ u, execIndexRead slot k upset parity s = .next (settle u) ∧ u.trf.Canonical := by
  refine ⟨_, rfl, advanceSlots_canonical ?_⟩
  split
  · exact onlyIf_canonical (fun _ ht => gatherIndexRead_canonical ht ..) h
  · dsimp only
    split
    · exact onlyIf_canonical (fun _ ht => drainIndexRead_canonical ht ..) h
    · exact h

theorem execGatherEntry_canonical (slot : Fin 4) (g : GatherTake) :
    ∃ u, execGatherEntry slot g s = .next (settle u) ∧ u.trf.Canonical := by
  refine ⟨_, rfl, advanceSlots_canonical ?_⟩
  split
  · split <;> simp [h]
  · exact h

theorem execStagingCommit_canonical (bay : Fin 32) :
    ∃ u, execStagingCommit bay s = .next (settle u) ∧ u.trf.Canonical := by
  refine ⟨_, rfl, ?_⟩
  split
  · refine onlyIf_canonical (fun t ht => ?_) h
    have hc (x : Staged) : (advanceTransfers (commitOne bay x t)).trf.Canonical := by
      rw [advanceTransfers_trf]
      exact commitOne_canonical ht ..
    dsimp only
    split
    · exact serveLinks_canonical (hc _)
    · exact hc _
  · exact h

theorem execCollectivePacketSend_canonical (ccw : Bool) (upset : LineErr) :
    ∃ u, execCollectivePacketSend ccw upset s = .next (settle u) ∧ u.trf.Canonical := by
  refine ⟨_, rfl, ?_⟩
  split
  · rw [sendNext_trf]
    exact readLacking_canonical h ..
  · exact h

theorem execCollectiveStart_canonical : ∃ u, execCollectiveStart s = .next (settle u) ∧ u.trf.Canonical := by
  refine ⟨_, rfl, ?_⟩
  split
  · split
    · simpa using h
    · exact onlyIf_canonical (fun _ ht => startRun_canonical ht _) h
  · exact h

theorem execIssueDelivery_canonical (slot : Fin 4) (k : Nat) :
    ∃ u, execIssueDelivery slot k s = .next (settle u) ∧ u.trf.Canonical := by
  refine ⟨_, rfl, noteBinding_canonical (advanceSlots_canonical ?_)⟩
  split
  · split_ifs <;> simp [h]
  · exact h

theorem execCap_canonical (e : Fin 16) (rec : BitVec 512) (parity : Bool) :
    ∃ u, execCap e rec parity s = .next (settle u) ∧ u.trf.Canonical := by
  refine ⟨_, rfl, advanceSlots_canonical (onlyIf_canonical (fun t ht => ?_) h)⟩
  split
  · split <;> simp [ht]
  · simpa using ht
  · exact ht

theorem execAck_canonical (e : Fin 16) (rec : BitVec 512) (parity : Bool) :
    ∃ u, execAck e rec parity s = .next (settle u) ∧ u.trf.Canonical := by
  refine ⟨_, rfl, advanceSlots_canonical (onlyIf_canonical (fun t ht => ?_) h)⟩
  dsimp only
  split
  · split <;> simp [ht]
  · split <;> simp [ht]
  · exact ht

theorem execCoreInstruction_canonical (upset : BitVec 2) :
    ∃ u, execCoreInstruction upset s = .next (settle u) ∧ u.trf.Canonical := by
  refine ⟨_, rfl, noteBinding_canonical (onlyIf_canonical (fun t ht => ?_) h)⟩
  split
  · simpa using ht
  · refine fetchExec_canonical ?_
    split
    · simpa using ht
    · exact ht

theorem moveCmd_canonical (kind : BitVec 2) (src : Src) (raw : W64) :
    ∃ u, moveCmd kind src raw s = .next (settle u) ∧ u.trf.Canonical :=
  ⟨_, rfl, onlyIf_canonical (fun _ ht => writeDropping_canonical ht
    (fun _ hu => onlyIf_canonical (fun _ hv => by simpa using hv) hu) ..) h⟩

theorem execRegisterWrite_canonical (src : Src) (off : BitVec 24) (v : Option (BitVec 64)) :
    ∃ u, execRegisterWrite src off v s = .next (settle u) ∧ u.trf.Canonical := by
  refine ⟨_, rfl, noteBinding_canonical ?_⟩
  split
  · exact windowWrite_canonical h ..
  · simpa using h

theorem withPec_canonical {act : State → State} (hact : ∀ t, t.trf.Canonical → (act t).trf.Canonical) (pec : Option Bool) :
    (withPec pec act s).trf.Canonical := by
  unfold withPec
  split
  · exact h
  · split
    · exact hact s h
    · simpa using h
    · rw [ite_trf]
      exact ite_canonical (by simpa using h) (hact s h)

theorem withCount_canonical {act : State → State} (hact : ∀ t, t.trf.Canonical → (act t).trf.Canonical) (count : BitVec 8)
    (n : Nat) : (withCount count n act s).trf.Canonical := by
  unfold withCount
  split
  · exact hact s h
  · exact h

end

/-- Every command ends in one settled state, and its tables are canonical where they were: the commands that change no
table by the frame lemmas, the others by the operations they are made of. -/
theorem exec_canonical {s : State} (h : s.trf.Canonical) (c : Instr) :
    ∃ u, exec c s = .next (settle u) ∧ u.trf.Canonical := by
  cases c with
  | vaonApplied =>
    exact ⟨_, rfl, onlyIf_canonical (fun _ _ => trfCanonical_reset) h⟩
  | arstDeassert | pwrokRise | clkSeChange | killPurgeStart | phaseWaitsSatisfied | backoffExpiry
  | railFallBeforePwrok =>
    exact ⟨_, rfl, onlyIf_canonical (fun _ ht => ht) h⟩
  | mrstAssert =>
    exact ⟨_, rfl, onlyIf_canonical (fun _ ht => mrstFall_canonical ht _) h⟩
  | pwrokFall =>
    exact ⟨_, rfl, onlyIf_canonical (fun _ ht => pwrokLow_canonical ht _) h⟩
  | clockMonitorMeasure =>
    exact ⟨_, rfl, onlyIf_canonical (fun _ ht => measureClock_canonical ht _) h⟩
  | bootEntry =>
    exact ⟨_, rfl, onlyIf_canonical (fun _ ht => enterBoot_canonical ht) h⟩
  | purgeComplete bad => exact execPurgeComplete_canonical h bad
  | bootComplete =>
    refine ⟨_, rfl, noteBinding_canonical (onlyIf_canonical (fun t ht => ?_) h)⟩
    rw [ite_trf]
    exact ite_canonical (leaveBoot_canonical ht) (bootFault_canonical ht)
  | indexRead slot k upset parity => exact execIndexRead_canonical h slot k upset parity
  | gatherEntry slot g => exact execGatherEntry_canonical h slot g
  | gatherRead =>
    refine ⟨_, rfl, advanceSlots_canonical ?_⟩
    split
    · exact onlyIf_canonical (fun _ ht => gatherReadDone_canonical ht ..) h
    · exact h
  | issueDelivery slot k => exact execIssueDelivery_canonical h slot k
  | cap e rec parity => exact execCap_canonical h e rec parity
  | ack e rec parity => exact execAck_canonical h e rec parity
  | sinterRead =>
    refine ⟨_, rfl, onlyIf_canonical (fun t ht => ?_) h⟩
    split
    · exact sinterReadAt_canonical ht ..
    · exact ht
  | sinterCombine =>
    exact ⟨_, rfl, advanceSlots_canonical (onlyIf_canonical (fun _ ht => combineHead_canonical ht ..) h)⟩
  | stagingCommit bay => exact execStagingCommit_canonical h bay
  | collectiveStart => exact execCollectiveStart_canonical h
  | collectivePacketSend ccw upset => exact execCollectivePacketSend_canonical h ccw upset
  | droopRelease =>
    refine ⟨_, rfl, noteBinding_canonical (onlyIf_canonical (fun t ht => ?_) h)⟩
    rw [inputRelease_trf droopBegin_trf fun _ => State.onAon_trf ..]
    exact ht
  | quenchRelease =>
    refine ⟨_, rfl, noteBinding_canonical (onlyIf_canonical (fun t ht => ?_) h)⟩
    rw [noteQuenchChat_trf, inputRelease_trf quenchBegin_trf fun _ => State.onAon_trf ..]
    exact ht
  | instanceCold => exact ⟨_, rfl, noteBinding_canonical (onlyIf_canonical (fun _ ht => ht) h)⟩
  | coreInstruction upset => exact execCoreInstruction_canonical h upset
  | registerPathStore =>
    exact ⟨_, rfl, noteBinding_canonical (onlyIf_canonical (fun _ ht => rvStore_canonical ht ..) h)⟩
  | moveTcmToTrf | moveTrfToTcm | moveMemToTcm | moveTcmToMem => exact moveCmd_canonical h ..
  | registerWrite src off v => exact execRegisterWrite_canonical h src off v
  | write64 =>
    exact ⟨_, rfl, noteBinding_canonical
      (withPec_canonical h (fun _ ht => withCount_canonical ht (fun _ hu => write64Op_canonical hu _) ..) _)⟩
  | mbistRun =>
    refine ⟨_, rfl, onlyIf_canonical (fun t ht => ?_) h⟩
    split
    · exact ht
    · simpa using ht
  | slotHeadersRead =>
    exact ⟨_, rfl, onlyIf_canonical (fun _ ht => readHeaders_canonical ht ..) h⟩
  | sectionTableRead =>
    exact ⟨_, rfl, onlyIf_canonical (fun _ ht => takeTable_canonical ht _) h⟩
  | sectionDataReceived =>
    exact ⟨_, rfl, onlyIf_canonical (fun _ ht => foldOver_canonical (fun b _ hu => takeByte_canonical hu b) _ ht) h⟩
  | slotUndoComplete =>
    exact ⟨_, rfl, onlyIf_canonical (fun _ ht => nextSlot_canonical (undoLoad_canonical ht)) h⟩
  | bootStreamTimeout =>
    exact ⟨_, rfl, onlyIf_canonical (fun _ ht => streamTimeout_canonical ht) h⟩
  | mcmdNop =>
    exact ⟨_, rfl, mcmd_canonical h (fun _ ht => mortNop_canonical ht _) _⟩
  | mcmdRead =>
    exact ⟨_, rfl, mcmd_canonical h (fun _ ht => mortRead_canonical ht _) _⟩
  | mcmdWrite =>
    exact ⟨_, rfl, mcmd_canonical h (fun _ ht => mortRegister_canonical ht _) _⟩
  | mcmdFree =>
    exact ⟨_, rfl, mcmd_canonical h (fun _ ht => mortFree_canonical ht _) _⟩
  | mcmdSetEmpty =>
    exact ⟨_, rfl, mcmd_canonical h (fun _ ht => mortSetEmpty_canonical ht _) _⟩
  | mcmdSetFull =>
    exact ⟨_, rfl, mcmd_canonical h (fun _ ht => mortSetFull_canonical ht _) _⟩
  | mcmdRetire =>
    exact ⟨_, rfl, mcmd_canonical h (fun _ ht => mortRetire_canonical ht _) _⟩
  | mcmdAckUe =>
    exact ⟨_, rfl, mcmd_canonical h (fun _ ht => mortAckUe_canonical ht _) _⟩
  | mcmdClearPoison =>
    exact ⟨_, rfl, mcmd_canonical h (fun _ ht => mortClearPoison_canonical ht _) _⟩
  | mcmdReserved =>
    exact ⟨_, rfl, onlyIf_canonical (fun _ ht => mcmd_canonical ht (fun _ hu => mcmdWord_canonical hu _) _) h⟩
  | rangeClearComplete =>
    exact ⟨_, rfl, onlyIf_canonical (fun _ ht => clearForget_canonical (modMort_canonical ht ..) _) h⟩
  | scrubRead =>
    exact ⟨_, rfl, onlyIf_canonical (fun _ ht => serveNow_canonical (by exact ht) ..) h⟩
  | scrubPassComplete =>
    exact ⟨_, rfl, onlyIf_canonical
      (fun _ ht => scrubRestart_canonical (by rw [foldOver_trf fun k t => report_trf t _]; exact ht)) h⟩
  | ceBankWrite =>
    exact ⟨_, rfl, writeReg_canonical h (fun _ ht => setCeBank_canonical ht ..) ..⟩
  | operandRead =>
    refine ⟨_, rfl, ?_⟩
    split
    · exact onlyIf_canonical (fun _ ht => operandRead_canonical ht ..) h
    · exact h
  | recordAdmit | transferSlotEntry | memWriteBeat | memTimeout | preemption | collectiveTokenTimeout
  | progressTimeout | moveComplete | woCompletion =>
    refine ⟨_, rfl, ?_⟩
    split <;> simp [h]
  | phaseFinish =>
    exact ⟨_, rfl, onlyIf_canonical (fun _ ht => finishPhase_canonical ht _) h⟩
  | transferComplete =>
    exact ⟨_, rfl, onlyIf_canonical (fun _ ht => completeTransfer_canonical ht _) h⟩
  | normResult =>
    refine ⟨_, rfl, ?_⟩
    split
    · exact onlyIf_canonical (fun _ ht => normResult_canonical ht _) h
    · exact h
  | collectiveComplete =>
    refine ⟨_, rfl, ?_⟩
    split
    · exact onlyIf_canonical (fun _ ht => finishRun_canonical ht _) h
    · exact h
  | apertureStore =>
    exact ⟨_, rfl, onlyIf_canonical (fun _ ht => rvStore_canonical ht ..) h⟩
  | shadowRegisterWrite =>
    exact ⟨_, rfl, onlyIf_canonical (fun _ ht => regWrite_canonical ht ..) h⟩
  | debugReadComplete =>
    refine ⟨_, rfl, ?_⟩
    split
    · exact onlyIf_canonical (fun _ ht => serveNow_canonical ht ..) h
    · exact h
  | dftModeAssert =>
    exact ⟨_, rfl, onlyIf_canonical (fun _ ht => dftRise_canonical ht) h⟩
  | budgetReservedSub =>
    exact ⟨_, rfl, onlyIf_canonical (fun _ ht => recvControl_canonical ht ..) h⟩
  | vaonRemoved | arstAssert | mrstDeassert | flashDiscovery | discoveryRetry | bootFifoWrite | hostCmdNop
  | hostPause | hostResume | hostKill | hostCmdReserved | bsNop | bsValidate | bsInvalidate | bsReserved
  | braceWordWrite | braceSetSwitch | operandCredit | drain | abortRecordSend | drainNetworkEntry | epPresentRise
  | epPresentFall | epFaultAssert | trainingTimeout | operandStallTimeout | drainStallTimeout | abortAckTimeout
  | portCmdNop | portRetrain | portOffline | portOnline | portCmdReserved | portResetEnd | sinterUpdateEnqueue
  | sequencerRelease | sinterHotQueue | tallyFoldComplete | tallyNop | tallyClear | tallyFold | tallyCmdReserved
  | sntHotWrite | phPush | phStat | tokRead | phAbort | schPush | admissionCheck | phaseStart | phaseTokenTimeout
  | interiorBoundary | phaseAbortComplete | schNop | schAbort | schAbortSlot | schFlush | schQresume
  | schCmdReserved | laySubmit | transferWaitsSatisfied | tileBufferGrant | transferTokenTimeout
  | transferAbortComplete | layNop | layAbort | layFlush | layCmdReserved | memRequestAccept | memReadBeat
  | memWriteResponse | sidePortBeat | arbitrationDecision | data | join | propose | commit | leave | refuse
  | normUp | normDown | barUp | barDown | abort | dieReport | crownCommit | take | taken | give | given
  | reservedPacket | linkCreditReturn | bypassForward | joinRetry | joinCommitTimeout | epochPropose | colNop
  | colSubmit | colAbort | colFlush | colJoin | colLeave | colCmdReserved | hierCfgWrite | governorEvaluation
  | perfAckFall | perfAckRise | perfAckFallTimeout | perfAckRiseTimeout | sensorRefresh | thermInAssert
  | thermInRelease | droopAssert | inputStuckTimeout | quenchAssert | quenchLatch | staggerEnd | rampStep
  | hintExpiry | trimEvaluation | pathMonitorZero | coreException | coreInterrupt | mret | wfi | fence
  | registerPathLoad | apertureLoad | watchdogExpiry | wdogKick | hostClaim | hostRelease | ringConfigWrite
  | doorbell | woRecords | woDescs | woCollectives | woFence | woNop | woRefused | setAddr | read64 | status
  | mboxPut | mboxGet | ventReservedCommand | alertResponse | smbusClockLowTimeout | inDone | outPost | cfgNop
  | raise | force | cancel | sync | cfgRaiseReserved | raiseApply | errNop | pop | clear | errCmdReserved | dbgNop
  | dataRead | raw | dbgCmdReserved | dftModeDeassert | bondTest | mbistResult | mtaRead | monRead | pwrTest
  | tapBypass | rootclkStop | reservedDrainKind | proposalUnanswered => exact ⟨_, rfl, by simp [h]⟩

/-- One BCLK keeps the tables: all it changes in the tile register file is BUSY. -/
theorem tick_canonical {s : State} (h : s.trf.Canonical) : (tick s).trf.Canonical := by
  have hb (t : State) (ht : t.trf.Canonical) : (tickBusy t).trf.Canonical := by
    unfold tickBusy
    split
    · exact ht
    · exact ht
  have hm (t : State) (ht : t.trf.Canonical) : (tickMain t).trf.Canonical := by
    unfold tickMain
    dsimp only
    rw [ite_trf, tickGov_trf, tickEvents_trf, tickPaths_trf, tickQueues_trf, tickSched_trf, tickWaits_trf, ite_self,
      tickWdog_trf]
    exact hb _ (by simpa using ht)
  unfold tick
  dsimp only
  split
  · exact h
  · rw [ite_trf]
    exact ite_canonical (hm _ (by simpa using h)) (by simpa using h)

/-- Settles O10: every command is made of operations that keep the tables canonical, and so does settling. -/
theorem trfCommandsKeepTheCanonicalForm : Obligations.TrfCommandsKeepTheCanonicalForm := by
  have hexec (c : Instr) (s t : State) (h : TrfCanonical s) (ht : exec c s = .next t) : TrfCanonical t := by
    obtain ⟨u, hu, hc⟩ := exec_canonical h c
    obtain rfl : settle u = t := by simpa [hu] using ht
    exact settle_canonical hc
  refine ⟨trfCanonical_reset, hexec, fun s t h ht => ?_⟩
  cases hp : s.pending with
  | nil =>
    rw [step_of_empty s hp |>.1] at ht
    obtain rfl : settle (noteBinding (tick s)) = t := by simpa using ht
    exact settle_canonical (noteBinding_canonical (tick_canonical h))
  | cons c cs =>
    have hs : step s = exec c { s with pending := cs } := by simp [step, hp]
    exact hexec c { s with pending := cs } t h (hs ▸ ht)

end Sys2Proof.Machine
end


section
namespace Sys2Proof.Machine

/-! ### The gate of MCMD_CMD (R81) -/

section
variable {src : Src} {i : BitVec 10} {s : State}

/-- The commands that MCMD_CMD takes, each one run behind its gate. -/
theorem exec_mcmd {c : Instr}
    (hc : c ∈ [Instr.mcmdNop src i, .mcmdRead src i, .mcmdWrite src i, .mcmdFree src i, .mcmdSetEmpty src i,
      .mcmdSetFull src i, .mcmdRetire src i, .mcmdAckUe src i, .mcmdClearPoison src i]) :
    ∃ act, ∀ s, exec c s = done (mcmd src act s) := by
  simp only [List.mem_cons, List.not_mem_nil, or_false] at hc
  rcases hc with rfl | rfl | rfl | rfl | rfl | rfl | rfl | rfl | rfl <;> exact ⟨_, fun _ => rfl⟩

/-- While BUSY a command is dropped with LOST. -/
theorem mcmd_busy (hw : Writes src .host s) (hb : s.trf.mbusy = true) (act : State → State) :
    mcmd src act s = (answer src .ok 0 s).onTrf fun t => { t with mlost := true } := by
  rw [mcmd, hb, writeDropping_of_writes (writeVerdict_of_writes hw _)]
  simp [mcmdGate, unlessBusy, hb]

/-- Else it runs, and BUSY is set. -/
theorem mcmd_idle (hw : Writes src .host s) (hb : s.trf.mbusy = false) (act : State → State) :
    mcmd src act s = (act (accept src 0x20110 s)).onTrf fun t => { t with mbusy := true } := by
  rw [mcmd, hb, writeDropping_false, writeReg_of_writes hw]
  simp [mcmdGate, unlessBusy, hb]

/-- A change of the tile register file after an answered access raises nothing. -/
theorem settle_accept_onTrf (hs : Settled s) (off : Nat) (f : Trf → Trf) :
    settle ((accept src off s).onTrf f) = (accept src off s).onTrf f := by
  refine settle_same hs ?_ ?_ ?_ ?_ ?_ ?_ ?_ (meip_congr ?_ ?_ ?_ ?_ ?_ ?_ ?_ ?_ ?_ ?_) ?_ <;>
    simp [hs.1.1, hs.1.2]

/-- The same of an access that its unit drops. -/
theorem settle_answer_onTrf (hs : Settled s) (a : Answer) (v : W64) (f : Trf → Trf) :
    settle ((answer src a v s).onTrf f) = (answer src a v s).onTrf f := by
  refine settle_same hs ?_ ?_ ?_ ?_ ?_ ?_ ?_ (meip_congr ?_ ?_ ?_ ?_ ?_ ?_ ?_ ?_ ?_ ?_) ?_ <;>
    simp [hs.1.1, hs.1.2]

/-- A command written while BUSY. -/
theorem exec_mcmd_busy (hs : Settled s) (hw : Writes src .host s) (hb : s.trf.mbusy = true) {c : Instr}
    (hc : c ∈ [Instr.mcmdNop src i, .mcmdRead src i, .mcmdWrite src i, .mcmdFree src i, .mcmdSetEmpty src i,
      .mcmdSetFull src i, .mcmdRetire src i, .mcmdAckUe src i, .mcmdClearPoison src i]) :
    exec c s = .next ((answer src .ok 0 s).onTrf fun t => { t with mlost := true }) := by
  obtain ⟨act, hact⟩ := exec_mcmd hc
  rw [hact, mcmd_busy hw hb, done, settle_answer_onTrf hs]

/-! ### Commands that are not refused -/

/-- A command whose effect is one on the tile register file of the answered access. -/
theorem done_mcmd (hs : Settled s) (hw : Writes src .host s) (hb : s.trf.mbusy = false) {act : State → State}
    {f : Trf → Trf} (h : act (accept src 0x20110 s) = (accept src 0x20110 s).onTrf f) :
    done (mcmd src act s) = .next ((accept src 0x20110 s).onTrf fun t => { f t with mbusy := true }) := by
  rw [mcmd_idle hw hb, h]
  exact congrArg Host.Outcome.next (settle_accept_onTrf hs _ fun t => { f t with mbusy := true })

/-- A command that changes the halves of a pair. -/
theorem mortiseDone_of_modPair {c : Instr} {act : State → State} {f : Mortise → Mortise} (hs : Settled s)
    (hw : Writes src .host s) (hb : s.trf.mbusy = false) (hc : exec c s = done (mcmd src act s))
    (hf : ∀ e, f (f e) = f e) (h : act (accept src 0x20110 s) = modPair i f (mcmdCode 0 (accept src 0x20110 s))) :
    Completes c s (MortiseDone src i f s) := by
  have hp : pairOf (mcmdCode 0 (accept src 0x20110 s)) i = pairOf s i := pairOf_accept src 0x20110 s i
  have hm (j : BitVec 10) : mortAt (mcmdCode 0 (accept src 0x20110 s)) j = mortAt s j := mortAt_accept src 0x20110 s j
  refine ⟨_, hc.trans (done_mcmd (f := fun t => { t with code := 0, mort := (act (accept src 0x20110 s)).trf.mort })
    hs hw hb ?_), rfl, fun j hj => ?_, fun j hj => ?_⟩
  · rw [h]
    exact modPair_frame i f _
  · rw [h]
    exact (mortAt_modPair_in hf _ (hp ▸ hj)).trans (congrArg f (hm j))
  · rw [h]
    exact (mortAt_modPair_out f _ (hp ▸ hj)).trans (hm j)

/-- Of an entry that is no twin the pair is the entry. -/
theorem modPair_of_single {i : BitVec 10} {s : State} (h : (mortAt s i).twinV = false) (f : Mortise → Mortise) :
    modPair i f s = modMort i f s := by simp [modPair, pairOf, h]

theorem Mortise.valid_iff (e : Mortise) : e.valid = true ↔ (e.st == .invalid) = false ∧ (e.st == .retired) = false := by
  simp [Mortise.valid]

/-- A command that changes a pair and that nothing refuses. -/
theorem mortPairCmd_runs {refd extra : State → Bool} (act : State → State) (hv : (mortAt s i).valid = true)
    (hr : refd s = false) (he : extra s = false) : mortPairCmd i refd extra act s = act (mcmdCode 0 s) := by
  obtain ⟨h1, h2⟩ := (Mortise.valid_iff _).1 hv
  simp [mortPairCmd, h1, h2, hr, he]

/-- With no reference but its own range clear's an entry has no other. -/
theorem otherRefs_eq_zero {j : BitVec 10} (h : mortRefs s j = 0) : otherRefs s j = 0 := by simp [otherRefs, h]

/-- The twin that WRITE names is another entry (R83). -/
theorem twin_ne_of_writeCheck {e : Mortise} (h : writeCheck s i e = 0) (ht : e.twinV = true) : e.twin ≠ i := by
  have hok : twinOk s i e = true := by
    by_contra hn
    simp [writeCheck, ht, Bool.eq_false_iff.2 hn] at h
    split at h <;> try contradiction
    split at h <;> try contradiction
    split at h <;> try contradiction
    split at h <;> contradiction
  intro he
  simp [twinOk, he] at hok

@[simp] theorem mortAt_mcmdCode (c : BitVec 8) (s : State) (i : BitVec 10) : mortAt (mcmdCode c s) i = mortAt s i := by rfl

/-- WRITE that passes the checks changes the code and the table alone. -/
theorem mortRegister_frame (h : writeCheck s i (newEntry s.trf.w0 s.trf.w1) = 0) :
    mortRegister i s = s.onTrf fun t => { t with code := 0, mort := (mortRegister i s).trf.mort } := by
  simp only [mortRegister, h, if_true]
  split <;> rfl

/-- It registers the entry. -/
theorem mortAt_mortRegister_same (h : writeCheck s i (newEntry s.trf.w0 s.trf.w1) = 0) :
    mortAt (mortRegister i s) i = newEntry s.trf.w0 s.trf.w1 := by
  simp only [mortRegister, h, if_true, mortAt_mcmdCode]
  split
  · next ht => rw [mortAt_modMort_other _ _ (twin_ne_of_writeCheck h ht).symm, mortAt_setMort_same]
  · exact mortAt_setMort_same _ _ _

/-- Where it makes a twin, the partner names the entry as its own. -/
theorem mortAt_mortRegister_twin (h : writeCheck s i (newEntry s.trf.w0 s.trf.w1) = 0)
    (ht : (newEntry s.trf.w0 s.trf.w1).twinV = true) :
    mortAt (mortRegister i s) (newEntry s.trf.w0 s.trf.w1).twin =
      { mortAt s (newEntry s.trf.w0 s.trf.w1).twin with twin := i, twinV := true } := by
  simp only [mortRegister, h, if_true, mortAt_mcmdCode, ht]
  rw [mortAt_modMort_same, mortAt_setMort_other _ _ (twin_ne_of_writeCheck h ht)]

/-- Every other entry stays. -/
theorem mortAt_mortRegister_other {j : BitVec 10} (h : writeCheck s i (newEntry s.trf.w0 s.trf.w1) = 0) (hj : j ≠ i)
    (ht : (newEntry s.trf.w0 s.trf.w1).twinV = false ∨ j ≠ (newEntry s.trf.w0 s.trf.w1).twin) :
    mortAt (mortRegister i s) j = mortAt s j := by
  simp only [mortRegister, h, if_true, mortAt_mcmdCode]
  split
  · next hv => rw [mortAt_modMort_other _ _ (ht.resolve_left (by simp [hv])), mortAt_setMort_other _ _ hj]
  · exact mortAt_setMort_other _ _ hj

end

/-- NOP and READ. -/
theorem nop_and_read_take_effect {src : Src} (i : BitVec 10) {s : State} (hs : Settled s) (hw : Writes src .host s)
    (hb : s.trf.mbusy = false) :
    exec (.mcmdNop src i) s = .next ((accept src 0x20110 s).onTrf fun t => { t with code := 0, mbusy := true }) ∧
    exec (.mcmdRead src i) s = .next ((accept src 0x20110 s).onTrf fun t =>
      { t with code := 0, mbusy := true, w0 := (mortAt s i).w0, w1 := mortW1 s i, refs := satNat 12 (mortRefs s i) }) := by
  refine ⟨done_mcmd (f := fun t => { t with code := 0 }) hs hw hb rfl, done_mcmd (f := fun t =>
    { t with code := 0, w0 := (mortAt s i).w0, w1 := mortW1 s i, refs := satNat 12 (mortRefs s i) }) hs hw hb ?_⟩
  simp only [mortRead, mcmdCode, mortAt_accept, mortW1_accept, mortRefs_accept]
  rfl

/-- The commands that change the halves of a pair. -/
theorem pair_commands_take_effect (src : Src) (i : BitVec 10) {s : State} (hs : Settled s) (hw : Writes src .host s)
    (hb : s.trf.mbusy = false) (hv : (mortAt s i).valid = true) :
    (pairRefd s i = false → Completes (.mcmdFree src i) s (MortiseDone src i
      (fun e => { e with st := .invalid, poison := false, uePend := false, poisonSeq := none }) s)) ∧
    (pairRefd s i = false → Completes (.mcmdSetEmpty src i) s (MortiseDone src i (fun e =>
      { e with pleft := e.pcount, cleft := e.ccount, st := if e.clear then .clearing else .empty,
               poison := e.poison && !e.clear, poisonSeq := if e.clear then none else e.poisonSeq }) s)) ∧
    ((∀ j ∈ pairOf s i, mortRefs s j = 0 ∧ (mortAt s j).st ≠ .clearing) →
      Completes (.mcmdSetFull src i) s (MortiseDone src i
        (fun e => { e with st := .full, pleft := 0, cleft := e.ccount }) s)) ∧
    (mortRefs s i = 0 → (mortAt s i).twinV = false →
      Completes (.mcmdRetire src i) s (MortiseDone src i (fun e => { e with st := .retired }) s)) ∧
    Completes (.mcmdAckUe src i) s (MortiseDone src i (fun e => { e with uePend := false }) s) ∧
    (pairRefd s i = false → pairUe s i = false → Completes (.mcmdClearPoison src i) s
      (MortiseDone src i (fun e => { e with poison := false, poisonSeq := none }) s)) := by
  have hva : (mortAt (accept src 0x20110 s) i).valid = true := by rwa [mortAt_accept]
  obtain ⟨h1, h2⟩ := (Mortise.valid_iff _).1 hv
  refine ⟨fun hr => mortiseDone_of_modPair hs hw hb rfl (fun _ => rfl) ?_,
    fun hr => mortiseDone_of_modPair hs hw hb rfl (fun e => ?_) ?_,
    fun hr => mortiseDone_of_modPair hs hw hb rfl (fun _ => rfl) ?_,
    fun hr ht => mortiseDone_of_modPair hs hw hb rfl (fun _ => rfl) ?_,
    mortiseDone_of_modPair hs hw hb rfl (fun _ => rfl) ?_,
    fun hr hu => mortiseDone_of_modPair hs hw hb rfl (fun _ => rfl) ?_⟩
  · exact mortPairCmd_runs _ hva (by simpa using hr) rfl
  · cases e.clear <;> simp
  · exact mortPairCmd_runs _ hva (by simpa using hr) rfl
  · refine mortPairCmd_runs _ hva ?_ ?_
    · simpa using fun j hj => otherRefs_eq_zero (hr j hj).1
    · simpa using fun j hj => (hr j hj).2
  · rw [modPair_of_single (by exact (mortAt_accept src _ s i).symm ▸ ht)]
    simp [mortRetire, h1, h2, hr, ht]
  · simp [mortAckUe, h1, h2]
  · exact mortPairCmd_runs _ hva (by simpa using hr) (by simpa using hu)

/-- WRITE that passes the checks registers the entry, and its partner where it makes a twin. -/
theorem write_takes_effect (src : Src) (i : BitVec 10) {s : State} (hs : Settled s) (hw : Writes src .host s)
    (hb : s.trf.mbusy = false) (hc : writeCheck s i (newEntry s.trf.w0 s.trf.w1) = 0) :
    Completes (.mcmdWrite src i) s fun t =>
      t = (accept src 0x20110 s).onTrf (fun r => { r with code := 0, mbusy := true, mort := t.trf.mort }) ∧
      mortAt t i = newEntry s.trf.w0 s.trf.w1 ∧
      (bitAt s.trf.w0 58 = true → mortAt t (field s.trf.w0 48 10) =
        { mortAt s (field s.trf.w0 48 10) with twin := i, twinV := true }) ∧
      ∀ j, j ≠ i → (bitAt s.trf.w0 58 = false ∨ j ≠ field s.trf.w0 48 10) → mortAt t j = mortAt s j := by
  have ha : writeCheck (accept src 0x20110 s) i
      (newEntry (accept src 0x20110 s).trf.w0 (accept src 0x20110 s).trf.w1) = 0 := by simpa using hc
  refine ⟨_, done_mcmd (act := mortRegister i) (f := fun t =>
    { t with code := 0, mort := (mortRegister i (accept src 0x20110 s)).trf.mort }) hs hw hb (mortRegister_frame ha),
    rfl, (mortAt_mortRegister_same ha).trans (by simp), fun ht => ?_, fun j hj ht => ?_⟩
  · have h := mortAt_mortRegister_twin ha (by rw [trf_accept]; exact ht)
    rw [trf_accept, mortAt_accept] at h
    exact h
  · have h := mortAt_mortRegister_other ha hj (by rw [trf_accept]; exact ht)
    rw [mortAt_accept] at h
    exact h

/-- Settles O6: behind the gate of MCMD_CMD each command is an operation on the mortise table. -/
theorem mortiseCommandsTakeEffect : Obligations.MortiseCommandsTakeEffect := by
  unfold Obligations.MortiseCommandsTakeEffect
  refine ⟨fun src i s hs hw => ⟨fun hb => nop_and_read_take_effect i hs hw hb, fun hb c hc => exec_mcmd_busy hs hw hb hc⟩,
    fun src i s hs hw hb hv => pair_commands_take_effect src i hs hw hb hv,
    fun src i s hs hw hb hc => write_takes_effect src i hs hw hb hc⟩

end Sys2Proof.Machine
end

section
namespace Sys2Proof.Machine

/-! ### Refused mortise commands (R78, R79, R99, R100) -/

section
variable {src : Src} {i : BitVec 10} {s : State}

/-- A refusal's report leaves the tile register file to the end of the command. -/
theorem settle_mcmdRefuse_trf (hs : Settled s) {code : BitVec 8} (hf : isFatalCode code = false) :
    (settle ((mcmdRefuse code i (accept src 0x20110 s)).onTrf fun r => { r with mbusy := true })).trf =
      { s.trf with code := code, mbusy := true } := by
  have hc : Calm s ((mcmdRefuse code i (accept src 0x20110 s)).onTrf fun r => { r with mbusy := true }) :=
    ⟨by simpa [mcmdRefuse, report, mcmdCode, hf] using hs.1.2, by simp [mcmdRefuse, report, mcmdCode],
      by simp [mcmdRefuse, report, mcmdCode], by simp [mcmdRefuse, report, mcmdCode],
      by simp [mcmdRefuse, report, mcmdCode]⟩
  rw [hc.settle_eq hs, wakeCore_trf,
    flushLog_trf (r := { code := code, mort := some i, loc := i.setWidth 64 }) ?_ rfl]
  · simp [mcmdRefuse, report, mcmdCode]
  · simp [mcmdRefuse, report, mcmdCode, hs.1.1, hf]

/-- A command that ends in a refusal reports the code and changes no entry. -/
theorem mortiseRefused_of_refuse {c : Instr} {act : State → State} {code : BitVec 8} (hs : Settled s)
    (hw : Writes src .host s) (hb : s.trf.mbusy = false) (hc : exec c s = done (mcmd src act s))
    (h : act (accept src 0x20110 s) = mcmdRefuse code i (accept src 0x20110 s)) (hf : isFatalCode code = false) :
    Completes c s (MortiseRefused src i code s) := by
  have ht := settle_mcmdRefuse_trf (src := src) (i := i) hs hf
  refine ⟨_, hc.trans (by rw [mcmd_idle hw hb, h]; rfl), rfl, ?_, fun j => ?_⟩
  · rw [ht]
  · rw [mortAt, ht]; rfl

/-! The refusals of the commands on a pair, in the order of the checks. -/

section
variable {refd extra : State → Bool} {act : State → State}

theorem mortPairCmd_invalid (h : (mortAt s i).st = .invalid) : mortPairCmd i refd extra act s = mcmdRefuse 0x08 i s := by
  simp [mortPairCmd, h]

theorem mortPairCmd_retired (h : (mortAt s i).st = .retired) : mortPairCmd i refd extra act s = mcmdRefuse 0x07 i s := by
  simp [mortPairCmd, h]

theorem mortPairCmd_refd (hv : (mortAt s i).valid = true) (hr : refd s = true) :
    mortPairCmd i refd extra act s = mcmdRefuse 0x0B i s := by
  obtain ⟨h1, h2⟩ := (Mortise.valid_iff _).1 hv
  simp [mortPairCmd, h1, h2, hr]

theorem mortPairCmd_extra (hv : (mortAt s i).valid = true) (hr : refd s = false) (he : extra s = true) :
    mortPairCmd i refd extra act s = mcmdRefuse 0x08 i s := by
  obtain ⟨h1, h2⟩ := (Mortise.valid_iff _).1 hv
  simp [mortPairCmd, h1, h2, hr, he]

end

theorem mortRegister_refuses (h : writeCheck s i (newEntry s.trf.w0 s.trf.w1) ≠ 0) :
    mortRegister i s = mcmdRefuse (writeCheck s i (newEntry s.trf.w0 s.trf.w1)) i s := by
  simp only [mortRegister, if_neg h]

/-- Of a RETIRED entry WRITE reports that (R99). -/
theorem writeCheck_retired (h : (mortAt s i).st = .retired) (e : Mortise) : writeCheck s i e = 0x07 := by
  simp [writeCheck, h]

/-- The codes of WRITE's refusals are those of 14's mortise errors, none of them Fatal. -/
theorem writeCheck_not_fatal (s : State) (i : BitVec 10) (e : Mortise) : isFatalCode (writeCheck s i e) = false := by
  unfold writeCheck
  dsimp only
  split
  · rfl
  split
  · rfl
  split
  · rfl
  split
  · rfl
  split <;> rfl

end

section
variable (src : Src) (i : BitVec 10) {s : State} (hs : Settled s) (hw : Writes src .host s) (hb : s.trf.mbusy = false)
include hs hw hb

/-- WRITE is refused with the code of the first check that fails (R79). -/
theorem write_refused (h : writeCheck s i (newEntry s.trf.w0 s.trf.w1) ≠ 0) :
    Completes (.mcmdWrite src i) s (MortiseRefused src i (writeCheck s i (newEntry s.trf.w0 s.trf.w1)) s) := by
  refine mortiseRefused_of_refuse hs hw hb rfl ?_ (writeCheck_not_fatal s i _)
  rw [mortRegister_refuses (by simpa using h)]
  simp

/-- The commands that need a registered entry refuse one that is INVALID, and one that is RETIRED. -/
theorem unregistered_refused {c : Instr} (hc : c ∈ [Instr.mcmdFree src i, .mcmdSetEmpty src i, .mcmdSetFull src i,
      .mcmdRetire src i, .mcmdAckUe src i, .mcmdClearPoison src i]) :
    ((mortAt s i).st = .invalid → Completes c s (MortiseRefused src i 0x08 s)) ∧
      ((mortAt s i).st = .retired → Completes c s (MortiseRefused src i 0x07 s)) := by
  have ha : mortAt (accept src 0x20110 s) i = mortAt s i := mortAt_accept ..
  simp only [List.mem_cons, List.not_mem_nil, or_false] at hc
  refine ⟨fun h => ?_, fun h => ?_⟩ <;> rcases hc with rfl | rfl | rfl | rfl | rfl | rfl
  · exact mortiseRefused_of_refuse hs hw hb rfl (mortPairCmd_invalid (ha ▸ h)) rfl
  · exact mortiseRefused_of_refuse hs hw hb rfl (mortPairCmd_invalid (ha ▸ h)) rfl
  · exact mortiseRefused_of_refuse hs hw hb rfl (mortPairCmd_invalid (ha ▸ h)) rfl
  · exact mortiseRefused_of_refuse hs hw hb rfl (by simp [mortRetire, h]) rfl
  · exact mortiseRefused_of_refuse hs hw hb rfl (by simp [mortAckUe, h]) rfl
  · exact mortiseRefused_of_refuse hs hw hb rfl (mortPairCmd_invalid (ha ▸ h)) rfl
  · exact mortiseRefused_of_refuse hs hw hb rfl (mortPairCmd_retired (ha ▸ h)) rfl
  · exact mortiseRefused_of_refuse hs hw hb rfl (mortPairCmd_retired (ha ▸ h)) rfl
  · exact mortiseRefused_of_refuse hs hw hb rfl (mortPairCmd_retired (ha ▸ h)) rfl
  · exact mortiseRefused_of_refuse hs hw hb rfl (by simp [mortRetire, h]) rfl
  · exact mortiseRefused_of_refuse hs hw hb rfl (by simp [mortAckUe, h]) rfl
  · exact mortiseRefused_of_refuse hs hw hb rfl (mortPairCmd_retired (ha ▸ h)) rfl

variable (hv : (mortAt s i).valid = true)
include hv

/-- A referenced entry or partner refuses the commands that need the pair to be free. -/
theorem referenced_refused (hr : pairRefd s i = true) {c : Instr}
    (hc : c ∈ [Instr.mcmdFree src i, .mcmdSetEmpty src i, .mcmdClearPoison src i]) :
    Completes c s (MortiseRefused src i 0x0B s) := by
  have hva : (mortAt (accept src 0x20110 s) i).valid = true := by rwa [mortAt_accept]
  have hra : pairRefd (accept src 0x20110 s) i = true := by rwa [pairRefd_accept]
  simp only [List.mem_cons, List.not_mem_nil, or_false] at hc
  rcases hc with rfl | rfl | rfl <;> exact mortiseRefused_of_refuse hs hw hb rfl (mortPairCmd_refd hva hra) rfl

theorem setFull_referenced_refused (hr : ∃ j ∈ pairOf s i, otherRefs s j ≠ 0) :
    Completes (.mcmdSetFull src i) s (MortiseRefused src i 0x0B s) :=
  mortiseRefused_of_refuse hs hw hb rfl (mortPairCmd_refd (by simpa using hv) (by simpa using hr)) rfl

theorem setFull_clearing_refused (hr : ∀ j ∈ pairOf s i, otherRefs s j = 0)
    (hc : ∃ j ∈ pairOf s i, (mortAt s j).st = .clearing) :
    Completes (.mcmdSetFull src i) s (MortiseRefused src i 0x08 s) :=
  mortiseRefused_of_refuse hs hw hb rfl
    (mortPairCmd_extra (by simpa using hv) (by simpa using hr) (by simpa using hc)) rfl

theorem retire_twin_refused (ht : (mortAt s i).twinV = true) :
    Completes (.mcmdRetire src i) s (MortiseRefused src i 0x0A s) := by
  obtain ⟨h1, h2⟩ := (Mortise.valid_iff _).1 hv
  exact mortiseRefused_of_refuse hs hw hb rfl (by simp [mortRetire, h1, h2, ht]) rfl

theorem retire_referenced_refused (ht : (mortAt s i).twinV = false) (hr : mortRefs s i ≠ 0) :
    Completes (.mcmdRetire src i) s (MortiseRefused src i 0x0B s) := by
  obtain ⟨h1, h2⟩ := (Mortise.valid_iff _).1 hv
  exact mortiseRefused_of_refuse hs hw hb rfl (by simp [mortRetire, h1, h2, ht, hr]) rfl

theorem clearPoison_ue_refused (hr : pairRefd s i = false) (hu : pairUe s i = true) :
    Completes (.mcmdClearPoison src i) s (MortiseRefused src i 0x08 s) :=
  mortiseRefused_of_refuse hs hw hb rfl (mortPairCmd_extra (by simpa using hv) (by simpa using hr) (by simpa using hu)) rfl

end

/-- A reserved word of MCMD_CMD is refused whatever entry it names. -/
theorem reserved_word_refused (src : Src) {raw : BitVec 64} {s : State} (hs : Settled s) (hw : Writes src .host s)
    (hb : s.trf.mbusy = false) (hr : mcmdReservedWord raw = true) :
    Completes (.mcmdReserved src raw) s (MortiseRefused src (field raw 16 10) 0x08 s) :=
  mortiseRefused_of_refuse (act := mcmdWord raw) hs hw hb (congrArg done (onlyIf_pos _ _ hr)) (by simp [mcmdWord, hr]) rfl

/-- Settles O7: each check of R78 and R79 that fails ends the command in the one refusal. -/
theorem refusedMortiseCommandsChangeNoEntry : Obligations.RefusedMortiseCommandsChangeNoEntry := by
  unfold Obligations.RefusedMortiseCommandsChangeNoEntry
  refine ⟨fun src i s hs hw => ⟨fun hb c hc => exec_mcmd_busy hs hw hb hc, fun hb =>
    ⟨write_refused src i hs hw hb, fun hr => ?_, fun c hc => unregistered_refused src i hs hw hb hc, fun hv =>
      ⟨fun hr c hc => referenced_refused src i hs hw hb hv hr hc, setFull_referenced_refused src i hs hw hb hv,
        setFull_clearing_refused src i hs hw hb hv, retire_twin_refused src i hs hw hb hv,
        retire_referenced_refused src i hs hw hb hv, clearPoison_ue_refused src i hs hw hb hv⟩⟩⟩,
    fun src raw s hs hw hb hr => reserved_word_refused src hs hw hb hr⟩
  have hc := writeCheck_retired hr (newEntry s.trf.w0 s.trf.w1)
  exact hc ▸ write_refused src i hs hw hb (by rw [hc]; decide)

end Sys2Proof.Machine
end

section
namespace Sys2Proof.Machine

/-! ### A token event at a chain of twins (R82, R84) -/

/-- Entry 0 names entry 1 as its twin, and entry 1 names entry 2, which is no twin and waits for no signal. -/
def chainedTwins : State :=
  State.reset.onTrf fun t => { t with mort :=
    [(0, { st := .empty, twinV := true, twin := 1, pleft := 1 }),
     (1, { st := .empty, twinV := true, twin := 2, pleft := 1 }),
     (2, { st := .empty })] }

/-- A signal to both halves of entry 0's pair. -/
def signalChain : TokEvent := { release := false, idx := 0, pair := true, rep := { code := 0x32 } }

/-- Entry 2 is outside the pair that the event names. -/
theorem chain_outside_pair : (2 : BitVec 10) ∉ pairOf chainedTwins signalChain.idx := by decide

/-- The signal that entry 1 counts makes its own pair FULL, and so entry 2. -/
theorem chain_fills_outside : (mortAt (applyTokens [signalChain] chainedTwins) 2).st = .full := by decide

theorem chain_empty_before : (mortAt chainedTwins 2).st = .empty := by decide

/-- Refutes O41: its frame clause, which asks for no twins that name each other, fails where entry 0's twin names a
third entry: a signal to 0 and 1 makes 1 and 2 FULL, and 2 is not in the pair of 0. -/
theorem not_endsApplyTheirTokens : ¬ Obligations.EndsApplyTheirTokens := by
  unfold Obligations.EndsApplyTheirTokens
  intro h
  have hframe := (h.2 signalChain chainedTwins).1 2 chain_outside_pair
  have hst := congrArg Mortise.st hframe
  rw [chain_fills_outside, chain_empty_before] at hst
  exact absurd hst (by decide)

end Sys2Proof.Machine
end

section
namespace Sys2Proof.Machine

/-! ### Token events change the mortise table and raise reports alone -/

section
variable {s t : State} {ps : List Part}

/-- A fold changes what its steps change. -/
theorem foldOver_onlyIn {α : Type} {f : α → State → State} (h : ∀ a t, OnlyIn ps t (f a t)) (l : List α) (s : State) :
    OnlyIn ps s (foldOver l f s) :=
  foldOver_keeps (fun t => OnlyIn ps s t) (fun a t ht => ht.trans (h a t)) l (OnlyIn.refl s)

theorem modMort_onlyIn (i : BitVec 10) (f : Mortise → Mortise) (s : State) : OnlyIn [.trf] s (modMort i f s) :=
  ⟨rfl, fun p hp => by cases p <;> simp_all [SamePart, modMort, setMort]⟩

theorem modPair_onlyIn (i : BitVec 10) (f : Mortise → Mortise) (s : State) : OnlyIn [.trf] s (modPair i f s) :=
  foldOver_onlyIn (fun _ _ => modMort_onlyIn ..) _ s

theorem applySignals_onlyIn (l : List (BitVec 10)) (i : BitVec 10) (s : State) :
    OnlyIn [.trf] s (applySignals l i s) := by
  unfold applySignals
  dsimp only
  split
  · exact (modMort_onlyIn ..).trans (modPair_onlyIn ..)
  · exact modMort_onlyIn ..

theorem applyReleases_onlyIn (l : List (BitVec 10)) (i : BitVec 10) (s : State) :
    OnlyIn [.trf] s (applyReleases l i s) := by
  unfold applyReleases
  dsimp only
  split
  · exact (modPair_onlyIn ..).trans (modPair_onlyIn ..)
  · exact modPair_onlyIn ..

theorem applyTokens_onlyIn (evs : List TokEvent) (s : State) : OnlyIn [.trf, .log] s (applyTokens evs s) := by
  unfold applyTokens
  refine .trans (foldOver_onlyIn (fun i t => ?_) _ _) (.trans (foldOver_onlyIn (fun i t => ?_) _ _)
    (foldOver_onlyIn (fun r t => ?_) _ _))
  · exact (applySignals_onlyIn _ i t).mono (by simp)
  · exact (applyReleases_onlyIn _ i t).mono (by simp)
  · exact (report_onlyIn r t).mono (by simp)

theorem applyTokens_layout (evs : List TokEvent) (s : State) : (applyTokens evs s).layout = s.layout :=
  (applyTokens_onlyIn evs s).2 .layout (by simp)

theorem modMort_beams (i : BitVec 10) (f : Mortise → Mortise) (s : State) :
    (modMort i f s).trf.beams = s.trf.beams := by rfl

theorem modPair_beams (i : BitVec 10) (f : Mortise → Mortise) (s : State) :
    (modPair i f s).trf.beams = s.trf.beams := by rw [modPair_frame]; rfl

/-- Token events move no beam. -/
theorem applyTokens_beams (evs : List TokEvent) (s : State) : (applyTokens evs s).trf.beams = s.trf.beams := by
  unfold applyTokens
  dsimp only
  rw [foldOver_same (fun t : State => t.trf.beams) (fun r t => by simp),
    foldOver_same (fun t : State => t.trf.beams) (fun i t => ?_),
    foldOver_same (fun t : State => t.trf.beams) (fun i t => ?_)]
  · unfold applySignals
    dsimp only
    split
    · rw [modPair_beams, modMort_beams]
    · exact modMort_beams ..
  · unfold applyReleases
    dsimp only
    split
    · exact (modPair_beams ..).trans (modPair_beams ..)
    · exact modPair_beams ..

end

/-! ### One transfer slot (R228) -/

section
variable (n : Fin 8) {m : Fin 8} (s : State)

theorem slot_onLSlot_same (f : LSlot → LSlot) : (s.onLSlot n f).layout.slot[n] = f s.layout.slot[n] :=
  (vmod_getElem ..).trans (if_pos rfl)

theorem slot_onLSlot_other (f : LSlot → LSlot) (h : m ≠ n) : (s.onLSlot n f).layout.slot[m] = s.layout.slot[m] :=
  (vmod_getElem ..).trans (if_neg h.symm)

end

/-- What a transfer keeps while it goes on in its slot. -/
def LSlot.kept (p : LSlot) : LState × BitVec 32 × BitVec 32 × Desc × Bool := (p.st, p.clip, p.ticket, p.desc, p.buffered)

/-- From s to t the other slots stay as they are, and slot n goes on with the transfer it holds. -/
structure SameTransfer (n : Fin 8) (s t : State) : Prop where
  others : ∀ m, m ≠ n → t.layout.slot[m] = s.layout.slot[m]
  kept : t.layout.slot[n].kept = s.layout.slot[n].kept

section
variable {n : Fin 8} {s t : State}

theorem SameTransfer.refl : SameTransfer n s s := ⟨fun _ _ => rfl, rfl⟩

section
variable (h : SameTransfer n s t)
include h

theorem SameTransfer.st : t.layout.slot[n].st = s.layout.slot[n].st := congrArg (·.1) h.kept
theorem SameTransfer.clip : t.layout.slot[n].clip = s.layout.slot[n].clip := congrArg (·.2.1) h.kept
theorem SameTransfer.ticket : t.layout.slot[n].ticket = s.layout.slot[n].ticket := congrArg (·.2.2.1) h.kept
theorem SameTransfer.desc : t.layout.slot[n].desc = s.layout.slot[n].desc := congrArg (·.2.2.2.1) h.kept
theorem SameTransfer.buffered : t.layout.slot[n].buffered = s.layout.slot[n].buffered := congrArg (·.2.2.2.2) h.kept

/-- Progress within the slot leaves the transfer the same. -/
theorem SameTransfer.onLSlot {f : LSlot → LSlot} (hf : ∀ p, (f p).kept = p.kept) : SameTransfer n s (t.onLSlot n f) where
  others _ hm := (slot_onLSlot_other n t f hm).trans (h.others _ hm)
  kept := by rw [slot_onLSlot_same, hf, h.kept]

theorem SameTransfer.countLay (i k : Nat) : SameTransfer n s (countLay i k t) := ⟨h.others, h.kept⟩

theorem SameTransfer.report (r : Report) : SameTransfer n s (report r t) := ⟨h.others, h.kept⟩

theorem SameTransfer.noteOob (i oob : Nat) : SameTransfer n s (noteOob n i oob t) :=
  (h.onLSlot fun p => by rfl).countLay _ _

theorem SameTransfer.noteDropped (k : Nat) : SameTransfer n s (noteDropped n k t) := by
  unfold Machine.noteDropped
  dsimp only
  split
  · exact h
  · split
    · exact (h.onLSlot fun p => by rfl).countLay _ _
    · exact ((h.onLSlot fun p => by rfl).countLay _ _).report _

theorem SameTransfer.buildFill : SameTransfer n s (buildFill n t) := (h.onLSlot fun p => by rfl).noteOob _ _

theorem SameTransfer.buildStore : SameTransfer n s (buildStore n t) :=
  (((h.onLSlot fun p => by rfl).noteDropped _).noteOob _ _).countLay _ _

theorem SameTransfer.buildCopy : SameTransfer n s (buildCopy n t) := h.onLSlot fun _ => rfl

theorem SameTransfer.buildGroup : SameTransfer n s (buildGroup n t) := by
  unfold Machine.buildGroup
  dsimp only
  split
  · split
    · exact h.buildFill
    · split
      · exact h.buildStore
      · exact h.buildCopy
  · exact h

theorem SameTransfer.nextGroup : SameTransfer n s (nextGroup n t) := by
  unfold Machine.nextGroup
  dsimp only
  split
  · exact h.onLSlot fun _ => rfl
  · exact h

end

/-- What a transfer does by itself leaves it the same transfer. -/
theorem advanceTransfer_same : SameTransfer n s (advanceTransfer n s) :=
  SameTransfer.refl.buildGroup.nextGroup.buildGroup.nextGroup

end

/-! ### A transfer that leaves its slot (R226, R231) -/

section
variable (n : Fin 8) (code : BitVec 8) (s : State)

theorem leaveLSlot_slot : (leaveLSlot n code s).layout.slot[n] = {} := slot_onLSlot_same ..

theorem leaveLSlot_last : (leaveLSlot n code s).layout.last = layLast s.layout.slot[n] code := by rfl

theorem leaveLSlot_other {m : Fin 8} (h : m ≠ n) : (leaveLSlot n code s).layout.slot[m] = s.layout.slot[m] :=
  slot_onLSlot_other _ _ _ h

/-- The tokens of a transfer that completes leave the layout unit alone, so that the slot it leaves is the one it had. -/
theorem completeTransfer_layout : (completeTransfer n s).layout =
    { s.layout with
      count := bump s.layout.count 1 1, last := layLast s.layout.slot[n] 0, slot := vmod s.layout.slot n fun _ => {}
      event := if Desc.irq s.layout.slot[n].desc then s.layout.event ||| 1 else s.layout.event } := by
  have hl := applyTokens_layout (layEvents s n) s
  unfold completeTransfer
  generalize applyTokens (layEvents s n) s = t at hl
  simp only [countLay, leaveLSlot, State.onLayout, State.onLSlot, hl]

/-- A transfer that is aborted. -/
theorem abortTransfer_layout (hf : s.layout.slot[n].st ≠ .free) (ha : s.layout.slot[n].st ≠ .abort) :
    (abortTransfer n code s).layout =
      { s.layout with
        lastCode := code, event := s.layout.event ||| 2
        slot := vmod s.layout.slot n fun p =>
          { p with st := .abort, ending := true, abortCode := code, held := [], rgran := [], wgran := [] } } := by
  rw [abortTransfer, if_neg (by simp [-Fin.getElem_fin, hf, ha])]
  rfl

theorem completeTransfer_beams : (completeTransfer n s).trf.beams = s.trf.beams := by
  simp [completeTransfer, applyTokens_beams]

end

section
variable {n : Fin 8} {s : State}

/-- An event whose condition holds completes with what it does, settled. -/
theorem completes_onlyIf {c : Instr} {cond : Bool} {f : State → State} {post : State → Prop}
    (hc : exec c s = done (onlyIf cond f s)) (h : cond = true) (hpost : post (settle (f s))) : Completes c s post :=
  ⟨_, hc.trans (congrArg done (onlyIf_pos f s h)), hpost⟩

theorem transferSlotEntry_enters {q : LRec} (hq : nextDesc s = some q) (hn : freeLSlot s = some n)
    (hl : isLive s = true) : Completes .transferSlotEntry s fun t =>
      t.layout.queue = s.layout.queue.filter (fun r => r.ticket != q.ticket) ∧
        t.layout.slot[n] = { st := .wait, ticket := q.ticket, desc := q.desc, main := q.main, scale := q.scale } ∧
        ∀ m, m ≠ n → t.layout.slot[m] = s.layout.slot[m] := by
  refine completes_onlyIf (cond := isLive s) (f := enterLSlot n q) ?_ hl ?_
  · show execTransferSlotEntry s = _
    simp only [execTransferSlotEntry, hq, hn]
  · rw [settle_layout]
    exact ⟨rfl, slot_onLSlot_same .., fun m hm => slot_onLSlot_other _ _ _ hm⟩

theorem transferWaitsSatisfied_accepts (hw : layWaitsMet s n = true)
    (hc : Desc.sor s.layout.slot[n].desc = true →
      scalable (Desc.fmt s.layout.slot[n].desc) = true ∧ clipOk s.sinter.clip = true) :
    Completes (.transferWaitsSatisfied n) s fun t =>
      t.layout.slot[n].st = (if Desc.needsBuffer s s.layout.slot[n].desc then .buffer else .move) ∧
      t.layout.slot[n].clip = s.sinter.clip ∧ t.layout.slot[n].ticket = s.layout.slot[n].ticket ∧
      t.layout.slot[n].desc = s.layout.slot[n].desc ∧ ∀ m, m ≠ n → t.layout.slot[m] = s.layout.slot[m] := by
  refine completes_onlyIf (f := acceptTransfer n) rfl hw ?_
  have hno : (Desc.sor s.layout.slot[n].desc && !(scalable (Desc.fmt s.layout.slot[n].desc) && clipOk s.sinter.clip)) =
      false := by
    cases hd : Desc.sor s.layout.slot[n].desc with
    | false => rfl
    | true => rw [(hc hd).1, (hc hd).2]; rfl
  rw [settle_layout]
  simp only [acceptTransfer, hno, Bool.false_eq_true, if_false]
  refine ⟨advanceTransfer_same.st.trans ?_, advanceTransfer_same.clip.trans ?_, advanceTransfer_same.ticket.trans ?_,
    advanceTransfer_same.desc.trans ?_, fun m hm => (advanceTransfer_same.others m hm).trans (slot_onLSlot_other _ _ _ hm)⟩
  all_goals rw [slot_onLSlot_same]

theorem transferWaitsSatisfied_refuses (hw : layWaitsMet s n = true) (hd : Desc.sor s.layout.slot[n].desc = true)
    (hc : (scalable (Desc.fmt s.layout.slot[n].desc) && clipOk s.sinter.clip) = false) :
    Completes (.transferWaitsSatisfied n) s fun t =>
      t.layout.slot[n] = {} ∧ t.layout.last = layLast s.layout.slot[n] 0x22 ∧ t.layout.lastCode = 0x22 ∧
      t.layout.event = s.layout.event ||| 4 ∧ ∀ m, m ≠ n → t.layout.slot[m] = s.layout.slot[m] := by
  refine completes_onlyIf (f := acceptTransfer n) rfl hw ?_
  have hyes : (Desc.sor s.layout.slot[n].desc && !(scalable (Desc.fmt s.layout.slot[n].desc) && clipOk s.sinter.clip)) =
      true := by rw [hd, hc]; rfl
  rw [settle_layout]
  simp only [acceptTransfer, hyes, if_true]
  exact ⟨leaveLSlot_slot n 0x22 s, rfl, rfl, rfl, fun m hm => leaveLSlot_other n 0x22 s hm⟩

theorem tileBufferGrant_grants (hst : s.layout.slot[n].st = .buffer) (hu : buffersUsed s < 4) (hl : isLive s = true)
    (he : s.aon.st = .ember → Desc.isStore s.layout.slot[n].desc = true) :
    Completes (.tileBufferGrant n) s fun t =>
      t.layout.slot[n].st = .move ∧ t.layout.slot[n].buffered = true ∧
      t.layout.slot[n].ticket = s.layout.slot[n].ticket ∧ ∀ m, m ≠ n → t.layout.slot[m] = s.layout.slot[m] := by
  refine completes_onlyIf
    (f := fun s => advanceTransfer n (s.onLSlot n fun p => { p with st := .move, buffered := true })) rfl ?_ ?_
  · by_cases h : s.aon.st = .ember <;> simp [-Fin.getElem_fin, hst, hu, hl, h, he]
  · rw [settle_layout]
    refine ⟨advanceTransfer_same.st.trans ?_, advanceTransfer_same.buffered.trans ?_,
      advanceTransfer_same.ticket.trans ?_,
      fun m hm => (advanceTransfer_same.others m hm).trans (slot_onLSlot_other _ _ _ hm)⟩
    all_goals rw [slot_onLSlot_same]

theorem transferComplete_completes (ho : transferOver s n = true) : Completes (.transferComplete n) s fun t =>
    t.layout.slot[n] = {} ∧ t.layout.last = layLast s.layout.slot[n] 0 ∧
    t.layout.event = (if Desc.irq s.layout.slot[n].desc then s.layout.event ||| 1 else s.layout.event) ∧
    t.trf.beams = s.trf.beams ∧ ∀ m, m ≠ n → t.layout.slot[m] = s.layout.slot[m] := by
  refine completes_onlyIf (f := completeTransfer n) rfl ho ?_
  rw [settle_layout, settle_beams]
  rw [completeTransfer_layout]
  exact ⟨(vmod_getElem ..).trans (if_pos rfl), rfl, rfl, completeTransfer_beams n s,
    fun m hm => (vmod_getElem ..).trans (if_neg hm.symm)⟩

theorem transferTokenTimeout_aborts (hr : s.aon.st = .run) (hst : s.layout.slot[n].st = .wait)
    (ht : s.trf.tokTimeout ≠ 0) (hp : layPending s n ≠ 0) : Completes (.transferTokenTimeout n) s fun t =>
      t.layout.slot[n].st = .abort ∧ t.layout.slot[n].abortCode = 0x49 ∧ t.layout.lastCode = 0x49 ∧
      t.layout.event = s.layout.event ||| 2 ∧ ∀ m, m ≠ n → t.layout.slot[m] = s.layout.slot[m] := by
  refine completes_onlyIf
    (f := fun t => abortTransfer n 0x49 (report (layAbortReport 0x49 n.val s.layout.slot[n].ticket) t))
    rfl (by simpa [-Fin.getElem_fin, hr, hst] using ⟨ht, hp⟩) ?_
  rw [settle_layout, abortTransfer_layout n 0x49 _ (by exact hst ▸ nofun) (by exact hst ▸ nofun)]
  refine ⟨?_, ?_, rfl, rfl, fun m hm => (vmod_getElem ..).trans (if_neg hm.symm)⟩
  · exact congrArg LSlot.st ((vmod_getElem ..).trans (if_pos rfl))
  · exact congrArg LSlot.abortCode ((vmod_getElem ..).trans (if_pos rfl))

theorem transferAbortComplete_leaves (hu : unitsOn s = true) (hst : s.layout.slot[n].st = .abort)
    (hm : memBusy s n = false) (hf : flyingKeys s (.transfer n) = []) : Completes (.transferAbortComplete n) s fun t =>
      t.layout.slot[n] = {} ∧ t.layout.last = layLast s.layout.slot[n] s.layout.slot[n].abortCode ∧
      t.trf.beams = s.trf.beams ∧ ∀ m, m ≠ n → t.layout.slot[m] = s.layout.slot[m] := by
  refine completes_onlyIf (f := leaveLSlot n s.layout.slot[n].abortCode) rfl (by simp [-Fin.getElem_fin, hu, hst, hm, hf]) ?_
  rw [settle_layout, settle_beams]
  exact ⟨leaveLSlot_slot .., rfl, rfl, fun m hm => leaveLSlot_other _ _ _ hm⟩

end

/-- Settles O43: each event of a transfer, under its condition, changes its own slot alone. -/
theorem transfersMoveThroughTheirSlots : Obligations.TransfersMoveThroughTheirSlots := by
  unfold Obligations.TransfersMoveThroughTheirSlots
  refine ⟨fun s _ => ⟨fun q n hq hn hl => transferSlotEntry_enters hq hn hl, fun n =>
    ⟨transferWaitsSatisfied_accepts, transferWaitsSatisfied_refuses, tileBufferGrant_grants,
      transferComplete_completes⟩⟩, fun n s _ => ⟨transferTokenTimeout_aborts, transferAbortComplete_leaves⟩⟩

end Sys2Proof.Machine
end

section
namespace Sys2Proof.Machine

/-! ### What settling leaves of the tile register file and of the staging buffers -/

section
variable (s : State)

/-- The committing buffers of a bay (R244). -/
def State.bufs (s : State) (b : Fin 32) : List (List Staged) := s.arb.bay[b].bufs

theorem bufs_of_arb {s t : State} (h : t.arb = s.arb) : t.bufs = s.bufs := by
  funext b; simp [State.bufs, h]

theorem stopUnadmitted_bufs : (stopUnadmitted s).bufs = s.bufs := by
  funext b
  simp only [State.bufs, stopUnadmitted, State.onArb, Fin.getElem_fin, Vector.getElem_map]
  split
  · split <;> rfl
  · rfl

theorem setState_bufs (b : BlkState) : (setState b s).bufs = s.bufs := by
  unfold setState
  split
  · rfl
  · exact (bufs_of_arb rfl).trans ((stopUnadmitted_bufs _).trans (bufs_of_arb rfl))

theorem followState_bufs : (followState s).bufs = s.bufs := by
  unfold followState
  split
  · split
    · exact setState_bufs ..
    · rfl
  · split
    · exact setState_bufs ..
    · rfl
  · rfl

theorem failBoot_arb : (failBoot s).arb = s.arb := by unfold failBoot; split <;> rfl
theorem noteBootTime_arb : (noteBootTime s).arb = s.arb := by unfold noteBootTime; split <;> rfl
theorem logChatter_arb : (logChatter s).arb = s.arb := by unfold logChatter; split <;> rfl
theorem discardRaise_arb : (discardRaise s).arb = s.arb := by unfold discardRaise; split <;> rfl
theorem closeBypass_arb : (closeBypass s).arb = s.arb := by
  simp [closeBypass, tellLost, cutOutputs]

theorem enterFault_bufs : (enterFault s).bufs = s.bufs := by
  have h : (enterFault s).arb = (setState .fault (noteBootTime (failBoot s))).arb := by
    unfold enterFault
    rw [closeBypass_arb, discardRaise_arb, State.onAon_arb, State.onCore_arb, logChatter_arb]
  rw [bufs_of_arb h, setState_bufs]
  exact bufs_of_arb ((noteBootTime_arb _).trans (failBoot_arb _))

theorem takeFatal_bufs : (takeFatal s).bufs = s.bufs := by
  unfold takeFatal
  split
  · dsimp only
    split
    · rfl
    · rfl
    · rfl
    · rfl
    · split
      · rfl
      · exact enterFault_bufs _
    · exact enterFault_bufs _
  · rfl

/-- Settling takes no beam out of a staging buffer. -/
theorem settle_bufs : (settle s).bufs = s.bufs := by
  have hw (t : State) : (wakeCore t).bufs = t.bufs := bufs_of_arb (congrArg (·.arb) (unlogged_wakeCore t))
  have hf (t : State) : (flushLog t).bufs = t.bufs := bufs_of_arb (congrArg (·.arb) (unlogged_flushLog t))
  rw [settle, hw, hf, followState_bufs, takeFatal_bufs]

/-- Settling changes nothing of the tile register file but the mortise table, where it notes a POISON's log entry. -/
theorem settle_trf_but_mort : { (settle s).trf with mort := [] } = { s.trf with mort := [] } :=
  congrArg (·.trf) (unsettled_settle s)

theorem settle_clearAt : (settle s).trf.clearAt = s.trf.clearAt := congrArg (·.clearAt) (settle_trf_but_mort s)
theorem settle_scrubPos : (settle s).trf.scrubPos = s.trf.scrubPos := congrArg (·.scrubPos) (settle_trf_but_mort s)
theorem settle_passes : (settle s).trf.passes = s.trf.passes := congrArg (·.passes) (settle_trf_but_mort s)

end

/-! ### Reports that set no POISON -/

theorem mem_sortInsert {α : Type} {before : α → α → Bool} {a x : α} {l : List α} (h : x ∈ sortInsert before a l) :
    x = a ∨ x ∈ l := by
  induction l with
  | nil => exact Or.inl (List.mem_singleton.1 h)
  | cons b l ih =>
    unfold sortInsert at h
    split at h
    · exact List.mem_cons.1 h
    · rcases List.mem_cons.1 h with h | h
      · exact Or.inr (h ▸ List.mem_cons_self)
      · exact (ih h).imp_right (List.mem_cons_of_mem b)

theorem mem_foldl_sortInsert {α : Type} {before : α → α → Bool} {x : α} {l : List α} {acc : List α}
    (h : x ∈ l.foldl (fun acc a => sortInsert before a acc) acc) : x ∈ acc ∨ x ∈ l := by
  induction l generalizing acc with
  | nil => exact Or.inl h
  | cons a l ih =>
    rcases ih h with h | h
    · exact (mem_sortInsert h).elim (fun e => Or.inr (e ▸ List.mem_cons_self)) Or.inl
    · exact Or.inr (List.mem_cons_of_mem a h)

theorem mem_of_mem_sortBy {α : Type} {before : α → α → Bool} {x : α} {l : List α} (h : x ∈ sortBy before l) : x ∈ l :=
  (mem_foldl_sortInsert h).resolve_left List.not_mem_nil

/-- Reports none of which sets POISON leave the tile register file alone. -/
theorem flushLog_trf_of_none {s : State} (h : ∀ r ∈ s.log.raised, r.setsPoison = false) :
    (flushLog s).trf = s.trf := by
  have fold (l : List Report) (hl : ∀ r ∈ l, r.setsPoison = false) (p : State × Nat) :
      (foldOver l logOne p).1.trf = p.1.trf := by
    induction l generalizing p with
    | nil => rfl
    | cons r l ih =>
      rw [foldOver_cons, ih (fun q hq => hl q (List.mem_cons_of_mem r hq)), logOne_trf (hl r List.mem_cons_self)]
  unfold flushLog
  rw [fold _ fun r hr => h r (mem_of_mem_sortBy hr)]
  rfl

/-! ### Range clear (R97) -/

/-- A change of the tile register file alone raises nothing. -/
theorem settle_onTrf {s : State} (hs : Settled s) (f : Trf → Trf) : settle (s.onTrf f) = s.onTrf f :=
  settle_same hs hs.1.2 rfl rfl rfl rfl hs.1.1 rfl (meip_congr rfl rfl rfl rfl rfl rfl rfl rfl rfl rfl) rfl

theorem clearKey_in (i : BitVec 10) (b : Fin 32) :
    32 * i.toNat ≤ clearKey i.toNat b ∧ clearKey i.toNat b < 32 * i.toNat + 32 := by
  unfold clearKey
  have := b.isLt
  omega

theorem clearNext_clearForget (i : BitVec 10) (b : Fin 32) (s : State) : clearNext (clearForget i s) i.toNat b = 0 :=
  SMap.get_eraseRange_in (d := 0) s.trf.clearAt (clearKey_in i b)

@[simp] theorem mortAt_clearForget (i j : BitVec 10) (s : State) : mortAt (clearForget i s) j = mortAt s j := by rfl

theorem rangeClearComplete_ends {i : BitVec 10} {s : State} (hs : Settled s) (hc : clearOver s i = true)
    (hl : isLive s = true) (hst : (mortAt s i).st = .clearing) : Completes (.rangeClearComplete i) s fun t =>
      t = s.onTrf (fun r => { r with mort := t.trf.mort, clearAt := t.trf.clearAt }) ∧
      mortAt t i = { mortAt s i with st := .empty } ∧ (∀ j, j ≠ i → mortAt t j = mortAt s j) ∧
      ∀ b : Fin 32, clearNext t i.toNat b = 0 := by
  refine completes_onlyIf
    (f := fun s => clearForget i (modMort i (fun e => { e with st := .empty }) s)) rfl (by simp [hl, hst, hc]) ?_
  have h : settle (clearForget i (modMort i (fun e => { e with st := .empty }) s)) =
      clearForget i (modMort i (fun e => { e with st := .empty }) s) :=
    settle_onTrf hs fun t => { t with
      mort := t.mort.set {} i.toNat { mortAt s i with st := .empty }
      clearAt := t.clearAt.eraseRange (32 * i.toNat) 32 }
  rw [h]
  refine ⟨rfl, ?_, fun j hj => ?_, fun b => clearNext_clearForget i b _⟩
  · rw [mortAt_clearForget, mortAt_modMort_same]
  · rw [mortAt_clearForget, mortAt_modMort_other _ _ hj]

theorem rangeClearComplete_waits {i : BitVec 10} {s : State} (hs : Settled s) (hc : clearOver s i = false) :
    exec (.rangeClearComplete i) s = .next s := by
  show execRangeClearComplete i s = _
  rw [execRangeClearComplete, onlyIf_neg _ _ (by simp [hc]), done, settle_settled hs]

/-- The Zero bytes of a zero beam are zeros, and so are the others. -/
theorem zeroTail_zero (f : BitVec 4) : zeroTail f 0 = 0 := by
  unfold zeroTail
  rw [show BitVec.extractLsb' 0 (8 * usedBytes f) (0 : Beam) = 0 from BitVec.extractLsb'_zero]
  exact BitVec.setWidth_zero _ _

theorem marked_beam (b : Beam) (p : Bool) : (marked b p).extractLsb' 0 4352 = b := by
  unfold marked
  exact BitVec.extractLsb'_append_eq_right

theorem jobData_clear (s : State) (i : BitVec 10) (j : Job) : (jobData s (.clear i) j).extractLsb' 0 4352 = 0 := by
  unfold jobData cleared
  rw [marked_beam, show rawData s (.clear i) j = 0 from rfl,
    show BitVec.extractLsb' 0 4352 (0 : MarkedBeam) = 0 from BitVec.extractLsb'_zero]
  exact zeroTail_zero _

/-! ### A commit (R244) -/

section
variable {s : State} {i : BitVec 10}

@[simp] theorem mortAt_writeLine (b : BitVec 20) (v : Beam) (j : BitVec 10) : mortAt (writeLine b v s) j = mortAt s j := by rfl

/-- POISON is no part of an entry's STATE. -/
theorem st_setPoison (j : BitVec 10) : (mortAt (setPoison i s) j).st = (mortAt s j).st := by
  have hf (e : Mortise) : (if e.poison then e else { e with poison := true, poisonSeq := none }).st = e.st := by
    split <;> rfl
  by_cases hj : j ∈ pairOf s i
  · unfold setPoison
    rw [mortAt_modPair_in (fun e => ?_) s hj, hf]
    by_cases h : e.poison <;> simp [h]
  · rw [setPoison, mortAt_modPair_out _ s hj]

theorem st_mortWrite (b : BitVec 20) (v : Beam) (p : Bool) (pid : Option (BitVec 8)) (j : BitVec 10) :
    (mortAt (mortWrite i b v p pid s) j).st = (mortAt s j).st := by
  unfold mortWrite
  dsimp only
  split
  · exact st_setPoison j
  · rfl

theorem poisonWrite_beams (b : BitVec 20) (pid : Option (BitVec 8)) :
    (poisonWrite i b pid s).trf.beams = s.trf.beams := modPair_beams ..

theorem modPair_errs (f : Mortise → Mortise) (s : State) :
    (modPair i f s).trf.errs = s.trf.errs := by rw [modPair_frame]; rfl

theorem poisonWrite_errs (b : BitVec 20) (pid : Option (BitVec 8)) :
    (poisonWrite i b pid s).trf.errs = s.trf.errs := modPair_errs ..

/-- A beam written to a mortise stands in its line. -/
theorem storedBeam_mortWrite (b : BitVec 20) (v : Beam) (p : Bool) (pid : Option (BitVec 8)) :
    storedBeam (mortWrite i b v p pid s) b = v := by
  have h : (mortWrite i b v p pid s).trf.beams = (writeLine b v s).trf.beams := by
    unfold mortWrite
    dsimp only
    split
    · exact poisonWrite_beams ..
    · rfl
  rw [storedBeam, h]
  exact storedBeam_writeLine_same b v s

theorem lineErr_mortWrite (b : BitVec 20) (v : Beam) (p : Bool) (pid : Option (BitVec 8)) :
    lineErr (mortWrite i b v p pid s) b = {} := by
  have h : (mortWrite i b v p pid s).trf.errs = (writeLine b v s).trf.errs := by
    unfold mortWrite
    dsimp only
    split
    · exact poisonWrite_errs ..
    · rfl
  rw [lineErr, h]
  exact lineErr_writeLine_same b v s

end

/-- A committed beat of a range clear notes how far its bay has come. -/
theorem clearCommitted_clearing {s : State} {i : BitVec 10} (h : (mortAt s i).st = .clearing) (b : BitVec 20) (n : Nat) :
    clearCommitted i b n s =
      s.onTrf fun t => { t with clearAt := t.clearAt.set 0 (clearKey i.toNat (bayIx b)) (n + 1) } := by
  simp [clearCommitted, h]

theorem stagingCommit_clears {b : Fin 32} {i : BitVec 10} {x : Staged} {ts : List Staged} {bs : List (List Staged)}
    {s : State} (hu : unitsOn s = true) (hb : s.arb.bay[b].bufs = (x :: ts) :: bs) (hx : x.client = .clear i)
    (hst : (mortAt s i).st = .clearing) (hp : primaryAt s (bankIx x.job.beam) = false) :
    Completes (.stagingCommit b) s fun t => storedBeam t x.job.beam = x.data ∧ lineErr t x.job.beam = {} ∧
      clearNext t i.toNat (bayIx x.job.beam) = x.job.key + 1 := by
  have hhead : commitHead s b = some x := by rw [commitHead, hb]; rfl
  refine completes_onlyIf (cond := unitsOn s && !primaryAt s (bankIx x.job.beam)) (f := fun s =>
    advanceTransfers (commitOne b x s)) ?_ (by simp [hu, hp]) ?_
  · show execStagingCommit b s = _
    simp [execStagingCommit, hhead, hx]
  · generalize hw : mortWrite x.job.mort x.job.beam x.data x.poison none
      (govEvent 10 1 (s.onBay b fun y => { y with bufs := popStaged y.bufs })) = w
    have hwst : (mortAt w i).st = .clearing := by rw [← hw, st_mortWrite]; exact hst
    have hone : (advanceTransfers (commitOne b x s)).trf =
        { w.trf with clearAt := w.trf.clearAt.set 0 (clearKey i.toNat (bayIx x.job.beam)) (x.job.key + 1) } := by
      rw [advanceTransfers_trf]
      simp [commitOne, hx, noteCommit, hw, clearCommitted_clearing hwst]
    refine ⟨?_, ?_, ?_⟩
    · rw [storedBeam, settle_beams, hone]
      exact hw ▸ storedBeam_mortWrite ..
    · rw [lineErr, settle_errs, hone]
      exact hw ▸ lineErr_mortWrite ..
    · rw [clearNext, settle_clearAt, hone]
      exact SMap.get_set_same (d := 0) w.trf.clearAt (clearKey i.toNat (bayIx x.job.beam)) (x.job.key + 1)

/-! ### CE_BANK (R96) -/

theorem ceBankWrite_sets {src : Src} {s : State} (bank : Fin 512) (v : BitVec 64) (hs : Settled s)
    (hw : Writes src .host s) : Completes (.ceBankWrite src bank v) s fun t =>
      t = (accept src (0x21000 + 8 * bank.val) s).onTrf
        (fun r => { r with ceBank := t.trf.ceBank, ceLogged := t.trf.ceLogged }) ∧
      t.trf.ceBank.get 0 bank.val = field v 0 32 ∧ t.trf.ceLogged.get false bank.val = false ∧
      ∀ n, n ≠ bank.val → t.trf.ceBank.get 0 n = s.trf.ceBank.get 0 n ∧
        t.trf.ceLogged.get false n = s.trf.ceLogged.get false n := by
  refine ⟨setCeBank bank.val v (accept src (0x21000 + 8 * bank.val) s), ?_, rfl,
    SMap.get_set_same (d := 0) _ bank.val (field v 0 32), SMap.get_set_same (d := false) _ bank.val false, fun n hn => ?_⟩
  · show done (writeReg src _ .host (setCeBank bank.val v) s) = _
    rw [writeReg_of_writes hw]
    exact congrArg Host.Outcome.next (settle_accept_onTrf hs _ _)
  · simp only [setCeBank, State.onTrf_trf, trf_accept]
    exact ⟨SMap.get_set_other _ _ _ hn, SMap.get_set_other _ _ _ hn⟩

end Sys2Proof.Machine
end

section
namespace Sys2Proof.Machine

/-! ### A report that opens the log's first entry (R369) -/

section
variable {s : State} {r : Report}

/-- A report of a code that is not Fatal is nested only as its unit says. -/
theorem report_of_minor (h : isFatalCode r.code = false) :
    report r s = s.onLog fun l => { l with raised := l.raised ++ [r] } := by
  simp [report, h]

theorem signalNew_log (e : LogEntry) (s : State) : (signalNew e s).log = s.log := by
  unfold signalNew
  dsimp only
  split <;> rfl

/-- The entry that a new report writes into an empty log. -/
theorem writeNew_entries_of_empty (he : s.log.entries = []) (hp : r.setsPoison = false) (hd : r.drop = none) :
    (writeNew r s).log.entries = [entryOf s r] := by
  simp [writeNew, he, noteDrop, hd, notePoisonEntry, hp, signalNew_log, Log.advance]

/-- The entry depends on the clock and the log alone. -/
theorem entryOf_congr {t : State} (ht : t.time = s.time) (hq : t.log.seq = s.log.seq)
    (he : t.log.entries = s.log.entries) (r : Report) : entryOf t r = entryOf s r := by
  simp [entryOf, State.now, ht, hq, he]

/-- A report that is not masked is new to an empty log. -/
theorem logOne_of_empty (he : s.log.entries = []) (hm : isMasked s r.code = false) (hc : (r.code == 0x0E) = false)
    (hd : r.drop = none) : logOne r (s, 0) = (writeNew r s, 1) := by
  have hc' : ¬ r.code = 14#8 := by simpa using hc
  simp [logOne, hm, hc', openDrop, hd, he]

/-- One report into an empty log. -/
theorem flushLog_entries_of_empty (hr : s.log.raised = [r]) (he : s.log.entries = []) (hm : isMasked s r.code = false)
    (hp : r.setsPoison = false) (hc : (r.code == 0x0E) = false) (hd : r.drop = none) :
    (flushLog s).log.entries = [entryOf s r] := by
  have hone : flushLog s = writeNew r (s.onLog fun l => { l with raised := [] }) := by
    rw [flushLog, hr]
    exact congrArg Prod.fst (logOne_of_empty (s := s.onLog fun l => { l with raised := [] }) he hm hc hd)
  rw [hone, writeNew_entries_of_empty (by exact he) hp hd]
  rfl

end

/-! ### The end of a scrub pass (R94) -/

/-- The report of a symbol that is at fault over a whole pass (R370). -/
def passReport (k : Nat) : Report :=
  { code := 0x0D, unit := BitVec.ofNat 12 (k / 140), loc := eccLoc false false (k % 140) 0 }

/-- What the end of a scrub pass leaves before it settles. -/
def passEnd (s : State) : State :=
  scrubRestart (foldOver (symFaults s) (fun k => report (passReport k)) (s.onTrf fun t =>
    { t with passes := t.passes + 1, lastPass := satNat 32 (s.now.toNat - t.passStart.toNat) }))

section
variable (s : State)

theorem passEnd_onlyIn : OnlyIn [.trf, .log, .arb] s (passEnd s) := by
  unfold passEnd scrubRestart
  refine ((onTrf_onlyIn _ _).mono (by simp)).trans (.trans (foldOver_onlyIn (fun k t => ?_) _ _)
    (((onTrf_onlyIn _ _).mono (by simp)).trans ((onArb_onlyIn _ _).mono (by simp))))
  exact (report_onlyIn _ t).mono (by simp)

theorem passEnd_trf : (passEnd s).trf =
    { s.trf with passes := s.trf.passes + 1, lastPass := satNat 32 (s.now.toNat - s.trf.passStart.toNat)
                 scrubPos := [], symHits := [], passStart := s.now } := by
  have hf := foldOver_onlyIn (ps := [.log]) (f := fun k => report (passReport k))
    (fun k t => report_onlyIn (passReport k) t) (symFaults s)
    (s.onTrf fun t => { t with passes := t.passes + 1, lastPass := satNat 32 (s.now.toNat - t.passStart.toNat) })
  have htrf := hf.2 .trf (by simp)
  have htime := hf.2 .time (by simp)
  unfold passEnd scrubRestart
  generalize foldOver (symFaults s) _ _ = w at htrf htime ⊢
  simp only [SamePart, State.onTrf_trf, State.onTrf_time] at htrf htime
  simp [htrf, State.now, htime]

theorem passEnd_raised (hq : s.log.raised = []) : ∀ r ∈ (passEnd s).log.raised, r.setsPoison = false := by
  refine foldOver_keeps (fun t : State => ∀ r ∈ t.log.raised, r.setsPoison = false) (fun k t h r hr => ?_) _ ?_
  · rw [report_of_minor rfl] at hr
    rcases List.mem_append.1 hr with hr | hr
    · exact h r hr
    · exact List.mem_singleton.1 hr ▸ rfl
  · simp [hq]

theorem passEnd_log_of_one {k : Nat} (hk : symFaults s = [k]) :
    (passEnd s).log = { s.log with raised := s.log.raised ++ [passReport k] } := by
  simp only [passEnd, hk, foldOver_cons, foldOver_nil]
  rw [report_of_minor rfl]
  rfl

end

theorem passEnd_calm {s : State} (hs : Settled s) : Calm s (passEnd s) := by
  have h := passEnd_onlyIn s
  have ha : (passEnd s).aon = s.aon := h.2 .aon (by simp)
  exact ⟨ha ▸ hs.1.2, congrArg (·.st) ha, h.2 .sched (by simp), h.2 .ports (by simp), h.2 .sinter (by simp)⟩

theorem scrubPassComplete_restarts {s : State} (hs : Settled s) (ha : scrubActive s = true)
    (hd : ∀ b : Fin 32, scrubAt s b = 32768) : Completes .scrubPassComplete s fun t =>
      t.trf = { s.trf with passes := s.trf.passes + 1, lastPass := satNat 32 (s.now.toNat - s.trf.passStart.toNat)
                           scrubPos := [], symHits := [], passStart := s.now } ∧
      ∀ k, symFaults s = [k] → isMasked s 0x0D = false → s.log.entries = [] → t.log.entries = [entryOf s
        { code := 0x0D, unit := BitVec.ofNat 12 (k / 140), loc := eccLoc false false (k % 140) 0 }] := by
  refine completes_onlyIf (f := passEnd) rfl (by simp [ha, hd]) ⟨?_, fun k hk hm he => ?_⟩
  · rw [(passEnd_calm hs).settle_eq hs, wakeCore_trf, flushLog_trf_of_none (passEnd_raised s hs.1.1), passEnd_trf]
  · have h := passEnd_onlyIn s
    have hl := passEnd_log_of_one s hk
    have hm' : isMasked (passEnd s) 0x0D = false := by
      rw [isMasked, show (passEnd s).cfg = s.cfg from h.2 .cfg (by simp)]
      exact hm
    rw [(passEnd_calm hs).settle_eq hs, wakeCore_log,
      flushLog_entries_of_empty (r := passReport k) (by rw [hl, hs.1.1]; rfl) (by rw [hl, he]) hm' rfl rfl rfl]
    rw [entryOf_congr (h.2 .time (by simp)) (by rw [hl]) (by rw [hl])]
    rfl

/-! ### One scrub read (R94) -/

section
variable {s : State} {bay : Fin 32}

/-- A bay after a change of one. -/
theorem bay_onBay (b c : Fin 32) (f : Bay → Bay) (s : State) :
    (s.onBay b f).arb.bay[c] = if b = c then f s.arb.bay[c] else s.arb.bay[c] := vmod_getElem ..

theorem bay_onBay_same (b : Fin 32) (f : Bay → Bay) (s : State) : (s.onBay b f).arb.bay[b] = f s.arb.bay[b] :=
  (bay_onBay ..).trans (if_pos rfl)

/-- The keys under way are those of the owners and the buffers. -/
theorem flyingKeys_onBay {b : Fin 32} {f : Bay → Bay} (hf : ∀ y c, (f y).keys c = y.keys c) (c : Client) :
    flyingKeys (s.onBay b f) c = flyingKeys s c := by
  unfold flyingKeys
  congr 1
  refine List.ext_getElem (by simp) fun i h1 h2 => ?_
  have hi : i < 32 := by simpa using h2
  simp only [List.getElem_map, Vector.getElem_toList]
  have h : (s.onBay b f).arb.bay[i] = if b = ⟨i, hi⟩ then f s.arb.bay[i] else s.arb.bay[i] := bay_onBay b ⟨i, hi⟩ f s
  rw [h]
  split
  · exact hf _ _
  · rfl

end

end Sys2Proof.Machine
end

section
namespace Sys2Proof.Machine

/-- Where a bay's scrub goes on depends on the mortise table alone. -/
theorem scrubNext_congr {s t : State} (h : t.trf = s.trf) (bay : Fin 32) (fuel n : Nat) :
    scrubNext t bay fuel n = scrubNext s bay fuel n := by
  induction fuel generalizing n with
  | zero => rfl
  | succ fuel ih =>
    have hr : isRetired t (scrubBeam bay n) = isRetired s (scrubBeam bay n) := by rw [isRetired, h, isRetired]
    simp only [scrubNext, ih, hr]

theorem scrubAt_congr {s t : State} (h : t.trf = s.trf) (bay : Fin 32) : scrubAt t bay = scrubAt s bay := by
  unfold scrubAt
  rw [scrubNext_congr h, h]

/-- The interval of a bay's scrub has expired (R94). -/
def dueScrub (b : Fin 32) (s : State) : State := s.onBay b fun y => { y with scrubDue := true }

section
variable {s : State} {bay : Fin 32}

theorem flyingKeys_dueScrub (c : Client) : flyingKeys (dueScrub bay s) c = flyingKeys s c :=
  flyingKeys_onBay (f := fun y => { y with scrubDue := true }) (fun _ _ => rfl) c

theorem bufs_dueScrub : (dueScrub bay s).arb.bay[bay].bufs = s.arb.bay[bay].bufs := by
  rw [dueScrub, bay_onBay_same]

/-- What the other requesters ask does not depend on it. -/
theorem clientsOf_dueScrub {r : Fin 8} (hr : r ≠ 6) : clientsOf (dueScrub bay s) bay r = clientsOf s bay r := by
  have hjobs (c : Client) (l : List Job) : jobsIn (dueScrub bay s) bay c l = jobsIn s bay c l := by
    simp only [jobsIn, flyingKeys_dueScrub]
  have hout : askOut (dueScrub bay s) bay = askOut s bay := by
    simp only [askOut, flyingKeys_dueScrub]
    rfl
  have htr (n : Fin 8) : askTransfer (dueScrub bay s) bay r n = askTransfer s bay r n := by
    simp only [askTransfer, hjobs]
    rfl
  have hcol : askCol (dueScrub bay s) bay = askCol s bay := by
    simp only [askCol, hjobs]
    rfl
  have hmove : askMove (dueScrub bay s) bay = askMove s bay := by
    simp only [askMove, hjobs]
    rfl
  unfold clientsOf
  split
  · rw [hcol]
  · rw [hout]
  · rw [hmove]
  · next h => exact absurd (Fin.ext h) hr
  · rfl
  · rw [funext htr]

theorem requesting_dueScrub {r : Fin 8} (hr : r ≠ 6) : requesting (dueScrub bay s) bay r = requesting s bay r := by
  have hb : inBackoff (dueScrub bay s) bay r = inBackoff s bay r := by
    rw [inBackoff, dueScrub, bay_onBay_same, inBackoff]
  rw [requesting, requesting, hb, asksOf, asksOf, clientsOf_dueScrub hr, bufs_dueScrub]
  rfl

/-- The job of a bay's scrub: the line it has come to. -/
def scrubJob (s : State) (bay : Fin 32) : Job := { beam := scrubBeam bay (scrubAt s bay), key := scrubAt s bay, mort := 0 }

variable (ha : scrubActive s = true) (hat : scrubAt s bay < 32768) (hlen : s.arb.bay[bay].bufs.length < 2)
  (hboff : inBackoff s bay 6 = false) (hcl : clearUses s bay = false)
include ha hat hlen hcl

theorem asksOf_scrub : asksOf (dueScrub bay s) bay 6 = [{ client := .scrub, write := false, jobs := [scrubJob s bay] }] := by
  have hclears : askClears (dueScrub bay s) bay = askClears s bay := by
    have h (i : Nat) (e : Mortise) : askClear (dueScrub bay s) bay i e = askClear s bay i e := by
      unfold askClear
      rw [show (dueScrub bay s).arb.bay[bay] = { s.arb.bay[bay] with scrubDue := true } from bay_onBay_same ..]
      rfl
    simp only [askClears, h]
    rfl
  have hnone : askClears s bay = [] := by simpa [clearUses] using hcl
  have hscrub : askScrub (dueScrub bay s) bay = { client := .scrub, write := false, jobs := [scrubJob s bay] } := by
    have hat' : scrubAt (dueScrub bay s) bay = scrubAt s bay :=
      scrubAt_congr (s := s) (t := dueScrub bay s) rfl bay
    have hdue : (dueScrub bay s).arb.bay[bay].scrubDue = true := by rw [dueScrub, bay_onBay_same]
    have hact : scrubActive (dueScrub bay s) = true := ha
    have hfree : clearUses (dueScrub bay s) bay = false := by rw [clearUses, hclears, hnone]; rfl
    unfold askScrub
    rw [hat', hdue, hact, hfree, decide_eq_true hat]
    rfl
  have hcs : clientsOf (dueScrub bay s) bay 6 = [askScrub (dueScrub bay s) bay] := by
    show askClears _ _ ++ [_] = _
    rw [hclears, hnone]
    rfl
  rw [asksOf, hcs, hscrub, bufs_dueScrub]
  simp [-Fin.getElem_fin, hlen]

end

end Sys2Proof.Machine
end

section
namespace Sys2Proof.Machine

/-! ### What counting an error leaves -/

/-- The fields of the tile register file that no count of errors changes. -/
def Trf.uncounted (t : Trf) : SMap Beam × SMap LineErr × BitVec 32 × SMap Nat := (t.beams, t.errs, t.passes, t.scrubPos)

section
variable (s : State)

theorem modPair_uncounted (i : BitVec 10) (f : Mortise → Mortise) :
    (modPair i f s).trf.uncounted = s.trf.uncounted := by rw [modPair_frame]; rfl

theorem countCe_uncounted (b : BitVec 20) (sym : Nat) : (countCe b sym s).trf.uncounted = s.trf.uncounted := by
  unfold countCe
  dsimp only
  split
  · rw [report_trf]; rfl
  · rfl

theorem ueInMort_uncounted (r : Report) (i : BitVec 10) (b : BitVec 20) :
    (ueInMort r i b s).trf.uncounted = s.trf.uncounted := by
  unfold ueInMort
  dsimp only
  split
  · exact modPair_uncounted ..
  · split
    · exact modPair_uncounted ..
    · exact modPair_uncounted ..

theorem countUe_uncounted (code : BitVec 8) (mort : Option (BitVec 10)) (pid : Option (BitVec 8)) (b : BitVec 20)
    (r : LineRead) : (countUe code mort pid b r s).trf.uncounted = s.trf.uncounted := by
  unfold countUe
  dsimp only
  split
  · exact ueInMort_uncounted ..
  · rfl

/-- What a scrub read counts and corrects leaves the lines as they are. -/
theorem scrubLine_uncounted (b : BitVec 20) (u : LineErr) :
    (scrubLine b u s).2.trf.uncounted = (strike b u s).trf.uncounted := by
  unfold scrubLine
  dsimp only
  split
  · exact countUe_uncounted ..
  · split
    · exact countCe_uncounted ..
    · rfl

theorem countUe_arb (code : BitVec 8) (mort : Option (BitVec 10)) (pid : Option (BitVec 8)) (b : BitVec 20)
    (r : LineRead) : (countUe code mort pid b r s).arb = s.arb := by
  have hp (i : BitVec 10) (t : State) : (setPoison i t).arb = t.arb := (modPair_onlyIn i _ t).2 .arb (by simp)
  unfold countUe
  dsimp only
  split
  · unfold ueInMort
    dsimp only
    split
    · exact hp ..
    · split <;> exact hp ..
  · rfl

theorem countCe_arb (b : BitVec 20) (sym : Nat) : (countCe b sym s).arb = s.arb := by
  unfold countCe
  dsimp only
  split <;> rfl

theorem strike_arb (b : BitVec 20) (u : LineErr) : (strike b u s).arb = s.arb := by
  unfold strike
  split <;> rfl

theorem scrubLine_arb (b : BitVec 20) (u : LineErr) : (scrubLine b u s).2.arb = s.arb := by
  unfold scrubLine
  dsimp only
  split
  · exact (countUe_arb ..).trans (strike_arb ..)
  · split
    · exact (countCe_arb ..).trans (strike_arb ..)
    · exact strike_arb ..

/-- Symbols that strike a line strike no other. -/
theorem lineErr_strike_other {b c : BitVec 20} (u : LineErr) (h : c ≠ b) : lineErr (strike b u s) c = lineErr s c := by
  unfold strike
  split
  · rfl
  · exact SMap.get_set_other _ _ _ fun hn => h (BitVec.eq_of_toNat_eq hn)

theorem strike_but_errs (b : BitVec 20) (u : LineErr) :
    { (strike b u s).trf with errs := [] } = { s.trf with errs := [] } := by
  unfold strike
  split <;> rfl

/-- A read that finds a line as it stands brings its corrected beam where a symbol was corrected. -/
theorem scrubLine_fst (b : BitVec 20) (h : (readLine (storedBeam s b) (lineErr s b)).ue = false) :
    (scrubLine b {} s).1 = if (readLine (storedBeam s b) (lineErr s b)).ce then
      some (readLine (storedBeam s b) (lineErr s b)).beam else none := by
  have hs : strike b {} s = s := if_pos rfl
  have hr : readLine (storedBeam (govEvent 14 1 s) b) (lineErr (govEvent 14 1 s) b) =
    readLine (storedBeam s b) (lineErr s b) := rfl
  simp only [scrubLine, hs, hr, h, Bool.false_eq_true, if_false]
  split <;> rfl

end

/-! ### The beat of a scrub read -/

section
variable {s : State} {bay : Fin 32}

/-- The owner that a scrub's request makes. -/
def scrubGrant (s : State) (bay : Fin 32) : Grant :=
  { req := 6, client := .scrub, write := false, jobs := [scrubJob s bay] }

/-- The bay granted to its scrub. -/
def scrubOwned (bay : Fin 32) (s : State) : State :=
  (dueScrub bay s).onBay bay fun y => { y with owner := some (scrubGrant s bay) }

theorem scrubOwned_owner : (scrubOwned bay s).arb.bay[bay].owner = some (scrubGrant s bay) := by
  rw [scrubOwned, bay_onBay_same]

theorem scrubOwned_bufs : (scrubOwned bay s).arb.bay[bay].bufs = s.arb.bay[bay].bufs := by
  rw [scrubOwned, bay_onBay_same, bufs_dueScrub]

theorem reqAdmitted_of_live (h : isLive s = true) : reqAdmitted s 6 = true := by
  simp only [isLive, List.contains_eq_mem, List.mem_cons, List.not_mem_nil, or_false, decide_eq_true_eq] at h
  rcases h with h | h | h | h <;> rw [reqAdmitted, h] <;> rfl

theorem one_le_burstOf (b : Fin 32) : 1 ≤ burstOf s b := le_max_left ..

section
variable (ha : scrubActive s = true) (hat : scrubAt s bay < 32768) (hlen : s.arb.bay[bay].bufs.length < 2)
  (hboff : inBackoff s bay 6 = false) (hcl : clearUses s bay = false)
  (hreq : ∀ r : Fin 8, r ≠ 6 → requesting s bay r = false)
include ha hat hlen hboff hcl hreq

/-- Only the scrub contends. -/
theorem contenders_scrub : contenders (dueScrub bay s) bay = [6] := by
  have h6 : requesting (dueScrub bay s) bay 6 = true := by
    have hadm : reqAdmitted (dueScrub bay s) 6 = true := reqAdmitted_of_live (by
      unfold scrubActive at ha
      exact (Bool.and_eq_true_iff.1 ha).1)
    have hb : inBackoff (dueScrub bay s) bay 6 = false := by
      rw [inBackoff, dueScrub, bay_onBay_same]
      exact hboff
    rw [requesting, hadm, hb, asksOf_scrub ha hat hlen hcl]
    rfl
  have h : requesting (dueScrub bay s) bay = fun r => decide (r = 6) := by
    funext r
    by_cases hr : r = 6
    · rw [hr, h6]; rfl
    · rw [requesting_dueScrub hr, hreq r hr, decide_eq_false hr]
  rw [contenders, h]
  rfl

theorem decidePath_scrub : decidePath bay 0 (dueScrub bay s) = scrubOwned bay s := by
  have hb := one_le_burstOf (s := dueScrub bay s) bay
  unfold decidePath
  rw [contenders_scrub ha hat hlen hboff hcl hreq]
  show grantPath bay 6 0 (dueScrub bay s) = _
  unfold grantPath
  rw [asksOf_scrub ha hat hlen hcl]
  show (dueScrub bay s).onBay bay (fun y => { y with owner := some { scrubGrant s bay with
    jobs := [scrubJob s bay].take (burstOf (dueScrub bay s) bay) } }) = _
  rw [List.take_of_length_le (by simpa using hb)]
  rfl

/-- The scrub's beat takes the bay. -/
theorem serveNow_scrub (u : LineErr) (hu : unitsOn s = true) (hown : s.arb.bay[bay].owner = none)
    (hfree : sideReadFree s (scrubBeam bay (scrubAt s bay)) = true) :
    serveNow bay .scrub u (dueScrub bay s) = advanceTransfers (scrubBeat bay (scrubJob s bay) u
      (singleBeat bay (scrubGrant s bay) (countBeats 1 (scrubOwned bay s)))) := by
  have hown' : (dueScrub bay s).arb.bay[bay].owner.isNone = true := by rw [dueScrub, bay_onBay_same, hown]; rfl
  have hbeat : beatFree (scrubOwned bay s) (scrubGrant s bay) = true := by
    have h1 : unitsOn (scrubOwned bay s) = true := hu
    have h2 : reqAdmitted (scrubOwned bay s) 6 = true := reqAdmitted_of_live (by
      unfold scrubActive at ha
      exact (Bool.and_eq_true_iff.1 ha).1)
    have h3 : sideReadFree (scrubOwned bay s) (scrubJob s bay).beam = true := by
      have hh (c : Fin 32) : commitHead (scrubOwned bay s) c = commitHead s c := by
        unfold commitHead
        by_cases hc : bay = c
        · subst hc; rw [scrubOwned_bufs]
        · rw [scrubOwned, bay_onBay, if_neg hc, dueScrub, bay_onBay, if_neg hc]
      rw [sideReadFree, hh]
      exact hfree
    rw [beatFree, scrubGrant, h1, h2]
    simp [h3]
  unfold serveNow
  rw [if_pos hown', decidePath_scrub ha hat hlen hboff hcl hreq]
  dsimp only
  rw [scrubOwned_owner, if_pos (by rfl), sideBeat, scrubOwned_owner]
  dsimp only
  rw [if_pos hbeat]
  rfl

end

/-- What the beat of a scrub read leaves: the line's symbols, the place and what is staged. -/
theorem scrubBeat_trf (j : Job) (u : LineErr) (w : State) :
    (scrubBeat bay j u w).trf = { (scrubLine j.beam u w).2.trf with
      scrubPos := (scrubLine j.beam u w).2.trf.scrubPos.set 0 bay.val (j.key + 1) } := by rfl

theorem scrubBeat_bufs (j : Job) (u : LineErr) (w : State) : (scrubBeat bay j u w).arb.bay[bay].bufs =
    w.arb.bay[bay].bufs ++ (scrubLine j.beam u w).1.toList.map fun v =>
      [{ job := j, data := v, poison := false, client := .scrub }] := by
  unfold scrubBeat
  rw [bay_onBay_same, State.onTrf_arb, scrubLine_arb]
  cases (scrubLine j.beam u w).1 with
  | none => exact (List.append_nil _).symm
  | some v => rfl

theorem advanceTransfers_arb (w : State) : (advanceTransfers w).arb = w.arb := by
  have hoob (n : Fin 8) (i k : Nat) (t : State) : (noteOob n i k t).arb = t.arb := by
    simp [noteOob, countLay]
  have hdrop (n : Fin 8) (k : Nat) (t : State) : (noteDropped n k t).arb = t.arb := by
    simp only [noteDropped, countLay, report, State.onLayout_arb, State.onLSlot_arb, State.onLog_arb,
      apply_ite State.arb, ite_self]
  have hbuild (n : Fin 8) (t : State) : (buildGroup n t).arb = t.arb := by
    have hfill : (buildFill n t).arb = t.arb := by simp [buildFill, hoob]
    have hstore : (buildStore n t).arb = t.arb := by simp [buildStore, countLay, hoob, hdrop]
    have hcopy : (buildCopy n t).arb = t.arb := by simp [buildCopy]
    simp only [buildGroup, apply_ite State.arb, hfill, hstore, hcopy, ite_self]
  have hnext (n : Fin 8) (t : State) : (nextGroup n t).arb = t.arb := by
    unfold nextGroup
    dsimp only
    split
    · rw [State.onLSlot_arb]
    · rfl
  exact foldOver_same (fun t : State => t.arb)
    (fun n t => by rw [advanceTransfer, hnext, hbuild, hnext, hbuild]) _ w

theorem scrubRead_reads (u : LineErr) (hu : unitsOn s = true) (ha : scrubActive s = true) (hat : scrubAt s bay < 32768)
    (hown : s.arb.bay[bay].owner = none) (hlen : s.arb.bay[bay].bufs.length < 2) (hboff : inBackoff s bay 6 = false)
    (hcl : clearUses s bay = false) (hreq : ∀ r : Fin 8, r ≠ 6 → requesting s bay r = false)
    (hfree : sideReadFree s (scrubBeam bay (scrubAt s bay)) = true) :
    Completes (.scrubRead bay u) s fun t =>
      t.trf.scrubPos.get 0 bay.val = scrubAt s bay + 1 ∧
      (∀ c : Fin 32, c ≠ bay → t.trf.scrubPos.get 0 c.val = s.trf.scrubPos.get 0 c.val) ∧
      t.trf.beams = s.trf.beams ∧ (∀ c, c ≠ scrubBeam bay (scrubAt s bay) → lineErr t c = lineErr s c) ∧
      t.trf.passes = s.trf.passes ∧
      let r := readLine (storedBeam s (scrubBeam bay (scrubAt s bay))) (lineErr s (scrubBeam bay (scrubAt s bay)))
      (u = {} → r.ue = false → t.arb.bay[bay].bufs = if r.ce then
        s.arb.bay[bay].bufs ++ [[{ job := { beam := scrubBeam bay (scrubAt s bay), key := scrubAt s bay, mort := 0 }
                                   data := r.beam, poison := false, client := .scrub }]]
        else s.arb.bay[bay].bufs) := by
  refine completes_onlyIf (f := fun s => serveNow bay .scrub u (dueScrub bay s)) rfl (by simp [ha, hat]) ?_
  rw [serveNow_scrub ha hat hlen hboff hcl hreq u hu hown hfree]
  generalize hw : singleBeat bay (scrubGrant s bay) (countBeats 1 (scrubOwned bay s)) = w
  have hwtrf : w.trf = s.trf := by
    rw [← hw]
    simp [singleBeat, countBeats, scrubOwned, dueScrub]
  have hwbufs : w.arb.bay[bay].bufs = s.arb.bay[bay].bufs := by
    rw [← hw]
    show ((countBeats 1 (scrubOwned bay s)).onBay bay _ |>.onBay bay _).arb.bay[bay].bufs = _
    rw [bay_onBay_same, bay_onBay_same]
    exact scrubOwned_bufs
  have hlineErr (c : BitVec 20) : lineErr w c = lineErr s c := by rw [lineErr, hwtrf, lineErr]
  have hbeam (c : BitVec 20) : storedBeam w c = storedBeam s c := by rw [storedBeam, hwtrf, storedBeam]
  have hkept := scrubLine_uncounted w (scrubJob s bay).beam u
  have hstrike := strike_but_errs w (scrubJob s bay).beam u
  have hpos : (scrubLine (scrubJob s bay).beam u w).2.trf.scrubPos = s.trf.scrubPos :=
    (congrArg (·.2.2.2) hkept).trans ((congrArg Trf.scrubPos hstrike).trans (by rw [hwtrf]))
  refine ⟨?_, fun c hc => ?_, ?_, fun c hc => ?_, ?_, fun hu0 hue => ?_⟩
  · rw [settle_scrubPos, advanceTransfers_trf, scrubBeat_trf]
    exact SMap.get_set_same (d := 0) _ bay.val (scrubAt s bay + 1)
  · rw [settle_scrubPos, advanceTransfers_trf, scrubBeat_trf]
    exact (SMap.get_set_other (d := 0) _ (scrubAt s bay + 1) fun h => hc (Fin.ext h)).trans (by rw [hpos])
  · rw [settle_beams, advanceTransfers_trf, scrubBeat_trf]
    exact (congrArg (·.1) hkept).trans ((congrArg Trf.beams hstrike).trans (by rw [hwtrf]))
  · have herrs : (scrubLine (scrubJob s bay).beam u w).2.trf.errs = (strike (scrubJob s bay).beam u w).trf.errs :=
      congrArg (·.2.1) hkept
    have h : lineErr (scrubLine (scrubJob s bay).beam u w).2 c = lineErr (strike (scrubJob s bay).beam u w) c := by
      rw [lineErr, herrs, lineErr]
    rw [lineErr, settle_errs, advanceTransfers_trf, scrubBeat_trf]
    exact h.trans ((lineErr_strike_other w u hc).trans (hlineErr c))
  · rw [settle_passes, advanceTransfers_trf, scrubBeat_trf]
    exact (congrArg (·.2.2.1) hkept).trans ((congrArg Trf.passes hstrike).trans (by rw [hwtrf]))
  · have hb : (settle (advanceTransfers (scrubBeat bay (scrubJob s bay) u w))).arb.bay[bay].bufs =
        (advanceTransfers (scrubBeat bay (scrubJob s bay) u w)).arb.bay[bay].bufs := congrFun (settle_bufs _) bay
    rw [hb, advanceTransfers_arb, scrubBeat_bufs, hwbufs, hu0, scrubLine_fst w _ (by rw [hlineErr, hbeam]; exact hue),
      hlineErr, hbeam]
    show _ ++ List.map _ (if (readLine (storedBeam s (scrubBeam bay (scrubAt s bay)))
      (lineErr s (scrubBeam bay (scrubAt s bay)))).ce = true then some _ else none).toList = _
    split
    · rfl
    · exact List.append_nil _

end

/-- Settles O8: range clears end and commit as their place says, a scrub's request takes the idle bay, and the end of a
pass and CE_BANK change their own fields. -/
theorem linesAreClearedAndScrubbed : Obligations.LinesAreClearedAndScrubbed := by
  unfold Obligations.LinesAreClearedAndScrubbed
  refine ⟨⟨fun i s hs => ⟨rangeClearComplete_ends hs, rangeClearComplete_waits hs⟩, jobData_clear,
    fun b i x ts bs s => stagingCommit_clears⟩, ⟨fun bay u s => scrubRead_reads u, fun s hs ha hd =>
    scrubPassComplete_restarts hs ha hd⟩, fun src bank v s hs hw => ceBankWrite_sets bank v hs hw⟩

end Sys2Proof.Machine
end

section
namespace Sys2Proof.Machine

/-! ### Operations that raise minor reports alone -/

/-- A report that is not Fatal and sets no POISON. -/
def Report.minor (r : Report) : Prop := isFatalCode r.code = false ∧ r.setsPoison = false

/-- From s to t the log changes by minor reports raised, and by nothing else. -/
def AddsMinor (s t : State) : Prop :=
  ∃ rs : List Report, t.log = { s.log with raised := s.log.raised ++ rs } ∧ ∀ r ∈ rs, r.minor

section
variable {s t u : State}

theorem AddsMinor.of_log (h : t.log = s.log) : AddsMinor s t := ⟨[], by simp [h], nofun⟩

theorem AddsMinor.trans (h : AddsMinor s t) (k : AddsMinor t u) : AddsMinor s u := by
  obtain ⟨rs, hl, hr⟩ := h
  obtain ⟨qs, kl, kr⟩ := k
  refine ⟨rs ++ qs, by simp [kl, hl], fun r h => ?_⟩
  exact (List.mem_append.1 h).elim (hr r) (kr r)

/-- One minor report. -/
theorem addsMinor_report {r : Report} (hr : r.minor) (s : State) : AddsMinor s (report r s) :=
  ⟨[r], by rw [report_of_minor hr.1]; rfl, fun q hq => by rw [List.mem_singleton.1 hq]; exact hr⟩

/-- Where no report has set POISON, none has after it. -/
theorem AddsMinor.none_sets (h : AddsMinor s t) (hs : ∀ r ∈ s.log.raised, r.setsPoison = false) :
    ∀ r ∈ t.log.raised, r.setsPoison = false := by
  obtain ⟨rs, hl, hr⟩ := h
  rw [hl]
  intro r h
  exact (List.mem_append.1 h).elim (hs r) fun h => (hr r h).2

end

section
variable (s : State)

theorem addsMinor_enterFault : AddsMinor s (enterFault s) := by
  have hfail (t : State) : (failBoot t).log = t.log := by unfold failBoot; split <;> rfl
  have hboot (t : State) : (noteBootTime t).log = t.log := by unfold noteBootTime; split <;> rfl
  have hclose (t : State) : (closeBypass t).log = t.log := by simp [closeBypass, tellLost, cutOutputs]
  have hchat (t : State) : AddsMinor t (logChatter t) := by
    unfold logChatter
    split
    · exact .trans (.of_log rfl) (addsMinor_report (by exact ⟨rfl, rfl⟩) _)
    · exact .of_log rfl
  have hraise (t : State) : AddsMinor t (discardRaise t) := by
    unfold discardRaise
    split
    · exact .trans (.of_log rfl) (addsMinor_report (by exact ⟨rfl, rfl⟩) _)
    · exact .of_log rfl
  have hfault : AddsMinor s (logChatter (setState .fault (noteBootTime (failBoot s)))) :=
    .trans (.of_log (by rw [setState_log, hboot, hfail])) (hchat _)
  unfold enterFault
  exact hfault.trans (.trans (.of_log (by rw [State.onAon_log, State.onCore_log])) (.trans (hraise _) (.of_log (hclose _))))

theorem addsMinor_takeFatal : AddsMinor s (takeFatal s) := by
  have h (t : State) (ht : t.log = s.log) : AddsMinor s (enterFault t) := .trans (.of_log ht) (addsMinor_enterFault t)
  unfold takeFatal
  split
  · dsimp only
    split
    · exact .of_log rfl
    · exact .of_log rfl
    · exact .of_log rfl
    · exact .of_log rfl
    · split
      · exact .of_log rfl
      · exact h _ rfl
    · exact h _ rfl
  · exact .of_log rfl

theorem addsMinor_followState : AddsMinor s (followState s) := by
  have h (b : BlkState) : AddsMinor s (setState b s) := .of_log (setState_log b s)
  unfold followState
  split
  · split
    · exact h _
    · exact .of_log rfl
  · split
    · exact h _
    · exact .of_log rfl
  · exact .of_log rfl

theorem addsMinor_unsettled : AddsMinor s (followState (takeFatal s)) :=
  (addsMinor_takeFatal s).trans (addsMinor_followState _)

end

/-- Where no report has set POISON, settling leaves the tile register file alone. -/
theorem settle_trf_of_none {s : State} (h : ∀ r ∈ s.log.raised, r.setsPoison = false) : (settle s).trf = s.trf := by
  rw [settle, wakeCore_trf, flushLog_trf_of_none ((addsMinor_unsettled s).none_sets h)]
  simp

/-! ### A Fatal report comes first into an empty log -/

/-- Sorting leaves a Fatal report before the minor ones raised after it. -/
theorem sortBy_fatal_first {r : Report} {rs : List Report} (hr : isFatalCode r.code = true) (hs : ∀ q ∈ rs, q.minor) :
    ∃ l, sortBy Report.before (r :: rs) = r :: l := by
  have go (rs : List Report) (hs : ∀ q ∈ rs, q.minor) (l : List Report) :
      ∃ l', rs.foldl (fun acc a => sortInsert Report.before a acc) (r :: l) = r :: l' := by
    induction rs generalizing l with
    | nil => exact ⟨l, rfl⟩
    | cons q rs ih =>
      have hb : Report.before q r = false := by
        have hq := (hs q List.mem_cons_self).1
        simp [Report.before, hq, hr]
      rw [List.foldl_cons, sortInsert, hb]
      exact ih (fun p hp => hs p (List.mem_cons_of_mem q hp)) _
  exact go rs hs []

/-- The log has an entry of a code and a location, and no more entries than have been written this BCLK. -/
def HasEntry (code : BitVec 8) (loc : BitVec 64) (p : State × Nat) : Prop :=
  (∃ x ∈ p.1.log.entries, x.code = code ∧ x.loc = loc) ∧ p.1.log.entries.length ≤ p.2 ∧ p.2 ≤ 4

section
variable {code : BitVec 8} {loc : BitVec 64} {s t : State} {n : Nat}

theorem HasEntry.of_entries (h : HasEntry code loc (s, n)) (he : t.log.entries = s.log.entries) :
    HasEntry code loc (t, n) := by
  unfold HasEntry at h ⊢
  rwa [he]

/-- A repeat counts at its entry. -/
theorem HasEntry.repeatOf (h : HasEntry code loc (s, n)) (p : LogEntry → Bool) :
    HasEntry code loc (s.onLog fun l => l.repeatOf p, n) := by
  obtain ⟨⟨x, hx, hc, hl⟩, hlen, hn⟩ := h
  refine ⟨⟨if p x then { x with rep := satAdd x.rep 1 } else x, ?_, ?_, ?_⟩, ?_, hn⟩
  · exact List.mem_map_of_mem (f := fun e : LogEntry => if p e then { e with rep := satAdd e.rep 1 } else e) hx
  · split <;> exact hc
  · split <;> exact hl
  · simpa [Log.repeatOf] using hlen

theorem noteDrop_entries (r : Report) (q : BitVec 32) (s : State) : (noteDrop r q s).log.entries = s.log.entries := by
  unfold noteDrop
  split <;> rfl

theorem notePoisonEntry_log (r : Report) (q : BitVec 32) (s : State) : (notePoisonEntry r q s).log = s.log := by
  unfold notePoisonEntry
  split <;> rfl

/-- A new entry joins the others while there is room. -/
theorem writeNew_entries {r : Report} (h : s.log.entries.length < 64) :
    (writeNew r s).log.entries = s.log.entries ++ [entryOf s r] := by
  simp [writeNew, h, signalNew_log, noteDrop_entries, notePoisonEntry_log]

theorem HasEntry.writeNew (h : HasEntry code loc (s, n)) (hn : n < 4) (r : Report) :
    HasEntry code loc (writeNew r s, n + 1) := by
  obtain ⟨⟨x, hx, hcl⟩, hlen, -⟩ := h
  have he := writeNew_entries (r := r) (s := s) (Nat.lt_of_le_of_lt hlen (by omega))
  refine ⟨⟨x, ?_, hcl⟩, ?_, hn⟩
  · rw [he]; exact List.mem_append_left _ hx
  · rw [he, List.length_append]; exact Nat.succ_le_succ hlen

/-- Whatever else is written, the entry stays. -/
theorem HasEntry.logOne (r : Report) {p : State × Nat} (h : HasEntry code loc p) : HasEntry code loc (logOne r p) := by
  obtain ⟨s, n⟩ := p
  unfold Machine.logOne
  dsimp only
  split
  · exact h.of_entries rfl
  · split
    · split
      · exact h.repeatOf _
      · exact h
    · split
      · exact h.repeatOf _
      · exact (h.repeatOf _).of_entries (noteDrop_entries ..)
      · split
        · next hn => exact h.writeNew hn r
        · exact h.of_entries rfl

end

/-- A Fatal report finds its place in an empty log, whatever minor ones follow. -/
theorem flushLog_has_fatal {s : State} {r : Report} {rs : List Report} (hr : s.log.raised = r :: rs)
    (hf : isFatalCode r.code = true) (hs : ∀ q ∈ rs, q.minor) (he : s.log.entries = []) (hc : (r.code == 0x0E) = false)
    (hd : r.drop = none) : ∃ x ∈ (flushLog s).log.entries, x.code = r.code ∧ x.loc = r.loc := by
  obtain ⟨l, hl⟩ := sortBy_fatal_first hf hs
  have hm : isMasked (s.onLog fun l => { l with raised := [] }) r.code = false := by simp [isMasked, hf]
  have hone : HasEntry r.code r.loc (logOne r (s.onLog fun l => { l with raised := [] }, 0)) := by
    have h : logOne r (s.onLog fun l => { l with raised := [] }, 0) =
        (writeNew r (s.onLog fun l => { l with raised := [] }), 1) := logOne_of_empty he hm hc hd
    have hw := writeNew_entries (r := r) (s := s.onLog fun l => { l with raised := [] }) (by simp [he])
    rw [h]
    refine ⟨⟨entryOf (s.onLog fun l => { l with raised := [] }) r, ?_, rfl, rfl⟩, ?_, by simp⟩
    · rw [hw]; exact List.mem_append_right _ (List.mem_singleton_self _)
    · simp [hw, he]
  have hall := foldOver_keeps (HasEntry r.code r.loc) (fun q p => HasEntry.logOne q) l hone
  unfold flushLog
  rw [hr, hl]
  exact hall.1

end Sys2Proof.Machine
end

section
namespace Sys2Proof.Machine

/-! ### The lines that a purge reads back (R98) -/

/-- A purge's read-back finds an uncorrectable line. -/
def spoils (bad : List (Nat × LineErr)) : Bool := bad.any fun p => (readLine 0 p.2).ue

/-- The fields of the tile register file that the read-back leaves alone. -/
def Trf.unread (t : Trf) : SMap Beam × SMap Mortise × Bool × Bool × SMap Nat :=
  (t.beams, t.mort, t.lost, t.purging, t.clearAt)

section
variable (p : Nat × LineErr) (s : State)

theorem countCe_onlyIn (b : BitVec 20) (sym : Nat) (s : State) : OnlyIn [.trf, .log] s (countCe b sym s) := by
  unfold countCe
  dsimp only
  split
  · exact ((onTrf_onlyIn _ _).mono (by simp)).trans ((report_onlyIn _ _).mono (by simp))
  · exact (onTrf_onlyIn _ _).mono (by simp)

/-- What an uncorrectable line raises. -/
def spoiledReport (b : BitVec 20) (e : LineErr) : Report :=
  { code := 0x0C, unit := (bankOf b).setWidth 12
    loc := eccLoc ((readLine 0 e).c0 == .ue) ((readLine 0 e).c1 == .ue) 0xFF b }

/-- An uncorrectable line. -/
theorem purgeLine_spoiled (h : (readLine 0 p.2).ue = true) : purgeLine p s =
    fatal (spoiledReport (BitVec.ofNat 20 p.1) p.2) (s.onTrf fun t =>
      { t with errs := t.errs.set {} (BitVec.ofNat 20 p.1).toNat p.2
               ueTotal := satAdd t.ueTotal 1, purgeFails := satAdd t.purgeFails 1, verifyFail := true }) := by
  simp only [purgeLine, h, if_true]
  rfl

/-- Any other: corrected, or right. -/
theorem purgeLine_sound (h : (readLine 0 p.2).ue = false) : purgeLine p s =
    if (readLine 0 p.2).ce then countCe (BitVec.ofNat 20 p.1) (readLine 0 p.2).lowSym (s.onTrf fun t =>
      { t with errs := t.errs.set {} (BitVec.ofNat 20 p.1).toNat p.2 })
    else s.onTrf fun t => { t with errs := t.errs.set {} (BitVec.ofNat 20 p.1).toNat p.2 } := by
  simp only [purgeLine, h, Bool.false_eq_true, if_false]

theorem purgeLine_onlyIn : OnlyIn [.trf, .log, .aon] s (purgeLine p s) := by
  cases h : (readLine 0 p.2).ue with
  | true =>
    rw [purgeLine_spoiled p s h]
    exact ((onTrf_onlyIn _ _).mono (by simp)).trans
      (((report_onlyIn _ _).mono (by simp)).trans ((onAon_onlyIn _ _).mono (by simp)))
  | false =>
    rw [purgeLine_sound p s h]
    split
    · exact ((onTrf_onlyIn _ _).mono (by simp)).trans ((countCe_onlyIn ..).mono (by simp))
    · exact (onTrf_onlyIn _ _).mono (by simp)

theorem purgeLine_aon : (purgeLine p s).aon = { s.aon with fatalDue := s.aon.fatalDue || (readLine 0 p.2).ue } := by
  cases h : (readLine 0 p.2).ue with
  | true => rw [purgeLine_spoiled p s h, Bool.or_true]; rfl
  | false =>
    rw [purgeLine_sound p s h, Bool.or_false]
    split
    · exact (countCe_onlyIn ..).2 .aon (by simp)
    · rfl

/-- The fields that a count of correctable errors leaves alone. -/
theorem countCe_uncorrected (b : BitVec 20) (sym : Nat) (s : State) :
    (countCe b sym s).trf.unread = s.trf.unread ∧ (countCe b sym s).trf.errs = s.trf.errs ∧
      (countCe b sym s).trf.verifyFail = s.trf.verifyFail ∧ (countCe b sym s).trf.purgeFails = s.trf.purgeFails ∧
      (countCe b sym s).trf.ceTotal = satAdd s.trf.ceTotal 1 := by
  unfold countCe
  dsimp only
  split
  · rw [report_trf]; exact ⟨rfl, rfl, rfl, rfl, rfl⟩
  · exact ⟨rfl, rfl, rfl, rfl, rfl⟩

theorem purgeLine_unread : (purgeLine p s).trf.unread = s.trf.unread := by
  cases h : (readLine 0 p.2).ue with
  | true => rw [purgeLine_spoiled p s h]; rfl
  | false =>
    rw [purgeLine_sound p s h]
    split
    · exact (countCe_uncorrected ..).1
    · rfl

/-- The line's errors are those found; every other line keeps its own. -/
theorem purgeLine_errs : (purgeLine p s).trf.errs = s.trf.errs.set {} (BitVec.ofNat 20 p.1).toNat p.2 := by
  cases h : (readLine 0 p.2).ue with
  | true => rw [purgeLine_spoiled p s h]; rfl
  | false =>
    rw [purgeLine_sound p s h]
    split
    · exact (countCe_uncorrected ..).2.1
    · rfl

theorem purgeLine_verifyFail :
    (purgeLine p s).trf.verifyFail = (s.trf.verifyFail || (readLine 0 p.2).ue) := by
  cases h : (readLine 0 p.2).ue with
  | true => rw [purgeLine_spoiled p s h, Bool.or_true]; rfl
  | false =>
    rw [purgeLine_sound p s h, Bool.or_false]
    split
    · exact (countCe_uncorrected ..).2.2.1
    · rfl

theorem purgeLine_purgeFails : (purgeLine p s).trf.purgeFails =
    if (readLine 0 p.2).ue then satAdd s.trf.purgeFails 1 else s.trf.purgeFails := by
  cases h : (readLine 0 p.2).ue with
  | true => rw [purgeLine_spoiled p s h]; rfl
  | false =>
    rw [purgeLine_sound p s h]
    split
    · exact (countCe_uncorrected ..).2.2.2.1
    · rfl

theorem countCe_raised (b : BitVec 20) (sym : Nat) (s : State) : AddsMinor s (countCe b sym s) := by
  unfold countCe
  dsimp only
  split
  · exact .trans (.of_log rfl) (addsMinor_report (by exact ⟨rfl, rfl⟩) _)
  · exact .of_log rfl

theorem purgeLine_raised (hs : ∀ r ∈ s.log.raised, r.setsPoison = false) :
    ∀ r ∈ (purgeLine p s).log.raised, r.setsPoison = false := by
  cases h : (readLine 0 p.2).ue with
  | true =>
    rw [purgeLine_spoiled p s h]
    intro r hr
    rcases List.mem_append.1 hr with hr | hr
    · exact hs r hr
    · rw [List.mem_singleton.1 hr]; rfl
  | false =>
    rw [purgeLine_sound p s h]
    split
    · exact (countCe_raised ..).none_sets hs
    · exact hs

/-- A saturating count does not return to zero. -/
theorem satAdd_one_ne_zero (x : BitVec 8) : satAdd x 1 ≠ 0 := by
  unfold satAdd
  split
  · next h =>
    intro e
    have := congrArg BitVec.toNat e
    rw [BitVec.toNat_ofNat, Nat.mod_eq_of_lt h] at this
    exact absurd this (by simp)
  · decide

end

section
variable (bad : List (Nat × LineErr)) (s : State)

theorem lines_onlyIn : OnlyIn [.trf, .log, .aon] s (foldOver bad purgeLine s) := foldOver_onlyIn purgeLine_onlyIn bad s

theorem lines_aon : (foldOver bad purgeLine s).aon = { s.aon with fatalDue := s.aon.fatalDue || spoils bad } := by
  induction bad generalizing s with
  | nil => simp [spoils]
  | cons p bad ih =>
    rw [foldOver_cons, ih, purgeLine_aon]
    simp [spoils, Bool.or_assoc]

theorem lines_unread : (foldOver bad purgeLine s).trf.unread = s.trf.unread :=
  foldOver_same (fun t : State => t.trf.unread) purgeLine_unread bad s

theorem lines_lineErr {b : BitVec 20} (h : ∀ p ∈ bad, BitVec.ofNat 20 p.1 ≠ b) :
    lineErr (foldOver bad purgeLine s) b = lineErr s b := by
  induction bad generalizing s with
  | nil => rfl
  | cons p bad ih =>
    rw [foldOver_cons, ih _ fun q hq => h q (List.mem_cons_of_mem p hq), lineErr, purgeLine_errs]
    exact SMap.get_set_other _ _ _ fun e => h p List.mem_cons_self (BitVec.eq_of_toNat_eq e.symm)

theorem lines_verifyFail : (foldOver bad purgeLine s).trf.verifyFail = (s.trf.verifyFail || spoils bad) := by
  induction bad generalizing s with
  | nil => simp [spoils]
  | cons p bad ih =>
    rw [foldOver_cons, ih, purgeLine_verifyFail]
    simp [spoils, Bool.or_assoc]

/-- With no uncorrectable line the count stays; with one it is not zero. -/
theorem lines_purgeFails : (spoils bad = false → (foldOver bad purgeLine s).trf.purgeFails = s.trf.purgeFails) ∧
    (s.trf.purgeFails ≠ 0 ∨ spoils bad = true → (foldOver bad purgeLine s).trf.purgeFails ≠ 0) := by
  induction bad generalizing s with
  | nil => exact ⟨fun _ => rfl, fun h => h.resolve_right (by simp [spoils])⟩
  | cons p bad ih =>
    obtain ⟨ih0, ih1⟩ := ih (purgeLine p s)
    rw [purgeLine_purgeFails] at ih0 ih1
    rw [foldOver_cons]
    have hcons : spoils (p :: bad) = ((readLine 0 p.2).ue || spoils bad) := rfl
    rw [hcons]
    cases hue : (readLine 0 p.2).ue with
    | true => exact ⟨nofun, fun _ => ih1 (Or.inl (by rw [hue, if_pos rfl]; exact satAdd_one_ne_zero _))⟩
    | false =>
      rw [hue] at ih0 ih1
      exact ⟨ih0, ih1⟩

theorem lines_raised (hs : ∀ r ∈ s.log.raised, r.setsPoison = false) :
    ∀ r ∈ (foldOver bad purgeLine s).log.raised, r.setsPoison = false :=
  foldOver_keeps (fun t : State => ∀ r ∈ t.log.raised, r.setsPoison = false) (fun p t h => purgeLine_raised p t h) bad hs

end

/-! ### The file after a purge -/

/-- Every line written with zeros, and the beats that this takes counted. -/
def purgeZeroed (s : State) : State := govEvent 15 1048576 (govEvent 14 1048576 (purgeClear s))

/-- The file after a purge and its read-back, scrub beginning anew. -/
def purgedFile (bad : List (Nat × LineErr)) (s : State) : State := scrubRestart (foldOver bad purgeLine (purgeZeroed s))

theorem purgeZeroed_log (s : State) : (purgeZeroed s).log = s.log := by rfl
theorem purgeZeroed_aon (s : State) : (purgeZeroed s).aon = s.aon := by rfl

theorem fatal_log (r : Report) (s : State) : (fatal r s).log = { s.log with
    raised := s.log.raised ++ [{ r with nested := r.nested || (isFatalCode r.code && s.aon.st == .fault) }] } := by rfl

theorem exec_purgeComplete (bad : List (Nat × LineErr)) (s : State) : exec (.purgeComplete bad) s =
    done (onlyIf (s.trf.purging && mainOn s) (fun s => purgeThenLeave (purgeLeave (purgedFile bad s))) s) := rfl

/-- The units that a purge does not concern. -/
theorem purgedFile_onlyIn (bad : List (Nat × LineErr)) (s : State) :
    OnlyIn [.trf, .sinter, .col, .gov, .arb, .log, .aon] s (purgedFile bad s) := by
  have hz : OnlyIn [.trf, .sinter, .col, .gov, .arb, .log, .aon] s (purgeZeroed s) :=
    ⟨rfl, fun p hp => by cases p <;> simp_all [SamePart, purgeZeroed, purgeClear, dropCommits, govEvent]⟩
  refine hz.trans (((lines_onlyIn bad _).mono (by simp)).trans ?_)
  exact ((onTrf_onlyIn _ _).mono (by simp)).trans ((onArb_onlyIn _ _).mono (by simp))

section
variable {bad : List (Nat × LineErr)} {s : State}

theorem purgedFile_aon (hs : Settled s) : (purgedFile bad s).aon = { s.aon with fatalDue := spoils bad } := by
  have h := lines_aon bad (purgeZeroed s)
  rw [purgeZeroed_aon, hs.1.2, Bool.false_or] at h
  exact h

theorem purgedFile_sinter : (purgedFile bad s).sinter =
    { s.sinter with tally := [], partials := [], partPoison := [], tallyPoison := 0 } :=
  (lines_onlyIn bad (purgeZeroed s)).2 .sinter (by simp)

theorem purgedFile_col : (purgedFile bad s).col = { s.col with tally := 0, tallyPoison := false } :=
  (lines_onlyIn bad (purgeZeroed s)).2 .col (by simp)

theorem purgedFile_unread : (purgedFile bad s).trf.unread =
    ([], if s.aon.st == .boot then [] else s.trf.mort.filter fun p => p.2.st == .retired, false, false, []) :=
  lines_unread bad (purgeZeroed s)

theorem purgedFile_lineErr {b : BitVec 20} (h : ∀ p ∈ bad, BitVec.ofNat 20 p.1 ≠ b) : lineErr (purgedFile bad s) b = {} :=
  lines_lineErr bad (purgeZeroed s) h

theorem purgedFile_verifyFail : (purgedFile bad s).trf.verifyFail = spoils bad :=
  (lines_verifyFail bad (purgeZeroed s)).trans (Bool.false_or _)

theorem purgedFile_purgeFails : (spoils bad = false → (purgedFile bad s).trf.purgeFails = 0) ∧
    (spoils bad = true → (purgedFile bad s).trf.purgeFails ≠ 0) := by
  obtain ⟨h0, h1⟩ := lines_purgeFails bad (purgeZeroed s)
  exact ⟨h0, fun h => h1 (Or.inr h)⟩

theorem purgedFile_raised (hs : Settled s) : ∀ r ∈ (purgedFile bad s).log.raised, r.setsPoison = false := by
  refine lines_raised bad (purgeZeroed s) fun r hr => ?_
  rw [purgeZeroed_log, hs.1.1] at hr
  exact absurd hr List.not_mem_nil

/-- A line that is read back with one symbol wrong is counted. -/
theorem purgedFile_ceTotal {b : BitVec 20} {e : LineErr} (hu : (readLine 0 e).ue = false)
    (hc : (readLine 0 e).ce = true) : (purgedFile [(b.toNat, e)] s).trf.ceTotal = satAdd s.trf.ceTotal 1 := by
  show (purgeLine (b.toNat, e) (purgeZeroed s)).trf.ceTotal = _
  rw [purgeLine_sound _ _ hu, if_pos hc]
  exact (countCe_uncorrected ..).2.2.2.2

theorem purgedFile_log : (purgedFile bad s).log = (foldOver bad purgeLine (purgeZeroed s)).log := by rfl

/-- A line that is read back uncorrectable is reported, the log else as it was. -/
theorem purgedFile_log_of_spoiled (hs : Settled s) {b : BitVec 20} {e : LineErr} (hu : (readLine 0 e).ue = true) :
    ∃ r : Report, (purgedFile [(b.toNat, e)] s).log = { s.log with raised := [r] } ∧ r.code = 0x0C ∧
      r.loc = eccLoc ((readLine 0 e).c0 == .ue) ((readLine 0 e).c1 == .ue) 0xFF b ∧ r.drop = none := by
  have hb : BitVec.ofNat 20 b.toNat = b := by simp
  refine ⟨{ spoiledReport b e with
    nested := (spoiledReport b e).nested || (isFatalCode (spoiledReport b e).code && s.aon.st == .fault) },
    ?_, rfl, rfl, rfl⟩
  rw [purgedFile_log, foldOver_cons, foldOver_nil, purgeLine_spoiled _ _ hu]
  dsimp only
  rw [hb, fatal_log, State.onTrf_log, State.onTrf_aon, purgeZeroed_log, purgeZeroed_aon, hs.1.1, List.nil_append]

end

end Sys2Proof.Machine
end

section
namespace Sys2Proof.Machine

/-! ### The state after a purge (R23, R98) -/

/-- The fields of the tile register file that the end of a purge leaves to what follows it. -/
def Trf.purged (t : Trf) : SMap Beam × SMap LineErr × SMap Mortise × Bool × Bool × BitVec 8 × Bool :=
  (t.beams, t.errs, t.mort, t.lost, t.purging, t.purgeFails, t.verifyFail)

/-- What holds of each end of a purge holds of its end. -/
theorem purgeLeave_elim {P : State → Prop} (w : State)
    (hfault : P (enterFault (w.onAon fun a => { a with fatalDue := false }))) (hember : P (enterEmber w))
    (hready : P (setState .ready w)) (hboot : P (bootFault (w.onAon fun a => { a with fatalDue := false })))
    (hstay : P w) : P (purgeLeave w) := by
  unfold purgeLeave
  split
  · split
    · exact hfault
    · split
      · exact hember
      · exact hready
  · split
    · exact hboot
    · exact hstay
  · exact hstay

section
variable (w : State)

theorem enterFault_sinter : (enterFault w).sinter = w.sinter := congrArg (·.sinter) (unsettled_enterFault w)

theorem enterFault_joining : { (enterFault w).col with joining := false } = { w.col with joining := false } :=
  congrArg (·.col) (unsettled_enterFault w)

theorem setState_joining (b : BlkState) : { (setState b w).col with joining := false } = { w.col with joining := false } :=
  congrArg (·.col) (unsettled_setState b w)

theorem enterEmber_sinter : (enterEmber w).sinter = w.sinter := by
  unfold enterEmber
  dsimp only
  split <;> exact setState_sinter .ember w

theorem enterEmber_joining : { (enterEmber w).col with joining := false } = { w.col with joining := false } := by
  unfold enterEmber
  dsimp only
  split <;> exact setState_joining w .ember

theorem undoLoad_purged : (undoLoad w).trf.purged = w.trf.purged := by rfl

theorem purgeLeave_purged : (purgeLeave w).trf.purged = w.trf.purged := by
  refine purgeLeave_elim (P := fun u => u.trf.purged = w.trf.purged) w ?_ ?_ ?_ ?_ rfl
  · rw [enterFault_trf]; rfl
  · rw [enterEmber_trf]
  · rw [setState_trf]
  · rw [bootFault, enterFault_trf, undoLoad_purged]; rfl

theorem purgeLeave_clearAt (h : w.trf.clearAt = []) : (purgeLeave w).trf.clearAt = [] := by
  refine purgeLeave_elim (P := fun u => u.trf.clearAt = []) w ?_ ?_ ?_ ?_ h
  · rw [enterFault_trf]; exact h
  · rw [enterEmber_trf]; exact h
  · rw [setState_trf]; exact h
  · rw [bootFault, enterFault_trf]; rfl

theorem purgeLeave_sinter : (purgeLeave w).sinter = w.sinter ∨ (purgeLeave w).sinter = {} := by
  refine purgeLeave_elim (P := fun u => u.sinter = w.sinter ∨ u.sinter = {}) w ?_ ?_ ?_ ?_ (.inl rfl)
  · exact .inl ((enterFault_sinter _).trans rfl)
  · exact .inl (enterEmber_sinter w)
  · exact .inl (setState_sinter .ready w)
  · exact .inr ((enterFault_sinter _).trans rfl)

/-- The collective unit stays but for its JOIN, or is as at reset. -/
theorem purgeLeave_col : { (purgeLeave w).col with joining := false } = { w.col with joining := false } ∨
    { (purgeLeave w).col with joining := false } = {} := by
  refine purgeLeave_elim (P := fun u => { u.col with joining := false } = { w.col with joining := false } ∨
    { u.col with joining := false } = ({} : Col)) w ?_ ?_ ?_ ?_ (.inl rfl)
  · exact .inl ((enterFault_joining _).trans rfl)
  · exact .inl (enterEmber_joining w)
  · exact .inl (setState_joining w .ready)
  · exact .inr ((enterFault_joining _).trans rfl)

theorem undoLoad_log : (undoLoad w).log = w.log := by rfl

theorem addsMinor_purgeLeave : AddsMinor w (purgeLeave w) := by
  refine purgeLeave_elim (P := AddsMinor w) w ?_ ?_ ?_ ?_ (.of_log rfl)
  · exact .trans (.of_log (State.onAon_log ..)) (addsMinor_enterFault _)
  · unfold enterEmber
    dsimp only
    split
    · refine .trans (.of_log (setState_log .ember w)) (.trans (.of_log (State.onAon_log ..)) (.trans
        (addsMinor_report (r := { code := 0x78, unit := 9 }) ⟨rfl, rfl⟩ _) (.of_log (State.onGov_log ..))))
    · exact .of_log (setState_log .ember w)
  · exact .of_log (setState_log .ready w)
  · exact .trans (.of_log (by rw [undoLoad_log, State.onAon_log])) (addsMinor_enterFault _)

end

/-! ### LEAVE (R266) -/

section
variable (s : State)

theorem closePlanned_col : (closePlanned s).col = s.col := by
  have h (l : Fin 3) (t : State) : (closeDue l t).col = t.col := by
    unfold closeDue
    split <;> rfl
  unfold closePlanned
  dsimp only
  rw [h, State.onLink_col, h, State.onLink_col]

theorem ringless_closePlanned : (closePlanned s).ringless = s.ringless := by
  have h (l : Fin 3) (t : State) : (closeDue l t).ringless = t.ringless := by
    unfold closeDue
    split
    · exact (ringless_onAon rfl).trans (ringless_onLink _ _ _)
    · rfl
  unfold closePlanned
  dsimp only
  rw [h, ringless_onLink, h, ringless_onLink]

theorem closePlanned_log : (closePlanned s).log = s.log := by
  have h (l : Fin 3) (t : State) : (closeDue l t).log = t.log := by
    unfold closeDue
    split <;> rfl
  unfold closePlanned
  dsimp only
  rw [h, State.onLink_log, h, State.onLink_log]

theorem ringless_leaveRing : (leaveRing s).ringless = s.ringless :=
  (ringless_closePlanned _).trans (ringless_noMember s)

theorem addsMinor_leaveEpoch (up : Bool) : AddsMinor s (leaveEpoch up s) := by
  have hchunk (t : State) : (tallyChunks true t).log = t.log := by
    unfold tallyChunks
    split
    · rfl
    · dsimp only
      split_ifs <;> rfl
  have hend (t : State) (status : BitVec 4) (code : BitVec 8) : (endRun status code t).log = t.log := by
    have hnote (k : BitVec 32) (irq : Bool) (n : Nat) (u : State) : (noteEnd k irq status n code u).log = u.log := by rfl
    have hdrop (c : Client) (u : State) : (dropOwner c u).log = u.log := by rfl
    unfold endRun
    split
    · rfl
    · rw [hnote, State.onCol_log, hdrop, hdrop, hchunk]
  have hshort : AddsMinor s (endShort s) := by
    unfold endShort
    split
    · exact .of_log rfl
    · next r _ =>
      refine .trans (addsMinor_report (r := colReport 0x6D 3 r.ticket 0) ⟨rfl, rfl⟩ s) (.of_log ?_)
      rw [State.onAon_log, hend]
  unfold leaveEpoch
  dsimp only
  split
  · exact hshort.trans (.of_log (by rw [State.onCol_log, dropWaiting, State.onAon_log]))
  · exact .of_log (by rw [State.onCol_log, dropWaiting, State.onAon_log])

theorem addsMinor_leaveRing : AddsMinor s (leaveRing s) := by
  have hshift (t : State) : (clearShift t).log = t.log := by
    unfold clearShift addShift
    dsimp only
    split_ifs <;> rfl
  refine ((addsMinor_leaveEpoch s false).trans (addsMinor_leaveEpoch _ true)).trans (.of_log ?_)
  rw [leaveRing, closePlanned_log, noMember, State.onCol_log, hshift]

theorem sendOn_log (l : Fin 3) (p : Packet) : (sendOn l p s).log = s.log := by
  have hdrive (t : State) : (drive l p t).log = t.log := by
    unfold drive
    dsimp only
    split_ifs <;> rfl
  unfold sendOn sendFrom
  split_ifs
  · rfl
  · exact hdrive s
  · rfl

/-- What the block that leaves does after its purge. -/
def leavesRing (s : State) : State :=
  leaveRing ((sendOn 0 (ctlHdr s 4 false (ridgeFid s), .leave false) s).onCol fun c => { c with leaving := false })

theorem purgeThenLeave_eq : purgeThenLeave s = if s.col.leaving && s.aon.st != .fault then leavesRing s else s := rfl

theorem ringless_purgeThenLeave : (purgeThenLeave s).ringless = s.ringless := by
  rw [purgeThenLeave_eq]
  split
  · rw [leavesRing, ringless_leaveRing, ringless_onCol, ringless_sendOn]
  · rfl

theorem addsMinor_purgeThenLeave : AddsMinor s (purgeThenLeave s) := by
  rw [purgeThenLeave_eq]
  split
  · exact .trans (.of_log (by rw [State.onCol_log, sendOn_log])) (addsMinor_leaveRing _)
  · exact .of_log rfl

variable {s}

/-- Collective units that differ in what they count alone have the same sum. -/
theorem tally_of_unsent {c d : Col} (h : c.unsent = d.unsent) : c.tally = d.tally := congrArg (a₁ := c.unsent) (a₂ := d.unsent) Col.tally h

theorem run_of_unsent {c d : Col} (h : c.unsent = d.unsent) : c.run = d.run := congrArg (a₁ := c.unsent) (a₂ := d.unsent) Col.run h

theorem leaving_of_unrun {c d : Col} (h : c.unrun = d.unrun) : c.leaving = d.leaving :=
  congrArg (a₁ := c.unrun) (a₂ := d.unrun) Col.leaving h

/-- With no collective running a scope leaves its epoch and counts what waited. -/
theorem leaveEpoch_unsent_of_idle (h : s.col.run = none) (up : Bool) :
    (leaveEpoch up s).col.unsent = s.col.unsent := by
  simp only [leaveEpoch, h, Option.any_none, Bool.false_eq_true, if_false]
  rfl

/-- Nothing is summed then as the ring is left. -/
theorem leaveRing_tally_of_idle (h : s.col.run = none) : (leaveRing s).col.tally = s.col.tally := by
  have h1 := leaveEpoch_unsent_of_idle h false
  have hrun : (leaveEpoch false s).col.run = none := (run_of_unsent h1).trans h
  have h2 := leaveEpoch_unsent_of_idle hrun true
  rw [leaveRing, closePlanned_col, noMember, State.onCol_col, clearShift_col]
  show (leaveEpoch true (leaveEpoch false s)).col.tally = s.col.tally
  exact tally_of_unsent (h2.trans h1)

theorem purgeThenLeave_tally (h : s.col.leaving = false ∨ s.col.run = none) :
    (purgeThenLeave s).col.tally = s.col.tally := by
  rw [purgeThenLeave_eq]
  rcases h with h | h
  · rw [h]; rfl
  · split
    · have hu := unsent_sendOn s 0 (ctlHdr s 4 false (ridgeFid s), .leave false)
      have htally : (sendOn 0 (ctlHdr s 4 false (ridgeFid s), .leave false) s).col.tally = s.col.tally :=
        tally_of_unsent hu
      have hrun : (sendOn 0 (ctlHdr s 4 false (ridgeFid s), .leave false) s).col.run = s.col.run :=
        run_of_unsent hu
      exact (leaveRing_tally_of_idle (by rw [State.onCol_col]; exact hrun.trans h)).trans
        (by rw [State.onCol_col]; exact htally)
    · rfl

/-! What leaving does at the output it leaves on. -/

/-- What an output has carried, and its control credits. -/
def LinkSt.sent (k : LinkSt) : List Packet × Nat := (k.out, k.ctlCr)

theorem link_map (f : LinkSt → LinkSt) (a : Vector LinkSt 3) (l : Fin 3) : (a.map f)[l] = f a[l] := Vector.getElem_map ..

theorem leaveEpoch_link (up : Bool) (l : Fin 3) : (leaveEpoch up s).aon.link[l].sent = s.aon.link[l].sent ∧
    (s.aon.link[l].txq = [] → (leaveEpoch up s).aon.link[l].txq = []) := by
  have hshort : (endShort s).aon.link[l].sent = s.aon.link[l].sent ∧
      (s.aon.link[l].txq = [] → (endShort s).aon.link[l].txq = []) := by
    unfold endShort
    split
    · exact ⟨rfl, id⟩
    · rw [State.onAon_aon, link_map, aon_endRun]
      exact ⟨rfl, fun h => by
        show List.filter _ s.aon.link[l].txq = []
        rw [h]; rfl⟩
  unfold leaveEpoch
  dsimp only
  rw [State.onCol_aon, dropWaiting, State.onAon_aon, link_map]
  split
  · exact hshort
  · exact ⟨rfl, id⟩

theorem noMember_link (l : Fin 3) : (noMember s).aon.link[l].sent = s.aon.link[l].sent ∧
    (s.aon.link[l].txq = [] → (noMember s).aon.link[l].txq = []) := by
  have h : (noMember s).aon = (leaveEpoch true (leaveEpoch false s)).aon := by
    rw [noMember, State.onCol_aon, aon_clearShift]
  obtain ⟨h1, h2⟩ := leaveEpoch_link (s := s) false l
  obtain ⟨k1, k2⟩ := leaveEpoch_link (s := leaveEpoch false s) true l
  rw [h]
  exact ⟨k1.trans h1, fun hq => k2 (h2 hq)⟩

theorem link_onLink (i l : Fin 3) (f : LinkSt → LinkSt) (s : State) :
    (s.onLink i f).aon.link[l] = if i = l then f s.aon.link[l] else s.aon.link[l] := vmod_getElem ..

theorem link_onAon {f : Aon → Aon} (h : ∀ a, (f a).link = a.link) (s : State) (l : Fin 3) :
    (s.onAon f).aon.link[l] = s.aon.link[l] := by rw [State.onAon_aon, h]

/-- The clockwise output's bypass closed, that output having nothing to send. -/
def cwClosed (s : State) : State :=
  ((s.onLink 0 fun k => { k with closing := k.closing || !bypassed s 0 }).onLink 0 fun k =>
    { k with closing := false }).onAon fun a => { a with bypCw := a.bypCw || (0 : Fin 3) = 0
                                                         bypCcw := a.bypCcw || (0 : Fin 3) = 1 }

theorem cwClosed_bypCw : (cwClosed s).aon.bypCw = true := by
  rw [cwClosed, State.onAon_aon]
  exact Bool.or_true _

theorem cwClosed_sent : (cwClosed s).aon.link[(0 : Fin 3)].sent = s.aon.link[(0 : Fin 3)].sent := by
  rw [cwClosed, link_onAon (by exact fun _ => rfl), link_onLink, if_pos rfl, link_onLink, if_pos rfl]
  rfl

/-- Closing the other output leaves the clockwise one as it is. -/
theorem closeDue_other (f : LinkSt → LinkSt) (h : s.aon.bypCw = true) :
    (closeDue 1 (s.onLink 1 f)).aon.bypCw = true ∧
      (closeDue 1 (s.onLink 1 f)).aon.link[(0 : Fin 3)] = s.aon.link[(0 : Fin 3)] := by
  unfold closeDue
  split
  · refine ⟨?_, ?_⟩
    · rw [State.onAon_aon]
      exact (congrArg (· || _) h).trans (Bool.true_or _)
    · rw [link_onAon (by exact fun _ => rfl), link_onLink, if_neg (by decide), link_onLink, if_neg (by decide)]
  · exact ⟨h, (link_onLink ..).trans (if_neg (by decide))⟩

/-- An output that has nothing to send closes its bypass at once. -/
theorem closePlanned_closes (hb : bypassed s 0 = false) (hq : s.aon.link[(0 : Fin 3)].txq = []) :
    (closePlanned s).aon.bypCw = true ∧ (closePlanned s).aon.link[(0 : Fin 3)].sent = s.aon.link[(0 : Fin 3)].sent := by
  have h0 : closeDue 0 (s.onLink 0 fun k => { k with closing := k.closing || !bypassed s 0 }) = cwClosed s := by
    unfold closeDue
    rw [link_onLink, if_pos rfl, hb, hq, cwClosed, hb]
    simp
  unfold closePlanned
  dsimp only
  rw [h0]
  obtain ⟨hbyp, hlink⟩ := closeDue_other (s := cwClosed s) (fun k =>
    { k with closing := k.closing || !bypassed (cwClosed s) 1 }) cwClosed_bypCw
  exact ⟨hbyp, (congrArg LinkSt.sent hlink).trans cwClosed_sent⟩

/-- The block that leaves has sent LEAVE, is no member and has closed its bypass. -/
theorem leavesRing_leaves (hl : linkUp s 0 = true) (hq : s.aon.link[(0 : Fin 3)].txq = [])
    (hcr : 1 ≤ s.aon.link[(0 : Fin 3)].ctlCr) :
    (leavesRing s).aon.link[(0 : Fin 3)].sent =
        (s.aon.link[(0 : Fin 3)].out ++ [(ctlHdr s 4 false (ridgeFid s), .leave false)],
          s.aon.link[(0 : Fin 3)].ctlCr - 1) ∧
      (leavesRing s).aon.bypCw = true ∧ (leavesRing s).col.members = [] ∧ (leavesRing s).col.epoch = 0 ∧
      (leavesRing s).col.leaving = false := by
  let p : Packet := (ctlHdr s 4 false (ridgeFid s), .leave false)
  have hsend : sendOn 0 p s = drive 0 p s :=
    sendFrom_drives none hl rfl rfl hcr (fun q h => by rw [hq] at h; exact absurd h List.not_mem_nil)
  let d : State := (drive 0 p s).onCol fun c => { c with leaving := false }
  have hd : d.aon.link[(0 : Fin 3)].sent = (s.aon.link[(0 : Fin 3)].out ++ [p], s.aon.link[(0 : Fin 3)].ctlCr - 1) ∧
      d.aon.link[(0 : Fin 3)].txq = [] := by
    show (drive 0 p s).aon.link[(0 : Fin 3)].sent = _ ∧ (drive 0 p s).aon.link[(0 : Fin 3)].txq = []
    rw [drive_link]
    exact ⟨rfl, hq⟩
  have hby : bypassed d 0 = false := by
    have h0 : bypassed (drive 0 p s) 0 = bypassed s 0 := by
      unfold drive
      dsimp only
      split_ifs <;> rfl
    have hl' := hl
    simp only [linkUp, Bool.and_eq_true, if_neg (show ¬ (0 : Fin 3) = 2 by decide), Bool.not_eq_true'] at hl'
    exact h0.trans hl'.2
  obtain ⟨hn, hnq⟩ := noMember_link (s := d) 0
  obtain ⟨hc, hs⟩ := closePlanned_closes (s := noMember d) (by rw [bypassed_noMember]; exact hby) (hnq hd.2)
  have hlv : leavesRing s = closePlanned (noMember d) := by
    show leaveRing ((sendOn 0 p s).onCol _) = _
    rw [hsend]
    rfl
  have hleave : (noMember d).col.leaving = false := by
    have h : (leaveEpoch true (leaveEpoch false d)).col.unrun = d.col.unrun := by rw [unrun_leaveEpoch, unrun_leaveEpoch]
    show (clearShift (leaveEpoch true (leaveEpoch false d))).col.leaving = false
    rw [clearShift_col]
    exact leaving_of_unrun h
  rw [hlv, closePlanned_col]
  exact ⟨hs.trans (hn.trans hd.1), hc, rfl, rfl, hleave⟩

end

end Sys2Proof.Machine
end

section
namespace Sys2Proof.Machine

/-! ### Settling after a purge -/

section
variable {s : State}

/-- With no Fatal event due, settling follows the phases alone. -/
theorem settle_unstated_of_sound (h : s.aon.fatalDue = false) : (settle s).aon.unstated = s.aon.unstated := by
  have hf : (followState s).aon.unstated = s.aon.unstated := by
    unfold followState
    split
    · split
      · exact setState_unstated ..
      · rfl
    · split
      · exact setState_unstated ..
      · rfl
    · rfl
  have hu := settle_unlogged s
  rw [takeFatal_quiet h] at hu
  have ha := congrArg (fun t : State => t.aon.unstated) hu
  exact ha.trans hf

/-- A state that no phase moves stays. -/
theorem settle_st_of_sound (h : s.aon.fatalDue = false) (hrun : s.aon.st ≠ .run)
    (hready : s.aon.st = .ready → anyPhase s = false) : (settle s).aon.st = s.aon.st := by
  rw [settle_st, takeFatal_quiet h]
  unfold followState
  split
  · next hst => rw [hready hst, if_neg Bool.false_ne_true]
  · next hst => exact absurd hst hrun
  · rfl

theorem settle_joining (s : State) : { (settle s).col with joining := false } = { s.col with joining := false } :=
  congrArg (·.col) (unsettled_settle s)

/-- What a collective unit keeps where only its JOIN may differ. -/
def Col.unjoined (c : Col) : Col := { c with joining := false }

theorem tally_of_unjoined {c d : Col} (h : c.unjoined = d.unjoined) : c.tally = d.tally :=
  congrArg (a₁ := c.unjoined) (a₂ := d.unjoined) Col.tally h

theorem leaving_of_unjoined {c d : Col} (h : c.unjoined = d.unjoined) : c.leaving = d.leaving :=
  congrArg (a₁ := c.unjoined) (a₂ := d.unjoined) Col.leaving h

theorem run_of_unjoined {c d : Col} (h : c.unjoined = d.unjoined) : c.run = d.run :=
  congrArg (a₁ := c.unjoined) (a₂ := d.unjoined) Col.run h

theorem members_of_unjoined {c d : Col} (h : c.unjoined = d.unjoined) : c.members = d.members :=
  congrArg (a₁ := c.unjoined) (a₂ := d.unjoined) Col.members h

theorem epoch_of_unjoined {c d : Col} (h : c.unjoined = d.unjoined) : c.epoch = d.epoch :=
  congrArg (a₁ := c.unjoined) (a₂ := d.unjoined) Col.epoch h

end

/-! ### Where a purge ends (R23) -/

section
variable {w : State}

theorem purgeLeave_of_fails (hst : w.aon.st = .purge ∨ w.aon.st = .boot)
    (h : (w.aon.pendFatal || w.aon.fatalDue) = true) :
    (purgeLeave w).aon.st = .fault ∧ (purgeLeave w).aon.fatalDue = false := by
  unfold purgeLeave
  rcases hst with hst | hst
  · rw [hst]
    dsimp only
    rw [h, if_pos rfl]
    exact ⟨enterFault_st _, enterFault_fatalDue _⟩
  · rw [hst]
    dsimp only
    rw [h, Bool.true_or, if_pos rfl]
    exact ⟨enterFault_st _, (enterFault_fatalDue _).trans rfl⟩

theorem purgeLeave_of_sound (hst : w.aon.st = .purge) (h : (w.aon.pendFatal || w.aon.fatalDue) = false) :
    purgeLeave w = if w.aon.qState == .latched then enterEmber w else setState .ready w := by
  unfold purgeLeave
  rw [hst]
  dsimp only
  rw [h, if_neg Bool.false_ne_true]

theorem purgeLeave_boot (hst : w.aon.st = .boot) (h : (w.aon.pendFatal || w.aon.fatalDue) = false)
    (hq : w.aon.seqr.failed = false) : purgeLeave w = w := by
  unfold purgeLeave
  rw [hst]
  dsimp only
  rw [h, hq, Bool.false_or, if_neg Bool.false_ne_true]

/-- The always-on part with what entering EMBER or READY can change blanked. -/
def Aon.unquenched (a : Aon) : Aon := { a.unstated with qLogDue := false }

/-- A purge that nothing has spoilt ends in EMBER or READY, which changes no more than the state itself. -/
theorem purgeLeave_sound (hst : w.aon.st = .purge) (h : (w.aon.pendFatal || w.aon.fatalDue) = false) :
    (purgeLeave w).aon.st = (if w.aon.qState == .latched then .ember else .ready) ∧
      (purgeLeave w).aon.unquenched = w.aon.unquenched ∧ (purgeLeave w).sched = w.sched ∧
      (purgeLeave w).col.unjoined = w.col.unjoined := by
  have hset (b : BlkState) : (setState b w).aon.unquenched = w.aon.unquenched :=
    congrArg (fun a : Aon => { a with qLogDue := false }) (setState_unstated b w)
  rw [purgeLeave_of_sound hst h]
  split
  · obtain ⟨hsched, haon⟩ := enterEmber_keeps w
    refine ⟨?_, ?_, hsched, enterEmber_joining w⟩
    · rw [haon]; exact setState_st .ember w
    · rw [haon]; exact hset .ember
  · exact ⟨setState_st .ready w, hset .ready, setState_sched .ready w, setState_joining w .ready⟩

end

section
variable {a c : Aon} (h : a.unquenched = c.unquenched)
include h

theorem fatalDue_of_unquenched : a.fatalDue = c.fatalDue :=
  congrArg (a₁ := a.unquenched) (a₂ := c.unquenched) Aon.fatalDue h
theorem link_of_unquenched : a.link = c.link := congrArg (a₁ := a.unquenched) (a₂ := c.unquenched) Aon.link h
theorem bypCw_of_unquenched : a.bypCw = c.bypCw := congrArg (a₁ := a.unquenched) (a₂ := c.unquenched) Aon.bypCw h
theorem fabricId_of_unquenched : a.fabricId = c.fabricId :=
  congrArg (a₁ := a.unquenched) (a₂ := c.unquenched) Aon.fabricId h
theorem clocks_of_unquenched : a.vaon = c.vaon ∧ a.rootclk = c.rootclk ∧ a.arstN = c.arstN :=
  ⟨congrArg (a₁ := a.unquenched) (a₂ := c.unquenched) Aon.vaon h,
    congrArg (a₁ := a.unquenched) (a₂ := c.unquenched) Aon.rootclk h,
    congrArg (a₁ := a.unquenched) (a₂ := c.unquenched) Aon.arstN h⟩

end

/-- What leaving the ring makes of s, where t is its end: LEAVE sent, the bypass closed, no member. -/
def LeavesAs (s t : State) : Prop :=
  t.aon.link[(0 : Fin 3)].out = s.aon.link[(0 : Fin 3)].out ++ [(ctlHdr s 4 false (ridgeFid s), .leave false)] ∧
    t.aon.link[(0 : Fin 3)].ctlCr = s.aon.link[(0 : Fin 3)].ctlCr - 1 ∧ t.aon.bypCw = true ∧ t.col.members = [] ∧
    t.col.epoch = 0 ∧ t.col.leaving = false

section
variable {s t u : State}

theorem LeavesAs.settle (h : LeavesAs s t) (hf : t.aon.fatalDue = false) : LeavesAs s (settle t) := by
  have ha := settle_unstated_of_sound hf
  have hk : (Machine.settle t).aon.link = t.aon.link :=
    congrArg (a₁ := (Machine.settle t).aon.unstated) (a₂ := t.aon.unstated) Aon.link ha
  have hb : (Machine.settle t).aon.bypCw = t.aon.bypCw :=
    congrArg (a₁ := (Machine.settle t).aon.unstated) (a₂ := t.aon.unstated) Aon.bypCw ha
  have hc : (Machine.settle t).col.unjoined = t.col.unjoined := settle_joining t
  unfold LeavesAs at h ⊢
  rwa [hk, hb, members_of_unjoined hc, epoch_of_unjoined hc, leaving_of_unjoined hc]

theorem ctlHdr_of_unquenched (ha : u.aon.unquenched = s.aon.unquenched) (hm : u.col.members = s.col.members)
    (he : u.col.epoch = s.col.epoch) : ctlHdr u 4 false (ridgeFid u) = ctlHdr s 4 false (ridgeFid s) := by
  have hr : ridgeFid u = ridgeFid s := by rw [ridgeFid, ridgeFid, ringFids, ringFids, hm]
  have hep : epochOf u false = epochOf s false := he
  have ho : ownFid u = ownFid s := fabricId_of_unquenched ha
  simp only [ctlHdr, hr, hep, ho]

theorem linkUp_of_unquenched (ha : u.aon.unquenched = s.aon.unquenched) : linkUp u 0 = linkUp s 0 := by
  obtain ⟨h1, h2, h3⟩ := clocks_of_unquenched ha
  have hon : aonOn u = aonOn s := by rw [aonOn, aonOn, h1, h2, h3]
  have hup (v : State) : linkUp v 0 = (aonOn v && !v.aon.bypCw) := by rfl
  rw [hup, hup, hon, bypCw_of_unquenched ha]

/-- Leaving goes by the output, the identity, the ring and its epoch alone. -/
theorem leavesAs_leavesRing (ha : u.aon.unquenched = s.aon.unquenched) (hm : u.col.members = s.col.members)
    (he : u.col.epoch = s.col.epoch) (hl : linkUp s 0 = true) (hq : s.aon.link[(0 : Fin 3)].txq = [])
    (hcr : 1 ≤ s.aon.link[(0 : Fin 3)].ctlCr) : LeavesAs s (leavesRing u) := by
  have hlink := link_of_unquenched ha
  obtain ⟨hsent, hleft⟩ := leavesRing_leaves (s := u) ((linkUp_of_unquenched ha).trans hl) (by rw [hlink]; exact hq)
    (by rw [hlink]; exact hcr)
  rw [hlink, ctlHdr_of_unquenched ha hm he] at hsent
  simp only [LinkSt.sent, Prod.mk.injEq] at hsent
  obtain ⟨hout, hctl⟩ := hsent
  exact ⟨hout, hctl, hleft⟩

end

/-! ### The whole purge -/

/-- A purge up to its end. -/
def purgeEnd (bad : List (Nat × LineErr)) (s : State) : State := purgeThenLeave (purgeLeave (purgedFile bad s))

section
variable {bad : List (Nat × LineErr)} {s : State}

theorem purgeEnd_ringless : (purgeEnd bad s).ringless = (purgeLeave (purgedFile bad s)).ringless := ringless_purgeThenLeave _

theorem purgeEnd_addsMinor : AddsMinor (purgedFile bad s) (purgeEnd bad s) :=
  (addsMinor_purgeLeave _).trans (addsMinor_purgeThenLeave _)

theorem settle_purgeEnd_trf (hs : Settled s) : (settle (purgeEnd bad s)).trf = (purgeLeave (purgedFile bad s)).trf :=
  (settle_trf_of_none (purgeEnd_addsMinor.none_sets (purgedFile_raised hs))).trans (congrArg (·.trf) purgeEnd_ringless)

theorem settle_purgeEnd_purged (hs : Settled s) :
    (settle (purgeEnd bad s)).trf.purged = (purgedFile bad s).trf.purged := by
  rw [settle_purgeEnd_trf hs, purgeLeave_purged]

theorem settle_purgeEnd_sinter : (settle (purgeEnd bad s)).sinter = (purgedFile bad s).sinter ∨
    (settle (purgeEnd bad s)).sinter = {} := by
  have h : (settle (purgeEnd bad s)).sinter = (purgeLeave (purgedFile bad s)).sinter :=
    (settle_sinter _).trans (congrArg (·.sinter) purgeEnd_ringless)
  rw [h]
  exact purgeLeave_sinter _

theorem settle_purgeEnd_st (hf : (purgeLeave (purgedFile bad s)).aon.fatalDue = false)
    (hrun : (purgeLeave (purgedFile bad s)).aon.st ≠ .run)
    (hready : (purgeLeave (purgedFile bad s)).aon.st = .ready → anyPhase (purgeLeave (purgedFile bad s)) = false) :
    (settle (purgeEnd bad s)).aon.st = (purgeLeave (purgedFile bad s)).aon.st := by
  have hr := purgeEnd_ringless (bad := bad) (s := s)
  have hst : (purgeEnd bad s).aon.st = (purgeLeave (purgedFile bad s)).aon.st := congrArg (·.aon.st) hr
  have hfd : (purgeEnd bad s).aon.fatalDue = false := (congrArg (·.aon.fatalDue) hr).trans hf
  have hany : anyPhase (purgeEnd bad s) = anyPhase (purgeLeave (purgedFile bad s)) :=
    anyPhase_congr (congrArg (·.sched) hr)
  rw [settle_st_of_sound hfd (by rw [hst]; exact hrun) (by rw [hst, hany]; exact hready), hst]

/-- No sum of a collective is left, but for what one that runs counts as the block leaves. -/
theorem settle_purgeEnd_tally (h : s.col.leaving = false ∨ s.col.run = none) :
    (settle (purgeEnd bad s)).col.tally = 0 := by
  have hw : (purgeLeave (purgedFile bad s)).col.tally = 0 ∧
      ((purgeLeave (purgedFile bad s)).col.leaving = false ∨ (purgeLeave (purgedFile bad s)).col.run = none) := by
    rcases purgeLeave_col (purgedFile bad s) with hc | hc
    · have hu : (purgeLeave (purgedFile bad s)).col.unjoined = (purgedFile bad s).col.unjoined := hc
      rw [tally_of_unjoined hu, leaving_of_unjoined hu, run_of_unjoined hu, purgedFile_col]
      exact ⟨rfl, h⟩
    · have hu : (purgeLeave (purgedFile bad s)).col.unjoined = ({} : Col).unjoined := hc
      exact ⟨tally_of_unjoined hu, .inl (leaving_of_unjoined hu)⟩
  have ht : (settle (purgeEnd bad s)).col.unjoined = (purgeEnd bad s).col.unjoined := settle_joining _
  exact (tally_of_unjoined ht).trans ((purgeThenLeave_tally hw.2).trans hw.1)

/-- The one line that is read back uncorrectable is in the log. -/
theorem settle_purgeEnd_logs (hs : Settled s) {b : BitVec 20} {e : LineErr} (hu : (readLine 0 e).ue = true)
    (he : s.log.entries = []) : ∃ x ∈ (settle (purgeEnd [(b.toNat, e)] s)).log.entries, x.code = 0x0C ∧
      x.loc = eccLoc ((readLine 0 e).c0 == .ue) ((readLine 0 e).c1 == .ue) 0xFF b := by
  obtain ⟨r, hlog, hcode, hloc, hdrop⟩ := purgedFile_log_of_spoiled (b := b) hs hu
  obtain ⟨rs, hrs, hminor⟩ :=
    (purgeEnd_addsMinor (bad := [(b.toNat, e)]) (s := s)).trans (addsMinor_unsettled (purgeEnd [(b.toNat, e)] s))
  rw [hlog] at hrs
  have h := flushLog_has_fatal (s := followState (takeFatal (purgeEnd [(b.toNat, e)] s))) (r := r) (rs := rs)
    (by rw [hrs]; rfl) (by rw [hcode]; decide) hminor (by rw [hrs]; exact he) (by rw [hcode]; decide) hdrop
  rw [hcode, hloc] at h
  rwa [settle, wakeCore_log]

end

section
variable {bad : List (Nat × LineErr)} {s : State} (hs : Settled s)
include hs

theorem purgedFile_fails : ((purgedFile bad s).aon.pendFatal || (purgedFile bad s).aon.fatalDue) =
    (s.aon.pendFatal || spoils bad) := by rw [purgedFile_aon hs]

theorem purgedFile_st : (purgedFile bad s).aon.st = s.aon.st := by rw [purgedFile_aon hs]

theorem settle_purgeEnd_of_fails (hst : s.aon.st = .purge ∨ s.aon.st = .boot)
    (h : (s.aon.pendFatal || spoils bad) = true) : (settle (purgeEnd bad s)).aon.st = .fault := by
  obtain ⟨hfault, hdue⟩ := purgeLeave_of_fails (w := purgedFile bad s) (by rwa [purgedFile_st hs])
    ((purgedFile_fails hs).trans h)
  rw [settle_purgeEnd_st hdue (by rw [hfault]; decide) (by rw [hfault]; exact nofun), hfault]

theorem settle_purgeEnd_boot (hst : s.aon.st = .boot) (h : (s.aon.pendFatal || spoils bad) = false)
    (hq : s.aon.seqr.failed = false) : (settle (purgeEnd bad s)).aon.st = .boot := by
  have hw : purgeLeave (purgedFile bad s) = purgedFile bad s :=
    purgeLeave_boot ((purgedFile_st hs).trans hst) ((purgedFile_fails hs).trans h) (by rw [purgedFile_aon hs]; exact hq)
  have hboot : (purgeLeave (purgedFile bad s)).aon.st = .boot := by rw [hw, purgedFile_st hs, hst]
  have hdue : (purgeLeave (purgedFile bad s)).aon.fatalDue = false := by
    rw [hw, purgedFile_aon hs]
    exact (Bool.or_eq_false_iff.1 h).2
  rw [settle_purgeEnd_st hdue (by rw [hboot]; decide) (by rw [hboot]; exact nofun), hboot]

section
variable (hst : s.aon.st = .purge) (h : (s.aon.pendFatal || spoils bad) = false)
include hst h

/-- What a purge that nothing has spoilt leaves of the always-on part, the phases and the collective unit. -/
theorem purgeLeave_purgedFile : (purgeLeave (purgedFile bad s)).aon.st = (if s.aon.qState == .latched then .ember else .ready) ∧
    (purgeLeave (purgedFile bad s)).aon.unquenched = s.aon.unquenched ∧ (purgeLeave (purgedFile bad s)).sched = s.sched ∧
    (purgeLeave (purgedFile bad s)).col.leaving = s.col.leaving ∧
    (purgeLeave (purgedFile bad s)).col.members = s.col.members ∧ (purgeLeave (purgedFile bad s)).col.epoch = s.col.epoch := by
  obtain ⟨hst', haon, hsched, hcol⟩ := purgeLeave_sound (w := purgedFile bad s) ((purgedFile_st hs).trans hst)
    ((purgedFile_fails hs).trans h)
  have hw : (purgedFile bad s).aon = s.aon := by
    rw [purgedFile_aon hs, (Bool.or_eq_false_iff.1 h).2, ← hs.1.2]
  rw [hw] at hst' haon
  refine ⟨hst', haon, hsched.trans ((purgedFile_onlyIn bad s).2 .sched (by simp)), ?_⟩
  rw [leaving_of_unjoined hcol, members_of_unjoined hcol, epoch_of_unjoined hcol, purgedFile_col]
  exact ⟨rfl, rfl, rfl⟩

theorem settle_purgeEnd_ember (hq : s.aon.qState = .latched) : (settle (purgeEnd bad s)).aon.st = .ember := by
  obtain ⟨hst', haon, -, -, -, -⟩ := purgeLeave_purgedFile hs hst h
  have hember : (purgeLeave (purgedFile bad s)).aon.st = .ember := by rw [hst', hq]; rfl
  rw [settle_purgeEnd_st ((fatalDue_of_unquenched haon).trans hs.1.2) (by rw [hember]; decide)
    (by rw [hember]; exact nofun), hember]

theorem settle_purgeEnd_ready (hq : s.aon.qState ≠ .latched) (hany : anyPhase s = false) :
    (settle (purgeEnd bad s)).aon.st = .ready := by
  obtain ⟨hst', haon, hsched, -, -, -⟩ := purgeLeave_purgedFile hs hst h
  have hready : (purgeLeave (purgedFile bad s)).aon.st = .ready := by rw [hst']; simpa using hq
  rw [settle_purgeEnd_st ((fatalDue_of_unquenched haon).trans hs.1.2) (by rw [hready]; decide)
    (fun _ => (anyPhase_congr hsched).trans hany), hready]

/-- The purge that ends a LEAVE sends LEAVE, and the block is no member then. -/
theorem settle_purgeEnd_leaves (hlv : s.col.leaving = true) (hl : linkUp s 0 = true)
    (hq : s.aon.link[(0 : Fin 3)].txq = []) (hcr : 1 ≤ s.aon.link[(0 : Fin 3)].ctlCr) :
    LeavesAs s (settle (purgeEnd bad s)) := by
  obtain ⟨hst', haon, -, hleav, hmem, hep⟩ := purgeLeave_purgedFile hs hst h
  have hr := purgeEnd_ringless (bad := bad) (s := s)
  have hdue : (purgeEnd bad s).aon.fatalDue = false :=
    (congrArg (·.aon.fatalDue) hr).trans ((fatalDue_of_unquenched haon).trans hs.1.2)
  refine LeavesAs.settle ?_ hdue
  have hfault : ((purgeLeave (purgedFile bad s)).aon.st != .fault) = true := by
    rw [hst']
    split <;> rfl
  rw [purgeEnd, purgeThenLeave_eq, hleav, hlv, hfault, Bool.and_true, if_pos rfl]
  exact leavesAs_leavesRing haon hmem hep hl hq hcr

end

/-- A corrected line of a purge outside BOOT stays counted. -/
theorem settle_purgeEnd_ceTotal (hst : s.aon.st = .purge) {b : BitVec 20} {e : LineErr}
    (hu : (readLine 0 e).ue = false) (hc : (readLine 0 e).ce = true) :
    (settle (purgeEnd [(b.toNat, e)] s)).trf.ceTotal = satAdd s.trf.ceTotal 1 := by
  have hw : (purgeLeave (purgedFile [(b.toNat, e)] s)).trf = (purgedFile [(b.toNat, e)] s).trf := by
    unfold purgeLeave
    rw [purgedFile_st hs, hst]
    dsimp only
    split_ifs
    · rw [enterFault_trf, State.onAon_trf]
    · exact enterEmber_trf _
    · exact setState_trf ..
  rw [settle_purgeEnd_trf hs, hw]
  exact purgedFile_ceTotal hu hc

/-- The file of the tile register file after a purge. -/
theorem settle_purgeEnd_file :
    let t := settle (purgeEnd bad s)
    (∀ b, storedBeam t b = 0 ∧ ((∀ p ∈ bad, BitVec.ofNat 20 p.1 ≠ b) → lineErr t b = {})) ∧ t.trf.purging = false ∧
      t.trf.lost = false ∧ t.trf.clearAt = [] ∧
      (spoils bad = false → t.trf.purgeFails = 0 ∧ t.trf.verifyFail = false) ∧
      (spoils bad = true → t.trf.verifyFail = true ∧ t.trf.purgeFails ≠ 0) ∧
      ∀ p ∈ t.trf.mort, s.aon.st ≠ .boot ∧ p.2.st = .retired := by
  dsimp only
  have hclear : (settle (purgeEnd bad s)).trf.clearAt = [] := by
    rw [settle_purgeEnd_trf hs]
    exact purgeLeave_clearAt _ (congrArg (·.2.2.2.2) (purgedFile_unread (bad := bad) (s := s)))
  have hp := settle_purgeEnd_purged (bad := bad) hs
  have hu := purgedFile_unread (bad := bad) (s := s)
  have hf := purgedFile_purgeFails (bad := bad) (s := s)
  have hv := purgedFile_verifyFail (bad := bad) (s := s)
  simp only [Trf.purged, Prod.mk.injEq] at hp
  simp only [Trf.unread, Prod.mk.injEq] at hu
  obtain ⟨hbeams, herrs, hmort, hlost, hpurging, hfails, hverify⟩ := hp
  obtain ⟨kbeams, kmort, klost, kpurging, -⟩ := hu
  refine ⟨fun b => ⟨?_, fun hb => ?_⟩, hpurging.trans kpurging, hlost.trans klost, hclear, fun h => ?_, fun h => ?_, ?_⟩
  · rw [storedBeam, hbeams, kbeams]; rfl
  · rw [lineErr, herrs]
    exact purgedFile_lineErr hb
  · exact ⟨hfails.trans (hf.1 h), hverify.trans (hv.trans h)⟩
  · exact ⟨hverify.trans (hv.trans h), by rw [hfails]; exact hf.2 h⟩
  · intro p h
    rw [hmort, kmort] at h
    by_cases hb : s.aon.st = .boot
    · rw [hb] at h; exact absurd h List.not_mem_nil
    · rw [if_neg (by simpa using hb)] at h
      exact ⟨hb, by simpa using (List.mem_filter.1 h).2⟩

end

/-- Settles O9: the file as the read-back leaves it, the end that R23 names, and settling, which changes none of it. -/
theorem purgeClearsTheFile : Obligations.PurgeClearsTheFile := by
  unfold Obligations.PurgeClearsTheFile
  refine ⟨fun bad s hs hp hm => ?_, fun s hs hst hk hany hfree => ?_⟩
  · refine completes_onlyIf (exec_purgeComplete bad s) (by rw [hp, hm]; rfl) ?_
    obtain ⟨hfile, hpurging, hlost, hclear, hsound, hspoilt, hmort⟩ := settle_purgeEnd_file (bad := bad) hs
    refine ⟨hfile, hpurging, hlost, hclear, hsound, hspoilt, ?_, hmort, ?_, ?_, settle_purgeEnd_tally,
      settle_purgeEnd_of_fails hs, settle_purgeEnd_ember hs, settle_purgeEnd_ready hs, settle_purgeEnd_boot hs,
      fun hlv hst hf hl hq hcr => settle_purgeEnd_leaves hs hst hf hlv hl hq hcr⟩
    · rintro b e rfl
      exact ⟨settle_purgeEnd_logs hs, fun hst => settle_purgeEnd_ceTotal hs hst⟩
    · rcases settle_purgeEnd_sinter (bad := bad) (s := s) with h | h
      · exact (congrArg (·.tally) h).trans (by rw [purgedFile_sinter])
      · exact congrArg (·.tally) h
    · rcases settle_purgeEnd_sinter (bad := bad) (s := s) with h | h
      · exact (congrArg (·.partials) h).trans (by rw [purgedFile_sinter])
      · exact congrArg (·.partials) h
  · show execKillPurgeStart s = _
    have hslots : (s.layout.slot.toList.all fun p => p.st == .free) = true :=
      List.all_eq_true.2 fun p h => by rw [hfree p h]; rfl
    rw [execKillPurgeStart, onlyIf_pos _ _ (by rw [hst, hk, hany, hslots]; rfl), done,
      settle_of_waking (s := s) hs (by rfl)]
    rfl

end Sys2Proof.Machine
end

section
namespace Sys2Proof.Machine

/-! ### What a primary-port read gives and changes (R68, R91) -/

section
variable (s : State)

theorem onTruss_onlyIn (f : Truss → Truss) : OnlyIn [.truss] s (s.onTruss f) :=
  ⟨rfl, fun p hp => by cases p <;> simp_all [SamePart]⟩

theorem onSinter_onlyIn (f : Sinter → Sinter) : OnlyIn [.sinter] s (s.onSinter f) :=
  ⟨rfl, fun p hp => by cases p <;> simp_all [SamePart]⟩

theorem ueInMort_onlyIn (r : Report) (i : BitVec 10) (b : BitVec 20) : OnlyIn [.trf, .log, .aon] s (ueInMort r i b s) := by
  have hpoison : OnlyIn [.trf, .log, .aon] s (setPoison i s) := (modPair_onlyIn ..).mono (by simp)
  have hreport (q : Report) (t : State) : OnlyIn [.trf, .log, .aon] t (report q t) := (report_onlyIn q t).mono (by simp)
  unfold ueInMort
  dsimp only
  split
  · exact (hpoison.trans ((modMort_onlyIn ..).mono (by simp))).trans (hreport ..)
  · split
    · exact hpoison.trans (hreport ..)
    · exact hpoison.trans ((hreport ..).trans ((onAon_onlyIn _ _).mono (by simp)))

theorem countUe_onlyIn (code : BitVec 8) (mort : Option (BitVec 10)) (pid : Option (BitVec 8)) (b : BitVec 20)
    (r : LineRead) : OnlyIn [.trf, .log, .aon] s (countUe code mort pid b r s) := by
  unfold countUe
  dsimp only
  split
  · exact ((onTrf_onlyIn _ _).mono (by simp)).trans (ueInMort_onlyIn ..)
  · exact ((onTrf_onlyIn _ _).mono (by simp)).trans ((report_onlyIn ..).mono (by simp))

/-- A bank read once its line is read: the counts of what was found. -/
def bankCounted (code : BitVec 8) (i : BitVec 10) (pid : Option (BitVec 8)) (b : BitVec 20) (r : LineRead)
    (s : State) : State :=
  if r.ue then countUe code (some i) pid b r s else if r.ce then countCe b r.lowSym s else s

variable (code : BitVec 8) (i : BitVec 10) (pid : Option (BitVec 8)) (b : BitVec 20)

theorem bankCounted_onlyIn (r : LineRead) : OnlyIn [.trf, .log, .aon] s (bankCounted code i pid b r s) := by
  unfold bankCounted
  split
  · exact countUe_onlyIn ..
  · split
    · exact (countCe_onlyIn ..).mono (by simp)
    · exact OnlyIn.refl s

theorem bankCounted_uncounted (r : LineRead) : (bankCounted code i pid b r s).trf.uncounted = s.trf.uncounted := by
  unfold bankCounted
  split
  · exact countUe_uncounted ..
  · split
    · exact countCe_uncounted ..
    · rfl

/-- With no new upset a bank read reads the line as it stands. -/
theorem bankRead_snd : (bankRead code i pid b {} s).2 =
    bankCounted code i pid b (readLine (storedBeam s b) (lineErr s b)) (govEvent 14 1 s) := by
  have hs : strike b {} s = s := if_pos rfl
  rw [bankRead, hs]
  rfl

theorem bankRead_beam : (bankRead code i pid b {} s).1.beam = (readLine (storedBeam s b) (lineErr s b)).beam := by
  have hs : strike b {} s = s := if_pos rfl
  rw [bankRead, hs]
  rfl

theorem bankRead_onlyIn : OnlyIn [.trf, .log, .aon, .gov] s (bankRead code i pid b {} s).2 := by
  rw [bankRead_snd]
  exact ((onGov_onlyIn _ _).mono (by simp)).trans ((bankCounted_onlyIn ..).mono (by simp))

theorem bankRead_uncounted : (bankRead code i pid b {} s).2.trf.uncounted = s.trf.uncounted := by
  rw [bankRead_snd, bankCounted_uncounted]
  rfl

theorem bankRead_beams : (bankRead code i pid b {} s).2.trf.beams = s.trf.beams :=
  congrArg (·.1) (bankRead_uncounted s code i pid b)

theorem bankRead_errs : (bankRead code i pid b {} s).2.trf.errs = s.trf.errs :=
  congrArg (·.2.1) (bankRead_uncounted s code i pid b)

theorem bankRead_sched : (bankRead code i pid b {} s).2.sched = s.sched := (bankRead_onlyIn s code i pid b).2 .sched (by simp)
theorem bankRead_truss : (bankRead code i pid b {} s).2.truss = s.truss := (bankRead_onlyIn s code i pid b).2 .truss (by simp)
theorem pairOf_congr {s t : State} (h : t.trf.mort = s.trf.mort) (i : BitVec 10) : pairOf t i = pairOf s i := by
  have hm : mortAt t i = mortAt s i := by rw [mortAt, h]; rfl
  rw [pairOf, hm]
  rfl

theorem isPoisoned_congr {s t : State} (h : t.trf.mort = s.trf.mort) (i : BitVec 10) : isPoisoned t i = isPoisoned s i := by
  have hm (j : BitVec 10) : mortAt t j = mortAt s j := by rw [mortAt, h]; rfl
  simp only [isPoisoned, pairOf_congr h, hm]

/-- A read that is not uncorrectable is poisoned as its mortise is. -/
theorem bankRead_poison (h : (readLine (storedBeam s b) (lineErr s b)).ue = false) :
    (bankRead code i pid b {} s).1.poison = isPoisoned s i := by
  have hp : (bankRead code i pid b {} s).1.poison = isPoisoned (bankRead code i pid b {} s).2 i := by rfl
  have hm : (bankRead code i pid b {} s).2.trf.mort = s.trf.mort := by
    rw [bankRead_snd, bankCounted, h, if_neg Bool.false_ne_true]
    split
    · exact congrArg (·.2.1) (countCe_uncorrected ..).1
    · rfl
  rw [hp, isPoisoned_congr hm]

end

/-! ### The format of a mortise stays -/

/-- The formats of the mortises. -/
def sameFmts (s t : State) : Prop := ∀ j : BitVec 10, (mortAt t j).fmt = (mortAt s j).fmt

theorem sameFmts_of_mort {s t : State} (h : t.trf.mort = s.trf.mort) : sameFmts s t := fun j => by simp only [mortAt, h]

theorem sameFmts.trans {s t u : State} (h : sameFmts s t) (k : sameFmts t u) : sameFmts s u := fun j => (k j).trans (h j)

theorem sameFmts_modMort {f : Mortise → Mortise} (h : ∀ e, (f e).fmt = e.fmt) (i : BitVec 10) (s : State) :
    sameFmts s (modMort i f s) := by
  intro j
  by_cases hj : j = i
  · subst hj
    have he : mortAt (modMort j f s) j = f (mortAt s j) := SMap.get_set_same ..
    rw [he, h]
  · have he : mortAt (modMort i f s) j = mortAt s j := SMap.get_set_other _ _ _ fun hn => hj (BitVec.eq_of_toNat_eq hn)
    rw [he]

theorem sameFmts_setPoison (i : BitVec 10) (s : State) : sameFmts s (setPoison i s) :=
  foldOver_keeps (fun t => sameFmts s t) (fun j t ht => ht.trans (sameFmts_modMort (fun e => by split <;> rfl) j t)) _
    fun _ => rfl

theorem sameFmts_ueInMort (r : Report) (i : BitVec 10) (b : BitVec 20) (s : State) : sameFmts s (ueInMort r i b s) := by
  unfold ueInMort
  dsimp only
  split
  · have hpend (t : State) : sameFmts t (modMort i (fun e =>
        { e with uePend := true, ueOffset := BitVec.ofNat 20 (b.toNat - e.base.toNat) }) t) :=
      sameFmts_modMort (by exact fun _ => rfl) i t
    exact ((sameFmts_setPoison i s).trans (hpend _)).trans (sameFmts_of_mort rfl)
  · split
    · exact (sameFmts_setPoison i s).trans (sameFmts_of_mort rfl)
    · exact (sameFmts_setPoison i s).trans (sameFmts_of_mort rfl)

theorem sameFmts_bankRead (code : BitVec 8) (i : BitVec 10) (pid : Option (BitVec 8)) (b : BitVec 20) (s : State) :
    sameFmts s (bankRead code i pid b {} s).2 := by
  rw [bankRead_snd, bankCounted]
  refine sameFmts.trans (t := govEvent 14 1 s) (sameFmts_of_mort rfl) ?_
  split
  · intro j
    exact sameFmts_ueInMort _ _ _ _ j
  · split
    · exact sameFmts_of_mort (congrArg (·.2.1) (countCe_uncorrected ..).1)
    · exact sameFmts_of_mort rfl

/-- What is read for a stream is scaled by the formats alone. -/
theorem scaleFor_congr {s t : State} (h : sameFmts s t) (p : PSlot) (st : Stream) (b : Beam) :
    scaleFor t p st b = scaleFor s p st b := by
  rw [scaleFor, h (streamMort p st)]
  rfl

/-! ### A parity error in the truss (R117) -/

section
variable (s : State) (parity : Bool) (p : PSlot)

theorem noteParity_onlyIn : OnlyIn [.truss, .log] s (noteParity parity p s) := by
  unfold noteParity
  split
  · exact ((onTruss_onlyIn _ _).mono (by simp)).trans ((report_onlyIn _ _).mono (by simp))
  · exact OnlyIn.refl s

theorem noteParity_sched : (noteParity parity p s).sched = s.sched := (noteParity_onlyIn s parity p).2 .sched (by simp)
theorem noteParity_reads : (noteParity parity p s).truss.reads = s.truss.reads := by
  unfold noteParity
  split <;> rfl

theorem noteParity_counts : (noteParity true p s).truss.count.get 0 5 = satAdd (s.truss.count.get 0 5) 1 :=
  SMap.get_set_same ..

end

theorem countTruss_other {i j n : Nat} (h : j ≠ i) (s : State) :
    (countTruss i n s).truss.count.get 0 j = s.truss.count.get 0 j :=
  SMap.get_set_other _ _ _ h

theorem countScaled_onlyIn (p : PSlot) (st : Stream) (s : State) : OnlyIn [.sinter] s (countScaled p st s) := by
  unfold countScaled
  split
  · exact onSinter_onlyIn ..
  · exact OnlyIn.refl s

/-! ### The streams of a slot -/

section
variable {s : State} {n m : Fin 4}

theorem slot_onSlot_same (f : PSlot → PSlot) : (s.onSlot n f).sched.slot[n] = f s.sched.slot[n] :=
  (vmod_getElem ..).trans (if_pos rfl)

theorem slot_onSlot_other (f : PSlot → PSlot) (h : m ≠ n) : (s.onSlot n f).sched.slot[m] = s.sched.slot[m] :=
  (vmod_getElem ..).trans (if_neg h.symm)

/-- Element k of a list changed by f there. -/
theorem lmod_getElem? {α : Type} (l : List α) (k : Nat) (f : α → α) : (lmod l k f)[k]? = l[k]?.map f := by
  simp [lmod, List.getElem?_zipIdx, Function.comp_def]

/-- A stream after its change. -/
theorem streamAt_onStream (k : Nat) (f : Stream → Stream) : streamAt (onStream n k f s) n k = (streamAt s n k).map f := by
  rw [streamAt, onStream, slot_onSlot_same]
  exact lmod_getElem? ..

theorem streamAt_congr {t : State} (h : t.sched.slot[n].streams = s.sched.slot[n].streams) (k : Nat) :
    streamAt t n k = streamAt s n k := by
  rw [streamAt, h]
  rfl

end

end Sys2Proof.Machine
end

section
namespace Sys2Proof.Machine

/-! ### What the loop-back paths and the slots' progress leave of a slot -/

/-- A slot without what a loop-back phase hands on and what its index beams wait from. -/
def PSlot.unflushed (p : PSlot) : PSlot := { p with streams := [], didx := [], didxAsked := [] }

/-- A slot without what its drain index beams wait from. -/
def PSlot.unasked (p : PSlot) : PSlot := { p with didxAsked := [] }

/-- A slot's phase takes no part in the loop-back. -/
def PSlot.noLoop (p : PSlot) : Prop := ∀ st ∈ p.streams, st.side ≠ .loop

/-- A loop-back phase in slot n hands beams on: the ports, the other slots and the rest of its own stay, and no gather
read joins the window. -/
structure HandsOn (n : Fin 4) (s t : State) : Prop where
  ports : t.ports = s.ports
  others : ∀ m, m ≠ n → t.sched.slot[m] = s.sched.slot[m]
  own : t.sched.slot[n].unflushed = s.sched.slot[n].unflushed
  reads : ∀ g ∈ t.truss.reads, g ∈ s.truss.reads

section
variable {n m : Fin 4} {s t u : State}

theorem HandsOn.refl (n : Fin 4) (s : State) : HandsOn n s s := ⟨rfl, fun _ _ => rfl, rfl, fun _ => id⟩

theorem HandsOn.trans (h : HandsOn n s t) (k : HandsOn n t u) : HandsOn n s u :=
  ⟨k.ports.trans h.ports, fun m hm => (k.others m hm).trans (h.others m hm), k.own.trans h.own,
    fun g hg => h.reads g (k.reads g hg)⟩

theorem handsOn_of_same (hp : t.ports = s.ports) (hs : t.sched.slot = s.sched.slot)
    (hr : ∀ g ∈ t.truss.reads, g ∈ s.truss.reads) : HandsOn n s t :=
  ⟨hp, fun m _ => by rw [hs], by rw [hs], hr⟩

theorem handsOn_onSlot {f : PSlot → PSlot} (h : ∀ p, (f p).unflushed = p.unflushed) (s : State) :
    HandsOn n s (s.onSlot n f) :=
  ⟨rfl, fun _ hm => slot_onSlot_other f hm, by rw [slot_onSlot_same, h], fun _ => id⟩

theorem beginDelivery_onlyIn (b : SBeam) (s : State) : OnlyIn [.truss] s (beginDelivery b s) := by
  unfold beginDelivery
  split
  · exact onTruss_onlyIn ..
  · exact OnlyIn.refl s

theorem beginDelivery_reads (b : SBeam) (s : State) : ∀ g ∈ (beginDelivery b s).truss.reads, g ∈ s.truss.reads := by
  unfold beginDelivery
  split
  · exact fun g hg => (List.mem_filter.1 hg).1
  · exact fun _ => id

theorem handsOn_toNet (source : Nat) (us : List Update) (s : State) : HandsOn n s (toNet source us s) :=
  handsOn_of_same rfl rfl fun _ => id

theorem handsOn_toSequencer (ticket : BitVec 32) (num : Nat) (us : List Update) (s : State) :
    HandsOn n s (toSequencer ticket num us s) := handsOn_of_same rfl rfl fun _ => id

/-- One beam of a loop-back phase handed on: what it delivers, its slot, and where its updates go. -/
theorem handsOn_delivery (b : SBeam) (us : List (Option Update)) {f : PSlot → PSlot}
    (h : ∀ p, (f p).unflushed = p.unflushed) (s : State) :
    HandsOn n s ((beginDelivery b (govEvent 7 1 (countDropped us s))).onSlot n f) := by
  have hd : HandsOn n s (beginDelivery b (govEvent 7 1 (countDropped us s))) := by
    have ho := beginDelivery_onlyIn b (govEvent 7 1 (countDropped us s))
    exact handsOn_of_same (ho.2 .ports (by simp)) (congrArg (·.slot) (ho.2 .sched (by simp))) (beginDelivery_reads b _)
  exact hd.trans (handsOn_onSlot h _)

theorem loopFlush_handsOn (n : Fin 4) (k : Nat) (s : State) : HandsOn n s (loopFlush n k s) := by
  induction k generalizing s with
  | zero => exact HandsOn.refl n s
  | succ k ih =>
    unfold loopFlush
    dsimp only
    split
    · split
      · split
        · split
          · exact HandsOn.refl n s
          · split
            · exact HandsOn.refl n s
            · exact .trans (.trans (handsOn_delivery _ _ (by exact fun _ => rfl) s) (handsOn_toSequencer ..)) (ih _)
        · split
          · exact HandsOn.refl n s
          · split
            · exact HandsOn.refl n s
            · exact .trans (.trans (handsOn_delivery _ _ (by exact fun _ => rfl) s) (handsOn_toNet ..)) (ih _)
      · exact HandsOn.refl n s
    · exact HandsOn.refl n s

/-- A phase that takes no part in the loop-back hands nothing on. -/
theorem loopFlush_of_noLoop (h : s.sched.slot[n].noLoop) (k : Nat) : loopFlush n k s = s := by
  cases k with
  | zero => rfl
  | succ k =>
    unfold loopFlush
    dsimp only
    split
    · next st bt hst hbt =>
      split
      · next b rest hloop hfifo => exact absurd hloop (h st (by rw [hst]; exact List.mem_singleton_self _))
      · rfl
    · rfl

/-- Every loop-back phase hands its ready beams on. -/
def loopsFlushed (s : State) : State := foldOver (List.finRange 4) (fun n => loopFlush n 1024) s

theorem flushLoops_eq (s : State) : flushLoops s = askDidx s (loopsFlushed s) := rfl

/-- The loop-back phases hand beams on: a slot that takes no part stays, and of every slot all but what is handed on. -/
structure Flushed (s t : State) : Prop where
  ports : t.ports = s.ports
  rest : ∀ m : Fin 4, t.sched.slot[m].unflushed = s.sched.slot[m].unflushed
  same : ∀ m : Fin 4, s.sched.slot[m].noLoop → t.sched.slot[m] = s.sched.slot[m]
  reads : ∀ g ∈ t.truss.reads, g ∈ s.truss.reads

theorem Flushed.loopFlush (h : Flushed s t) (n : Fin 4) (k : Nat) : Flushed s (loopFlush n k t) := by
  have hk := loopFlush_handsOn n k t
  refine ⟨hk.ports.trans h.ports, fun m => ?_, fun m hm => ?_, fun g hg => h.reads g (hk.reads g hg)⟩
  · by_cases hmn : m = n
    · subst hmn
      exact hk.own.trans (h.rest m)
    · rw [hk.others m hmn]
      exact h.rest m
  · by_cases hmn : m = n
    · subst hmn
      rw [loopFlush_of_noLoop (by rw [h.same m hm]; exact hm)]
      exact h.same m hm
    · exact (hk.others m hmn).trans (h.same m hm)

theorem loopsFlushed_flushed (s : State) : Flushed s (loopsFlushed s) :=
  foldOver_keeps (Flushed s) (fun n _ ht => ht.loopFlush n 1024) _ ⟨rfl, fun _ => rfl, fun _ _ => rfl, fun _ => id⟩

/-! ### The next index beam a port needs (R184) -/

/-- What the next drain index beam of a port of the phase in a slot depends on, but for the ports. -/
def PSlot.needs (p : PSlot) : PSlot := { p with st := if p.st == .abort then .abort else .free, didxAsked := [] }

theorem abort_of_needs {p q : PSlot} (h : q.needs = p.needs) : (q.st != .abort) = (p.st != .abort) := by
  have hst (x : SlotState) : (x != .abort) = ((if x == .abort then SlotState.abort else .free) != .abort) := by
    cases x <;> rfl
  rw [hst q.st, hst p.st]
  exact congrArg (a₁ := q.needs) (a₂ := p.needs) (fun r : PSlot => r.st != .abort) h

theorem nextDidx_congr (hp : t.ports = s.ports) (h : t.sched.slot[n].needs = s.sched.slot[n].needs) (port : Nat) :
    nextDidx t n port = nextDidx s n port := by
  have hab := abort_of_needs h
  have hkeep {α : Type} (f : PSlot → α) : f t.sched.slot[n].needs = f s.sched.slot[n].needs := congrArg f h
  have hrcd : t.sched.slot[n].rcd = s.sched.slot[n].rcd := hkeep PSlot.rcd
  have hticket : t.sched.slot[n].ticket = s.sched.slot[n].ticket := hkeep PSlot.ticket
  have hstreams : t.sched.slot[n].streams = s.sched.slot[n].streams := hkeep PSlot.streams
  have hbents : t.sched.slot[n].bents = s.sched.slot[n].bents := hkeep PSlot.bents
  have hdidx : t.sched.slot[n].didx = s.sched.slot[n].didx := hkeep PSlot.didx
  simp only [nextDidx, PSlot.didxAt, didxKey, hp, hab, hrcd, hticket, hstreams, hbents, hdidx] <;> rfl

end

end Sys2Proof.Machine
end

section
namespace Sys2Proof.Machine

/-! ### The ages of the index reads (R68) -/

section
variable {n : Fin 4} {old s t : State}

/-- From s to t nothing but the ages of index reads changes, and of slot n's ports none whose next index read is still
that of old. -/
structure Ages (n : Fin 4) (old s t : State) : Prop where
  ports : t.ports = s.ports
  truss : t.truss = s.truss
  slots : ∀ m : Fin 4, t.sched.slot[m].unasked = s.sched.slot[m].unasked
  kept : ∀ q, nextDidx old n q = nextDidx s n q →
    t.sched.slot[n].didxAsked.get 0 q = s.sched.slot[n].didxAsked.get 0 q

theorem needs_of_unasked {p q : PSlot} (h : q.unasked = p.unasked) : q.needs = p.needs :=
  congrArg (a₁ := q.unasked) (a₂ := p.unasked) PSlot.needs h

theorem streams_of_unasked {p q : PSlot} (h : q.unasked = p.unasked) : q.streams = p.streams :=
  congrArg (a₁ := q.unasked) (a₂ := p.unasked) PSlot.streams h

theorem unflushed_of_unasked {p q : PSlot} (h : q.unasked = p.unasked) : q.unflushed = p.unflushed :=
  congrArg (a₁ := q.unasked) (a₂ := p.unasked) PSlot.unflushed h

theorem didx_of_unasked {p q : PSlot} (h : q.unasked = p.unasked) : q.didx = p.didx :=
  congrArg (a₁ := q.unasked) (a₂ := p.unasked) PSlot.didx h

theorem Ages.nextDidx (h : Ages n old s t) (m : Fin 4) (q : Nat) : nextDidx t m q = nextDidx s m q :=
  nextDidx_congr h.ports (needs_of_unasked (h.slots m)) q

/-- The age of one port's next index read begins anew, that read being another than it was. -/
theorem Ages.set (h : Ages n old s t) {m : Fin 4} {port : Nat} (hne : Machine.nextDidx old m port ≠ Machine.nextDidx t m port)
    (v : BitVec 64) : Ages n old s (t.onSlot m fun p => { p with didxAsked := p.didxAsked.set 0 port v }) := by
  refine ⟨h.ports, h.truss, fun l => ?_, fun q hq => ?_⟩
  · by_cases hl : l = m
    · subst hl
      rw [slot_onSlot_same]
      exact h.slots l
    · rw [slot_onSlot_other _ hl]
      exact h.slots l
  · by_cases hm : n = m
    · subst hm
      rw [slot_onSlot_same]
      have hport : q ≠ port := fun e => hne (by rw [h.nextDidx, ← e]; exact hq)
      exact (SMap.get_set_other _ _ _ hport).trans (h.kept q hq)
    · rw [slot_onSlot_other _ hm]
      exact h.kept q hq

theorem askDidx_ages (n : Fin 4) (old s : State) : Ages n old s (askDidx old s) := by
  refine foldOver_keeps (Ages n old s) (fun m t ht => ?_) _ ⟨rfl, rfl, fun _ => rfl, fun _ _ => rfl⟩
  split
  · refine foldOver_keeps (Ages n old s) (fun port u hu => ?_) (List.range 16) ht
    split
    · exact hu
    · next hne => exact hu.set hne _
  · exact ht

end

/-! ### The loop-back paths, once flushed -/

section
variable {n : Fin 4} {s : State}

theorem flushLoops_reads (s : State) : ∀ g ∈ (flushLoops s).truss.reads, g ∈ s.truss.reads := by
  rw [flushLoops_eq, (askDidx_ages 0 _ _).truss]
  exact (loopsFlushed_flushed s).reads

/-- The rest of a slot as a flush leaves it. -/
theorem flushLoops_unflushed (n : Fin 4) (s : State) :
    (flushLoops s).sched.slot[n].unflushed = s.sched.slot[n].unflushed := by
  have h : (flushLoops s).sched.slot[n].unflushed = (loopsFlushed s).sched.slot[n].unflushed :=
    unflushed_of_unasked ((askDidx_ages n s (loopsFlushed s)).slots n)
  rw [h, (loopsFlushed_flushed s).rest]

/-- A slot that takes no part in the loop-back keeps all, the ages of its index reads too. -/
theorem flushLoops_noLoop (h : s.sched.slot[n].noLoop) :
    (flushLoops s).sched.slot[n].unasked = s.sched.slot[n].unasked ∧
      ∀ q, (flushLoops s).sched.slot[n].didxAsked.get 0 q = s.sched.slot[n].didxAsked.get 0 q := by
  have hf := loopsFlushed_flushed s
  have ha := askDidx_ages n s (loopsFlushed s)
  rw [← flushLoops_eq] at ha
  refine ⟨by rw [ha.slots, hf.same n h], fun q => ?_⟩
  rw [ha.kept q (nextDidx_congr hf.ports (by rw [hf.same n h]) q).symm, hf.same n h]

end

/-! ### Slots that go on (R195, R199) -/

/-- A slot but for its state, and whether that is ABORT. -/
def PSlot.goesOn (p : PSlot) : PSlot := { p with st := if p.st == .abort then .abort else .free }

theorem needs_of_goesOn {p q : PSlot} (h : q.goesOn = p.goesOn) : q.needs = p.needs :=
  congrArg (a₁ := q.goesOn) (a₂ := p.goesOn) PSlot.unasked h

/-- As its work goes on a slot may drain or fold, which changes its state alone. -/
structure GoesOn (n : Fin 4) (s t : State) : Prop where
  slot : t.sched.slot[n].goesOn = s.sched.slot[n].goesOn
  ports : t.ports = s.ports
  truss : t.truss = s.truss

section
variable {n m : Fin 4} {s t u : State}

theorem GoesOn.trans (h : GoesOn n s t) (k : GoesOn n t u) : GoesOn n s u :=
  ⟨k.slot.trans h.slot, k.ports.trans h.ports, k.truss.trans h.truss⟩

/-- A slot that is not in ABORT goes to another state. -/
theorem goesOn_onSlot (h : s.sched.slot[m].st ≠ .abort) {b : SlotState} (hb : b ≠ .abort) (n : Fin 4) :
    GoesOn n s (s.onSlot m fun p => { p with st := b }) := by
  refine ⟨?_, rfl, rfl⟩
  by_cases hn : n = m
  · subst hn
    have hnot {x : SlotState} (hx : x ≠ .abort) : (x == .abort) = false := by simpa using hx
    rw [slot_onSlot_same, PSlot.goesOn, PSlot.goesOn, hnot hb, hnot h]
  · rw [slot_onSlot_other _ hn]

theorem advanceSlot_goesOn (m n : Fin 4) (s : State) : GoesOn n s (advanceSlot m s) := by
  have hdrain : GoesOn n s (if s.sched.slot[m].st == .issue && s.sched.slot[m].issued then
      s.onSlot m fun p => { p with st := .drain } else s) := by
    split
    · next h =>
      simp only [Bool.and_eq_true, beq_iff_eq] at h
      exact goesOn_onSlot (by rw [h.1]; decide) (by decide) n
    · exact ⟨rfl, rfl, rfl⟩
  unfold advanceSlot
  dsimp only
  refine hdrain.trans ?_
  generalize (if s.sched.slot[m].st == .issue && s.sched.slot[m].issued then
      s.onSlot m fun p => { p with st := .drain } else s) = t
  split
  · next h =>
    simp only [Bool.and_eq_true, beq_iff_eq] at h
    obtain ⟨⟨⟨⟨hst, -⟩, -⟩, -⟩, -⟩ := h
    have hfold : GoesOn n t (t.onSlot m fun p => { p with st := .fold }) :=
      goesOn_onSlot (by rw [hst]; decide) (by decide) n
    exact ⟨hfold.slot, rfl, rfl⟩
  · exact ⟨rfl, rfl, rfl⟩

theorem advanceSlots_goesOn (n : Fin 4) (s : State) : GoesOn n s (advanceSlots s) :=
  foldOver_keeps (GoesOn n s) (fun m t ht => ht.trans (advanceSlot_goesOn m n t)) _ ⟨rfl, rfl, rfl⟩

end

section
variable {s : State} {n : Fin 4}

/-- A field of a slot other than its state, after the slots have gone on and the step has settled. -/
theorem settle_advanceSlots_slot {α : Type} (f : PSlot → α) (hf : ∀ p : PSlot, f p.goesOn = f p) :
    f (settle (advanceSlots s)).sched.slot[n] = f s.sched.slot[n] := by
  rw [settle_sched, ← hf, (advanceSlots_goesOn n s).slot, hf]

theorem settle_advanceSlots_streamAt (k : Nat) : streamAt (settle (advanceSlots s)) n k = streamAt s n k :=
  streamAt_congr (settle_advanceSlots_slot PSlot.streams fun _ => rfl) k

theorem settle_advanceSlots_truss (s : State) : (settle (advanceSlots s)).truss = s.truss := by
  rw [settle_truss, (advanceSlots_goesOn 0 s).truss]

theorem settle_advanceSlots_beams (s : State) : (settle (advanceSlots s)).trf.beams = s.trf.beams := by
  rw [settle_beams, advanceSlots_trf]

theorem settle_advanceSlots_nextDidx (q : Nat) : nextDidx (settle (advanceSlots s)) n q = nextDidx s n q := by
  have h := advanceSlots_goesOn n s
  refine nextDidx_congr ((settle_ports _).trans h.ports) ?_ q
  rw [settle_sched]
  exact needs_of_goesOn h.slot

/-- An event of the schedule that takes place. -/
theorem completes_sched {c : Instr} {cond : Bool} {f : State → State} {post : State → Prop}
    (hc : exec c s = doneSched (onlyIf cond f s)) (h : cond = true) (hpost : post (settle (advanceSlots (f s)))) :
    Completes c s post :=
  ⟨_, hc.trans (congrArg doneSched (onlyIf_pos f s h)), hpost⟩

end

/-! ### The beam of a finished gather read (R119) -/

/-- A place of a stream once the read it waits for has come. -/
def SBeam.filled (id : Nat) (beam : Beam) (poison : Bool) (v : SBeam) : SBeam :=
  if v.wait = some id then { v with data := beam, poison := v.poison || poison, wait := none } else v

/-- A slot once a gather read has come. -/
def PSlot.filled (id : Nat) (beam : Beam) (poison : Bool) (s : State) (p : PSlot) : PSlot :=
  { p with streams := p.streams.map fun st => { st with fifo := st.fifo.map (SBeam.filled id (scaleFor s p st beam) poison) } }

section
variable {id : Nat} {beam : Beam} {poison : Bool} {s t : State} {n m : Fin 4}

theorem fillWaiting_same : (fillWaiting id beam poison n s).sched.slot[n] = s.sched.slot[n].filled id beam poison s :=
  slot_onSlot_same ..

theorem fillWaiting_other (h : m ≠ n) : (fillWaiting id beam poison n s).sched.slot[m] = s.sched.slot[m] :=
  slot_onSlot_other _ h

theorem filled_congr (h : sameFmts s t) (p : PSlot) : p.filled id beam poison t = p.filled id beam poison s := by
  simp only [PSlot.filled, scaleFor_congr h]

/-- Each slot named once is filled once. -/
theorem fillWaitings_slot (l : List (Fin 4)) (hl : l.Nodup) (s : State) :
    (foldOver l (fillWaiting id beam poison) s).sched.slot[n] =
      if n ∈ l then s.sched.slot[n].filled id beam poison s else s.sched.slot[n] := by
  induction l generalizing s with
  | nil => simp
  | cons m l ih =>
    obtain ⟨hm, hl⟩ := List.nodup_cons.1 hl
    rw [foldOver_cons, ih hl, filled_congr (sameFmts_of_mort (t := fillWaiting id beam poison m s) (s := s) rfl)]
    by_cases hn : n = m
    · subst hn
      rw [if_neg hm, fillWaiting_same, if_pos List.mem_cons_self]
    · rw [fillWaiting_other hn]
      simp [hn]

theorem filled_noLoop {p : PSlot} (h : p.noLoop) : (p.filled id beam poison s).noLoop := by
  intro st hst
  obtain ⟨q, hq, rfl⟩ := List.mem_map.1 hst
  exact h q hq

end

end Sys2Proof.Machine
end

section
namespace Sys2Proof.Machine

/-! ### Operand reads (R112, R116) -/

/-- A stream once it has taken a beam of its next step. -/
def Stream.took (v : SBeam) (asked : BitVec 64) (st : Stream) : Stream :=
  { st with next := st.next + 1, fifo := st.fifo ++ [v], asked := asked }

/-- A read on its way to a stream: the slots, the clock, the stored beams and the parity errors counted stay. -/
structure OnItsWay (s u : State) : Prop where
  sched : u.sched = s.sched
  now : u.now = s.now
  beams : u.trf.beams = s.trf.beams
  errs : u.trf.errs = s.trf.errs
  parities : u.truss.count.get 0 5 = s.truss.count.get 0 5

section
variable {slot : Fin 4} {k : Nat} {st : Stream} {parity : Bool} {s u : State}

theorem onItsWay_held (i : BitVec 10) (pid : Option (BitVec 8)) (b : BitVec 20) (p : PSlot) (st : Stream) (s : State) :
    OnItsWay s (countScaled p st (bankRead 0x02 i pid b {} s).2) := by
  have hr := bankRead_onlyIn s 0x02 i pid b
  have hc := countScaled_onlyIn p st (bankRead 0x02 i pid b {} s).2
  have htruss : (countScaled p st (bankRead 0x02 i pid b {} s).2).truss = (bankRead 0x02 i pid b {} s).2.truss :=
    hc.2 .truss (by simp)
  have htime : (countScaled p st (bankRead 0x02 i pid b {} s).2).time = (bankRead 0x02 i pid b {} s).2.time :=
    hc.2 .time (by simp)
  have htime' : (bankRead 0x02 i pid b {} s).2.time = s.time := hr.2 .time (by simp)
  have hsched : (countScaled p st (bankRead 0x02 i pid b {} s).2).sched = (bankRead 0x02 i pid b {} s).2.sched :=
    hc.2 .sched (by simp)
  exact
    { sched := hsched.trans (bankRead_sched ..)
      now := congrArg Time.bclk (htime.trans htime')
      beams := by rw [countScaled_trf, bankRead_beams]
      errs := by rw [countScaled_trf, bankRead_errs]
      parities := by rw [htruss, bankRead_truss] }

theorem onItsWay_outside (s : State) : OnItsWay s (countTruss 3 1 s) :=
  ⟨rfl, rfl, rfl, rfl, countTruss_other (by decide) s⟩

/-- A stream takes a beam that is on its way, and what holds of that beam holds of the one it has taken. -/
theorem OnItsWay.took (h : OnItsWay s u) (hst : streamAt s slot k = some st) (p : PSlot) {v : SBeam} {P : SBeam → Prop}
    (hv : P v) : let t := settle (onStream slot k (Stream.took v (u.now + 1)) (noteParity parity p u))
    t.trf.beams = s.trf.beams ∧ t.trf.errs = s.trf.errs ∧
      (parity = true → t.truss.count.get 0 5 = satAdd (s.truss.count.get 0 5) 1) ∧
      ∃ v : SBeam, streamAt t slot k =
        some { st with next := st.next + 1, fifo := st.fifo ++ [v], asked := s.now + 1 } ∧ P v := by
  dsimp only
  refine ⟨?_, ?_, fun hp => ?_, v, ?_, hv⟩
  · rw [settle_beams, onStream_trf, noteParity_trf, h.beams]
  · rw [settle_errs, onStream_trf, noteParity_trf, h.errs]
  · subst hp
    rw [settle_truss]
    exact (noteParity_counts u p).trans (by rw [h.parities])
  · rw [streamAt_congr (s := onStream slot k (Stream.took v (u.now + 1)) (noteParity parity p u)) (by rw [settle_sched]),
      streamAt_onStream, streamAt_congr (s := s) (by rw [noteParity_sched, h.sched]), hst, h.now]
    rfl

/-- An operand read of a beam of its mortise. -/
theorem operandRead_held (hb : (mortAt s (streamMort s.sched.slot[slot] st)).holds
      (BitVec.ofNat 20 (operandBeam s.sched.slot[slot] st st.next)) = true) :
    let p := s.sched.slot[slot]
    let r := bankRead 0x02 (streamMort p st) (some (Rec.phaseId p.rcd)) (BitVec.ofNat 20 (operandBeam p st st.next)) {} s
    operandRead slot k st {} parity s = onStream slot k
      (Stream.took (SBeam.struck { data := scaleFor s p st r.1.beam, poison := r.1.poison } parity)
        ((countScaled p st r.2).now + 1)) (noteParity parity p (countScaled p st r.2)) := by
  dsimp only
  rw [operandRead]
  dsimp only
  rw [if_pos hb]
  rfl

/-- An operand read outside its mortise. -/
theorem operandRead_outside (hb : (mortAt s (streamMort s.sched.slot[slot] st)).holds
      (BitVec.ofNat 20 (operandBeam s.sched.slot[slot] st st.next)) = false) :
    let p := s.sched.slot[slot]
    operandRead slot k st {} parity s = onStream slot k (Stream.took ((fillFor s p st).struck parity)
      ((countTruss 3 1 s).now + 1)) (noteParity parity p (countTruss 3 1 s)) := by
  dsimp only
  rw [operandRead]
  dsimp only
  rw [if_neg (by rw [hb]; exact Bool.false_ne_true)]
  rfl

end

/-- A read that is first at its bank fills its stream. -/
theorem operandRead_fills (slot : Fin 4) (k : Nat) (st : Stream) (parity : Bool) (s : State)
    (hst : streamAt s slot k = some st) (hm : mayIssue s slot = true)
    (hr : operandReady s.sched.slot[slot] st = true) (hf : operandFirst s slot st = true) :
    let p := s.sched.slot[slot]
    let m := streamMort p st
    let b := BitVec.ofNat 20 (operandBeam p st st.next)
    let line := readLine (storedBeam s b) (lineErr s b)
    Completes (.operandRead slot k {} parity) s fun t =>
      t.trf.beams = s.trf.beams ∧ t.trf.errs = s.trf.errs ∧
      (parity = true → t.truss.count.get 0 5 = satAdd (s.truss.count.get 0 5) 1) ∧
      ∃ v : SBeam, streamAt t slot k =
          some { st with next := st.next + 1, fifo := st.fifo ++ [v], asked := s.now + 1 } ∧ v.wait = none ∧
        ((mortAt s m).holds b = false → v.data = fillBeam (mortAt s m).fmt (streamFill p st) ∧
          v.poison = (isPoisoned s m || parity)) ∧
        ((mortAt s m).holds b = true → v.data = scaleFor s p st line.beam ∧
          (line.ue = false → v.poison = (isPoisoned s m || parity))) := by
  dsimp only
  have hexec : exec (.operandRead slot k {} parity) s =
      done (onlyIf (mayIssue s slot && operandReady s.sched.slot[slot] st && operandFirst s slot st)
        (operandRead slot k st {} parity) s) := by
    show execOperandRead slot k {} parity s = _
    rw [execOperandRead, hst]
  refine completes_onlyIf hexec (by rw [hm, hr, hf]; rfl) ?_
  cases hb : (mortAt s (streamMort s.sched.slot[slot] st)).holds
      (BitVec.ofNat 20 (operandBeam s.sched.slot[slot] st st.next)) with
  | true =>
    rw [operandRead_held hb]
    exact (onItsWay_held ..).took hst _ ⟨rfl, nofun, fun _ => ⟨congrArg (scaleFor s _ st) (bankRead_beam ..), fun hue =>
      congrArg (· || parity) (bankRead_poison _ _ _ _ _ hue)⟩⟩
  | false =>
    rw [operandRead_outside hb]
    exact (onItsWay_outside s).took hst _ ⟨rfl, fun _ => ⟨rfl, rfl⟩, nofun⟩

/-! ### Index reads (R120, R182, R184, R185) -/

/-- What an index read brings. -/
def BringsIndex (s : State) (parity : Bool) (i : BitVec 10) (b base : Nat) (x : IdxBeam) : Prop :=
  x.base = base ∧ x.next = 0 ∧ (parity = true → x.poison = true) ∧
    x.data = if (mortAt s i).holds (BitVec.ofNat 20 b) then
      (readLine (storedBeam s (BitVec.ofNat 20 b)) (lineErr s (BitVec.ofNat 20 b))).beam else 0

section
variable (p : PSlot) (i : BitVec 10) (b base : Nat) (parity : Bool) (s : State)

theorem readIndex_held (h : (mortAt s i).holds (BitVec.ofNat 20 b) = true) : readIndex p i b base {} parity s =
    ({ base := base, data := (bankRead 0x02 i (some (Rec.phaseId p.rcd)) (BitVec.ofNat 20 b) {} s).1.beam
       poison := (bankRead 0x02 i (some (Rec.phaseId p.rcd)) (BitVec.ofNat 20 b) {} s).1.poison || parity, next := 0 },
      noteParity parity p (bankRead 0x02 i (some (Rec.phaseId p.rcd)) (BitVec.ofNat 20 b) {} s).2) :=
  if_pos h

theorem readIndex_outside (h : (mortAt s i).holds (BitVec.ofNat 20 b) = false) : readIndex p i b base {} parity s =
    ({ base := base, data := 0, poison := isPoisoned s i || parity, next := 0 }, noteParity parity p (countTruss 3 1 s)) :=
  if_neg (by rw [h]; exact Bool.false_ne_true)

theorem readIndex_brings : BringsIndex s parity i b base (readIndex p i b base {} parity s).1 := by
  unfold BringsIndex
  cases h : (mortAt s i).holds (BitVec.ofNat 20 b) with
  | true =>
    rw [readIndex_held p i b base parity s h]
    exact ⟨rfl, rfl, fun hp => by rw [hp, Bool.or_true], by rw [if_pos rfl, bankRead_beam]⟩
  | false =>
    rw [readIndex_outside p i b base parity s h]
    exact ⟨rfl, rfl, fun hp => by rw [hp, Bool.or_true], rfl⟩

theorem readIndex_onlyIn : OnlyIn [.trf, .log, .aon, .gov, .truss] s (readIndex p i b base {} parity s).2 := by
  cases h : (mortAt s i).holds (BitVec.ofNat 20 b) with
  | true =>
    rw [readIndex_held p i b base parity s h]
    exact ((bankRead_onlyIn ..).mono (by simp)).trans ((noteParity_onlyIn ..).mono (by simp))
  | false =>
    rw [readIndex_outside p i b base parity s h]
    exact ((onTruss_onlyIn _ _).mono (by simp)).trans ((noteParity_onlyIn ..).mono (by simp))

theorem readIndex_sched : (readIndex p i b base {} parity s).2.sched = s.sched :=
  (readIndex_onlyIn p i b base parity s).2 .sched (by simp)

theorem readIndex_beams : (readIndex p i b base {} parity s).2.trf.beams = s.trf.beams := by
  cases h : (mortAt s i).holds (BitVec.ofNat 20 b) with
  | true => rw [readIndex_held p i b base parity s h, noteParity_trf, bankRead_beams]
  | false => rw [readIndex_outside p i b base parity s h, noteParity_trf, countTruss_trf]

end

/-- A gather stream's index read that is first at its bank brings its beam. -/
theorem gatherIndexRead_brings (slot : Fin 4) (k : Nat) (st : Stream) (parity : Bool) (s : State)
    (hst : streamAt s slot k = some st) (hm : mayIssue s slot = true) (hr : indexReady s.sched.slot[slot] st = true)
    (hf : readFirst s (Rec.mIx s.sched.slot[slot].rcd .idx) (indexBeam s.sched.slot[slot] st) (st.order slot) = true) :
    Completes (.indexRead slot k {} parity) s fun t => t.trf.beams = s.trf.beams ∧
      ∃ x : IdxBeam, BringsIndex s parity (Rec.mIx s.sched.slot[slot].rcd .idx) (indexBeam s.sched.slot[slot] st)
          st.idxNext x ∧
        streamAt t slot k =
          some { st with idxNext := st.idxNext + 128, idxBeams := st.idxBeams ++ [x], asked := s.now + 1 } := by
  have hexec : exec (.indexRead slot k {} parity) s =
      doneSched (onlyIf (mayIssue s slot && indexReady s.sched.slot[slot] st &&
          readFirst s (Rec.mIx s.sched.slot[slot].rcd .idx) (indexBeam s.sched.slot[slot] st) (st.order slot))
        (gatherIndexRead slot k st {} parity) s) := by
    show execIndexRead slot k {} parity s = _
    rw [execIndexRead, hst]
  refine completes_sched hexec (by rw [hm, hr, hf]; rfl) ⟨?_, _, readIndex_brings s.sched.slot[slot] .., ?_⟩
  · rw [settle_advanceSlots_beams, gatherIndexRead, onStream_trf, readIndex_beams]
  · rw [settle_advanceSlots_streamAt, gatherIndexRead, streamAt_onStream, streamAt_congr (s := s) (by rw [readIndex_sched]),
      hst]
    rfl

/-- A port's drain index read that is first at its bank joins the index beams of its phase. -/
theorem drainIndexRead_brings (slot : Fin 4) (k step : Nat) (parity : Bool) (s : State)
    (hst : streamAt s slot k = none) (hloop : s.sched.slot[slot].noLoop) (hm : mayIndex s slot = true)
    (hn : nextDidx s slot (k - s.sched.slot[slot].streams.length) = some step)
    (hf : readFirst s (Rec.mIx s.sched.slot[slot].rcd .didx)
      (didxBeam s.sched.slot[slot] (k - s.sched.slot[slot].streams.length) step)
      (didxOrder s slot (k - s.sched.slot[slot].streams.length)) = true) :
    Completes (.indexRead slot k {} parity) s fun t => t.trf.beams = s.trf.beams ∧
      ∃ x : IdxBeam, BringsIndex s parity (Rec.mIx s.sched.slot[slot].rcd .didx)
          (didxBeam s.sched.slot[slot] (k - s.sched.slot[slot].streams.length) step)
          (didxKey s.sched.slot[slot] (k - s.sched.slot[slot].streams.length) step) x ∧
        t.sched.slot[slot].didx = s.sched.slot[slot].didx ++ [x] ∧
        ∀ q, nextDidx t slot q = nextDidx s slot q →
          t.sched.slot[slot].didxAsked.get 0 q = s.sched.slot[slot].didxAsked.get 0 q := by
  have hexec : exec (.indexRead slot k {} parity) s =
      doneSched (onlyIf (mayIndex s slot && readFirst s (Rec.mIx s.sched.slot[slot].rcd .didx)
          (didxBeam s.sched.slot[slot] (k - s.sched.slot[slot].streams.length) step)
          (didxOrder s slot (k - s.sched.slot[slot].streams.length)))
        (drainIndexRead slot (k - s.sched.slot[slot].streams.length) step {} parity) s) := by
    show execIndexRead slot k {} parity s = _
    simp only [execIndexRead, hst, hn]
  refine completes_sched hexec (by rw [hm, hf]; rfl) ⟨?_, _, readIndex_brings s.sched.slot[slot] .., ?_⟩
  · rw [settle_advanceSlots_beams, drainIndexRead, askDidx_trf, flushLoops_trf]
    exact readIndex_beams ..
  · generalize hr : readIndex s.sched.slot[slot] (Rec.mIx s.sched.slot[slot].rcd .didx)
      (didxBeam s.sched.slot[slot] (k - s.sched.slot[slot].streams.length) step)
      (didxKey s.sched.slot[slot] (k - s.sched.slot[slot].streams.length) step) {} parity s = r
    have hrs : r.2.sched = s.sched := by rw [← hr, readIndex_sched]
    let u : State := r.2.onSlot slot fun p => { p with didx := p.didx ++ [r.1] }
    have hu : u.sched.slot[slot] = { s.sched.slot[slot] with didx := s.sched.slot[slot].didx ++ [r.1] } := by
      rw [slot_onSlot_same, hrs]
    obtain ⟨hkeep, hasked⟩ := flushLoops_noLoop (s := u) (n := slot) (by rw [hu]; exact hloop)
    have ha := askDidx_ages slot s (flushLoops u)
    have hend : drainIndexRead slot (k - s.sched.slot[slot].streams.length) step {} parity s =
        askDidx s (flushLoops u) := by
      show askDidx s (flushLoops ((readIndex _ _ _ _ _ _ s).2.onSlot slot _)) = _
      rw [hr]
    rw [hend]
    have hdidx : (askDidx s (flushLoops u)).sched.slot[slot].didx = s.sched.slot[slot].didx ++ [r.1] := by
      rw [didx_of_unasked (ha.slots slot), didx_of_unasked hkeep, hu]
    refine ⟨(settle_advanceSlots_slot PSlot.didx fun _ => rfl).trans hdidx, fun q hq => ?_⟩
    rw [settle_advanceSlots_slot PSlot.didxAsked fun _ => rfl]
    rw [settle_advanceSlots_nextDidx, ha.nextDidx] at hq
    rw [ha.kept q hq.symm, hasked q, hu]

end Sys2Proof.Machine
end

section
namespace Sys2Proof.Machine

/-! ### Gather entries (R117, R118) -/

/-- The entry an index beam gives next names a beam of the gather source mortise. -/
def NamesBeam (s : State) (p : PSlot) (x : IdxBeam) : Prop :=
  elemValid 7 x.data x.next = true ∧ 0 ≤ intElem x.data x.next ∧
    intElem x.data x.next < (mortAt s (Rec.mIx p.rcd .src)).len.toNat

section
variable {p : PSlot} {st : Stream} {x : IdxBeam} {s : State}

theorem gatherTarget_in (h : NamesBeam s p x) : gatherTarget s p (intElem x.data x.next) =
    some ((mortAt s (Rec.mIx p.rcd .src)).beamAt (intElem x.data x.next).toNat) := by
  obtain ⟨-, h0, h1⟩ := h
  rw [gatherTarget]
  exact if_pos (by simpa using ⟨h0, h1⟩)

/-- An entry that names no beam, masked or out of range, brings a fill beam. -/
theorem entryBeam_fill (h : ¬ NamesBeam s p x) :
    (entryBeam p st x s).1 = { fillFor s p st with poison := (fillFor s p st).poison || x.poison } ∧
      (entryBeam p st x s).2.truss.reads = s.truss.reads := by
  unfold entryBeam
  dsimp only
  cases hv : elemValid 7 x.data x.next with
  | false => exact ⟨rfl, rfl⟩
  | true =>
    have hn : gatherTarget s p (intElem x.data x.next) = none := by
      rw [gatherTarget]
      exact if_neg fun hin => h ⟨hv, by simpa using hin⟩
    rw [hn]
    exact ⟨rfl, rfl⟩

theorem countScaled_reads (p : PSlot) (st : Stream) (s : State) : (countScaled p st s).truss.reads = s.truss.reads :=
  congrArg (·.reads) ((countScaled_onlyIn p st s).2 .truss (by simp))

/-- An entry whose beam is being read, or has been, joins that read. -/
theorem entryBeam_joins (h : NamesBeam s p x) {g : GRead}
    (hg : readOf s ((mortAt s (Rec.mIx p.rcd .src)).beamAt (intElem x.data x.next).toNat) = some g) :
    (entryBeam p st x s).1 = { data := if g.done then scaleFor s p st g.data else 0
                               poison := x.poison || (g.done && g.poison)
                               wait := if g.done then none else some g.id, read := some g.id } ∧
      (entryBeam p st x s).2.truss.reads = s.truss.reads := by
  have hreads : (if g.done then countScaled p st s else s).truss.reads = s.truss.reads := by
    split
    · exact countScaled_reads ..
    · rfl
  unfold entryBeam
  dsimp only
  rw [h.1, gatherTarget_in h]
  dsimp only
  rw [hg]
  exact ⟨rfl, hreads⟩

/-- Any other starts a read. -/
theorem entryBeam_starts (h : NamesBeam s p x)
    (hg : readOf s ((mortAt s (Rec.mIx p.rcd .src)).beamAt (intElem x.data x.next).toNat) = none) :
    (entryBeam p st x s).1 = { data := 0, poison := x.poison, wait := some s.truss.nextId, read := some s.truss.nextId } ∧
      (entryBeam p st x s).2.truss.reads = s.truss.reads ++
        [{ id := s.truss.nextId, beam := (mortAt s (Rec.mIx p.rcd .src)).beamAt (intElem x.data x.next).toNat
           mort := Rec.mIx p.rcd .src, ticket := p.ticket }] := by
  unfold entryBeam
  dsimp only
  rw [h.1, gatherTarget_in h]
  dsimp only
  rw [hg]
  exact ⟨rfl, rfl⟩

theorem entryBeam_sched (p : PSlot) (st : Stream) (x : IdxBeam) (s : State) : (entryBeam p st x s).2.sched = s.sched := by
  have hscaled : (countScaled p st s).sched = s.sched := (countScaled_onlyIn p st s).2 .sched (by simp)
  unfold entryBeam
  dsimp only
  split
  · rfl
  · split
    · rfl
    · split
      · split
        · exact hscaled
        · rfl
      · rfl

end

/-- A stream's next entry on its way into it. -/
def entryNoted (p : PSlot) (x : IdxBeam) (st : Stream) (parity : Bool) (s : State) : State :=
  noteParity parity p (govEvent 8 1 (countTruss 1 1 (entryBeam p st x s).2))

/-- A stream once it has taken an entry. -/
def Stream.tookEntry (v : SBeam) (last : Bool) (now : BitVec 64) (st : Stream) : Stream :=
  { st with next := st.next + 1, fifo := st.fifo ++ [v]
            idxBeams := if last then st.idxBeams.drop 1 else lmod st.idxBeams 0 fun y => { y with next := y.next + 1 }
            asked := if last && 2 ≤ st.idxBeams.length then now + 1 else st.asked }

/-- A loop-back entry uses up an admission. -/
def PSlot.admits (p : PSlot) : PSlot :=
  { p with lbLeft := p.lbLeft - 1, bents := p.bents.map fun b => { b with steps := b.steps + 1 } }

/-- The stream's entry taken, the loop-back left aside. -/
def entryTaken (n : Fin 4) (k : Nat) (x : IdxBeam) (st : Stream) (parity : Bool) (s : State) : State :=
  let p := s.sched.slot[n]
  onStream n k (Stream.tookEntry ((entryBeam p st x s).1.struck parity)
    (x.next = 127 || x.base + x.next + 1 = Rec.steps p.rcd) (entryNoted p x st parity s).now)
    (entryNoted p x st parity s)

theorem takeEntry_eq (n : Fin 4) (k : Nat) (x : IdxBeam) (st : Stream) (parity : Bool) (s : State) :
    takeEntry n k x st parity s = if st.side == .loop then flushLoops ((entryTaken n k x st parity s).onSlot n PSlot.admits)
      else entryTaken n k x st parity s := rfl

section
variable {n : Fin 4} {k : Nat} {x : IdxBeam} {st : Stream} {parity : Bool} {s : State}

theorem entryNoted_sched (p : PSlot) : (entryNoted p x st parity s).sched = s.sched := by
  rw [entryNoted, noteParity_sched]
  exact entryBeam_sched p st x s

theorem entryTaken_reads :
    (entryTaken n k x st parity s).truss.reads = (entryBeam s.sched.slot[n] st x s).2.truss.reads :=
  noteParity_reads ..

/-- A stream of its own takes the entry's beam. -/
theorem streamAt_entryTaken (hst : streamAt s n k = some st) : ∃ st', streamAt (entryTaken n k x st parity s) n k = some st' ∧
    st'.next = st.next + 1 ∧ st'.fifo = st.fifo ++ [(entryBeam s.sched.slot[n] st x s).1.struck parity] := by
  rw [entryTaken, streamAt_onStream, streamAt_congr (s := s) (by rw [entryNoted_sched]), hst]
  exact ⟨_, rfl, rfl, rfl⟩

/-- Taking an entry changes of its slot the stream alone. -/
theorem entryTaken_slot : (entryTaken n k x st parity s).sched.slot[n].unflushed = s.sched.slot[n].unflushed := by
  rw [entryTaken, onStream, slot_onSlot_same, entryNoted_sched]
  rfl

theorem exec_gatherEntry {xs : List IdxBeam} (hst : streamAt s n k = some st) (hx : st.idxBeams = x :: xs) :
    exec (.gatherEntry n ⟨k, parity⟩) s =
      doneSched (onlyIf (mayIssue s n && entryReady s n st) (takeEntry n k x st parity) s) := by
  show execGatherEntry n ⟨k, parity⟩ s = _
  simp only [execGatherEntry, hst, hx]

/-- A loop-back entry uses up an admission of its path. -/
theorem gatherEntry_loop {xs : List IdxBeam} (hst : streamAt s n k = some st) (hx : st.idxBeams = x :: xs)
    (hm : mayIssue s n = true) (hr : entryReady s n st = true) (hl : st.side = .loop) :
    Completes (.gatherEntry n ⟨k, parity⟩) s fun t => t.trf.beams = s.trf.beams ∧
      t.sched.slot[n].lbLeft = s.sched.slot[n].lbLeft - 1 ∧
      t.sched.slot[n].bents = s.sched.slot[n].bents.map fun b => { b with steps := b.steps + 1 } := by
  refine completes_sched (exec_gatherEntry hst hx) (by rw [hm, hr]; rfl) ?_
  have hend : (takeEntry n k x st parity s).sched.slot[n].unflushed = s.sched.slot[n].unflushed.admits := by
    rw [takeEntry_eq, if_pos (by rw [hl]; rfl), flushLoops_unflushed, slot_onSlot_same]
    exact congrArg PSlot.admits entryTaken_slot
  refine ⟨by rw [settle_advanceSlots_beams, takeEntry_trf], ?_, ?_⟩
  · rw [settle_advanceSlots_slot PSlot.lbLeft fun _ => rfl]
    exact congrArg (a₁ := (takeEntry n k x st parity s).sched.slot[n].unflushed)
      (a₂ := s.sched.slot[n].unflushed.admits) PSlot.lbLeft hend
  · rw [settle_advanceSlots_slot PSlot.bents fun _ => rfl]
    exact congrArg (a₁ := (takeEntry n k x st parity s).sched.slot[n].unflushed)
      (a₂ := s.sched.slot[n].unflushed.admits) PSlot.bents hend

/-- Any other entry joins its stream's beams. -/
theorem gatherEntry_fills {xs : List IdxBeam} (hst : streamAt s n k = some st) (hx : st.idxBeams = x :: xs)
    (hm : mayIssue s n = true) (hr : entryReady s n st = true) (hl : st.side ≠ .loop) :
    Completes (.gatherEntry n ⟨k, parity⟩) s fun t => t.trf.beams = s.trf.beams ∧
      t.truss.reads = (entryBeam s.sched.slot[n] st x s).2.truss.reads ∧
      ∃ st', streamAt t n k = some st' ∧ st'.next = st.next + 1 ∧
        st'.fifo = st.fifo ++ [(entryBeam s.sched.slot[n] st x s).1.struck parity] := by
  refine completes_sched (exec_gatherEntry hst hx) (by rw [hm, hr]; rfl) ?_
  have hend : takeEntry n k x st parity s = entryTaken n k x st parity s := by
    rw [takeEntry_eq, if_neg (by simpa using hl)]
  refine ⟨by rw [settle_advanceSlots_beams, takeEntry_trf], ?_, ?_⟩
  · rw [settle_advanceSlots_truss, hend, entryTaken_reads]
  · rw [settle_advanceSlots_streamAt, hend]
    exact streamAt_entryTaken hst

end

/-! ### Gather reads (R119) -/

/-- The phase that holds the ticket of a gather read. -/
def gatherHolder (g : GRead) (s : State) : Option PSlot := s.sched.slot.toList.find? fun p => p.st != .free && p.ticket == g.ticket

/-- A gather read at its bank. -/
def gatherAtBank (g : GRead) (s : State) : BankRead × State :=
  bankRead 0x02 g.mort ((gatherHolder g s).map fun p => Rec.phaseId p.rcd) g.beam {} (countTruss 0 1 s)

/-- A gather read that has come, no entry filled yet. -/
def gatherArrived (g : GRead) (parity : Bool) (s : State) : State :=
  (noteParity parity ((gatherHolder g s).getD {}) (gatherAtBank g s).2).onTruss fun t =>
    { t with reads := t.reads.map fun h => if h.id = g.id then
        { h with done := true, data := (gatherAtBank g s).1.beam, poison := (gatherAtBank g s).1.poison || parity } else h }

theorem gatherReadDone_eq (g : GRead) (parity : Bool) (s : State) : gatherReadDone g {} parity s =
    flushLoops (foldOver (List.finRange 4)
      (fillWaiting g.id (gatherAtBank g s).1.beam ((gatherAtBank g s).1.poison || parity)) (gatherArrived g parity s)) := rfl

section
variable (g : GRead) (parity : Bool) (s : State)

theorem gatherAtBank_beam : (gatherAtBank g s).1.beam = (readLine (storedBeam s g.beam) (lineErr s g.beam)).beam := by
  rw [gatherAtBank, bankRead_beam]
  rfl

theorem gatherArrived_sched : (gatherArrived g parity s).sched = s.sched := by
  rw [gatherArrived, State.onTruss_sched, noteParity_sched, gatherAtBank, bankRead_sched]
  rfl

theorem gatherArrived_beams : (gatherArrived g parity s).trf.beams = s.trf.beams := by
  rw [gatherArrived, State.onTruss_trf, noteParity_trf, gatherAtBank, bankRead_beams]
  rfl

theorem gatherArrived_fmts : sameFmts s (gatherArrived g parity s) := by
  have hread : sameFmts s (gatherAtBank g s).2 := fun j => sameFmts_bankRead _ _ _ _ (countTruss 0 1 s) j
  refine hread.trans (sameFmts_of_mort ?_)
  rw [gatherArrived, State.onTruss_trf, noteParity_trf]

/-- Of the window, the read is done and its beam there. -/
theorem gatherArrived_reads {h : GRead} (hh : h ∈ (gatherArrived g parity s).truss.reads) (hid : h.id = g.id) :
    h.done = true ∧ h.data = (readLine (storedBeam s g.beam) (lineErr s g.beam)).beam ∧
      (parity = true → h.poison = true) := by
  obtain ⟨q, -, hq⟩ := List.mem_map.1 hh
  by_cases hqid : q.id = g.id
  · rw [if_pos hqid] at hq
    subst hq
    exact ⟨rfl, gatherAtBank_beam g s, fun hp => by rw [hp, Bool.or_true]⟩
  · rw [if_neg hqid] at hq
    exact absurd (hq ▸ hid) hqid

theorem fillWaitings_truss (id : Nat) (beam : Beam) (poison : Bool) :
    (foldOver (List.finRange 4) (fillWaiting id beam poison) s).truss = s.truss :=
  foldOver_same (f := fillWaiting id beam poison) (fun t : State => t.truss) (fun _ _ => rfl) _ s

theorem gatherReadDone_reads {h : GRead} (hh : h ∈ (gatherReadDone g {} parity s).truss.reads) (hid : h.id = g.id) :
    h.done = true ∧ h.data = (readLine (storedBeam s g.beam) (lineErr s g.beam)).beam ∧
      (parity = true → h.poison = true) := by
  rw [gatherReadDone_eq] at hh
  have hin := flushLoops_reads _ h hh
  rw [fillWaitings_truss] at hin
  exact gatherArrived_reads g parity s hin hid

theorem gatherReadDone_beams : (gatherReadDone g {} parity s).trf.beams = s.trf.beams := by
  rw [gatherReadDone_eq, flushLoops_trf, foldOver_trf (fun n t => fillWaiting_trf t _ _ _ n), gatherArrived_beams]

variable {s}

/-- A slot that takes no part in the loop-back has its waiting places filled, its streams else as they were. -/
theorem gatherReadDone_streams {n : Fin 4} (h : s.sched.slot[n].noLoop) :
    (gatherReadDone g {} parity s).sched.slot[n].streams = (s.sched.slot[n].filled g.id
      (readLine (storedBeam s g.beam) (lineErr s g.beam)).beam ((gatherAtBank g s).1.poison || parity) s).streams := by
  have hfill := fillWaitings_slot (n := n) (id := g.id) (beam := (gatherAtBank g s).1.beam)
    (poison := (gatherAtBank g s).1.poison || parity) (List.finRange 4) (List.nodup_finRange 4) (gatherArrived g parity s)
  rw [if_pos (List.mem_finRange n), gatherArrived_sched, filled_congr (gatherArrived_fmts g parity s),
    gatherAtBank_beam] at hfill
  rw [gatherReadDone_eq, gatherAtBank_beam]
  have hkeep := flushLoops_noLoop (n := n) (s := foldOver (List.finRange 4) (fillWaiting g.id
    (readLine (storedBeam s g.beam) (lineErr s g.beam)).beam ((gatherAtBank g s).1.poison || parity))
    (gatherArrived g parity s)) (by rw [hfill]; exact filled_noLoop h)
  rw [streams_of_unasked hkeep.1, hfill]

theorem gatherReadDone_streamAt {n : Fin 4} (h : s.sched.slot[n].noLoop) {k : Nat} {st : Stream}
    (hst : streamAt s n k = some st) : streamAt (gatherReadDone g {} parity s) n k =
      some { st with fifo := st.fifo.map (SBeam.filled g.id (scaleFor s s.sched.slot[n] st
        (readLine (storedBeam s g.beam) (lineErr s g.beam)).beam) ((gatherAtBank g s).1.poison || parity)) } := by
  have hk : s.sched.slot[n].streams[k]? = some st := hst
  rw [streamAt, gatherReadDone_streams g parity h, PSlot.filled]
  dsimp only
  rw [List.getElem?_map, hk]
  rfl

end

/-- What a place shows of a read once it has come. -/
theorem filled_shows (id : Nat) (beam : Beam) (poison : Bool) (l : List SBeam) :
    ((l.map (SBeam.filled id beam poison)).map fun v => (v.data, v.wait)) =
      l.map fun v => if v.wait = some id then (beam, none) else (v.data, v.wait) := by
  rw [List.map_map]
  refine List.map_congr_left fun v _ => ?_
  simp only [Function.comp_apply, SBeam.filled]
  split <;> rfl

/-- A gather read that is first at its bank brings its beam to every entry that waits for it. -/
theorem gatherRead_fills (g : GRead) (parity : Bool) (s : State) (ho : gatherOn s = true)
    (hfree : readsAt s (bankIx g.beam) = false) (hg : s.truss.reads.find? (fun h => h.id = g.id) = some g)
    (hfirst : s.truss.reads.find? (fun h => !h.done && bankOf h.beam == bankOf g.beam) = some g) :
    let beam := (readLine (storedBeam s g.beam) (lineErr s g.beam)).beam
    Completes (.gatherRead g.id {} parity) s fun t => t.trf.beams = s.trf.beams ∧
      (∀ h ∈ t.truss.reads, h.id = g.id → h.done = true ∧ h.data = beam ∧ (parity = true → h.poison = true)) ∧
      ∀ (slot : Fin 4) (k : Nat) (st : Stream), streamAt s slot k = some st →
        (∀ q ∈ s.sched.slot[slot].streams, q.side ≠ .loop) → ∃ st', streamAt t slot k = some st' ∧
          (st'.fifo.map fun v => (v.data, v.wait)) = st.fifo.map fun v =>
            if v.wait = some g.id then (scaleFor s s.sched.slot[slot] st beam, none) else (v.data, v.wait) := by
  dsimp only
  have hexec : exec (.gatherRead g.id {} parity) s =
      doneSched (onlyIf (gatherOn s && (s.truss.reads.find? fun h => !h.done && bankOf h.beam == bankOf g.beam).map
        GRead.id == some g.id && !readsAt s (bankIx g.beam)) (gatherReadDone g {} parity) s) := by
    show execGatherRead g.id {} parity s = _
    rw [execGatherRead, hg]
  refine completes_sched hexec (by rw [ho, hfirst, hfree]; simp) ⟨?_, fun h hh hid => ?_, fun slot k st hst hloop => ?_⟩
  · rw [settle_advanceSlots_beams, gatherReadDone_beams]
  · rw [settle_advanceSlots_truss] at hh
    exact gatherReadDone_reads g parity s hh hid
  · rw [settle_advanceSlots_streamAt, gatherReadDone_streamAt g parity hloop hst]
    exact ⟨_, rfl, filled_shows ..⟩

/-! ### The obligation -/

/-- Settles O30: each read and each entry by its own lemma, after what it leaves of the slots and the file. -/
theorem streamsAreFilled : Obligations.StreamsAreFilled := by
  unfold Obligations.StreamsAreFilled
  refine ⟨operandRead_fills, fun slot k parity s hu => ⟨fun st => gatherIndexRead_brings slot k st parity s,
    fun hst hl hm step hn hf => drainIndexRead_brings slot k step parity s hst hl hm hn hf⟩,
    ⟨fun slot k st x xs parity s hu hst hx hm hr => ⟨gatherEntry_loop hst hx hm hr, fun hl => ?_⟩,
      fun g parity s ho hfree _ => gatherRead_fills g parity s ho hfree⟩⟩
  obtain ⟨t, hexec, hbeams, hreads, st', hst', hnext, hfifo⟩ :=
    gatherEntry_fills (parity := parity) hst hx hm hr hl
  refine ⟨t, hexec, hbeams, st', _, hst', hnext, hfifo, fun hn => ?_, fun hin g hg => ?_, fun hin hg => ?_⟩
  · obtain ⟨hv, hr'⟩ := entryBeam_fill (st := st) hn
    exact ⟨by rw [hv]; rfl, hreads.trans hr'⟩
  · obtain ⟨hv, hr'⟩ := entryBeam_joins (st := st) hin hg
    rw [hv]
    refine ⟨hreads.trans hr', rfl, fun hd => ?_, fun hd => ?_⟩
    · rw [hd]; exact ⟨rfl, rfl, rfl⟩
    · rw [hd]; exact ⟨rfl, by simp [SBeam.struck]⟩
  · obtain ⟨hv, hr'⟩ := entryBeam_starts (st := st) hin hg
    rw [hv]
    exact ⟨rfl, rfl, hreads.trans hr'⟩

end Sys2Proof.Machine
end

section
namespace Sys2Proof.Machine

/-! ### A report of a minor code beside the log's entries (R371, R372) -/

section
variable {s : State} {r : Report}

/-- What the log makes of the one report raised in a step. -/
theorem flushLog_one (hr : s.log.raised = [r]) :
    flushLog s = (logOne r (s.onLog fun l => { l with raised := [] }, 0)).1 := by
  rw [flushLog, hr]
  rfl

/-- A report that finds its key in the log adds to that entry's count. -/
theorem flushLog_entries_repeats (hr : s.log.raised = [r]) (hm : isMasked s r.code = false) (hc : (r.code == 0x0E) = false)
    (hd : r.drop = none) (h : s.log.entries.any (·.matches r) = true) :
    (flushLog s).log.entries = s.log.entries.map fun e => if e.matches r then { e with rep := satAdd e.rep 1 } else e := by
  obtain ⟨f, hf⟩ := Option.isSome_iff_exists.1 (List.find?_isSome.trans List.any_eq_true.symm |>.2 h)
  have hm' : isMasked (s.onLog fun l => { l with raised := [] }) r.code = false := hm
  rw [flushLog_one hr]
  simp only [logOne, hm', hc, Bool.false_and, Bool.false_eq_true, if_false, openDrop, hd, Option.bind_none,
    State.onLog_log, hf, noteDrop, Log.repeatOf]

/-- A report with a new key writes its entry while there is room. -/
theorem flushLog_entries_new (hr : s.log.raised = [r]) (hm : isMasked s r.code = false) (hc : (r.code == 0x0E) = false)
    (hd : r.drop = none) (hp : r.setsPoison = false) (h : s.log.entries.any (·.matches r) = false)
    (hroom : s.log.entries.length < 64) : (flushLog s).log.entries = s.log.entries ++ [entryOf s r] := by
  have hf : s.log.entries.find? (·.matches r) = none := by
    simpa only [List.find?_eq_none, List.any_eq_false] using h
  have hm' : isMasked (s.onLog fun l => { l with raised := [] }) r.code = false := hm
  rw [flushLog_one hr]
  simp only [logOne, hm', hc, Bool.false_and, Bool.false_eq_true, if_false, openDrop, hd, Option.bind_none,
    State.onLog_log, hf, writeNew, hroom, if_true, Nat.zero_lt_succ, signalNew_log, noteDrop, notePoisonEntry, hp, Log.advance]
  rfl

end

/-! ### The words of a brace set (R107) -/

/-- The report of a write to a word of a VALID set. -/
def braceDropped (n : BitVec 6) : Report := { code := 0x11, loc := BitVec.ofNat 64 n.toNat }

section
variable {src : Src} {n : BitVec 6} {s : State}

theorem report_braceDropped (s : State) :
    report (braceDropped n) s = s.onLog fun l => { l with raised := l.raised ++ [braceDropped n] } := report_of_minor rfl

theorem calm_braceDropped (hs : Settled s) : Calm s (report (braceDropped n) (answer src .ok 0 s)) :=
  (calm_answer hs src .ok 0).report _

theorem raised_braceDropped (hs : Settled s) :
    (report (braceDropped n) (answer src .ok 0 s)).log.raised = [braceDropped n] := by
  simp only [report_braceDropped, State.onLog_log, answer_log, hs.1.1, List.nil_append]

/-- The log after a dropped write, as the report's entry goes into it. -/
theorem settle_braceDropped_log (hs : Settled s) :
    (settle (report (braceDropped n) (answer src .ok 0 s))).log =
      (flushLog (report (braceDropped n) (answer src .ok 0 s))).log := by
  rw [(calm_braceDropped hs).settle_eq hs]
  exact (wakeCore_onlyIn _).2 .log (by simp)

theorem entries_braceDropped : (report (braceDropped n) (answer src .ok 0 s)).log.entries = s.log.entries := by
  rw [report_braceDropped, State.onLog_log, answer_log]

theorem isMasked_braceDropped (c : BitVec 8) : isMasked (report (braceDropped n) (answer src .ok 0 s)) c = isMasked s c := by
  simp only [isMasked, report_braceDropped, State.onLog_cfg, answer_cfg]

theorem entryOf_braceDropped (r : Report) : entryOf (report (braceDropped n) (answer src .ok 0 s)) r = entryOf s r := by
  refine entryOf_congr ?_ ?_ entries_braceDropped r
  · rw [report_braceDropped, State.onLog_time, answer_time]
  · rw [report_braceDropped, State.onLog_log, answer_log]

theorem settle_braceDropped_truss : (settle (report (braceDropped n) (answer src .ok 0 s))).truss = s.truss := by
  rw [settle_truss, report_braceDropped, State.onLog_truss, answer_truss]

/-- The drop writes its entry where the log has none of its key and room. -/
theorem settle_braceDropped_new (hs : Settled s) (hm : isMasked s 0x11 = false)
    (hnew : s.log.entries.any (·.matches (braceDropped n)) = false) (hroom : s.log.entries.length < 64) :
    (settle (report (braceDropped n) (answer src .ok 0 s))).log.entries =
      s.log.entries ++ [entryOf s (braceDropped n)] := by
  rw [settle_braceDropped_log hs, flushLog_entries_new (raised_braceDropped hs) ?_ rfl rfl rfl ?_ ?_,
    entries_braceDropped, entryOf_braceDropped]
  · exact (isMasked_braceDropped _).trans hm
  · rwa [entries_braceDropped]
  · rwa [entries_braceDropped]

/-- It adds to the count of the entry that has its key. -/
theorem settle_braceDropped_repeats (hs : Settled s) (hm : isMasked s 0x11 = false)
    (hany : s.log.entries.any (·.matches (braceDropped n)) = true) :
    (settle (report (braceDropped n) (answer src .ok 0 s))).log.entries = s.log.entries.map fun e =>
      if e.matches (braceDropped n) then { e with rep := satAdd e.rep 1 } else e := by
  rw [settle_braceDropped_log hs, flushLog_entries_repeats (raised_braceDropped hs) ?_ rfl rfl ?_, entries_braceDropped]
  · exact (isMasked_braceDropped _).trans hm
  · rwa [entries_braceDropped]

variable (off : Nat) {w : BitVec 6} {v : BitVec 64}

/-- A write to an INVALID set reaches its word, of which it leaves the reserved bits zero. -/
theorem braceWrite_invalid (hw : Writes src .host s) (hv : bitAt s.truss.valid n.toNat = false) :
    writeDropping src off .host (bitAt s.truss.valid n.toNat) (setBraceWord n.toNat w.toNat v) s =
      (accept src off s).onTruss fun t =>
        { t with words := t.words.set 0 (64 * n.toNat + w.toNat) (v &&& braceMask w.toNat) } := by
  rw [hv, writeDropping_false, writeReg_of_writes hw, setBraceWord, accept_truss, hv, if_neg Bool.false_ne_true]

/-- A write to a VALID set is answered and reported, and changes no word. -/
theorem braceWrite_valid (hw : Writes src .host s) (hv : bitAt s.truss.valid n.toNat = true) :
    writeDropping src off .host (bitAt s.truss.valid n.toNat) (setBraceWord n.toNat w.toNat v) s =
      report (braceDropped n) (answer src .ok 0 s) := by
  rw [hv, writeDropping_of_writes (writeVerdict_of_writes hw off), setBraceWord, answer_truss, hv, if_pos rfl, braceDropped]

/-- A change of the truss after an answered access raises nothing. -/
theorem settle_accept_onTruss (hs : Settled s) (f : Truss → Truss) :
    settle ((accept src off s).onTruss f) = (accept src off s).onTruss f := settle_of_waking hs (waking_accept src off s)

theorem exec_braceWordWrite_invalid (hs : Settled s) (hw : Writes src .host s) (hv : bitAt s.truss.valid n.toNat = false) :
    exec (.braceWordWrite src n w v) s =
      .next ((accept src (0x34000 + 0x200 * n.toNat + 8 * w.toNat) s).onTruss fun t =>
        { t with words := t.words.set 0 (64 * n.toNat + w.toNat) (v &&& braceMask w.toNat) }) := by
  show execBraceWordWrite src n w v s = _
  rw [execBraceWordWrite, braceWrite_invalid _ hw hv, done, settle_accept_onTruss _ hs]

theorem exec_braceWordWrite_valid (hw : Writes src .host s) (hv : bitAt s.truss.valid n.toNat = true) :
    exec (.braceWordWrite src n w v) s = .next (settle (report (braceDropped n) (answer src .ok 0 s))) := by
  show execBraceWordWrite src n w v s = _
  rw [execBraceWordWrite, braceWrite_valid _ hw hv, done]

end

/-- Settles O29: behind the checks a write meets an INVALID set's word, or a VALID set's drop, whose report the log takes
as it takes any minor one. -/
theorem braceWordsAreWrittenWhileInvalid : Obligations.BraceWordsAreWrittenWhileInvalid := by
  unfold Obligations.BraceWordsAreWrittenWhileInvalid
  refine ⟨fun s => rfl, fun src n w v s hs hw => ⟨exec_braceWordWrite_invalid hs hw,
    fun hv => ⟨_, exec_braceWordWrite_valid hw hv, rfl, settle_braceDropped_truss⟩, fun hv hm =>
      ⟨fun hnew hroom => ⟨_, exec_braceWordWrite_valid hw hv, settle_braceDropped_new hs hm hnew hroom⟩,
        fun hany => ⟨_, exec_braceWordWrite_valid hw hv, settle_braceDropped_repeats hs hm hany⟩⟩⟩⟩

end Sys2Proof.Machine
end

section
namespace Sys2Proof.Machine

/-! ### The gate of BS_CMD (R108) -/

section
variable {src : Src} {n : BitVec 6} {s : State}

/-- While BUSY a brace-set command is dropped with LOST. -/
theorem bsCmd_busy (hw : Writes src .host s) (hb : s.truss.busy = true) (act : State → State) :
    bsCmd src act s = (answer src .ok 0 s).onTruss fun t => { t with lost := true } := by
  rw [bsCmd, hb, writeDropping_of_writes (writeVerdict_of_writes hw _)]
  simp [bsGate, unlessBusy, hb]

/-- Else it runs, and BUSY is set. -/
theorem bsCmd_idle (hw : Writes src .host s) (hb : s.truss.busy = false) (act : State → State) :
    bsCmd src act s = (act (accept src 0x30010 s)).onTruss fun t => { t with busy := true } := by
  rw [bsCmd, hb, writeDropping_false, writeReg_of_writes hw]
  simp [bsGate, unlessBusy, hb]

/-- The commands that BS_CMD takes, each one run behind its gate. -/
theorem exec_bsCmd {c : Instr} (hc : c ∈ [Instr.bsNop src n, .bsValidate src n, .bsInvalidate src n]) :
    ∃ act, ∀ s, exec c s = done (bsCmd src act s) := by
  simp only [List.mem_cons, List.not_mem_nil, or_false] at hc
  rcases hc with rfl | rfl | rfl <;> exact ⟨_, fun _ => rfl⟩

theorem settle_answer_onTruss (hs : Settled s) (f : Truss → Truss) :
    settle ((answer src .ok 0 s).onTruss f) = (answer src .ok 0 s).onTruss f :=
  settle_of_waking hs (waking_answer src .ok 0 s)

theorem exec_bsCmd_busy (hs : Settled s) (hw : Writes src .host s) (hb : s.truss.busy = true) {c : Instr}
    (hc : c ∈ [Instr.bsNop src n, .bsValidate src n, .bsInvalidate src n]) :
    exec c s = .next ((answer src .ok 0 s).onTruss fun t => { t with lost := true }) := by
  obtain ⟨act, hact⟩ := exec_bsCmd hc
  rw [hact, bsCmd_busy hw hb, done, settle_answer_onTruss hs]

/-! ### Brace-set commands end in CODE and REFS (R108, R109) -/

theorem braceRefs_accept (src : Src) (off : Nat) (n : BitVec 6) (s : State) : braceRefs (accept src off s) n = braceRefs s n := by
  simp only [braceRefs, accept_sched]

theorem braceOk_accept (src : Src) (off n : Nat) (s : State) : braceOk (accept src off s) n = braceOk s n := by
  simp only [braceOk, braceWord, accept_truss]

/-- The brace-set command has run with CODE 0 and left these sets VALID (R108). -/
def bsEnded (src : Src) (n : BitVec 6) (valid : BitVec 64) (s : State) : State :=
  (accept src 0x30010 s).onTruss fun t =>
    { t with code := 0, refs := satNat 8 (braceRefs s n), valid := valid, busy := true }

/-- A brace-set command that is not refused. -/
theorem done_bsCmd_ends (hs : Settled s) (hw : Writes src .host s) (hb : s.truss.busy = false) {act : State → State}
    (valid : BitVec 64)
    (h : act (accept src 0x30010 s) = bsEnd 0 n ((accept src 0x30010 s).onTruss fun t => { t with valid := valid })) :
    done (bsCmd src act s) = .next (bsEnded src n valid s) := by
  have hrefs : braceRefs ((accept src 0x30010 s).onTruss fun t => { t with valid := valid }) n = braceRefs s n :=
    braceRefs_accept src 0x30010 n s
  have hend : bsCmd src act s = bsEnded src n valid s := by
    rw [bsCmd_idle hw hb, h, bsEnd, hrefs]
    rfl
  rw [hend, done, bsEnded, settle_accept_onTruss _ hs]

/-- A brace-set command that is refused reports its code, which CODE shows, and leaves the sets as they are. -/
theorem bsCmd_refused (hw : Writes src .host s) (hb : s.truss.busy = false) {c : Instr} {act : State → State}
    {code : BitVec 8} (hc : exec c s = done (bsCmd src act s))
    (h : act (accept src 0x30010 s) = bsRefuse code n (accept src 0x30010 s)) : Completes c s fun t =>
      t.truss = { s.truss with code := code, refs := satNat 8 (braceRefs s n), busy := true } := by
  refine ⟨_, hc, ?_⟩
  dsimp only
  rw [settle_truss, bsCmd_idle hw hb, h, bsRefuse, bsEnd, braceRefs_accept, State.onTruss_truss, report, State.onLog_truss,
    State.onTruss_truss, accept_truss]

theorem bsValidate_valid (h : bitAt s.truss.valid n.toNat = true) : bsValidate n s = bsEnd 0 n s := if_pos h

theorem bsValidate_passes (h : bitAt s.truss.valid n.toNat = false) (ho : braceOk s n.toNat = true) :
    bsValidate n s = bsEnd 0 n (s.onTruss fun t => { t with valid := putBit64 s.truss.valid n.toNat true }) := by
  simp [bsValidate, h, ho, State.onTruss]

theorem bsValidate_fails (h : bitAt s.truss.valid n.toNat = false) (ho : braceOk s n.toNat = false) :
    bsValidate n s = bsRefuse 0x10 n s := by
  simp [bsValidate, h, ho]

theorem bsInvalidate_free (h : braceRefs s n = 0) :
    bsInvalidate n s = bsEnd 0 n (s.onTruss fun t => { t with valid := putBit64 s.truss.valid n.toNat false }) := by
  simp [bsInvalidate, h, State.onTruss]

theorem bsInvalidate_referenced (h : braceRefs s n ≠ 0) : bsInvalidate n s = bsRefuse 0x12 n s := by
  simp [bsInvalidate, h]

theorem bsWord_reserved {raw : BitVec 64} (h : bsReservedWord raw = true) :
    bsWord raw s = bsRefuse 0x12 (field raw 8 6) s := if_pos h

end

/-- The commands of a brace set while the unit is not BUSY. -/
theorem brace_commands_take_effect (src : Src) (n : BitVec 6) {s : State} (hs : Settled s) (hw : Writes src .host s)
    (hb : s.truss.busy = false) :
    let refused (code : BitVec 8) (c : Instr) : Prop := Completes c s fun t =>
      t.truss = { s.truss with code := code, refs := satNat 8 (braceRefs s n), busy := true }
    exec (.bsNop src n) s = .next (bsEnded src n s.truss.valid s) ∧
      (bitAt s.truss.valid n.toNat = true → exec (.bsValidate src n) s = .next (bsEnded src n s.truss.valid s)) ∧
      (bitAt s.truss.valid n.toNat = false → braceOk s n.toNat = true →
        exec (.bsValidate src n) s = .next (bsEnded src n (putBit64 s.truss.valid n.toNat true) s)) ∧
      (bitAt s.truss.valid n.toNat = false → braceOk s n.toNat = false → refused 0x10 (.bsValidate src n)) ∧
      (braceRefs s n = 0 →
        exec (.bsInvalidate src n) s = .next (bsEnded src n (putBit64 s.truss.valid n.toNat false) s)) ∧
      (braceRefs s n ≠ 0 → refused 0x12 (.bsInvalidate src n)) := by
  have ha : (accept src 0x30010 s).truss = s.truss := accept_truss ..
  have hok : braceOk (accept src 0x30010 s) n.toNat = braceOk s n.toNat := braceOk_accept ..
  have hrefs : braceRefs (accept src 0x30010 s) n = braceRefs s n := braceRefs_accept ..
  have hsame : ((accept src 0x30010 s).onTruss fun t => { t with valid := s.truss.valid }) = accept src 0x30010 s := by
    rw [← ha]
    rfl
  refine ⟨done_bsCmd_ends hs hw hb _ (by rw [hsame]), fun hv => done_bsCmd_ends hs hw hb _ ?_,
    fun hv ho => done_bsCmd_ends hs hw hb _ ?_, fun hv ho => bsCmd_refused hw hb rfl ?_,
    fun h0 => done_bsCmd_ends hs hw hb _ ?_, fun h0 => bsCmd_refused hw hb rfl ?_⟩
  · rw [hsame, bsValidate_valid (by rwa [ha])]
  · rw [bsValidate_passes (by rwa [ha]) (by rwa [hok]), ha]
  · exact bsValidate_fails (by rwa [ha]) (by rwa [hok])
  · rw [bsInvalidate_free (by rwa [hrefs]), ha]
  · exact bsInvalidate_referenced (by rwa [hrefs])

/-- A reserved word of BS_CMD is refused whatever set it names. -/
theorem reserved_brace_word_refused (src : Src) {raw : BitVec 64} {s : State} (hw : Writes src .host s)
    (hb : s.truss.busy = false) (hr : bsReservedWord raw = true) : Completes (.bsReserved src raw) s fun t =>
      t.truss.code = 0x12 ∧ t.truss.valid = s.truss.valid ∧ t.truss.words = s.truss.words := by
  obtain ⟨t, hexec, ht⟩ := bsCmd_refused (n := field raw 8 6) (c := .bsReserved src raw) hw hb
    (congrArg done (onlyIf_pos (bsCmd src (bsWord raw)) s hr)) (bsWord_reserved hr)
  exact ⟨t, hexec, by rw [ht], by rw [ht], by rw [ht]⟩

/-! ### The switch of a brace set (R123) -/

/-- The route that a bent of the phase in a slot gives its ports. -/
def routeOf (n : Fin 4) (p : PSlot) (b : Bent) : Route :=
  { active := true, slot := BitVec.ofNat 2 n.val, bent := BitVec.ofNat 5 b.id, brace := Rec.brace p.rcd }

/-- One value written at each key of a list of ports. -/
theorem get_foldl_set {α : Type} [DecidableEq α] (d v : α) (l : List (Fin 16)) (m : SMap α) (e : Fin 16) :
    (l.foldl (fun m p => m.set d p.val v) m).get d e.val = if e ∈ l then v else m.get d e.val := by
  induction l generalizing m with
  | nil => simp
  | cons p l ih =>
    rw [List.foldl_cons, ih]
    by_cases hl : e ∈ l
    · simp [hl]
    · by_cases hp : e = p
      · simp [hp, SMap.get_set_same]
      · simp [hl, hp, SMap.get_set_other d m v fun h => hp (Fin.ext h)]

section
variable {slot : Fin 4} {b : Bent} {s : State}

/-- The truss once the only bent of a phase has given its routes. -/
theorem loadRoutes_truss (hb : s.sched.slot[slot].bents = [b]) : (loadRoutes slot s).truss =
    if b.id = 16 then { s.truss with loopRoute := routeOf slot s.sched.slot[slot] b }
    else
      let written (m : SMap Route) (e : Fin 16) := m.set {} e.val (routeOf slot s.sched.slot[slot] b)
      { s.truss with route := (portsOf b.ports).foldl written s.truss.route } := by
  rw [loadRoutes, State.onSlot_truss, State.onTruss_truss, hb]
  rfl

theorem loadRoutes_switched : (loadRoutes slot s).sched.slot[slot].switched = true := by
  rw [loadRoutes, slot_onSlot_same]

/-- The switch of a phase of one bent loads its routes. -/
theorem braceSetSwitch_loads (hu : unitsOn s = true) (hi : s.sched.slot[slot].st = .issue)
    (hn : s.sched.slot[slot].switched = false) (hp : portsTaken s slot = false) (hb : s.sched.slot[slot].bents = [b]) :
    Completes (.braceSetSwitch slot) s fun t => t.sched.slot[slot].switched = true ∧
      (b.id = 16 → t.truss.loopRoute = routeOf slot s.sched.slot[slot] b ∧ t.truss.route = s.truss.route) ∧
      (b.id ≠ 16 → (∀ e ∈ portsOf b.ports, t.truss.route.get {} e.val = routeOf slot s.sched.slot[slot] b) ∧
        ∀ e : Fin 16, e ∉ portsOf b.ports → t.truss.route.get {} e.val = s.truss.route.get {} e.val) := by
  refine completes_onlyIf rfl (by rw [hu, hi, hn, hp]; rfl) ?_
  rw [settle_sched, settle_truss, loadRoutes_truss hb]
  refine ⟨loadRoutes_switched, fun h => ?_, fun h => ⟨fun e he => ?_, fun e he => ?_⟩⟩
  · rw [if_pos h]
    exact ⟨rfl, rfl⟩
  · rw [if_neg h]
    exact (get_foldl_set ..).trans (if_pos he)
  · rw [if_neg h]
    exact (get_foldl_set ..).trans (if_neg he)

end

/-- Settles O28: behind the gate of BS_CMD each command ends or is refused, and the switch writes one route at each port of
the phase's bent. -/
theorem braceSetsAndTheirSwitch : Obligations.BraceSetsAndTheirSwitch := by
  unfold Obligations.BraceSetsAndTheirSwitch
  refine ⟨fun src n s hs hw => ⟨fun hb => ?_, fun hb c hc => exec_bsCmd_busy hs hw hb hc⟩,
    fun slot b s hu hi hn hp hb => braceSetSwitch_loads hu hi hn hp hb⟩
  obtain ⟨hnop, hvalid, hpass, hfail, hfree, href⟩ := brace_commands_take_effect src n hs hw hb
  exact ⟨hnop, hvalid, hpass, hfail, hfree, href, fun raw hr => reserved_brace_word_refused src hw hb hr⟩

end Sys2Proof.Machine
end

section
namespace Sys2Proof.Machine

/-! ### The bits of Ep_OP_CTL (R126) -/

section
variable (z d : BitVec 6) (q : BitVec 8) (a : BitVec 2) (l f : BitVec 1)

/-- The fields of Ep_OP_CTL, the lowest last, bit by bit. -/
theorem ctl_bit (i : Nat) : bitAt (z ++ d ++ q ++ a ++ l ++ f : BitVec 24) i =
    if i < 1 then bitAt f i else if i < 2 then bitAt l (i - 1) else if i < 4 then bitAt a (i - 2)
    else if i < 12 then bitAt q (i - 4) else if i < 18 then bitAt d (i - 12) else bitAt z (i - 18) := by
  show BitVec.getLsbD (w := 6 + 6 + 8 + 2 + 1 + 1) _ _ = _
  simp only [BitVec.getLsbD_append]
  grind

/-- The field above LAST, FIRST, the accumulator and the tile's number. -/
theorem ctl_field {lo w : Nat} (h : lo + w ≤ 6) :
    field (z ++ d ++ q ++ a ++ l ++ f : BitVec 24) (12 + lo) w = field d lo w := by
  refine BitVec.eq_of_getLsbD_eq fun i hi => ?_
  rw [BitVec.getLsbD_extractLsb', BitVec.getLsbD_extractLsb']
  refine (congrArg (decide (i < w) && ·) (ctl_bit z d q a l f (12 + lo + i))).trans ?_
  grind

theorem low_of_append (x : BitVec 4) (m : BitVec 2) : field (x ++ m : BitVec 6) 0 2 = m := by
  refine BitVec.eq_of_getLsbD_eq fun i hi => ?_
  rw [BitVec.getLsbD_extractLsb']
  show (decide _ && BitVec.getLsbD (w := 4 + 2) _ _) = _
  rw [BitVec.getLsbD_append]
  simp [hi]

theorem high_of_append (x : BitVec 4) (m : BitVec 2) : field (x ++ m : BitVec 6) 2 4 = x := by
  refine BitVec.eq_of_getLsbD_eq fun i hi => ?_
  rw [BitVec.getLsbD_extractLsb']
  show (decide _ && BitVec.getLsbD (w := 4 + 2) _ _) = _
  rw [BitVec.getLsbD_append]
  simp [hi, show ¬ 2 + i < 2 by omega]

end

section
variable (r : Rec) (tile : Tile) (first last : Bool) (v : BitVec 6)

theorem issueCtl_first : bitAt (issueCtl r tile first last v) 0 = first := by
  rw [issueCtl, ctl_bit]
  cases first <;> rfl

theorem issueCtl_last : bitAt (issueCtl r tile first last v) 1 = last := by
  rw [issueCtl, ctl_bit]
  cases last <;> rfl

variable {last}

theorem issueCtl_dmode (h : last = true) : field (issueCtl r tile first last v) 12 2 = r.dmode := by
  subst h
  exact (ctl_field (lo := 0) _ _ _ _ _ _ (by decide)).trans (low_of_append ..)

theorem issueCtl_dfmt (h : last = true) : field (issueCtl r tile first last v) 14 4 = r.dfmt := by
  subst h
  exact (ctl_field (lo := 2) _ _ _ _ _ _ (by decide)).trans (high_of_append ..)

/-- While LAST is clear DMODE is free, but no reserved value. -/
theorem issueCtl_open (h : last = false) : field (issueCtl r tile first last v) 12 2 ≠ (3 : BitVec 2) := by
  subst h
  have hopen : field (issueCtl r tile first false v) 12 2 = BitVec.ofNat 2 (v.toNat % 3) :=
    (ctl_field (lo := 0) _ _ _ _ _ _ (by decide)).trans (low_of_append ..)
  have hlt : v.toNat % 3 < 3 := Nat.mod_lt _ (by decide)
  rw [hopen]
  bv_omega

end

/-! ### One port of the engine ports -/

section
variable {s : State} {e f : Fin 16}

theorem port_onPort_same (g : Port → Port) : (s.onPort e g).ports.port[e] = g s.ports.port[e] :=
  (vmod_getElem ..).trans (if_pos rfl)

theorem port_onPort_other (g : Port → Port) (h : f ≠ e) : (s.onPort e g).ports.port[f] = s.ports.port[f] :=
  (vmod_getElem ..).trans (if_neg h.symm)

end

/-! ### An issue at one port (R127 to R131) -/

/-- The record of an issue at a port: the heads of its bent's streams, with what goes with them. -/
def issueRecord (s : State) (p : PSlot) (b : Bent) (e : Fin 16) (tile : Tile) (free : BitVec 6) : OpRec :=
  let sa := sideStream p .a b.asrc
  let sb := sideStream p .b (bSrc (p.portWord e.val))
  let va := sa.fifo.headD {}
  let vb := sb.fifo.headD {}
  { kind := 0, a := va.data, b := vb.data, apar := beamParity va.data, bpar := beamParity vb.data
    afmt := (mortAt s (streamMort p sa)).fmt, bfmt := (mortAt s (streamMort p sb)).fmt, aPoison := va.poison
    bPoison := vb.poison, ascale := Rec.scaleA p.rcd, bscale := Rec.scaleB p.rcd
    ctl := issueCtl p.rcd tile (isFirst p b) (isLast p b) free }

/-- The port has used a credit for its issue, whose record is on its channel. -/
def TakesIssue (n : Fin 4) (b : Bent) (e : Fin 16) (s t : State) : Prop :=
  t.ports.port[e].opCred = s.ports.port[e].opCred - 1 ∧
    ∃ tile free, t.ports.port[e].out = some (issueRecord s s.sched.slot[n] b e tile free)

/-- A slot without its counts of governor events. -/
def PSlot.unveng (p : PSlot) : PSlot := { p with veng := [] }

/-- What an issue leaves of a slot but those counts. -/
theorem field_of_unveng {α : Type} (f : PSlot → α) (hf : ∀ p : PSlot, f p.unveng = f p) {p q : PSlot}
    (h : q.unveng = p.unveng) : f q = f p := by
  rw [← hf, h, hf]

/-- The records depend on the mortises and the slot alone. -/
theorem issueRecord_congr {n : Fin 4} {s t : State} (ht : t.trf = s.trf)
    (hp : t.sched.slot[n].unveng = s.sched.slot[n].unveng) (b : Bent) (e : Fin 16) (tile : Tile) (free : BitVec 6) :
    issueRecord t t.sched.slot[n] b e tile free = issueRecord s s.sched.slot[n] b e tile free := by
  have hm (p : PSlot) : issueRecord t p b e tile free = issueRecord s p b e tile free := by
    simp only [issueRecord, mortAt, ht]
  rw [hm]
  exact field_of_unveng (fun p => issueRecord s p b e tile free) (fun _ => rfl) hp

section
variable {n : Fin 4} {b : Bent} {e f : Fin 16} {s t u : State}

/-- The state once an issue that is not LAST has drawn a free value (R126). -/
def issueDrawn (n : Fin 4) (b : Bent) (s : State) : State := if isLast s.sched.slot[n] b then s else (takeFree 6 s).2

theorem issueDrawn_onlyIn (n : Fin 4) (b : Bent) (s : State) : OnlyIn [.time] s (issueDrawn n b s) := by
  unfold issueDrawn
  split
  · exact OnlyIn.refl s
  · exact ⟨rfl, fun p hp => by cases p <;> simp_all [SamePart, takeFree]⟩

theorem issueDrawn_ports : (issueDrawn n b s).ports = s.ports := (issueDrawn_onlyIn n b s).2 .ports (by simp)
theorem issueDrawn_sched : (issueDrawn n b s).sched = s.sched := (issueDrawn_onlyIn n b s).2 .sched (by simp)
theorem issueDrawn_gov : (issueDrawn n b s).gov = s.gov := (issueDrawn_onlyIn n b s).2 .gov (by simp)

/-- An issue changes its port, which has used a credit and shows the record, and counts governor events. -/
theorem issueToPort_eq (n : Fin 4) (b : Bent) (e : Fin 16) (s : State) : ∃ event g,
    issueToPort n b e s = govEvent 7 2 (vengEvent n event 1 ((issueDrawn n b s).onPort e g)) ∧
      ∀ q, (g q).opCred = q.opCred - 1 ∧ ∃ tile free, (g q).out = some (issueRecord s s.sched.slot[n] b e tile free) :=
  ⟨_, _, rfl, fun _ => ⟨rfl, _, _, rfl⟩⟩

theorem issueToPort_same : TakesIssue n b e s (issueToPort n b e s) := by
  obtain ⟨event, g, heq, hg⟩ := issueToPort_eq n b e s
  have hport : (issueToPort n b e s).ports.port[e] = g s.ports.port[e] := by
    rw [heq]
    exact (port_onPort_same (s := issueDrawn n b s) g).trans (by rw [issueDrawn_ports])
  rw [TakesIssue, hport]
  exact hg _

theorem issueToPort_other (h : f ≠ e) : (issueToPort n b e s).ports.port[f] = s.ports.port[f] := by
  obtain ⟨event, g, heq, -⟩ := issueToPort_eq n b e s
  rw [heq]
  exact (port_onPort_other (s := issueDrawn n b s) g h).trans (by rw [issueDrawn_ports])

theorem issueToPort_slot : (issueToPort n b e s).sched.slot[n].unveng = s.sched.slot[n].unveng := by
  obtain ⟨event, g, heq, -⟩ := issueToPort_eq n b e s
  have hslot : (vengEvent n event 1 ((issueDrawn n b s).onPort e g)).sched.slot[n].unveng =
      (issueDrawn n b s).sched.slot[n].unveng := by
    rw [vengEvent, slot_onSlot_same]
    rfl
  rw [heq]
  exact hslot.trans (by rw [issueDrawn_sched])

theorem govEvent_cold (event c : Nat) (s : State) : (govEvent event c s).gov.cold = s.gov.cold := rfl
theorem vengEvent_cold (n : Fin 4) (event c : Nat) (s : State) : (vengEvent n event c s).gov.cold = s.gov.cold := rfl

theorem issueToPort_cold : (issueToPort n b e s).gov.cold = s.gov.cold := by
  obtain ⟨event, g, heq, -⟩ := issueToPort_eq n b e s
  rw [heq, govEvent_cold, vengEvent_cold, State.onPort_gov, issueDrawn_gov]

end

end Sys2Proof.Machine
end

section
namespace Sys2Proof.Machine

/-! ### An issue at every port of its bent (R103, R113) -/

/-- From s to t each port of a list takes its issue of the bent, and of the rest nothing that an issue shows changes. -/
structure IssuesTo (n : Fin 4) (b : Bent) (l : List (Fin 16)) (s t : State) : Prop where
  takes : ∀ e ∈ l, TakesIssue n b e s t
  others : ∀ e ∉ l, t.ports.port[e] = s.ports.port[e]
  slot : t.sched.slot[n].unveng = s.sched.slot[n].unveng
  cold : t.gov.cold = s.gov.cold
  trf : t.trf = s.trf

section
variable {n : Fin 4} {b : Bent} {l : List (Fin 16)} {s t u : State}

theorem issuesTo_foldOver (hl : l.Nodup) (s : State) : IssuesTo n b l s (foldOver l (issueToPort n b) s) := by
  induction l generalizing s with
  | nil => exact ⟨by simp, fun _ _ => rfl, rfl, rfl, rfl⟩
  | cons e l ih =>
    obtain ⟨he, hl⟩ := List.nodup_cons.1 hl
    have h := ih hl (issueToPort n b e s)
    have hrecord := issueRecord_congr (n := n) (issueToPort_trf s n b e) issueToPort_slot b
    rw [foldOver_cons]
    refine ⟨fun f hf => ?_, fun f hf => ?_, h.slot.trans issueToPort_slot, h.cold.trans issueToPort_cold,
      h.trf.trans (issueToPort_trf s n b e)⟩
    · by_cases hfe : f = e
      · subst hfe
        rw [TakesIssue, h.others f he]
        exact issueToPort_same
      · obtain ⟨hcred, tile, free, hout⟩ := h.takes f ((List.mem_cons.1 hf).resolve_left hfe)
        rw [issueToPort_other hfe] at hcred
        exact ⟨hcred, tile, free, hout.trans (congrArg some (hrecord ..))⟩
    · rw [h.others f fun hfl => hf (List.mem_cons_of_mem e hfl)]
      exact issueToPort_other fun hfe => hf (hfe ▸ List.mem_cons_self)

/-- What leaves the ports, the slots, the governor and the tile register file alone leaves the issues as they are. -/
theorem IssuesTo.of_onlyIn (h : IssuesTo n b l s t) (hu : OnlyIn [.truss] t u) : IssuesTo n b l s u := by
  have hports : u.ports = t.ports := hu.2 .ports (by simp)
  have hsched : u.sched = t.sched := hu.2 .sched (by simp)
  have hgov : u.gov = t.gov := hu.2 .gov (by simp)
  have htrf : u.trf = t.trf := hu.2 .trf (by simp)
  refine ⟨fun e he => ?_, fun e he => ?_, ?_, ?_, htrf.trans h.trf⟩
  · rw [TakesIssue, hports]
    exact h.takes e he
  · rw [hports]
    exact h.others e he
  · rw [hsched]
    exact h.slot
  · rw [hgov]
    exact h.cold

theorem portsOf_nodup (m : BitVec 16) : (portsOf m).Nodup := (List.nodup_finRange 16).filter _

end

/-! ### The delivery of an issue (R113, R119) -/

/-- The heads of the streams that a bent takes at each issue. -/
def issueHeads (p : PSlot) (b : Bent) : List SBeam :=
  (bentStreams p b).filterMap fun i => (p.streams[i]?.map Stream.fifo).bind List.head?

/-- The issue is at its ports, and its beams have begun delivery. -/
def issueBegun (n : Fin 4) (b : Bent) (s : State) : State :=
  foldOver (issueHeads s.sched.slot[n] b) beginDelivery (foldOver (portsOf b.ports) (issueToPort n b) s)

/-- A stream once its head has left it. -/
def Stream.delivered (now : BitVec 64) (st : Stream) : Stream :=
  { st with fifo := st.fifo.drop 1, asked := if 8 ≤ st.fifo.length then now + 1 else st.asked }

/-- A slot once bent k has delivered an issue of the streams ks. -/
def PSlot.delivered (ks : List Nat) (k : Nat) (now : BitVec 64) (p : PSlot) : PSlot :=
  { p with
    streams := p.streams.zipIdx.map fun q => if ks.contains q.2 then q.1.delivered now else q.1
    bents := lmod p.bents k fun b => { b with steps := b.steps + 1 } }

theorem delivered_stream {ks : List Nat} {i : Nat} (hi : i ∈ ks) (k : Nat) (now : BitVec 64) (p : PSlot) :
    (p.delivered ks k now).streams[i]? = p.streams[i]?.map (Stream.delivered now) := by
  simp [PSlot.delivered, List.getElem?_zipIdx, Function.comp_def, hi]

theorem deliverIssue_eq (n : Fin 4) (k : Nat) (b : Bent) (s : State) : deliverIssue n k b s =
    askDidx s ((issueBegun n b s).onSlot n
      (PSlot.delivered (bentStreams s.sched.slot[n] b) k (issueBegun n b s).now)) := rfl

section
variable {n : Fin 4} {k : Nat} {b : Bent} {s : State}

theorem issuesTo_begun (n : Fin 4) (b : Bent) (s : State) : IssuesTo n b (portsOf b.ports) s (issueBegun n b s) :=
  (issuesTo_foldOver (portsOf_nodup _) s).of_onlyIn (foldOver_onlyIn beginDelivery_onlyIn _ _)

theorem deliverIssue_ports : (deliverIssue n k b s).ports = (issueBegun n b s).ports := by
  rw [deliverIssue_eq, (askDidx_ages n _ _).ports]
  rfl

/-- What a delivery leaves of its slot but for counts and ages. -/
theorem deliverIssue_slot {α : Type} (f : PSlot → α) (hf : ∀ p : PSlot, f p.unasked = f p) :
    f (deliverIssue n k b s).sched.slot[n] =
      f ((issueBegun n b s).sched.slot[n].delivered (bentStreams s.sched.slot[n] b) k (issueBegun n b s).now) := by
  rw [← hf, deliverIssue_eq, (askDidx_ages n _ _).slots, slot_onSlot_same, hf]

theorem askDidx_gov (old s : State) : (askDidx old s).gov = s.gov := by
  refine foldOver_keeps (fun t : State => t.gov = s.gov) (fun m t ht => ?_) _ rfl
  split
  · refine foldOver_keeps (fun t : State => t.gov = s.gov) (fun port u hu => ?_) (List.range 16) ht
    split
    · exact hu
    · exact hu
  · exact ht

theorem deliverIssue_cold : (deliverIssue n k b s).gov.cold = s.gov.cold := by
  rw [deliverIssue_eq, askDidx_gov, State.onSlot_gov, (issuesTo_begun n b s).cold]

/-- The bent has delivered one more issue. -/
theorem deliverIssue_bents (hk : s.sched.slot[n].bents[k]? = some b) :
    (deliverIssue n k b s).sched.slot[n].bents[k]? = some { b with steps := b.steps + 1 } := by
  have hb : (issueBegun n b s).sched.slot[n].bents = s.sched.slot[n].bents :=
    field_of_unveng PSlot.bents (fun _ => rfl) (issuesTo_begun n b s).slot
  rw [deliverIssue_slot PSlot.bents fun _ => rfl, PSlot.delivered, lmod_getElem?, hb, hk]
  rfl

/-- The heads have left the streams that the bent takes. -/
theorem deliverIssue_streams {i : Nat} {st : Stream} (hi : i ∈ bentStreams s.sched.slot[n] b)
    (hst : streamAt s n i = some st) :
    ∃ st', streamAt (deliverIssue n k b s) n i = some st' ∧ st'.fifo = st.fifo.drop 1 := by
  have hstreams : (issueBegun n b s).sched.slot[n].streams = s.sched.slot[n].streams :=
    field_of_unveng PSlot.streams (fun _ => rfl) (issuesTo_begun n b s).slot
  have hget : s.sched.slot[n].streams[i]? = some st := hst
  rw [streamAt, deliverIssue_slot PSlot.streams fun _ => rfl, delivered_stream hi, hstreams, hget]
  exact ⟨_, rfl, rfl⟩

end

end Sys2Proof.Machine
end

section
namespace Sys2Proof.Machine

/-! ### The end of a BCLK of a bent -/

/-- At the end of a bent's BCLK the ports, the stored beams, the accumulators and the cold state are as it left them, and
a slot may drain or fold. -/
structure CycleEnds (u t : State) : Prop where
  ports : t.ports = u.ports
  slot : ∀ n : Fin 4, t.sched.slot[n].goesOn = u.sched.slot[n].goesOn
  beams : t.trf.beams = u.trf.beams
  bent : t.gov.bent = u.gov.bent
  cold : t.gov.cold = u.gov.cold

theorem advanceSlot_gov (n : Fin 4) (s : State) : (advanceSlot n s).gov = s.gov := by
  unfold advanceSlot
  dsimp only
  split
  · split <;> rfl
  · split <;> rfl

theorem noteBinding_bent (s : State) : (noteBinding s).gov.bent = s.gov.bent := by
  unfold noteBinding
  dsimp only
  split <;> rfl

theorem noteBinding_cold (s : State) : (noteBinding s).gov.cold = s.gov.cold := by
  unfold noteBinding
  dsimp only
  split <;> rfl

theorem cycleEnds (u : State) : CycleEnds u (settle (noteBinding (advanceSlots u))) := by
  have hn := noteBinding_onlyIn (advanceSlots u)
  have hports : (noteBinding (advanceSlots u)).ports = (advanceSlots u).ports := hn.2 .ports (by simp)
  have hsched : (noteBinding (advanceSlots u)).sched = (advanceSlots u).sched := hn.2 .sched (by simp)
  have hgov : (advanceSlots u).gov = u.gov := foldOver_same (fun t : State => t.gov) advanceSlot_gov _ u
  refine ⟨?_, fun n => ?_, ?_, ?_, ?_⟩
  · rw [settle_ports, hports, (advanceSlots_goesOn 0 u).ports]
  · rw [settle_sched, hsched, (advanceSlots_goesOn n u).slot]
  · rw [settle_beams, noteBinding_trf, advanceSlots_trf]
  · rw [settle_gov, noteBinding_bent, hgov]
  · rw [settle_gov, noteBinding_cold, hgov]

section
variable {n : Fin 4} {k : Nat} {b : Bent} {s t u : State}

/-- A field of a slot other than its state. -/
theorem CycleEnds.field (h : CycleEnds u t) {α : Type} (f : PSlot → α) (hf : ∀ p : PSlot, f p.goesOn = f p) (n : Fin 4) :
    f t.sched.slot[n] = f u.sched.slot[n] := by
  rw [← hf, h.slot, hf]

theorem CycleEnds.bents (h : CycleEnds u t) (n : Fin 4) : t.sched.slot[n].bents = u.sched.slot[n].bents :=
  h.field PSlot.bents (fun _ => rfl) n

theorem CycleEnds.streams (h : CycleEnds u t) (n : Fin 4) : t.sched.slot[n].streams = u.sched.slot[n].streams :=
  h.field PSlot.streams (fun _ => rfl) n

theorem exec_issueDelivery (hk : s.sched.slot[n].bents[k]? = some b) (hsteps : b.steps < Rec.steps s.sched.slot[n].rcd) :
    exec (.issueDelivery n k) s = doneGov (advanceSlots
      (if bentRuns s n b then (if b.id = 16 then loopCycle n else bentCycle n k b) s
        else onlyIf (bentBanks s n b) (setAcc b.id (accNext s b.id)) s)) := by
  show execIssueDelivery n k s = _
  rw [execIssueDelivery, hk]
  dsimp only
  rw [if_neg (Nat.not_le.2 hsteps)]

/-- A bent that can be admitted an issue has its BCLK. -/
theorem completes_runs (hk : s.sched.slot[n].bents[k]? = some b) (hsteps : b.steps < Rec.steps s.sched.slot[n].rcd)
    (hrun : bentRuns s n b = true) {post : State → Prop}
    (hpost : ∀ t, CycleEnds ((if b.id = 16 then loopCycle n else bentCycle n k b) s) t → post t) :
    Completes (.issueDelivery n k) s post := by
  refine ⟨_, ?_, hpost _ (cycleEnds _)⟩
  rw [exec_issueDelivery hk hsteps, if_pos hrun, doneGov, done]

/-! ### The admission accumulator of a bent (R289) -/

theorem acc_setAcc (id v : Nat) (s : State) : (setAcc id v s).gov.bent[govIx id].acc = v := by
  have h : (setAcc id v s).gov.bent[govIx id] = { s.gov.bent[govIx id] with acc := v } :=
    (vmod_getElem ..).trans (if_pos rfl)
  rw [h]

theorem bent_banks (hk : s.sched.slot[n].bents[k]? = some b) (hsteps : b.steps < Rec.steps s.sched.slot[n].rcd)
    (hrun : bentRuns s n b = false) (hbank : bentBanks s n b = true) :
    Completes (.issueDelivery n k) s fun t => t.gov.bent[govIx b.id].acc = accNext s b.id ∧
      t.sched.slot[n].bents = s.sched.slot[n].bents ∧ t.trf.beams = s.trf.beams ∧ t.ports = s.ports := by
  have h := cycleEnds (setAcc b.id (accNext s b.id) s)
  refine ⟨_, ?_, ?_, h.bents n, h.beams, h.ports⟩
  · rw [exec_issueDelivery hk hsteps, if_neg (by rw [hrun]; decide), onlyIf_pos _ _ hbank, doneGov, done]
  · rw [h.bent, acc_setAcc]

/-! ### One BCLK of a port bent (R113, R127, R289, R304) -/

/-- No port of the bent holds it, for want of a credit or of a free accumulator. -/
def issueFree (s : State) (p : PSlot) (b : Bent) : Bool :=
  (portsOf b.ports).all fun e => !lacksCredit s e && !(isFirst p b && lacksAcc s e)

theorem issueFree_iff {p : PSlot} : issueFree s p b = true ↔
    ∀ e ∈ portsOf b.ports, s.ports.port[e].opCred ≠ 0 ∧ (isFirst p b = true → lacksAcc s e = false) := by
  simp [issueFree, lacksCredit, or_iff_not_imp_left]

/-- A port bent's BCLK once the block has warmed up where it is to: the issue is delivered or waits, or the bent
accumulates. -/
def bentAdmission (n : Fin 4) (k : Nat) (b : Bent) (p : PSlot) (free : Bool) (s : State) : State :=
  let acc := accNext s b.id
  let admits := 64 ≤ acc && (portsOf b.ports).all (takesIssues s p)
  if admits && free && issueHeld p b then deliverIssue n k b (setAcc b.id (acc - 64) s)
  else if admits && free && b.steps != 0 then countTruss 4 1 (setAcc b.id acc s)
  else if admits && !free && issueHeld p b then countHolds p b (setAcc b.id acc s)
  else setAcc b.id acc s

theorem bentCycle_eq (n : Fin 4) (k : Nat) (b : Bent) (s : State) : bentCycle n k b s =
    bentAdmission n k b s.sched.slot[n] (issueFree s s.sched.slot[n] b)
      (warmUp (64 ≤ accNext s b.id && issueFree s s.sched.slot[n] b && issueHeld s.sched.slot[n] b) s) := rfl

/-- A block that is not cold does not warm up. -/
theorem warmUp_warm (h : s.gov.cold = false) (ready : Bool) : warmUp ready s = s := by simp [warmUp, h]

section
variable (h : s.gov.cold = false)
include h

theorem bentCycle_delivers (hacc : 64 ≤ accNext s b.id) (htake : ∀ e ∈ portsOf b.ports, takesIssues s s.sched.slot[n] e = true)
    (hheld : issueHeld s.sched.slot[n] b = true) (hfree : issueFree s s.sched.slot[n] b = true) :
    bentCycle n k b s = deliverIssue n k b (setAcc b.id (accNext s b.id - 64) s) := by
  have hall : (portsOf b.ports).all (takesIssues s s.sched.slot[n]) = true := List.all_eq_true.2 htake
  rw [bentCycle_eq, warmUp_warm h]
  simp only [bentAdmission, hacc, hall, hheld, hfree, decide_true, Bool.and_self, if_true]

theorem bentCycle_waits (hacc : 64 ≤ accNext s b.id) (htake : ∀ e ∈ portsOf b.ports, takesIssues s s.sched.slot[n] e = true)
    (hheld : issueHeld s.sched.slot[n] b = true) (hfree : issueFree s s.sched.slot[n] b = false) :
    bentCycle n k b s = countHolds s.sched.slot[n] b (setAcc b.id (accNext s b.id) s) := by
  have hall : (portsOf b.ports).all (takesIssues s s.sched.slot[n]) = true := List.all_eq_true.2 htake
  rw [bentCycle_eq, warmUp_warm h]
  simp only [bentAdmission, hacc, hall, hheld, hfree, decide_true, Bool.and_self, Bool.and_false, Bool.false_and,
    Bool.not_false, Bool.false_eq_true, if_false, if_true]

theorem bentCycle_banks (hacc : accNext s b.id < 64) : bentCycle n k b s = setAcc b.id (accNext s b.id) s := by
  rw [bentCycle_eq, warmUp_warm h]
  simp only [bentAdmission, Nat.not_le.2 hacc, decide_false, Bool.false_and, Bool.false_eq_true, if_false]

end

/-- Counting the ports that hold a bent changes neither their credits nor their records. -/
theorem countHolds_ports (p : PSlot) (b : Bent) (s : State) (e : Fin 16) :
    (countHolds p b s).ports.port[e].out = s.ports.port[e].out ∧
      (countHolds p b s).ports.port[e].opCred = s.ports.port[e].opCred := by
  have hcount (f : Fin 16) (i : Nat) (t : State) :
      let u := t.onPort f fun q => { q with count := bump q.count i 1 }
      u.ports.port[e].out = t.ports.port[e].out ∧ u.ports.port[e].opCred = t.ports.port[e].opCred := by
    by_cases hef : e = f
    · subst hef
      dsimp only
      rw [port_onPort_same]
      exact ⟨rfl, rfl⟩
    · dsimp only
      rw [port_onPort_other _ hef]
      exact ⟨rfl, rfl⟩
  refine foldOver_keeps (fun t : State => t.ports.port[e].out = s.ports.port[e].out ∧
    t.ports.port[e].opCred = s.ports.port[e].opCred) (fun f t ht => ?_) _ ⟨rfl, rfl⟩
  split
  · exact ⟨(hcount f 2 t).1.trans ht.1, (hcount f 2 t).2.trans ht.2⟩
  · split
    · exact ⟨(hcount f 3 t).1.trans ht.1, (hcount f 3 t).2.trans ht.2⟩
    · exact ht

theorem countHolds_onlyIn (p : PSlot) (b : Bent) (s : State) : OnlyIn [.ports] s (countHolds p b s) := by
  refine foldOver_onlyIn (fun e t => ?_) _ s
  split
  · exact onPort_onlyIn ..
  · split
    · exact onPort_onlyIn ..
    · exact OnlyIn.refl t

/-- From its start on an admission leaves the cold state as it is. -/
theorem bentAdmission_cold (p : PSlot) (free : Bool) : (bentAdmission n k b p free s).gov.cold = s.gov.cold := by
  have hcount (v : Nat) : (countHolds p b (setAcc b.id v s)).gov = (setAcc b.id v s).gov :=
    (countHolds_onlyIn p b (setAcc b.id v s)).2 .gov (by simp)
  unfold bentAdmission
  dsimp only
  split
  · exact deliverIssue_cold
  · split
    · rfl
    · split
      · rw [hcount]
        rfl
      · rfl

/-- A cold block that would admit the bent's issue leaves the cold state. -/
theorem bentCycle_warms (hcold : s.gov.cold = true) (hacc : 64 ≤ accNext s b.id)
    (hheld : issueHeld s.sched.slot[n] b = true) (hfree : issueFree s s.sched.slot[n] b = true) :
    (bentCycle n k b s).gov.cold = false := by
  rw [bentCycle_eq, bentAdmission_cold, warmUp, hcold, hfree, hheld, decide_eq_true hacc]
  rfl

end

end Sys2Proof.Machine
end

section
namespace Sys2Proof.Machine

/-! ### One BCLK of the loop-back bent (R289) -/

/-- The loop-back path of the phase in a slot can take entries. -/
def loopReady (s : State) (n : Fin 4) : Bool :=
  s.truss.reads.length < 1024 && s.sched.slot[n].streams.any fun st => !st.idxBeams.isEmpty && !loopHeld s n

section
variable {n : Fin 4} {k : Nat} {b : Bent} {s : State}

theorem loopReady_iff : loopReady s n = true ↔
    s.truss.reads.length < 1024 ∧ loopHeld s n = false ∧ ∃ st ∈ s.sched.slot[n].streams, st.idxBeams ≠ [] := by
  simp only [loopReady, Bool.and_eq_true, decide_eq_true_eq, List.any_eq_true, Bool.not_eq_true',
    List.isEmpty_eq_false_iff]
  constructor
  · rintro ⟨hroom, st, hst, hbeams, hheld⟩
    exact ⟨hroom, hheld, st, hst, hbeams⟩
  · rintro ⟨hroom, hheld, st, hst, hbeams⟩
    exact ⟨hroom, st, hst, hbeams, hheld⟩

theorem loopCycle_warm (h : s.gov.cold = false) : loopCycle n s =
    if 64 ≤ accNext s 16 && loopReady s n then
      (setAcc 16 (accNext s 16 - 64) s).onSlot n fun p => { p with lbLeft := Rec.lbWidth p.rcd }
    else (setAcc 16 (accNext s 16) s).onSlot n fun p => { p with lbLeft := 0 } := by
  unfold loopCycle
  dsimp only
  rw [warmUp_warm h]
  rfl

/-- The loop-back bent admits up to LB_WIDTH entries, or banks. -/
theorem loopCycle_admits (h : s.gov.cold = false) :
    let u := loopCycle n s
    let ready := s.truss.reads.length < 1024 ∧ loopHeld s n = false ∧ ∃ st ∈ s.sched.slot[n].streams, st.idxBeams ≠ []
    (64 ≤ accNext s 16 ∧ ready →
      u.sched.slot[n].lbLeft = Rec.lbWidth s.sched.slot[n].rcd ∧ u.gov.bent[govIx 16].acc = accNext s 16 - 64) ∧
    (¬ (64 ≤ accNext s 16 ∧ ready) → u.sched.slot[n].lbLeft = 0 ∧ u.gov.bent[govIx 16].acc = accNext s 16) := by
  dsimp only
  rw [← loopReady_iff, loopCycle_warm h]
  refine ⟨fun hr => ?_, fun hr => ?_⟩
  · rw [if_pos (by simpa using hr)]
    exact ⟨congrArg PSlot.lbLeft (slot_onSlot_same _), acc_setAcc ..⟩
  · rw [if_neg (by simpa using hr)]
    exact ⟨congrArg PSlot.lbLeft (slot_onSlot_same _), acc_setAcc ..⟩

/-! ### What one BCLK of a bent that issues completes with -/

section
variable (hk : s.sched.slot[n].bents[k]? = some b) (hsteps : b.steps < Rec.steps s.sched.slot[n].rcd)
  (hrun : bentRuns s n b = true)
include hk hsteps hrun

theorem port_bent_completes (hid : b.id ≠ 16) {post : State → Prop}
    (hpost : ∀ t, CycleEnds (bentCycle n k b s) t → post t) : Completes (.issueDelivery n k) s post :=
  completes_runs hk hsteps hrun (by rwa [if_neg hid])

/-- An admitted issue that no port holds is delivered at each of them. -/
theorem issue_delivers (hcold : s.gov.cold = false) (hid : b.id ≠ 16) (hacc : 64 ≤ accNext s b.id)
    (hheld : issueHeld s.sched.slot[n] b = true) (htake : ∀ e ∈ portsOf b.ports, takesIssues s s.sched.slot[n] e = true)
    (hfree : issueFree s s.sched.slot[n] b = true) : Completes (.issueDelivery n k) s fun t =>
      (∀ e ∈ portsOf b.ports, TakesIssue n b e s t) ∧ (∀ e ∉ portsOf b.ports, t.ports.port[e] = s.ports.port[e]) ∧
      t.sched.slot[n].bents[k]? = some { b with steps := b.steps + 1 } ∧ t.trf.beams = s.trf.beams ∧
      ∀ i ∈ bentStreams s.sched.slot[n] b, ∀ st, streamAt s n i = some st →
        ∃ st', streamAt t n i = some st' ∧ st'.fifo = st.fifo.drop 1 := by
  refine port_bent_completes hk hsteps hrun hid fun t ht => ?_
  rw [bentCycle_delivers hcold hacc htake hheld hfree] at ht
  have hissues := issuesTo_begun n b (setAcc b.id (accNext s b.id - 64) s)
  have hports := ht.ports.trans deliverIssue_ports
  refine ⟨fun e he => ?_, fun e he => ?_, ?_, ?_, fun i hi st hst => ?_⟩
  · rw [TakesIssue, hports]
    exact hissues.takes e he
  · rw [hports]
    exact hissues.others e he
  · rw [ht.bents]
    exact deliverIssue_bents hk
  · rw [ht.beams, deliverIssue_trf, setAcc_trf]
  · rw [streamAt_congr (ht.streams n)]
    exact deliverIssue_streams (s := setAcc b.id (accNext s b.id - 64) s) hi hst

/-- A port that holds the bent keeps the issue where it is. -/
theorem issue_waits (hcold : s.gov.cold = false) (hid : b.id ≠ 16) (hacc : 64 ≤ accNext s b.id)
    (hheld : issueHeld s.sched.slot[n] b = true) (htake : ∀ e ∈ portsOf b.ports, takesIssues s s.sched.slot[n] e = true)
    (hfree : issueFree s s.sched.slot[n] b = false) : Completes (.issueDelivery n k) s fun t =>
      t.sched.slot[n].bents = s.sched.slot[n].bents ∧ t.sched.slot[n].streams = s.sched.slot[n].streams ∧
        ∀ e : Fin 16, t.ports.port[e].out = s.ports.port[e].out ∧ t.ports.port[e].opCred = s.ports.port[e].opCred := by
  refine port_bent_completes hk hsteps hrun hid fun t ht => ?_
  rw [bentCycle_waits hcold hacc htake hheld hfree] at ht
  have hsched : (countHolds s.sched.slot[n] b (setAcc b.id (accNext s b.id) s)).sched = s.sched :=
    (countHolds_onlyIn s.sched.slot[n] b (setAcc b.id (accNext s b.id) s)).2 .sched (by simp)
  refine ⟨by rw [ht.bents, hsched], by rw [ht.streams, hsched], fun e => ?_⟩
  rw [ht.ports]
  exact countHolds_ports s.sched.slot[n] b (setAcc b.id (accNext s b.id) s) e

/-- A cold block warms up where it would admit the issue. -/
theorem issue_warms (hcold : s.gov.cold = true) (hid : b.id ≠ 16) (hacc : 64 ≤ accNext s b.id)
    (hheld : issueHeld s.sched.slot[n] b = true) (hfree : issueFree s s.sched.slot[n] b = true) :
    Completes (.issueDelivery n k) s fun t => t.gov.cold = false :=
  port_bent_completes hk hsteps hrun hid fun _ ht => ht.cold.trans (bentCycle_warms hcold hacc hheld hfree)

/-- A bent below its ceiling accumulates. -/
theorem issue_banks (hcold : s.gov.cold = false) (hid : b.id ≠ 16) (hacc : accNext s b.id < 64) :
    Completes (.issueDelivery n k) s fun t => t.sched.slot[n].bents = s.sched.slot[n].bents ∧ t.ports = s.ports ∧
      t.gov.bent[govIx b.id].acc = accNext s b.id := by
  refine port_bent_completes hk hsteps hrun hid fun t ht => ?_
  rw [bentCycle_banks hcold hacc] at ht
  exact ⟨ht.bents n, ht.ports, by rw [ht.bent, acc_setAcc]⟩

/-- The loop-back bent's BCLK. -/
theorem loop_completes (hcold : s.gov.cold = false) (hid : b.id = 16) :
    let ready := s.truss.reads.length < 1024 ∧ loopHeld s n = false ∧ ∃ st ∈ s.sched.slot[n].streams, st.idxBeams ≠ []
    Completes (.issueDelivery n k) s fun t =>
      (64 ≤ accNext s 16 ∧ ready → t.sched.slot[n].lbLeft = Rec.lbWidth s.sched.slot[n].rcd ∧
        t.gov.bent[govIx 16].acc = accNext s 16 - 64) ∧
      (¬ (64 ≤ accNext s 16 ∧ ready) → t.sched.slot[n].lbLeft = 0 ∧ t.gov.bent[govIx 16].acc = accNext s 16) := by
  refine completes_runs hk hsteps hrun fun t ht => ?_
  rw [if_pos hid] at ht
  rw [ht.field PSlot.lbLeft (fun _ => rfl) n, ht.bent]
  exact loopCycle_admits hcold

end

end

/-- Settles O31: a bent that runs has its BCLK, which delivers to its ports one after another, waits, warms up or
accumulates; what follows in the step changes neither. -/
theorem issuesAreDelivered : Obligations.IssuesAreDelivered := by
  unfold Obligations.IssuesAreDelivered
  refine ⟨fun n k b s hk hissue hswitched hbound hsteps => ?_,
    fun n k b s hk hsteps hrun hbank => bent_banks hk hsteps hrun hbank⟩
  have hrun : bentRuns s n b = true := by rw [bentRuns, hissue, hswitched, hbound]; rfl
  refine ⟨fun hcold ⟨hid, hacc, hheld, htake⟩ hroom => ?_, fun hcold ⟨hid, hacc, hheld, htake⟩ hroom => ?_,
    fun hcold ⟨hid, hacc, hheld, _⟩ hroom => issue_warms hk hsteps hrun hcold hid hacc hheld (issueFree_iff.2 hroom),
    fun hcold hid hacc => issue_banks hk hsteps hrun hcold hid hacc,
    fun hcold hid => loop_completes hk hsteps hrun hcold hid⟩
  · obtain ⟨t, hexec, htakes, hrest⟩ :=
      issue_delivers hk hsteps hrun hcold hid hacc hheld htake (issueFree_iff.2 hroom)
    refine ⟨t, hexec, fun e he => ?_, hrest⟩
    obtain ⟨hcred, tile, free, hout⟩ := htakes e he
    refine ⟨hcred, _, hout, rfl, rfl, rfl, rfl, rfl, rfl, rfl, rfl, rfl, rfl, rfl, issueCtl_first .., issueCtl_last ..,
      fun hlast => ⟨issueCtl_dmode _ _ _ _ hlast, issueCtl_dfmt _ _ _ _ hlast⟩, issueCtl_open _ _ _ _⟩
  · exact issue_waits hk hsteps hrun hcold hid hacc hheld htake
      (Bool.eq_false_iff.2 fun hfree => hroom (issueFree_iff.1 hfree))

end Sys2Proof.Machine
end

/-! ## The engine ports: credits, training, failure and the port commands (05)

What a change of one port leaves of the others, what an abort leaves of the ports, and on these the statements. -/

section
namespace Sys2Proof.Machine

/-! ### One port, read off -/

section
variable {s : State} {e p : Fin 16}

@[simp] theorem portAt_onPort_same (g : Port → Port) : portAt (s.onPort e g) e = g (portAt s e) := port_onPort_same g

@[simp] theorem portAt_onPort_other (g : Port → Port) (h : p ≠ e) : portAt (s.onPort e g) p = portAt s p :=
  port_onPort_other g h

@[simp] theorem portAt_report (r : Report) : portAt (report r s) p = portAt s p := rfl

@[simp] theorem portAt_settle : portAt (settle s) p = portAt s p := by rw [portAt, settle_ports, portAt]

@[simp] theorem portAt_advanceSlots : portAt (advanceSlots s) p = portAt s p := by
  rw [portAt, (advanceSlots_goesOn 0 s).ports, portAt]

@[simp] theorem portAt_accept (src : Src) (off : Nat) : portAt (accept src off s) p = portAt s p := by
  rw [portAt, accept_ports, portAt]

end

section
variable {s t : State} {e : Fin 16}

/-- The phases that hold a port are those of the slots. -/
theorem holders_congr (h : t.sched = s.sched) (e : Fin 16) : holders t e = holders s e := by rw [holders, h, holders]

theorem mem_holders_used {n : Fin 4} (h : n ∈ holders s e) : s.sched.slot[n].st ≠ .free := by
  simp only [holders, List.mem_filter, Bool.and_eq_true, bne_iff_ne] at h
  exact h.2.1

/-! ### Ports whose drain buffers stay leave nothing to settle -/

theorem drainsDone_of_bufs (h : ∀ p, (portAt t p).buf = (portAt s p).buf) (hk : t.sinter = s.sinter) :
    drainsDone t = drainsDone s := by
  have hbufs : t.ports.port.map Port.buf = s.ports.port.map Port.buf := Vector.ext fun i hi => by
    simpa [portAt] using h ⟨i, hi⟩
  have hall (u : State) : u.ports.port.toList.all (·.buf.isEmpty) =
      (u.ports.port.map Port.buf).toList.all (·.isEmpty) := by
    rw [Vector.toList_map, List.all_map]
    rfl
  simp only [drainsDone, hall, hbufs, hk]

theorem settled_onPorts (hs : Settled s) {f : Ports → Ports}
    (h : ∀ p, (portAt (s.onPorts f) p).buf = (portAt s p).buf) : Settled (s.onPorts f) := by
  obtain ⟨hquiet, hfits, hwakes⟩ := hs
  refine ⟨hquiet, ?_, hwakes⟩
  rw [StateFits, drainsDone_of_bufs (s := s) (t := s.onPorts f) h rfl]
  exact hfits

theorem settle_onPort (hs : Settled s) {g : Port → Port} (h : ∀ q, (g q).buf = q.buf) :
    settle (s.onPort e g) = s.onPort e g := by
  refine settle_settled (settled_onPorts hs (f := fun t => { t with port := vmod t.port e g }) fun p => ?_)
  by_cases hp : p = e
  · subst hp
    exact (congrArg Port.buf (portAt_onPort_same g)).trans (h _)
  · exact congrArg Port.buf (portAt_onPort_other g hp)

theorem settled_accept (hs : Settled s) (src : Src) (off : Nat) : Settled (accept src off s) := by
  rw [← settle_of_waking hs (waking_accept src off s)]
  exact settled_settle _

theorem settled_answer (hs : Settled s) (src : Src) (a : Answer) (v : W64) : Settled (answer src a v s) := by
  rw [← settle_of_waking hs (waking_answer src a v s)]
  exact settled_settle _

end

end Sys2Proof.Machine
end

section
namespace Sys2Proof.Machine

/-! ### What the end of a tally's fold leaves (R172) -/

theorem clearTally_onlyIn (i : Fin 4) (s : State) : OnlyIn [.sinter, .log] s (clearTally i s) := by
  unfold clearTally tallyRefuse tallyCode
  split
  · exact ((onSinter_onlyIn ..).mono (by simp)).trans ((report_onlyIn ..).mono (by simp))
  · exact ((onSinter_onlyIn ..).mono (by simp)).trans ((onSinter_onlyIn ..).mono (by simp))

theorem tallyCmd_onlyIn (fold : Bool) (i : Fin 4) (s : State) : OnlyIn [.sinter, .log] s (tallyCmd fold i s) := by
  unfold tallyCmd
  split
  · exact (onSinter_onlyIn ..).mono (by simp)
  · split
    · exact ((onSinter_onlyIn s _).trans (onSinter_onlyIn _ _)).mono (by simp)
    · exact clearTally_onlyIn i s

theorem endFold_onlyIn (i : Fin 4) (s : State) : OnlyIn [.sinter, .log] s (endFold i s) := by
  have hk (f : Sinter → Sinter) (t : State) : OnlyIn [.sinter, .log] t (t.onSinter f) :=
    (onSinter_onlyIn t f).mono (by simp)
  refine (hk _ s).trans ((hk _ _).trans (foldOver_onlyIn (fun c t => ?_) _ _))
  split
  · exact tallyCmd_onlyIn c.1 c.2 t
  · exact hk _ t

/-! ### What aborted phases leave (R146, R147, R196) -/

/-- A port but for the ABORT records that it owes. -/
def Port.unticketed (q : Port) : Port := { q with abortTickets := [] }

/-- From s to t phases abort: a port may owe an ABORT record more, and a slot may go to ABORT. -/
structure Aborts (s t : State) : Prop where
  port : ∀ p, (portAt t p).unticketed = (portAt s p).unticketed
  code : t.ports.code = s.ports.code
  slot : ∀ n : Fin 4, t.sched.slot[n].st = .abort ∨ t.sched.slot[n].st = s.sched.slot[n].st

section
variable {s t u : State} {n : Fin 4}

theorem Aborts.refl (s : State) : Aborts s s := ⟨fun _ => rfl, rfl, fun _ => .inr rfl⟩

theorem Aborts.trans (h : Aborts s t) (k : Aborts t u) : Aborts s u := by
  refine ⟨fun p => (k.port p).trans (h.port p), k.code.trans h.code, fun n => ?_⟩
  rcases k.slot n with hn | hn
  · exact .inl hn
  · rw [hn]
    exact h.slot n

theorem Aborts.stays (h : Aborts s t) (ha : s.sched.slot[n].st = .abort) : t.sched.slot[n].st = .abort := by
  rcases h.slot n with hn | hn
  · exact hn
  · exact hn.trans ha

theorem Aborts.used (h : Aborts s t) (hf : s.sched.slot[n].st ≠ .free) : t.sched.slot[n].st ≠ .free := by
  rcases h.slot n with hn | hn
  · rw [hn]
    decide
  · rwa [hn]

/-- A field of a port other than the records that it owes. -/
theorem Aborts.field {α : Type} (h : Aborts s t) (f : Port → α) (hf : ∀ q : Port, f q.unticketed = f q) (p : Fin 16) :
    f (portAt t p) = f (portAt s p) := by
  rw [← hf, h.port, hf]

theorem aborts_of_onlyIn (h : OnlyIn [.log, .truss, .sinter] s t) : Aborts s t := by
  have hports : t.ports = s.ports := h.2 .ports (by simp)
  have hsched : t.sched = s.sched := h.2 .sched (by simp)
  refine ⟨fun p => ?_, by rw [hports], fun n => .inr (by rw [hsched])⟩
  rw [portAt, hports, portAt]

/-- What happens under a condition, if at all. -/
theorem Aborts.ite (h : Aborts s t) (c : Prop) [Decidable c] : Aborts s (if c then t else s) := by
  split
  · exact h
  · exact Aborts.refl s

theorem endFold_aborts (i : Fin 4) (s : State) : Aborts s (endFold i s) :=
  aborts_of_onlyIn ((endFold_onlyIn i s).mono (by simp))

theorem dropOrphans_aborts (s : State) : Aborts s (dropOrphans s) :=
  aborts_of_onlyIn ((onTruss_onlyIn ..).mono (by simp))

theorem aborts_onSinter (f : Sinter → Sinter) (s : State) : Aborts s (s.onSinter f) :=
  aborts_of_onlyIn ((onSinter_onlyIn ..).mono (by simp))

theorem aborts_onSched {f : Sched → Sched} (h : ∀ c, (f c).slot = c.slot) (s : State) : Aborts s (s.onSched f) :=
  ⟨fun _ => rfl, rfl, fun _ => .inr (by rw [State.onSched_sched, h])⟩

theorem aborts_owes {e : Fin 16} {g : Port → Port} (h : ∀ q, (g q).unticketed = q.unticketed) (s : State) :
    Aborts s (s.onPort e g) := by
  refine ⟨fun p => ?_, rfl, fun _ => .inr rfl⟩
  by_cases hp : p = e
  · subst hp
    rw [portAt_onPort_same, h]
  · rw [portAt_onPort_other g hp]

theorem aborts_owe {g : Port → Port} (h : ∀ q, (g q).unticketed = q.unticketed) (l : List (Fin 16)) (s : State) :
    Aborts s (foldOver l (fun e t => t.onPort e g) s) :=
  foldOver_keeps (Aborts s) (fun _ t ht => ht.trans (aborts_owes h t)) l (Aborts.refl s)

theorem aborts_onSlot {g : PSlot → PSlot} (h : ∀ p, (g p).st = .abort) (s : State) : Aborts s (s.onSlot n g) := by
  refine ⟨fun _ => rfl, rfl, fun m => ?_⟩
  by_cases hm : m = n
  · subst hm
    exact .inl (by rw [slot_onSlot_same, h])
  · exact .inr (by rw [slot_onSlot_other g hm])

/-- Slot n's phase is among those that abort from s to t. -/
def AbortsAt (n : Fin 4) (s t : State) : Prop := Aborts s t ∧ t.sched.slot[n].st = .abort

theorem AbortsAt.trans (h : AbortsAt n s t) (k : Aborts t u) : AbortsAt n s u := ⟨h.1.trans k, k.stays h.2⟩

theorem Aborts.trans_at (h : Aborts s t) (k : AbortsAt n t u) : AbortsAt n s u := ⟨h.trans k.1, k.2⟩

theorem abortsAt_onSlot {g : PSlot → PSlot} (h : ∀ p, (g p).st = .abort) (s : State) : AbortsAt n s (s.onSlot n g) :=
  ⟨aborts_onSlot h s, by rw [slot_onSlot_same, h]⟩

/-- A way of aborting a slot's phase: whatever phase the slot holds is in ABORT after it. -/
def AbortsSlots (f : Fin 4 → State → State) : Prop :=
  ∀ n s, Aborts s (f n s) ∧ (s.sched.slot[n].st ≠ .free → (f n s).sched.slot[n].st = .abort)

/-- An abort begins in the slot, and then its ports owe their records and its reads and its fold end. -/
theorem abortPhase_aborts (code : BitVec 8) (cause : AbortCause) :
    AbortsSlots fun n s => abortPhase n code cause s := by
  intro n s
  dsimp only
  unfold abortPhase
  dsimp only
  split
  · next h =>
    rw [Bool.or_eq_true, beq_iff_eq, beq_iff_eq] at h
    exact ⟨Aborts.refl s, h.resolve_left⟩
  · have hab {t u v w x y : State} (hslot : AbortsAt n t u) (hseq : Aborts s t) (howe : Aborts u v)
        (hcount : Aborts v w) (horphans : Aborts w x) (hfold : Aborts x y) :
        Aborts s y ∧ (s.sched.slot[n].st ≠ .free → y.sched.slot[n].st = .abort) :=
      And.imp_right (fun h _ => h) ((((hseq.trans_at hslot).trans howe).trans hcount).trans horphans |>.trans hfold)
    exact hab (abortsAt_onSlot (by exact fun _ => rfl) _) ((aborts_onSinter ..).ite _)
      (aborts_owe (by exact fun _ => rfl) _ _) (aborts_onSched (by exact fun _ => rfl) _) (dropOrphans_aborts _)
      ((endFold_aborts ..).ite _)

theorem aborts_foldOver {f : Fin 4 → State → State} (h : AbortsSlots f) (l : List (Fin 4)) (s : State) :
    Aborts s (foldOver l f s) :=
  foldOver_keeps (Aborts s) (fun n _ ht => ht.trans (h n _).1) l (Aborts.refl s)

/-- Each phase of the list is in ABORT at its end. -/
theorem foldOver_abort {f : Fin 4 → State → State} (h : AbortsSlots f) {l : List (Fin 4)} (hn : n ∈ l)
    (hf : s.sched.slot[n].st ≠ .free) : (foldOver l f s).sched.slot[n].st = .abort := by
  induction l generalizing s with
  | nil => exact absurd hn List.not_mem_nil
  | cons m l ih =>
    rw [foldOver_cons]
    by_cases hnm : n = m
    · subst hnm
      exact (aborts_foldOver h l _).stays ((h n s).2 hf)
    · exact ih ((List.mem_cons.1 hn).resolve_left hnm) ((h m s).1.used hf)

end

end Sys2Proof.Machine
end

section
namespace Sys2Proof.Machine

/-! ### A beam that is held back on its way to the sequencer (R151, R166)

A port's oldest beam waits behind an earlier update of its port that the drain network still holds, whichever way the
beam's own updates go. -/

/-- The oldest beam of port 0, of the phase with ticket 1. -/
def heldBeam : DrainBeam := { ticket := 1 }

/-- Port 0, agreed, with that beam in its buffer. -/
def heldPort : Port := { st := .agreed, present := true, opCred := 16, drCred := 31, buf := [heldBeam] }

/-- A phase in SEQUENCE order on port 0 that drains. -/
def sequencePhase : PSlot :=
  { st := .drain, ticket := 1, rcd := (0x4 : BitVec 2048) <<< 16 ||| (1 : BitVec 2048) <<< 32 }

/-- The phase before on that port, which drains too. -/
def earlierPhase : PSlot := { st := .drain, rcd := (1 : BitVec 2048) <<< 32 }

/-- RUN, those phases in slots 0 and 1 and that port, whose last update, of the earlier phase, waits in the drain
network. -/
def heldBehind : State :=
  { ({} : State) with
    aon := { ({} : Aon) with st := .run, prev := .ready, arstN := true, mrstN := true, pwrok := true }
    ports := { ({} : Ports) with port := vset (Vector.replicate 16 {}) 0 heldPort }
    sched := { ({} : Sched) with slot := vset (vset (Vector.replicate 4 {}) 0 sequencePhase) 1 earlierPhase }
    sinter := { ({} : Sinter) with net := [(0, [{}])] } }

theorem heldBehind_settled : Settled heldBehind := ⟨⟨rfl, rfl⟩, ⟨nofun, fun _ => .inl (by decide)⟩, nofun⟩

theorem heldBehind_unitsOn : unitsOn heldBehind = true := by decide

theorem heldBehind_updates :
    portUpdates heldBehind 0 heldBeam = some (affineUpdates heldBehind sequencePhase 0 heldBeam) := by
  have haffine : Rec.didx sequencePhase.rcd = false := by decide +kernel
  have hslot : heldBehind.sched.slot[heldBeam.slot] = sequencePhase := rfl
  rw [portUpdates, hslot, haffine]
  rfl

/-- The beam stays where it is. -/
theorem heldBehind_stays : enterNetwork 0 heldBehind = heldBehind := by
  have hbuf : (portAt heldBehind 0).buf = [heldBeam] := rfl
  have hheld : drainHeld heldBehind 0 heldBeam = true := Bool.or_eq_true_iff.2 (.inr (by decide))
  simp [enterNetwork, hbuf, heldBehind_updates, hheld]

theorem exec_drainNetworkEntry {e : Fin 16} {s : State} (hu : unitsOn s = true) :
    exec (.drainNetworkEntry e) s = .next (settle (advanceSlots (enterNetwork e s))) :=
  congrArg doneSched (onlyIf_pos (enterNetwork e) s hu)

/-- Refutes O32: its clause for the sequencer does not ask that the drain network hold no earlier update of the port,
and where it does the beam stays in the buffer. -/
theorem not_portsTakeCreditsAndDrainBeams : ¬ Obligations.PortsTakeCreditsAndDrainBeams := by
  unfold Obligations.PortsTakeCreditsAndDrainBeams
  intro h
  obtain ⟨-, -, hentry⟩ := h 0 heldBehind heldBehind_settled heldBehind_unitsOn rfl
  obtain ⟨-, hsequence⟩ := hentry heldBeam [] _ rfl heldBehind_updates
  obtain ⟨t, hexec, hbuf, -⟩ := hsequence (by decide +kernel) (by decide +kernel)
  rw [exec_drainNetworkEntry heldBehind_unitsOn, heldBehind_stays] at hexec
  rw [← Host.Outcome.next.inj hexec, portAt_settle, portAt_advanceSlots] at hbuf
  exact absurd hbuf (List.cons_ne_nil heldBeam [])

end Sys2Proof.Machine
end

section
namespace Sys2Proof.Machine

/-! ### A port that fails (R145, R146) -/

/-- A port once it has left AGREED or TRAINING. -/
def Port.down (st : PortState) (q : Port) : Port :=
  { q with st := st, ver := 0, opCred := 0, drCred := 0, buf := [], tiles := [], tileSeq := 0, accPoison := 0,
           abortTickets := [], abortSent := false, capSeen := false, out := none, holdRst := false }

/-- The port has gone to a state with a code, its buffer and tiles are gone and the phases that held it abort, while no
other port changes its state. -/
def PortLost (e : Fin 16) (s : State) (st : PortState) (code : BitVec 8) (t : State) : Prop :=
  (portAt t e).st = st ∧ (portAt t e).lastCode = code ∧ (portAt t e).buf = [] ∧ (portAt t e).tiles = [] ∧
    (portAt t e).opCred = 0 ∧ (∀ n ∈ holders s e, t.sched.slot[n].st = .abort) ∧
    (∀ p, p ≠ e → (portAt t p).st = (portAt s p).st ∧ (portAt t p).buf = (portAt s p).buf) ∧
    t.trf.beams = s.trf.beams

section
variable {e : Fin 16} {s t u : State} {st : PortState} {code : BitVec 8} {loc : BitVec 64} {n : Fin 4}

theorem portDown_eq (e : Fin 16) (st : PortState) (s : State) : portDown e st s = s.onPort e (Port.down st) := rfl

/-- The state in which a failed port's phases begin to abort. -/
theorem portFail_aborts (e : Fin 16) (code : BitVec 8) (st : PortState) (loc : BitVec 64) (s : State) :
    Aborts ((portDown e st s).onPort e fun q => { q with lastCode := code }) (portFail e code st loc s) :=
  (aborts_of_onlyIn ((report_onlyIn ..).mono (by simp))).trans (aborts_foldOver (abortPhase_aborts code .fault) _ _)

/-- A field of the port that has failed, other than the ABORT records that it owes. -/
theorem portFail_field {α : Type} (f : Port → α) (hf : ∀ q : Port, f q.unticketed = f q) :
    f (portAt (portFail e code st loc s) e) = f { (portAt s e).down st with lastCode := code } := by
  rw [(portFail_aborts e code st loc s).field f hf, portAt_onPort_same, portDown_eq, portAt_onPort_same]

theorem portFail_other {α : Type} (f : Port → α) (hf : ∀ q : Port, f q.unticketed = f q) {p : Fin 16} (hp : p ≠ e) :
    f (portAt (portFail e code st loc s) p) = f (portAt s p) := by
  rw [(portFail_aborts e code st loc s).field f hf, portAt_onPort_other _ hp, portDown_eq, portAt_onPort_other _ hp]

theorem portFail_lost (e : Fin 16) (code : BitVec 8) (st : PortState) (loc : BitVec 64) (s : State) :
    PortLost e s st code (portFail e code st loc s) := by
  refine ⟨portFail_field Port.st fun _ => rfl, portFail_field Port.lastCode fun _ => rfl,
    portFail_field Port.buf fun _ => rfl, portFail_field Port.tiles fun _ => rfl,
    portFail_field Port.opCred fun _ => rfl,
    fun n hn => foldOver_abort (abortPhase_aborts code .fault) hn (mem_holders_used hn),
    fun p hp => ⟨portFail_other Port.st (fun _ => rfl) hp, portFail_other Port.buf (fun _ => rfl) hp⟩,
    by rw [portFail_trf]⟩

/-- A slot in ABORT stays there as the slots go on. -/
theorem advanceSlots_stays (h : s.sched.slot[n].st = .abort) : (advanceSlots s).sched.slot[n].st = .abort := by
  have hne := abort_of_needs (needs_of_goesOn (advanceSlots_goesOn n s).slot)
  rw [h] at hne
  simpa using hne

theorem PortLost.settles (h : PortLost e s st code t) : PortLost e s st code (settle t) := by
  simpa only [PortLost, portAt_settle, settle_sched, settle_beams] using h

theorem PortLost.goesOn (h : PortLost e s st code t) : PortLost e s st code (advanceSlots t) := by
  obtain ⟨hst, hcode, hbuf, htiles, hcred, hslots, hothers, hbeams⟩ := h
  simp only [PortLost, portAt_advanceSlots, advanceSlots_trf]
  exact ⟨hst, hcode, hbuf, htiles, hcred, fun n hn => advanceSlots_stays (hslots n hn), hothers, hbeams⟩

/-- A port that is lost where nothing but the port had changed. -/
theorem PortLost.of_onPort {g : Port → Port} (h : PortLost e (s.onPort e g) st code t) : PortLost e s st code t := by
  obtain ⟨hst, hcode, hbuf, htiles, hcred, hslots, hothers, hbeams⟩ := h
  refine ⟨hst, hcode, hbuf, htiles, hcred, hslots, fun p hp => ?_, hbeams⟩
  rw [← portAt_onPort_other (s := s) g hp]
  exact hothers p hp

theorem completes_lost {c : Instr} {cond : Bool} {f : State → State} (hc : exec c s = done (onlyIf cond f s))
    (h : cond = true) (hf : PortLost e s st code (f s)) : Completes c s (PortLost e s st code) :=
  completes_onlyIf hc h hf.settles

theorem completes_lost_sched {c : Instr} {cond : Bool} {f : State → State}
    (hc : exec c s = doneSched (onlyIf cond f s)) (h : cond = true) (hf : PortLost e s st code (f s)) :
    Completes c s (PortLost e s st code) :=
  completes_sched hc h hf.goesOn.settles

end

end Sys2Proof.Machine
end

section
namespace Sys2Proof.Machine

/-! ### What fails a port (R136, R137, R143, R145) -/

section
variable {e : Fin 16} {s : State}

theorem drainBeam_training (ht : (portAt s e).st = .training) (tag : BitVec 24) (data : Beam) (p b f : Bool) :
    drainBeam e tag data p b f s = portViolation e 0x1A tag s := by
  rw [drainBeam, ht]

/-- A drain beam without a tile, or without a drain credit, is out of turn (R136, R138). -/
theorem drainBeam_outOfTurn (ha : (portAt s e).st = .agreed) (h : (portAt s e).tiles = [] ∨ (portAt s e).drCred = 0)
    (tag : BitVec 24) (data : Beam) (p b : Bool) :
    drainBeam e tag data p b false s = portViolation e 0x1A tag s := by
  rw [drainBeam, ha]
  dsimp only
  split
  · next tile rest ht =>
    have hc : (portAt s e).drCred = 0 := h.resolve_left (by simp [ht])
    simp [hc]
  · rfl

theorem gainCredit_over (h : (portAt s e).opDepth ≤ (portAt s e).opCred) : gainCredit e s = portViolation e 0x1A 0 s :=
  if_pos h

theorem unitsOn_congr {t : State} (h : t.aon = s.aon) : unitsOn t = unitsOn s := by
  rw [unitsOn, mainOn, h, unitsOn, mainOn]

/-- Chattering of an input changes its port's last code and what the port notes of it, and may be reported (R141). -/
theorem portChatter_onPort (e : Fin 16) (i : PortInput) (chatter : Bool) (s : State) :
    ∃ g : Port → Port, (∀ q, (g q).st = q.st) ∧ OnlyIn [.log] (s.onPort e g) (portChatter e i chatter s) := by
  have hnote (q : Port) (v : Bool) : (q.noteChat i v).st = q.st := by cases i <;> rfl
  unfold portChatter
  split
  · split
    · refine ⟨id, fun _ => rfl, rfl, fun p _ => ?_⟩
      cases p <;> simp [SamePart, vmod, vset]
    · exact ⟨fun q => { q.noteChat i true with lastCode := 0x1F }, fun q => hnote q true, report_onlyIn ..⟩
  · exact ⟨_, fun q => hnote q false, OnlyIn.refl _⟩

/-- A stable level leaves the port's state (R141). -/
theorem portChatter_stable_st (e : Fin 16) (i : PortInput) (s : State) :
    (portAt (portChatter e i false s) e).st = (portAt s e).st := by
  have hport : portAt (portChatter e i false s) e = (portAt s e).noteChat i false := portAt_onPort_same _
  rw [hport]
  cases i <;> rfl

/-- What is lost once only a port and the log have changed. -/
theorem PortLost.of_chatter {st : PortState} {code : BitVec 8} {t u : State} {g : Port → Port}
    (ho : OnlyIn [.log] (s.onPort e g) u) (h : PortLost e u st code t) : PortLost e s st code t := by
  have hports : u.ports = (s.onPort e g).ports := ho.2 .ports (by simp)
  have hsched : u.sched = s.sched := ho.2 .sched (by simp)
  have htrf : u.trf = s.trf := ho.2 .trf (by simp)
  simp only [PortLost, portAt, hports, holders_congr hsched, htrf] at h
  exact PortLost.of_onPort (g := g) h

/-- Ep_FAULT_N low fails an agreed port (R145). -/
theorem setFaultN_low (hu : unitsOn s = true) (ha : (portAt s e).st = .agreed) :
    setFaultN e false s = portViolation e 0x1D 0 (s.onPort e fun q => { q with faultN := false }) := by
  have hon : unitsOn (s.onPort e fun q => { q with faultN := false }) = true := hu
  simp [setFaultN, hon, ha]

/-- In any other state of the port the level is kept alone (assumption 90). -/
theorem setFaultN_kept (ha : (portAt s e).st ≠ .agreed) (high : Bool) :
    setFaultN e high s = s.onPort e fun q => { q with faultN := high } := by
  simp [setFaultN, ha]

/-- What fails a port whose Ep_FAULT_N is low or chatters (R141, R145). -/
theorem epFaultAssert_fails (hu : unitsOn s = true) (hon : aonOn s = true) (ha : (portAt s e).st = .agreed)
    {high chatter : Bool} (h : high = false ∨ chatter = true) : Completes (.epFaultAssert e ⟨high, chatter⟩) s fun t =>
      PortLost e s .failed 0x1D t ∧ (portAt t e).faultN = false := by
  obtain ⟨g, hg, ho⟩ := portChatter_onPort e .fault chatter s
  have hlow : (high && !chatter) = false := by rcases h with rfl | rfl <;> simp
  have hst : (portAt (portChatter e .fault chatter s) e).st = .agreed := by
    rw [portAt, ho.2 .ports (by simp)]
    exact (congrArg Port.st (portAt_onPort_same (s := s) g)).trans ((hg _).trans ha)
  have haon : (portChatter e .fault chatter s).aon = s.aon := ho.2 .aon (by simp)
  refine completes_sched rfl hon ?_
  simp only [hlow]
  rw [setFaultN_low ((unitsOn_congr haon).trans hu) hst]
  refine ⟨(portFail_lost ..).of_onPort.of_chatter ho |>.goesOn.settles, ?_⟩
  rw [portAt_settle, portAt_advanceSlots, portViolation, portFail_field Port.faultN fun _ => rfl, portAt_onPort_same]
  rfl

/-- The level of Ep_FAULT_N at a port that is not agreed. -/
theorem epFaultAssert_kept (hon : aonOn s = true) (ha : (portAt s e).st ≠ .agreed) (high : Bool) :
    Completes (.epFaultAssert e ⟨high, false⟩) s fun t =>
      (portAt t e).st = (portAt s e).st ∧ (portAt t e).faultN = high ∧ ∀ p, p ≠ e → portAt t p = portAt s p := by
  have hchat : portChatter e .fault false s = s.onPort e fun q => q.noteChat .fault false := rfl
  refine completes_sched rfl hon ?_
  rw [hchat, setFaultN_kept (by rwa [portAt_onPort_same])]
  simp only [portAt_settle, portAt_advanceSlots, portAt_onPort_same]
  refine ⟨rfl, Bool.and_true high, fun p hp => ?_⟩
  rw [portAt_onPort_other _ hp, portAt_onPort_other _ hp]

/-- The state in which Ep_PRESENT of a port has been seen low, not chattering. -/
def presentLow (e : Fin 16) (s : State) : State :=
  (s.onPort e fun q => q.noteChat .present false).onPort e fun q => { q with present := false }

theorem portAt_presentLow (e : Fin 16) (s : State) :
    portAt (presentLow e s) e = { (portAt s e).noteChat .present false with present := false } := by
  rw [presentLow, portAt_onPort_same, portAt_onPort_same]

theorem presentFall_agreed (hu : unitsOn s = true) (ha : (portAt s e).st = .agreed) :
    presentFall e s = portFail e 0x1D .absent 0 (s.onPort e fun q => { q with present := false }) := by
  have hunits : unitsOn (s.onPort e fun q => { q with present := false }) = true := hu
  simp [presentFall, hunits, ha]

theorem presentFall_training (hu : unitsOn s = true) (ht : (portAt s e).st = .training) :
    presentFall e s = trainingLost e (s.onPort e fun q => { q with present := false }) := by
  have hunits : unitsOn (s.onPort e fun q => { q with present := false }) = true := hu
  simp [presentFall, hunits, ht]

/-- What happens once Ep_PRESENT is low goes by the port's state (R141, R145). -/
theorem epPresentFall_low {f : State → State} (hu : unitsOn s = true) (hon : aonOn s = true)
    (h : (portAt s e).st = .agreed ∧ f = portFail e 0x1D .absent 0 ∨ (portAt s e).st = .training ∧ f = trainingLost e)
    {post : State → Prop} (hpost : post (settle (advanceSlots (f (presentLow e s))))) :
    Completes (.epPresentFall e false) s post := by
  have hst := portChatter_stable_st e .present s
  have hlow : presentFall e (portChatter e .present false s) = f (presentLow e s) := by
    rcases h with ⟨h, rfl⟩ | ⟨h, rfl⟩
    · exact presentFall_agreed (s := portChatter e .present false s) hu (hst.trans h)
    · exact presentFall_training (s := portChatter e .present false s) hu (hst.trans h)
  exact completes_sched (f := fun s => presentFall e (portChatter e .present false s)) rfl hon (hlow ▸ hpost)

/-- The engine of a port that fails with the loss goes away. -/
theorem presentLow_fails (e : Fin 16) (s : State) :
    let t := settle (advanceSlots (portFail e 0x1D .absent 0 (presentLow e s)))
    PortLost e s .absent 0x1D t ∧ (portAt t e).present = false := by
  refine ⟨(portFail_lost ..).of_onPort.of_onPort.goesOn.settles, ?_⟩
  rw [portAt_settle, portAt_advanceSlots, portFail_field Port.present fun _ => rfl, portAt_presentLow]
  rfl

/-- A port in TRAINING that no phase holds is ABSENT without a code (R141). -/
theorem trainingLost_free (h : holders s e = []) : trainingLost e s = portDown e .absent s := by
  simp [trainingLost, h]

theorem trainingLost_held (h : holders s e ≠ []) : trainingLost e s = portFail e 0x1D .absent 0 s := by
  simp [trainingLost, h]

end

section
variable {e : Fin 16} {s : State}

/-- A port in TRAINING loses its engine (R141, assumption 104). -/
theorem training_loses_engine (hu : unitsOn s = true) (hon : aonOn s = true) (ht : (portAt s e).st = .training) :
    (holders s e = [] → Completes (.epPresentFall e false) s fun t => (portAt t e).st = .absent ∧
        (portAt t e).lastCode = (portAt s e).lastCode ∧ (portAt t e).present = false) ∧
      (holders s e ≠ [] → Completes (.epPresentFall e false) s fun t =>
        PortLost e s .absent 0x1D t ∧ (portAt t e).present = false) := by
  refine ⟨fun hfree => epPresentFall_low hu hon (.inr ⟨ht, rfl⟩) ?_,
    fun hheld => epPresentFall_low hu hon (.inr ⟨ht, rfl⟩) ?_⟩
  · rw [trainingLost_free (s := presentLow e s) hfree, portAt_settle, portAt_advanceSlots, portDown_eq,
      portAt_onPort_same, portAt_presentLow]
    exact ⟨rfl, rfl, rfl⟩
  · rw [trainingLost_held (s := presentLow e s) hheld]
    exact presentLow_fails e s

theorem drain_training_fails (hu : unitsOn s = true) (ht : (portAt s e).st = .training) (tag : BitVec 24) (data : Beam)
    (p b f : Bool) : Completes (.drain e tag data p b f) s (PortLost e s .failed 0x1A) := by
  refine completes_lost_sched rfl hu ?_
  rw [drainBeam_training ht]
  exact portFail_lost ..

theorem cap_agreed_fails (hu : unitsOn s = true) (ha : (portAt s e).st = .agreed) (r : BitVec 512) (p : Bool) :
    Completes (.cap e r p) s (PortLost e s .failed 0x1A) := by
  refine completes_lost_sched rfl hu ?_
  rw [ha]
  exact portFail_lost ..

/-- What its engine sends out of turn fails an agreed port (R136 to R138, R145). -/
theorem agreed_fails (hu : unitsOn s = true) (ha : (portAt s e).st = .agreed) :
    ((portAt s e).opDepth ≤ (portAt s e).opCred → Completes (.operandCredit e) s (PortLost e s .failed 0x1A)) ∧
      ((portAt s e).tiles = [] ∨ (portAt s e).drCred = 0 →
        ∀ tag data, Completes (.drain e tag data false false false) s (PortLost e s .failed 0x1A)) ∧
      ∀ p, Completes (.ack e 1 p) s (PortLost e s .failed 0x1A) := by
  refine ⟨fun hc => completes_lost rfl (by simp [hu, ha]) ?_, fun h tag data => completes_lost_sched rfl hu ?_,
    fun p => completes_lost_sched rfl hu ?_⟩
  · rw [gainCredit_over hc]
    exact portFail_lost ..
  · rw [drainBeam_outOfTurn ha h]
    exact portFail_lost ..
  · have hbad : (p || (1 : BitVec 512) != 0) = true := by simp
    simp only [ha, hbad, Bool.true_or, if_true]
    exact portFail_lost ..

/-- The timers of an agreed port (R145). -/
theorem agreed_times_out (ha : (portAt s e).st = .agreed) :
    (s.aon.st = .run → stallTimer s ≠ 0 → operandStalled s e = true →
        Completes (.operandStallTimeout e) s (PortLost e s .failed 0x1B)) ∧
      (s.aon.st = .run → drainTimer s ≠ 0 → drainStalled (portAt s e) = true →
        Completes (.drainStallTimeout e) s (PortLost e s .failed 0x1B)) ∧
      (s.aon.st = .run ∨ s.aon.st = .ready ∨ s.aon.st = .purge → (portAt s e).abortSent = true → stallTimer s ≠ 0 →
        Completes (.abortAckTimeout e) s (PortLost e s .failed 0x1B)) :=
  ⟨fun hr h0 hs => completes_lost_sched rfl (by simpa [hr, ha, hs] using h0) (portFail_lost ..),
    fun hr h0 hs => completes_lost_sched rfl (by simpa [hr, ha, hs] using h0) (portFail_lost ..),
    fun hr hs h0 => completes_lost_sched rfl (by rcases hr with hr | hr | hr <;> simpa [hr, hs] using h0)
      (portFail_lost ..)⟩

end

/-- Settles O34: each cause ends in the one failure of a port, whose phases abort. -/
theorem portsFail : Obligations.PortsFail := by
  unfold Obligations.PortsFail
  intro e s _ hu
  dsimp only
  refine ⟨fun ht h0 => completes_lost rfl (by simpa [hu, ht] using h0) (portFail_lost ..),
    fun h => completes_lost_sched rfl (by rcases h with h | h <;> simp [hu, h]) (portFail_lost ..),
    drain_training_fails hu, cap_agreed_fails hu, epFaultAssert_kept, training_loses_engine hu, fun ha => ?_⟩
  obtain ⟨hcredit, hdrain, hack⟩ := agreed_fails hu ha
  obtain ⟨hstall, hdry, habort⟩ := agreed_times_out ha
  exact ⟨hcredit, hdrain, hack, fun hon high chatter h => epFaultAssert_fails hu hon ha h,
    fun hon => epPresentFall_low hu hon (.inl ⟨ha, rfl⟩) (presentLow_fails e s), hstall, hdry, habort⟩

end Sys2Proof.Machine
end

section
namespace Sys2Proof.Machine

/-! ### Training (R141, R142) -/

section
variable {e : Fin 16} {s : State}

/-- The reset of a port ends: it trains where an engine is present (R141). -/
theorem portResetEnd_releases (hu : unitsOn s = true) (hh : (portAt s e).holdRst = true) :
    Completes (.portResetEnd e) s fun t =>
      (portAt t e).st = (if (portAt s e).present then .training else .absent) ∧ (portAt t e).holdRst = false ∧
        ∀ p, p ≠ e → portAt t p = portAt s p := by
  refine completes_onlyIf rfl (by rw [hu, hh]; rfl) ?_
  simp only [portAt_settle, portRelease, portTrain, portDown_eq]
  split
  · refine ⟨?_, ?_, fun p hp => ?_⟩
    · simp [Port.down]
    · simp [Port.down]
    · rw [portAt_onPort_other _ hp, portAt_onPort_other _ hp]
  · exact ⟨by simp [Port.down], by simp [Port.down], fun p hp => portAt_onPort_other _ hp⟩

theorem presentRise_absent (hu : unitsOn s = true) (ha : (portAt s e).st = .absent) :
    presentRise e s = portTrain e (s.onPort e fun q => { q with present := true }) := by
  have hunits : unitsOn (s.onPort e fun q => { q with present := true }) = true := hu
  simp [presentRise, hunits, ha]

/-- An engine comes to an ABSENT port (R141). -/
theorem epPresentRise_trains (hu : unitsOn s = true) (hon : aonOn s = true) (ha : (portAt s e).st = .absent) :
    Completes (.epPresentRise e false) s fun t =>
      (portAt t e).st = .training ∧ (portAt t e).present = true ∧ (portAt t e).drCred = 32 ∧
        ∀ p, p ≠ e → portAt t p = portAt s p := by
  refine completes_onlyIf (f := fun s => presentRise e (portChatter e .present false s)) rfl hon ?_
  have hst : (portAt (portChatter e .present false s) e).st = .absent := (portChatter_stable_st e .present s).trans ha
  have hchat : portChatter e .present false s = s.onPort e fun q => q.noteChat .present false := rfl
  rw [presentRise_absent (s := portChatter e .present false s) hu hst, hchat]
  simp only [portAt_settle, portTrain, portDown_eq]
  refine ⟨?_, ?_, ?_, fun p hp => ?_⟩
  · simp [Port.down]
  · simp [Port.down]
  · simp [Port.down]
  · rw [portAt_onPort_other _ hp, portAt_onPort_other _ hp, portAt_onPort_other _ hp, portAt_onPort_other _ hp]

end

/-! ### Agreement (R142, R143, R148) -/

section
variable {e : Fin 16} {s : State} (hu : unitsOn s = true) (ht : (portAt s e).st = .training)
include hu ht

/-- The first capability record is checked (R142, R143). -/
theorem cap_first (hc : (portAt s e).capSeen = false) (r : BitVec 512) {post : State → Prop}
    (hpost : post (settle (advanceSlots (takeCap e r s)))) : Completes (.cap e r false) s post := by
  refine completes_sched rfl hu ?_
  simpa [ht, hc] using hpost

theorem cap_passes {r : BitVec 512} (hc : (portAt s e).capSeen = false) (hr : capOk r = true) :
    Completes (.cap e r false) s fun t =>
      (portAt t e).st = .training ∧ (portAt t e).cap = r ∧ (portAt t e).capSeen = true ∧
        let a : BitVec 4352 := (agreeRecord s e r).setWidth 4352
        (portAt t e).out = some { kind := 1, a := a, apar := beamParity a } := by
  refine cap_first hu ht hc r ?_
  rw [takeCap, if_pos hr, portAt_settle, portAt_advanceSlots, portAt_onPort_same, portAt_onPort_same]
  exact ⟨ht, rfl, rfl, rfl⟩

theorem cap_fails {r : BitVec 512} (hc : (portAt s e).capSeen = false) (hr : capOk r = false) :
    Completes (.cap e r false) s fun t =>
      (portAt t e).st = .failed ∧ (portAt t e).lastCode = 0x19 ∧ (portAt t e).cap = r := by
  refine cap_first hu ht hc r ?_
  rw [takeCap, if_neg (by simp [hr]), portAt_settle, portAt_advanceSlots]
  refine ⟨portFail_field Port.st fun _ => rfl, portFail_field Port.lastCode fun _ => rfl, ?_⟩
  rw [portFail_field Port.cap fun _ => rfl, portAt_onPort_same]
  rfl

/-- A second record fails the port (R143). -/
theorem cap_twice (hc : (portAt s e).capSeen = true) (r : BitVec 512) : Completes (.cap e r false) s fun t =>
    (portAt t e).st = .failed ∧ (portAt t e).lastCode = 0x1A := by
  refine completes_sched rfl hu ?_
  simp only [ht, hc, portAt_settle, portAt_advanceSlots]
  exact ⟨portFail_field Port.st fun _ => rfl, portFail_field Port.lastCode fun _ => rfl⟩

/-- The ACK to the AGREE record (R143). -/
theorem ack_training (hc : (portAt s e).capSeen = true) {post : State → Prop}
    (hpost : post (settle (advanceSlots (agreePort e s)))) : Completes (.ack e 0 false) s post := by
  refine completes_sched rfl hu ?_
  simpa [ht, hc] using hpost

/-- The port with Ep_FAULT_N low fails at once (R148, assumption 90). -/
theorem ack_faulty (hc : (portAt s e).capSeen = true) (hf : (portAt s e).faultN = false) :
    Completes (.ack e 0 false) s fun t => (portAt t e).st = .failed ∧ (portAt t e).lastCode = 0x1D := by
  refine ack_training hu ht hc ?_
  have hlow : (portAt (agreeState e s) e).faultN = false := by
    rw [agreeState, portAt_onPort_same]
    exact hf
  rw [agreePort, hlow, portAt_settle, portAt_advanceSlots]
  exact ⟨portFail_field Port.st fun _ => rfl, portFail_field Port.lastCode fun _ => rfl⟩

theorem ack_agrees (hc : (portAt s e).capSeen = true) (hf : (portAt s e).faultN = true) :
    Completes (.ack e 0 false) s fun t =>
      (portAt t e).st = .agreed ∧ (portAt t e).ver = BitVec.ofNat 4 (capVer (portAt s e).cap) ∧
        (portAt t e).opCred = (portAt s e).opDepth ∧ (portAt t e).drCred = 32 ∧ (portAt t e).tiles = [] := by
  refine ack_training hu ht hc ?_
  have hhigh : (portAt (agreeState e s) e).faultN = true := by
    rw [agreeState, portAt_onPort_same]
    exact hf
  rw [agreePort, hhigh, portAt_settle, portAt_advanceSlots, if_pos rfl, agreeState, portAt_onPort_same]
  exact ⟨rfl, rfl, rfl, rfl, rfl⟩

end

/-! ### The ABORT record (R147) -/

section
variable {e : Fin 16} {s : State}

theorem abortRecordSend_sends (hs : Settled s) (hu : unitsOn s = true) (ha : (portAt s e).st = .agreed)
    (ht : (portAt s e).abortTickets ≠ []) (hn : (portAt s e).abortSent = false) (hc : (portAt s e).opCred ≠ 0)
    (hr : abortReady s e = true) : exec (.abortRecordSend e) s = .next (s.onPort e fun q =>
      { q with abortSent := true, opCred := q.opCred - 1, out := some { kind := 2 } }) := by
  have hcond : (unitsOn s && (portAt s e).st == .agreed && !(portAt s e).abortTickets.isEmpty &&
      !(portAt s e).abortSent && (portAt s e).opCred != 0 && abortReady s e) = true := by
    simp [hu, ha, ht, hn, hc, hr]
  show done (onlyIf _ (sendAbort e) s) = _
  rw [hcond, onlyIf_pos _ _ rfl, done]
  exact congrArg Host.Outcome.next (settle_onPort hs fun _ => rfl)

theorem ack_aborted (hu : unitsOn s = true) (ha : (portAt s e).st = .agreed) (hn : (portAt s e).abortSent = true)
    (hd : (portAt s e).drCred ≠ 0) : Completes (.ack e 0 false) s fun t =>
      (portAt t e).st = .agreed ∧ (portAt t e).abortSent = false ∧ (portAt t e).abortTickets = [] ∧
        (portAt t e).tiles = ((portAt s e).tiles.filter fun i => !(portAt s e).abortTickets.contains i.ticket).map
          (fun i => { i with freed := true }) ∧
        (portAt t e).tileSeq = 0 ∧ (portAt t e).accPoison = 0 ∧ (portAt t e).opCred = (portAt s e).opCred := by
  refine completes_sched rfl hu ?_
  have hgood : (false || (0 : BitVec 512) != 0 || !(portAt s e).abortSent || (portAt s e).drCred = 0) = false := by
    simp [hn, hd]
  simp only [ha, hgood, Bool.false_eq_true, if_false]
  rw [portAt_settle, portAt_advanceSlots, abortAcked, portAt_onPort_same]
  exact ⟨ha, rfl, rfl, rfl, rfl, rfl, rfl⟩

end

/-- Settles O33: a port's reset, its records and their ACKs, each by its own lemma. -/
theorem portsAgreeAndAbort : Obligations.PortsAgreeAndAbort := by
  unfold Obligations.PortsAgreeAndAbort
  intro e s hs hu
  dsimp only
  exact ⟨portResetEnd_releases hu, epPresentRise_trains hu,
    fun ht r => ⟨cap_passes hu ht, cap_fails hu ht, fun hc => cap_twice hu ht hc r⟩, ack_faulty hu, ack_agrees hu,
    fun ha => ⟨abortRecordSend_sends hs hu ha, ack_aborted hu ha⟩⟩

end Sys2Proof.Machine
end

section
namespace Sys2Proof.Machine

/-! ### The gate of PORT_CMD (R141, R148, R149) -/

section
variable {src : Src} {e : Fin 16} {s : State} {act : State → State} {c : Instr}

/-- While BUSY a port command is dropped with LOST. -/
theorem portCmd_busy (hw : Writes src .host s) (hb : s.ports.busy = true) (act : State → State) :
    portCmd src act s = (answer src .ok 0 s).onPorts fun t => { t with lost := true } := by
  rw [portCmd, hb, writeDropping_of_writes (writeVerdict_of_writes hw _)]
  simp [portGate, unlessBusy, hb]

/-- Else it runs, and BUSY is set. -/
theorem portCmd_idle (hw : Writes src .host s) (hb : s.ports.busy = false) (act : State → State) :
    portCmd src act s = (act (accept src 0x40010 s)).onPorts fun t => { t with busy := true } := by
  rw [portCmd, hb, writeDropping_false, writeReg_of_writes hw]
  simp [portGate, unlessBusy, hb]

/-- The commands behind that gate that leave the slots' progress alone. -/
theorem exec_portCmd (hc : c ∈ [Instr.portCmdNop src e, .portRetrain src e, .portOnline src e]) :
    ∃ act, ∀ s, exec c s = done (portCmd src act s) := by
  simp only [List.mem_cons, List.not_mem_nil, or_false] at hc
  rcases hc with rfl | rfl | rfl <;> exact ⟨_, fun _ => rfl⟩

theorem exec_portCmd_busy (hs : Settled s) (hw : Writes src .host s) (hb : s.ports.busy = true)
    (hc : c ∈ [Instr.portCmdNop src e, .portRetrain src e, .portOnline src e]) :
    exec c s = .next ((answer src .ok 0 s).onPorts fun t => { t with lost := true }) := by
  obtain ⟨act, hact⟩ := exec_portCmd hc
  rw [hact, portCmd_busy hw hb, done, settle_settled (settled_onPorts (settled_answer hs src .ok 0) fun _ => rfl)]

theorem portOffline_busy (hw : Writes src .host s) (hb : s.ports.busy = true) :
    Completes (.portOffline src e) s fun t => t.ports = { s.ports with lost := true } := by
  refine ⟨_, rfl, ?_⟩
  dsimp only
  rw [settle_ports, (advanceSlots_goesOn 0 _).ports, portCmd_busy hw hb, State.onPorts_ports, answer_ports]

/-! ### What the port commands end in -/

@[simp] theorem portAt_portCode (code : BitVec 8) (p : Fin 16) : portAt (portCode code s) p = portAt s p := rfl

theorem portAt_busy (p : Fin 16) : portAt (s.onPorts fun t => { t with busy := true }) p = portAt s p := rfl

/-- A port command that changes nothing ends in CODE 0. -/
theorem exec_portCmd_nothing (hs : Settled s) (hw : Writes src .host s) (hb : s.ports.busy = false)
    (hc : exec c s = done (portCmd src act s)) (h : act (accept src 0x40010 s) = portCode 0 (accept src 0x40010 s)) :
    exec c s = .next ((accept src 0x40010 s).onPorts fun t => { t with code := 0, busy := true }) := by
  rw [hc, portCmd_idle hw hb, h]
  exact congrArg Host.Outcome.next (settle_settled (settled_onPorts (settled_accept hs src 0x40010) fun _ => rfl))

/-- The ports as a port command leaves them. -/
theorem portCmd_completes (hw : Writes src .host s) (hb : s.ports.busy = false)
    (hc : exec c s = done (portCmd src act s)) {u : State} (h : act (accept src 0x40010 s) = u) :
    Completes c s fun t => t.ports.code = u.ports.code ∧ ∀ p, portAt t p = portAt u p := by
  refine ⟨_, hc, ?_, fun p => ?_⟩
  · rw [settle_ports, portCmd_idle hw hb, h, State.onPorts_ports]
  · rw [portAt_settle, portCmd_idle hw hb, h, portAt_busy]

/-- A refused port command reports code 0x1E and changes the state of no port. -/
theorem portCmd_refused (hw : Writes src .host s) (hb : s.ports.busy = false) (hc : exec c s = done (portCmd src act s))
    {f : Fin 16} (h : act (accept src 0x40010 s) = portRefuse f (accept src 0x40010 s)) :
    Completes c s fun t => t.ports.code = 0x1E ∧ ∀ p, (portAt t p).st = (portAt s p).st := by
  obtain ⟨t, hexec, hcode, hport⟩ := portCmd_completes hw hb hc h
  refine ⟨t, hexec, hcode, fun p => ?_⟩
  rw [hport, portRefuse, portAt_report]
  by_cases hp : p = f
  · subst hp
    rw [portAt_onPort_same, portAt_portCode, portAt_accept]
  · rw [portAt_onPort_other _ hp, portAt_portCode, portAt_accept]

/-- A port command that begins a port's 64 BCLK in reset. -/
theorem portCmd_holds (hw : Writes src .host s) (hb : s.ports.busy = false) (hc : exec c s = done (portCmd src act s))
    (h : act (accept src 0x40010 s) = startHold e (portCode 0 (accept src 0x40010 s))) : Completes c s fun t =>
      (portAt t e).st = .reset ∧ (portAt t e).holdRst = true ∧ (portAt t e).buf = [] ∧ t.ports.code = 0 ∧
        ∀ p, p ≠ e → portAt t p = portAt s p := by
  obtain ⟨t, hexec, hcode, hport⟩ := portCmd_completes hw hb hc h
  refine ⟨t, hexec, ?_⟩
  dsimp only
  rw [hport e, startHold, portDown_eq, portAt_onPort_same, portAt_onPort_same]
  refine ⟨rfl, rfl, rfl, hcode, fun p hp => ?_⟩
  rw [hport p, startHold, portDown_eq, portAt_onPort_other _ hp, portAt_onPort_other _ hp, portAt_portCode,
    portAt_accept]

/-! ### RETRAIN and ONLINE by the port's state (R141, R148) -/

theorem portRetrainOp_held (h : holders s e ≠ []) : portRetrainOp e s = portRefuse e s := by
  simp [portRetrainOp, h]

theorem portRetrainOp_holds (h : holders s e = [])
    (hst : (portAt s e).st = .failed ∨ (portAt s e).st = .agreed ∨ (portAt s e).st = .training) :
    portRetrainOp e s = startHold e (portCode 0 s) := by
  rcases hst with hst | hst | hst <;> simp [portRetrainOp, h, hst]

theorem portRetrainOp_nothing (h : holders s e = [])
    (hst : (portAt s e).st = .absent ∨ (portAt s e).st = .reset ∨ (portAt s e).st = .offline) :
    portRetrainOp e s = portCode 0 s := by
  rcases hst with hst | hst | hst <;> simp [portRetrainOp, h, hst]

theorem portOnlineOp_held (h : holders s e ≠ []) : portOnlineOp e s = portRefuse e s := by
  simp [portOnlineOp, h]

theorem portOnlineOp_holds (h : holders s e = []) (hst : (portAt s e).st = .offline) :
    portOnlineOp e s = startHold e (portCode 0 s) := by
  simp [portOnlineOp, h, hst]

theorem portOnlineOp_nothing (h : holders s e = []) (hst : (portAt s e).st ≠ .offline) :
    portOnlineOp e s = portCode 0 s := by
  simp [portOnlineOp, h, hst]

/-! ### OFFLINE (R149) -/

/-- Each phase that OFFLINE takes with the port aborts. -/
theorem offlinePhase_aborts : AbortsSlots offlinePhase := by
  intro n s
  unfold offlinePhase
  dsimp only
  split
  · next h => exact ⟨Aborts.refl s, fun _ => by simpa using h⟩
  · obtain ⟨hab, hst⟩ := abortPhase_aborts 0x37 .command n (report
      { code := 0x37, unit := BitVec.ofNat 12 n.val, pid := some (Rec.phaseId s.sched.slot[n].rcd),
        loc := ticketLoc s.sched.slot[n].ticket 0 } s)
    exact ⟨(aborts_of_onlyIn ((report_onlyIn ..).mono (by simp))).trans hab, hst⟩

theorem portOfflineOp_aborts (e : Fin 16) (s : State) :
    Aborts (portDown e .offline (portCode 0 s)) (portOfflineOp e s) :=
  aborts_foldOver offlinePhase_aborts _ _

theorem portOffline_takes (hw : Writes src .host s) (hb : s.ports.busy = false) :
    Completes (.portOffline src e) s fun t => (portAt t e).st = .offline ∧ (portAt t e).buf = [] ∧ t.ports.code = 0 ∧
      (∀ n ∈ holders s e, t.sched.slot[n].st = .abort) ∧ ∀ p, p ≠ e → (portAt t p).st = (portAt s p).st := by
  have hrun : portCmd src (portOfflineOp e) s =
      (portOfflineOp e (accept src 0x40010 s)).onPorts fun t => { t with busy := true } := portCmd_idle hw hb _
  have hport (p : Fin 16) : portAt (settle (advanceSlots (portCmd src (portOfflineOp e) s))) p =
      portAt (portOfflineOp e (accept src 0x40010 s)) p := by
    rw [portAt_settle, portAt_advanceSlots, hrun, portAt_busy]
  have hab := portOfflineOp_aborts e (accept src 0x40010 s)
  refine ⟨_, rfl, ?_⟩
  dsimp only
  rw [hport e, hab.field Port.st fun _ => rfl, hab.field Port.buf fun _ => rfl, portDown_eq, portAt_onPort_same]
  refine ⟨rfl, rfl, ?_, fun n hn => ?_, fun p hp => ?_⟩
  · rw [settle_ports, (advanceSlots_goesOn 0 _).ports, hrun, State.onPorts_ports]
    exact hab.code
  · rw [settle_sched]
    refine advanceSlots_stays ?_
    rw [hrun]
    rw [← holders_congr (accept_sched src 0x40010 s)] at hn
    exact foldOver_abort offlinePhase_aborts hn (mem_holders_used hn)
  · rw [hport p, hab.field Port.st fun _ => rfl, portDown_eq, portAt_onPort_other _ hp, portAt_portCode, portAt_accept]

end

/-! ### The port commands while the unit is not BUSY -/

section
variable {src : Src} {e : Fin 16} {s : State}

/-- RETRAIN and ONLINE of a port that no phase holds. -/
theorem free_port_commands (hs : Settled s) (hw : Writes src .host s) (hb : s.ports.busy = false)
    (h0 : holders s e = []) :
    ((portAt s e).st = .failed ∨ (portAt s e).st = .agreed ∨ (portAt s e).st = .training →
      Completes (.portRetrain src e) s fun t =>
        (portAt t e).st = .reset ∧ (portAt t e).holdRst = true ∧ (portAt t e).buf = [] ∧ t.ports.code = 0 ∧
          ∀ p, p ≠ e → portAt t p = portAt s p) ∧
      ((portAt s e).st = .absent ∨ (portAt s e).st = .reset ∨ (portAt s e).st = .offline →
        exec (.portRetrain src e) s =
          .next ((accept src 0x40010 s).onPorts fun t => { t with code := 0, busy := true })) ∧
      ((portAt s e).st ≠ .offline → exec (.portOnline src e) s =
        .next ((accept src 0x40010 s).onPorts fun t => { t with code := 0, busy := true })) ∧
      ((portAt s e).st = .offline → Completes (.portOnline src e) s fun t =>
        (portAt t e).st = .reset ∧ (portAt t e).holdRst = true ∧ t.ports.code = 0 ∧
          ∀ p, p ≠ e → portAt t p = portAt s p) := by
  have hfree : holders (accept src 0x40010 s) e = [] := (holders_congr (accept_sched src 0x40010 s) e).trans h0
  have hport : portAt (accept src 0x40010 s) e = portAt s e := portAt_accept src 0x40010
  rw [← hport]
  refine ⟨fun hst => portCmd_holds hw hb rfl (portRetrainOp_holds hfree hst),
    fun hst => exec_portCmd_nothing hs hw hb rfl (portRetrainOp_nothing hfree hst),
    fun hst => exec_portCmd_nothing hs hw hb rfl (portOnlineOp_nothing hfree hst), fun hst => ?_⟩
  obtain ⟨t, hexec, hreset, hhold, -, hcode, hother⟩ :=
    portCmd_holds (c := .portOnline src e) hw hb rfl (portOnlineOp_holds hfree hst)
  exact ⟨t, hexec, hreset, hhold, hcode, hother⟩

/-- RETRAIN and ONLINE of a port that a phase holds. -/
theorem held_port_commands (hw : Writes src .host s) (hb : s.ports.busy = false) (h : holders s e ≠ []) :
    (Completes (.portRetrain src e) s fun t => t.ports.code = 0x1E ∧ (portAt t e).st = (portAt s e).st) ∧
      Completes (.portOnline src e) s fun t => t.ports.code = 0x1E ∧ (portAt t e).st = (portAt s e).st := by
  have hheld : holders (accept src 0x40010 s) e ≠ [] := fun h0 =>
    h ((holders_congr (accept_sched src 0x40010 s) e).symm.trans h0)
  obtain ⟨t, ht, htcode, htst⟩ := portCmd_refused (c := .portRetrain src e) hw hb rfl (portRetrainOp_held hheld)
  obtain ⟨u, hu, hucode, hust⟩ := portCmd_refused (c := .portOnline src e) hw hb rfl (portOnlineOp_held hheld)
  exact ⟨⟨t, ht, htcode, htst e⟩, ⟨u, hu, hucode, hust e⟩⟩

/-- A word of PORT_CMD with a reserved bit or operation is refused. -/
theorem reserved_port_word_refused (hw : Writes src .host s) (hb : s.ports.busy = false)
    {raw : BitVec 64} (hr : portReservedWord raw = true) : Completes (.portCmdReserved src raw) s fun t =>
      t.ports.code = 0x1E ∧ ∀ p, (portAt t p).st = (portAt s p).st :=
  portCmd_refused hw hb (congrArg done (onlyIf_pos (portCmd src (portWord raw)) s hr)) (if_pos hr)

end

/-- Settles O35: behind the gate of PORT_CMD each command goes by the port's holders and its state. -/
theorem portCommandsTakeEffect : Obligations.PortCommandsTakeEffect := by
  unfold Obligations.PortCommandsTakeEffect
  intro src e s hs hw
  dsimp only
  exact ⟨fun hb => ⟨fun c hc => exec_portCmd_busy hs hw hb hc, portOffline_busy hw hb⟩,
    fun hb => ⟨exec_portCmd_nothing hs hw hb rfl rfl, fun h0 => free_port_commands hs hw hb h0,
      fun h => held_port_commands hw hb h, portOffline_takes hw hb, fun raw hr => reserved_port_word_refused hw hb hr⟩⟩

end Sys2Proof.Machine
end

section
namespace Sys2Proof.Machine

/-! ### The random draws of an update (R53, R54, R163) -/

section
variable (x : BitVec 32) (n : Nat) (u : Update) (stored : Beam)

/-- One shift of the register as R53 writes it. -/
theorem lfsrShift_eq : lfsrShift x = (x <<< 1) ||| ((x >>> 31 ^^^ x >>> 21 ^^^ x >>> 1 ^^^ x) &&& 1) := by
  have hone (b : Bool) : flagBits 32 b = (BitVec.ofBool b).setWidth 32 := by cases b <;> rfl
  have hfb : (x >>> 31 ^^^ x >>> 21 ^^^ x >>> 1 ^^^ x) &&& 1 =
      flagBits 32 (bitAt x 31 ^^ bitAt x 21 ^^ bitAt x 1 ^^ bitAt x 0) := by
    rw [hone]
    refine (BitVec.and_one_eq_setWidth_ofBool_getLsbD).trans ?_
    simp only [BitVec.getLsbD_xor, BitVec.getLsbD_ushiftRight, Nat.add_zero]
  rw [hfb, lfsrShift]

theorem lfsrShifts_eq_iterate : lfsrShifts n x = lfsrShift^[n] x := by
  induction n generalizing x with
  | zero => rfl
  | succ n ih => rw [lfsrShifts, ih, Function.iterate_succ_apply]

theorem lfsrDraws_snd : (lfsrDraws n x).2 = lfsrShift^[16 * n] x := by
  induction n generalizing x with
  | zero => rfl
  | succ n ih =>
    have hrest : (lfsrDraws (n + 1) x).2 = (lfsrDraws n (lfsrDraw x)).2 := rfl
    rw [hrest, ih, lfsrDraw, lfsrShifts_eq_iterate, ← Function.iterate_add_apply, Nat.mul_succ]

theorem s16Update_lfsr : (s16Update u stored x).lfsr = if u.sr then (lfsrDraws 256 x).2 else x := by
  have hdraws : (s16Update u stored x).lfsr = (if u.sr then lfsrDraws 256 x else ([], x)).2 := by
    unfold s16Update
    dsimp only
    split <;> rfl
  rw [hdraws]
  split <;> rfl

/-- The format of the destination decides whether the update may draw. -/
theorem combine_lfsr : (combine u stored x).lfsr = if u.dfmt = 3 then (s16Update u stored x).lfsr else x := by
  have hbase : (combine u stored x).lfsr = (combineBase u stored x).lfsr := rfl
  rw [hbase, combineBase]
  by_cases h : u.dfmt = 3
  · simp only [h, beq_self_eq_true, if_true]
  · rw [if_neg (by simpa using h), if_neg h]
    repeat' split
    all_goals rfl

end

/-- Settles O37: the draws depend on the mode and the destination's format alone, and each is 16 shifts. -/
theorem stochasticUpdatesDraw256Values : Obligations.StochasticUpdatesDraw256Values := by
  unfold Obligations.StochasticUpdatesDraw256Values
  intro shift u stored x
  have hshift : lfsrShift = shift := funext lfsrShift_eq
  rw [combine_lfsr, s16Update_lfsr, lfsrDraws_snd, hshift]
  refine ⟨fun hfmt hsr => ?_, fun h => ?_⟩
  · rw [if_pos hfmt, if_pos hsr]
  · rcases h with hsr | hfmt
    · rw [hsr, if_neg Bool.false_ne_true, ite_self]
    · rw [if_neg hfmt]

end Sys2Proof.Machine
end

section
namespace Sys2Proof.Machine

/-! ### A write that changes the sinter units alone -/

section
variable {s : State} {f : Sinter → Sinter}

/-- A change of the sinter units that leaves the updates where they are leaves nothing to settle. -/
theorem settled_onSinter (hs : Settled s) (h : drainsDone (s.onSinter f) = drainsDone s) : Settled (s.onSinter f) := by
  obtain ⟨hquiet, hfits, hwakes⟩ := hs
  refine ⟨hquiet, ?_, hwakes⟩
  rw [StateFits, h]
  exact hfits

variable {src : Src} {off : Nat} {act : State → State} {c : Instr}

/-- A write whose effect is one on the sinter units ends in that effect. -/
theorem exec_sinterWrite (hs : Settled s) (hw : Writes src .host s) (hc : exec c s = done (writeReg src off .host act s))
    (h : act (accept src off s) = (accept src off s).onSinter f)
    (hd : ∀ t, drainsDone (t.onSinter f) = drainsDone t) :
    exec c s = .next ((accept src off s).onSinter f) := by
  rw [hc, writeReg_of_writes hw, h]
  exact congrArg Host.Outcome.next (settle_settled (settled_onSinter (settled_accept hs src off) (hd _)))

theorem sinterWrite_onlyIn : OnlyIn [.sinter, .aon, .log] s ((accept src off s).onSinter f) :=
  ((accept_onlyIn src off s).mono (by simp)).trans ((onSinter_onlyIn _ f).mono (by simp))

/-- The sinter units as a write leaves them, whatever it reports. -/
theorem sinterWrite_sinter (hw : Writes src .host s) (hc : exec c s = done (writeReg src off .host act s))
    (h : (act (accept src off s)).sinter = f s.sinter) : Completes c s fun t => t.sinter = f s.sinter := by
  refine ⟨_, hc, ?_⟩
  dsimp only
  rw [settle_sinter, writeReg_of_writes hw, h]

end

/-! ### The tally commands (R172) -/

section
variable {s : State} {i : Fin 4}

theorem tallyCmd_waits (h : bitAt s.sinter.folding i.val = true) (fold : Bool) :
    tallyCmd fold i s = s.onSinter fun k => { k with tallyQ := k.tallyQ ++ [(fold, i)] } := if_pos h

theorem tallyCmd_folds (h : bitAt s.sinter.folding i.val = false) : tallyCmd true i s = s.onSinter fun k =>
    { k with tallyCode := 0, folding := k.folding ||| ((1 : BitVec 4) <<< i.val) } := by
  rw [tallyCmd, h]
  rfl

/-- What a CLEAR of tally i makes of the sinter units. -/
def Sinter.cleared (i : Fin 4) (k : Sinter) : Sinter :=
  { k with tallyCode := 0, tally := k.tally.set 0 i.val 0, partials := k.partials.eraseRange (512 * i.val) 512
           partPoison := k.partPoison.eraseRange (512 * i.val) 512, nonfinite := putBit4 k.nonfinite i false
           tallyPoison := putBit4 k.tallyPoison i false }

theorem tallyCmd_clears (h : bitAt s.sinter.folding i.val = false) (hu : tallyUsers s i = 0) :
    tallyCmd false i s = s.onSinter (Sinter.cleared i) := by
  rw [tallyCmd, h, clearTally, hu]
  rfl

theorem tallyCmd_refuses (h : bitAt s.sinter.folding i.val = false) (hu : tallyUsers s i ≠ 0) :
    tallyCmd false i s = tallyRefuse i.val s := by
  rw [tallyCmd, h, clearTally, if_neg Bool.false_ne_true, if_neg Bool.false_ne_true, if_pos (by simpa using hu)]

theorem tallyRefuse_sinter (n : Nat) : (tallyRefuse n s).sinter = { s.sinter with tallyCode := 0x27 } := rfl

theorem tallyUsers_accept (src : Src) (off : Nat) : tallyUsers (accept src off s) i = tallyUsers s i := by
  rw [tallyUsers, accept_sched, tallyUsers]

theorem putBit4_false_same (x : BitVec 4) (i : Fin 4) : bitAt (putBit4 x i false) i.val = false := by
  simp [putBit4]

theorem Sinter.cleared_tally (i : Fin 4) (k : Sinter) : (k.cleared i).tally = k.tally.set 0 i.val 0 := rfl

theorem Sinter.cleared_partials (i : Fin 4) (k : Sinter) :
    (k.cleared i).partials = k.partials.eraseRange (512 * i.val) 512 := rfl

/-- The tally and its partials are +0 and its flag clear; the other tallies stay. -/
theorem cleared_tallies (i : Fin 4) (k : Sinter) :
    (k.cleared i).tally.get 0 i.val = 0 ∧ bitAt (k.cleared i).nonfinite i.val = false ∧
      (∀ b, b < 512 → (k.cleared i).partials.get 0 (512 * i.val + b) = 0) ∧
      ∀ j : Fin 4, j ≠ i → (k.cleared i).tally.get 0 j.val = k.tally.get 0 j.val ∧
        ∀ b, b < 512 → (k.cleared i).partials.get 0 (512 * j.val + b) = k.partials.get 0 (512 * j.val + b) := by
  rw [Sinter.cleared_tally, Sinter.cleared_partials]
  refine ⟨SMap.get_set_same .., putBit4_false_same .., fun b hb => SMap.get_eraseRange_in _ _ (by omega), fun j hj => ?_⟩
  have hne : j.val ≠ i.val := fun h => hj (Fin.ext h)
  exact ⟨SMap.get_set_other _ _ _ hne, fun b hb => SMap.get_eraseRange_other _ _ (by omega)⟩

end

section
variable {src : Src} {i : Fin 4} {s : State}

/-- The commands of a tally that no fold holds. -/
theorem idle_tally_commands (hs : Settled s) (hw : Writes src .host s) (h : bitAt s.sinter.folding i.val = false) :
    (tallyUsers s i = 0 → Completes (.tallyClear src i) s fun t =>
      t.sinter.tallyCode = 0 ∧ t.sinter.tally.get 0 i.val = 0 ∧ bitAt t.sinter.nonfinite i.val = false ∧
      (∀ b, b < 512 → t.sinter.partials.get 0 (512 * i.val + b) = 0) ∧
      (∀ j : Fin 4, j ≠ i → t.sinter.tally.get 0 j.val = s.sinter.tally.get 0 j.val ∧
        ∀ b, b < 512 → t.sinter.partials.get 0 (512 * j.val + b) = s.sinter.partials.get 0 (512 * j.val + b)) ∧
      OnlyIn [.sinter, .aon, .log] s t) ∧
    (tallyUsers s i ≠ 0 → Completes (.tallyClear src i) s fun t =>
      t.sinter = { s.sinter with tallyCode := 0x27 }) ∧
    Completes (.tallyFold src i) s fun t =>
      t.sinter = { s.sinter with tallyCode := 0, folding := s.sinter.folding ||| ((1 : BitVec 4) <<< i.val) } ∧
        OnlyIn [.sinter, .aon, .log] s t := by
  have hi : bitAt (accept src 0x50018 s).sinter.folding i.val = false := by rw [accept_sinter, h]
  have husers : tallyUsers (accept src 0x50018 s) i = tallyUsers s i := tallyUsers_accept src _
  refine ⟨fun hu => ?_, fun hu => ?_, ?_⟩
  · refine ⟨_, exec_sinterWrite hs hw rfl (tallyCmd_clears hi (husers.trans hu)) fun _ => rfl, ?_⟩
    obtain ⟨htally, hflag, hpartials, hothers⟩ := cleared_tallies i s.sinter
    rw [State.onSinter_sinter, accept_sinter]
    exact ⟨rfl, htally, hflag, hpartials, hothers, sinterWrite_onlyIn⟩
  · refine sinterWrite_sinter (f := fun k => { k with tallyCode := 0x27 }) hw rfl ?_
    rw [tallyCmd_refuses hi (husers ▸ hu), tallyRefuse_sinter, accept_sinter]
  · refine ⟨_, exec_sinterWrite hs hw rfl (tallyCmd_folds hi) fun _ => rfl, ?_, sinterWrite_onlyIn⟩
    rw [State.onSinter_sinter, accept_sinter]

/-- A CLEAR or FOLD of a tally whose fold runs waits for its end. -/
theorem tally_command_waits (hw : Writes src .host s) (h : bitAt s.sinter.folding i.val = true) {fold : Bool} {c : Instr}
    (hc : exec c s = done (writeReg src 0x50018 .host (tallyCmd fold i) s)) :
    Completes c s fun t => t.sinter = { s.sinter with tallyQ := s.sinter.tallyQ ++ [(fold, i)] } := by
  refine sinterWrite_sinter (f := fun k => { k with tallyQ := k.tallyQ ++ [(fold, i)] }) hw hc ?_
  rw [tallyCmd_waits (by rw [accept_sinter, h]), State.onSinter_sinter, accept_sinter]

/-- A reserved word is refused. -/
theorem reserved_tally_word_refused (hw : Writes src .host s) {raw : BitVec 64} (hr : tallyReservedWord raw = true) :
    Completes (.tallyCmdReserved src raw) s fun t => t.sinter = { s.sinter with tallyCode := 0x27 } := by
  refine sinterWrite_sinter (f := fun k => { k with tallyCode := 0x27 }) hw
    (congrArg done (onlyIf_pos (writeReg src 0x50018 .host (tallyWord raw)) s hr)) ?_
  rw [tallyWord, if_pos hr, tallyRefuse_sinter, accept_sinter]

end

/-! ### The end of a fold, and what the slots' progress leaves of the sinter units (R172, R195) -/

/-- The sinter units without which folds run. -/
def Sinter.unfolded (k : Sinter) : Sinter := { k with folding := 0 }

section
variable {s t : State}

theorem advanceSlot_unfolded (n : Fin 4) (s : State) : (advanceSlot n s).sinter.unfolded = s.sinter.unfolded := by
  unfold advanceSlot
  dsimp only
  split <;> split <;> rfl

/-- As the phases' work goes on a fold may begin, and nothing else of the sinter units changes. -/
theorem settle_advanceSlots_unfolded (s : State) : (settle (advanceSlots s)).sinter.unfolded = s.sinter.unfolded := by
  rw [settle_sinter]
  exact foldOver_same (fun t : State => t.sinter.unfolded) advanceSlot_unfolded _ s

/-- A part of the sinter units other than which folds run, at the end of an event of the schedule. -/
theorem settle_advanceSlots_sinter {α : Type} (f : Sinter → α) (hf : ∀ k : Sinter, f k.unfolded = f k) (s : State) :
    f (settle (advanceSlots s)).sinter = f s.sinter := by
  rw [← hf, settle_advanceSlots_unfolded, hf]

end

/-- The fold's sum stands in its tally when no command waited. -/
theorem foldEnd_sinter {s : State} {i : Fin 4} (h : s.sinter.tallyQ = []) :
    (foldEnd i s).sinter.tally = s.sinter.tally.set 0 i.val (foldSum s i) ∧
      (foldEnd i s).sinter.partials = s.sinter.partials := by
  unfold foldEnd endFold runTallyQ
  simp only [State.onSinter_sinter, State.onSched_sinter, h, foldOver_nil, and_self]

/-- The end of a fold that no command waited for. -/
theorem tallyFoldComplete_sums {s : State} {i : Fin 4} (hu : unitsOn s = true)
    (hi : bitAt s.sinter.folding i.val = true) (hq : s.sinter.tallyQ = []) : Completes (.tallyFoldComplete i) s fun t =>
      t.sinter.tally.get 0 i.val =
          treeSum 9 ((List.range 512).map fun b => s.sinter.partials.get 0 (512 * i.val + b)) ∧
        t.sinter.partials = s.sinter.partials ∧
        ∀ j : Fin 4, j ≠ i → t.sinter.tally.get 0 j.val = s.sinter.tally.get 0 j.val := by
  refine completes_sched (f := foldEnd i) (cond := unitsOn s && bitAt s.sinter.folding i.val) rfl (by rw [hu, hi]; rfl) ?_
  obtain ⟨htally, hpartials⟩ := foldEnd_sinter (i := i) hq
  rw [settle_advanceSlots_sinter Sinter.tally fun _ => rfl, settle_advanceSlots_sinter Sinter.partials fun _ => rfl, htally]
  exact ⟨SMap.get_set_same .., hpartials, fun j hj => SMap.get_set_other _ _ _ fun h => hj (Fin.ext h)⟩

/-! ### Hot queues (R168) -/

/-- SNT_HOT keeps the longer run; the queues stay. -/
theorem hotQueue_sinter (k : Nat) (run : BitVec 32) (s : State) : (hotQueue k run s).sinter =
    if s.sinter.hotBclk.toNat < run.toNat then { s.sinter with hotBank := BitVec.ofNat 9 k, hotBclk := run }
    else s.sinter := by
  unfold hotQueue
  dsimp only
  split
  · rfl
  · split <;> rfl

theorem sinterHotQueue_keeps {s : State} (hu : unitsOn s = true) {bank : Fin 512} (run : BitVec 32)
    (hq : (queueOf s bank.val).length = 8) : Completes (.sinterHotQueue bank run) s fun t =>
      (t.sinter.hotBclk, t.sinter.hotBank) =
        (if s.sinter.hotBclk.toNat < run.toNat then (run, BitVec.ofNat 9 bank.val)
         else (s.sinter.hotBclk, s.sinter.hotBank)) ∧ t.sinter.queue = s.sinter.queue := by
  refine completes_onlyIf (f := hotQueue bank.val run) (cond := unitsOn s && (queueOf s bank.val).length = 8) rfl
    (by rw [hu, hq]; rfl) ?_
  rw [settle_sinter, hotQueue_sinter]
  split <;> exact ⟨rfl, rfl⟩

/-- Settles O38: the commands go by whether a fold of their tally runs; the fold's end and SNT_HOT by their conditions. -/
theorem talliesAndHotQueues : Obligations.TalliesAndHotQueues := by
  unfold Obligations.TalliesAndHotQueues
  refine ⟨fun src i v s hs hw => ⟨exec_sinterWrite hs hw rfl rfl fun _ => rfl, fun h => idle_tally_commands hs hw h,
    fun h => ⟨tally_command_waits hw h rfl, tally_command_waits hw h rfl⟩,
    fun raw hr => reserved_tally_word_refused hw hr, ?_⟩,
    fun s hu => ⟨fun i hi hq => tallyFoldComplete_sums hu hi hq, fun bank run hq => sinterHotQueue_keeps hu run hq⟩⟩
  refine ⟨_, exec_sinterWrite (act := setHot v) hs hw rfl rfl fun _ => rfl, ?_, sinterWrite_onlyIn⟩
  rw [State.onSinter_sinter, accept_sinter]

end Sys2Proof.Machine
end

section
namespace Sys2Proof.Machine

/-! ### What the loop-back paths and the slots' progress leave of the sinter units (R151, R166) -/

/-- Beams go on their way to the sinter units: no queue changes, no update or sequenced beam leaves, and only the
loop-back paths bring updates into the drain network. -/
structure Feeds (s t : State) : Prop where
  queue : t.sinter.queue = s.sinter.queue
  seqNext : t.sinter.seqNext = s.sinter.seqNext
  held : ∀ x ∈ s.sinter.seqBeams, x ∈ t.sinter.seqBeams
  net : ∀ k, ∃ more, t.sinter.net.get [] k = s.sinter.net.get [] k ++ more ∧ (¬ (16 ≤ k ∧ k < 20) → more = [])

theorem mem_sortInsert_of_mem {α : Type} {before : α → α → Bool} {a x : α} {l : List α} (h : x ∈ l) :
    x ∈ sortInsert before a l := by
  induction l with
  | nil => exact absurd h List.not_mem_nil
  | cons b l ih =>
    unfold sortInsert
    split
    · exact List.mem_cons_of_mem a h
    · rcases List.mem_cons.1 h with rfl | hx
      · exact List.mem_cons_self
      · exact List.mem_cons_of_mem b (ih hx)

section
variable {s t u : State}

theorem feeds_of_sinter (h : t.sinter = s.sinter) : Feeds s t := by
  refine ⟨by rw [h], by rw [h], fun x hx => by rwa [h], fun k => ⟨[], ?_, fun _ => rfl⟩⟩
  rw [h, List.append_nil]

theorem Feeds.trans (h : Feeds s t) (k : Feeds t u) : Feeds s u := by
  refine ⟨k.queue.trans h.queue, k.seqNext.trans h.seqNext, fun x hx => k.held x (h.held x hx), fun i => ?_⟩
  obtain ⟨more, hmore, hside⟩ := h.net i
  obtain ⟨more', hmore', hside'⟩ := k.net i
  refine ⟨more ++ more', by rw [hmore', hmore, List.append_assoc], fun hi => ?_⟩
  rw [hside hi, hside' hi, List.append_nil]

theorem toNet_net_same (source : Nat) (us : List Update) (s : State) :
    (toNet source us s).sinter.net.get [] source = s.sinter.net.get [] source ++ us := SMap.get_set_same ..

theorem toNet_net_other {source k : Nat} (us : List Update) (s : State) (h : k ≠ source) :
    (toNet source us s).sinter.net.get [] k = s.sinter.net.get [] k := SMap.get_set_other _ _ _ h

/-- The loop-back path of a slot brings updates into the drain network. -/
theorem feeds_toNet (n : Fin 4) (us : List Update) (s : State) : Feeds s (toNet (16 + n.val) us s) := by
  refine ⟨rfl, rfl, fun _ hx => hx, fun k => ?_⟩
  by_cases hk : k = 16 + n.val
  · exact ⟨us, by rw [hk, toNet_net_same], fun hn => absurd (by omega) hn⟩
  · exact ⟨[], by rw [toNet_net_other _ _ hk, List.append_nil], fun _ => rfl⟩

theorem feeds_toSequencer (ticket : BitVec 32) (num : Nat) (us : List Update) (s : State) :
    Feeds s (toSequencer ticket num us s) :=
  ⟨rfl, rfl, fun _ hx => mem_sortInsert_of_mem hx, fun _ => ⟨[], (List.append_nil _).symm, fun _ => rfl⟩⟩

/-- A beam of a loop-back phase that is handed on leaves the sinter units alone. -/
theorem feeds_delivery (b : SBeam) (us : List (Option Update)) (n : Fin 4) (f : PSlot → PSlot) (s : State) :
    Feeds s ((beginDelivery b (govEvent 7 1 (countDropped us s))).onSlot n f) :=
  feeds_of_sinter ((beginDelivery_onlyIn b (govEvent 7 1 (countDropped us s))).2 .sinter (by simp))

theorem loopFlush_feeds (n : Fin 4) (k : Nat) (s : State) : Feeds s (loopFlush n k s) := by
  induction k generalizing s with
  | zero => exact feeds_of_sinter rfl
  | succ k ih =>
    unfold loopFlush
    dsimp only
    split
    · split
      · split
        · split
          · exact feeds_of_sinter rfl
          · split
            · exact feeds_of_sinter rfl
            · exact .trans (.trans (feeds_delivery _ _ n _ s) (feeds_toSequencer ..)) (ih _)
        · split
          · exact feeds_of_sinter rfl
          · split
            · exact feeds_of_sinter rfl
            · exact .trans (.trans (feeds_delivery _ _ n _ s) (feeds_toNet ..)) (ih _)
      · exact feeds_of_sinter rfl
    · exact feeds_of_sinter rfl

theorem askDidx_sinter (old s : State) : (askDidx old s).sinter = s.sinter := by
  refine foldOver_same (fun t : State => t.sinter) (fun n t => ?_) _ s
  split
  · refine foldOver_same (fun t : State => t.sinter) (fun port t => ?_) (List.range 16) t
    split <;> rfl
  · rfl

theorem flushLoops_feeds (s : State) : Feeds s (flushLoops s) := by
  have hloops : Feeds s (loopsFlushed s) :=
    foldOver_keeps (Feeds s) (fun n _ ht => ht.trans (loopFlush_feeds n 1024 _)) _ (feeds_of_sinter rfl)
  exact hloops.trans (feeds_of_sinter (askDidx_sinter ..))

/-! ### Queues and lines, once the step has settled -/

theorem settle_advanceSlots_queueOf (k : Nat) (s : State) : queueOf (settle (advanceSlots s)) k = queueOf s k := by
  rw [queueOf, settle_advanceSlots_sinter Sinter.queue fun _ => rfl, queueOf]

theorem queueOf_setQueue_same (k : Nat) (q : List Update) (s : State) : queueOf (setQueue k q s) k = q :=
  SMap.get_set_same ..

theorem queueOf_setQueue_other {k j : Nat} (q : List Update) (s : State) (h : j ≠ k) :
    queueOf (setQueue k q s) j = queueOf s j := SMap.get_set_other _ _ _ h

theorem queueOf_congr (h : t.sinter.queue = s.sinter.queue) (k : Nat) : queueOf t k = queueOf s k := by
  rw [queueOf, h, queueOf]

theorem storedBeam_congr (h : t.trf.beams = s.trf.beams) (b : BitVec 20) : storedBeam t b = storedBeam s b := by
  rw [storedBeam, h, storedBeam]

theorem lineErr_congr (h : t.trf.errs = s.trf.errs) (b : BitVec 20) : lineErr t b = lineErr s b := by
  rw [lineErr, h, lineErr]

end

/-! ### An update enters its queue (R151) -/

section
variable {s : State} {u : Update} {rest : List Update}

theorem enqueueHead_enters {source : Nat} (hn : s.sinter.net.get [] source = u :: rest)
    (hq : (queueOf s (bankIx u.dest)).length < 8) :
    (enqueueHead source s).sinter.net = s.sinter.net.set [] source rest ∧
      (enqueueHead source s).sinter.queue = s.sinter.queue.set [] (bankIx u.dest)
        (queueOf s (bankIx u.dest) ++ [matchUpdate (queueOf s (bankIx u.dest)) u]) := by
  unfold enqueueHead
  rw [hn]
  dsimp only
  rw [if_neg (by omega)]
  split <;> exact ⟨rfl, rfl⟩

theorem sinterUpdateEnqueue_enters (hu : unitsOn s = true) {src : Fin 24}
    (hn : s.sinter.net.get [] src.val = u :: rest) (hq : (queueOf s (bankIx u.dest)).length < 8) :
    Completes (.sinterUpdateEnqueue src) s fun t =>
      let loopSide (k : Nat) := 16 ≤ k ∧ k < 20
      (∃ more, t.sinter.net.get [] src.val = rest ++ more ∧ (¬ loopSide src.val → more = [])) ∧
      (∀ k, k ≠ src.val → ∃ more, t.sinter.net.get [] k = s.sinter.net.get [] k ++ more ∧ (¬ loopSide k → more = [])) ∧
      queueOf t (bankIx u.dest) = queueOf s (bankIx u.dest) ++ [matchUpdate (queueOf s (bankIx u.dest)) u] ∧
      (∀ k, k ≠ bankIx u.dest → queueOf t k = queueOf s k) ∧ t.trf.beams = s.trf.beams := by
  obtain ⟨hnet, hqueue⟩ := enqueueHead_enters hn hq
  have hfeeds := flushLoops_feeds (enqueueHead src.val s)
  refine completes_sched (f := fun s => flushLoops (enqueueHead src.val s)) rfl hu ?_
  dsimp only
  rw [settle_advanceSlots_sinter Sinter.net fun _ => rfl, settle_advanceSlots_beams, flushLoops_trf, enqueueHead_trf]
  have hqueues (k : Nat) : queueOf (settle (advanceSlots (flushLoops (enqueueHead src.val s)))) k =
      (s.sinter.queue.set [] (bankIx u.dest)
        (queueOf s (bankIx u.dest) ++ [matchUpdate (queueOf s (bankIx u.dest)) u])).get [] k := by
    rw [settle_advanceSlots_queueOf, queueOf_congr hfeeds.queue, queueOf, hqueue]
  refine ⟨?_, fun k hk => ?_, ?_, fun k hk => ?_, rfl⟩
  · obtain ⟨more, hmore, hside⟩ := hfeeds.net src.val
    exact ⟨more, by rw [hmore, hnet, SMap.get_set_same], hside⟩
  · obtain ⟨more, hmore, hside⟩ := hfeeds.net k
    exact ⟨more, by rw [hmore, hnet, SMap.get_set_other _ _ _ hk], hside⟩
  · rw [hqueues, SMap.get_set_same]
  · rw [hqueues, SMap.get_set_other _ _ _ hk, queueOf]

/-! ### The stored beam of an update is read (R152) -/

theorem bankRead_ue (code : BitVec 8) (i : BitVec 10) (pid : Option (BitVec 8)) (b : BitVec 20) (s : State) :
    (bankRead code i pid b {} s).1.ue = (readLine (storedBeam s b) (lineErr s b)).ue := by
  have hs : strike b {} s = s := if_pos rfl
  rw [bankRead, hs]
  rfl

theorem bankRead_sinter (code : BitVec 8) (i : BitVec 10) (pid : Option (BitVec 8)) (b : BitVec 20) (s : State) :
    (bankRead code i pid b {} s).2.sinter = s.sinter := (bankRead_onlyIn s code i pid b).2 .sinter (by simp)

theorem countSnt_queue (i n : Nat) (s : State) : (countSnt i n s).sinter.queue = s.sinter.queue := rfl

/-- The other elements of a list changed by f at k. -/
theorem lmod_getElem?_other {α : Type} (l : List α) {k j : Nat} (f : α → α) (h : j ≠ k) : (lmod l k f)[j]? = l[j]? := by
  cases hl : l[j]? <;> simp [lmod, List.getElem?_zipIdx, hl, h]

/-- The update read holds what its line reads as; the queues, but for it, and the stored beams stay. -/
theorem sinterReadAt_reads {k i : Nat} (hu : (queueOf s k)[i]? = some u) :
    let line := readLine (storedBeam s u.dest) (lineErr s u.dest)
    (queueOf (sinterReadAt k i {} s) k)[i]? = some { u with stored := .got line.beam line.ue } ∧
    (∀ j, j ≠ i → (queueOf (sinterReadAt k i {} s) k)[j]? = (queueOf s k)[j]?) ∧
    (∀ j, j ≠ k → queueOf (sinterReadAt k i {} s) j = queueOf s j) ∧
    (sinterReadAt k i {} s).trf.beams = s.trf.beams := by
  have hread : sinterReadAt k i {} s =
      let r := bankRead 0x05 u.mort (some (slotPid s u.slot)) u.dest {} s
      setQueue k (lmod (queueOf (countSnt 2 1 r.2) k) i fun u => { u with stored := .got r.1.beam r.1.ue })
        (countSnt 2 1 r.2) := by
    rw [sinterReadAt, hu]
  have hqueue (j : Nat) :
      queueOf (countSnt 2 1 (bankRead 0x05 u.mort (some (slotPid s u.slot)) u.dest {} s).2) j = queueOf s j :=
    queueOf_congr (by rw [countSnt_queue, bankRead_sinter]) j
  rw [hread]
  dsimp only
  rw [queueOf_setQueue_same, hqueue, bankRead_beam, bankRead_ue]
  refine ⟨by rw [lmod_getElem?, hu]; rfl, fun j hj => lmod_getElem?_other _ _ hj, fun j hj => ?_, ?_⟩
  · rw [queueOf_setQueue_other _ _ hj, hqueue]
  · rw [setQueue_trf, countSnt_trf, bankRead_beams]

end

end Sys2Proof.Machine
end

section
namespace Sys2Proof.Machine

/-! ### The combine step (R155, R160) -/

/-- The sinter units without what an update is counted and measured in. -/
def Sinter.unmeasured (k : Sinter) : Sinter := { k with count := [], partials := [], partPoison := [], nonfinite := 0 }

section
variable (k : Nat) (u : Update) (s : State)

theorem countSnt_unmeasured (i n : Nat) : (countSnt i n s).sinter.unmeasured = s.sinter.unmeasured := rfl

theorem noteSats_unmeasured (n : Nat) : (noteSats n u s).sinter.unmeasured = s.sinter.unmeasured := by
  unfold noteSats
  dsimp only
  split
  · rfl
  · split <;> rfl

theorem addTally_unmeasured (sq : W64) : (addTally k u sq s).sinter.unmeasured = s.sinter.unmeasured := by
  unfold addTally
  dsimp only
  split
  · rfl
  · split <;> rfl

theorem govEvent_sinter (e n : Nat) : (govEvent e n s).sinter = s.sinter := rfl

theorem writeLine_sinter (b : BitVec 20) (v : Beam) : (writeLine b v s).sinter = s.sinter := rfl

/-- What an update at the head of a queue has done before its beam is written: the draws and the counts. -/
def combineCounted (c : Combined) : State :=
  countSnt 0 1 (countSnt 5 c.grown (countSnt 6 c.shrunk (noteSats c.sats u
    (s.onSinter fun t => { t with lfsr := t.lfsr.set 0 k c.lfsr }))))

theorem combineCounted_unmeasured (c : Combined) : (combineCounted k u s c).sinter.unmeasured =
    { s.sinter with lfsr := s.sinter.lfsr.set 0 k c.lfsr }.unmeasured := by
  rw [combineCounted, countSnt_unmeasured, countSnt_unmeasured, countSnt_unmeasured, noteSats_unmeasured]
  rfl

theorem combineCounted_trf (c : Combined) : (combineCounted k u s c).trf = s.trf := by
  simp only [combineCounted, countSnt_trf, noteSats_trf, State.onSinter_trf]

/-- The combined beam measured for its tally. -/
def combineMeasured (c : Combined) : State :=
  match c.squares with
  | some sq => addTally k u sq s
  | none => s

theorem combineMeasured_unmeasured (c : Combined) :
    (combineMeasured k u s c).sinter.unmeasured = s.sinter.unmeasured := by
  unfold combineMeasured
  split
  · exact addTally_unmeasured ..
  · rfl

theorem combineMeasured_trf (c : Combined) : (combineMeasured k u s c).trf = s.trf := by
  unfold combineMeasured
  split
  · exact addTally_trf ..
  · rfl

end

section
variable {k : Nat} {u : Update} {rest : List Update} {s : State} {b : Beam}

/-- An update that carries no poison is applied: its draws and counts, its line, its squares, then its place in the
queue. -/
theorem applyHead_clean (hp : u.poison = false) : applyHead k u b rest s =
    let c := combine u b (s.sinter.lfsr.get 0 k)
    setQueue k (passOn u.dest (.got c.beam false) rest)
      (combineMeasured k u (writeLine u.dest c.beam (govEvent 9 1 (combineCounted k u s c))) c) := by
  rw [applyHead, hp]
  rfl

/-- The sinter units that an applied update leaves, but for its counts. -/
theorem applyHead_unmeasured (hp : u.poison = false) (k : Nat) (rest : List Update) (b : Beam) (s : State) :
    let c := combine u b (s.sinter.lfsr.get 0 k)
    (applyHead k u b rest s).sinter.unmeasured = { s.sinter with
      lfsr := s.sinter.lfsr.set 0 k c.lfsr
      queue := s.sinter.queue.set [] k (passOn u.dest (.got c.beam false) rest) }.unmeasured := by
  intro c
  have hmeasured (w : State) : (combineMeasured k u (writeLine u.dest c.beam (govEvent 9 1 w)) c).sinter.unmeasured =
      w.sinter.unmeasured := by rw [combineMeasured_unmeasured, writeLine_sinter, govEvent_sinter]
  have hall := (hmeasured (combineCounted k u s c)).trans (combineCounted_unmeasured k u s c)
  rw [applyHead_clean hp]
  exact congrArg (fun t : Sinter => { t with
    queue := t.queue.set [] k (passOn u.dest (.got c.beam false) rest) }) hall

theorem writeLine_trf_congr {t : State} (h : t.trf = s.trf) (d : BitVec 20) (v : Beam) :
    (writeLine d v t).trf = (writeLine d v s).trf := by
  have hof (w : State) : (writeLine d v w).trf =
    { w.trf with beams := w.trf.beams.set 0 d.toNat v, errs := w.trf.errs.erase d.toNat } := rfl
  rw [hof, hof, h]

/-- Only its line changes in the tile register file. -/
theorem applyHead_trf (hp : u.poison = false) (k : Nat) (rest : List Update) (b : Beam) (s : State) :
    (applyHead k u b rest s).trf = (writeLine u.dest (combine u b (s.sinter.lfsr.get 0 k)).beam s).trf := by
  rw [applyHead_clean hp]
  generalize combine u b (s.sinter.lfsr.get 0 k) = c
  dsimp only
  rw [setQueue_trf, combineMeasured_trf]
  refine writeLine_trf_congr ?_ u.dest c.beam
  rw [govEvent_trf, combineCounted_trf]

/-- The head's stored beam: read, or unneeded and taken as it stands. -/
theorem combineHead_applies (hq : queueOf s k = u :: rest)
    (hst : u.stored = .got b false ∨ (u.stored = .unneeded ∧ b = storedBeam s u.dest)) :
    combineHead k false s = applyHead k u b rest s := by
  unfold combineHead
  rw [hq]
  rcases hst with hst | ⟨hst, rfl⟩ <;> simp only [hst] <;> rfl

/-- An update whose stored beam was read uncorrectable is dropped. -/
theorem combineHead_drops (hq : queueOf s k = u :: rest) (hst : u.stored = .got b true) (parity : Bool) :
    combineHead k parity s = dropHead k u rest (withParity parity k u s).2 := by
  unfold combineHead
  rw [hq]
  simp only [hst]

theorem sinterCombine_stores (hu : unitsOn s = true) {bank : Fin 512} (hq : queueOf s bank.val = u :: rest)
    (hst : u.stored = .got b false ∨ (u.stored = .unneeded ∧ b = storedBeam s u.dest)) (hp : u.poison = false) :
    let c := combine u b (s.sinter.lfsr.get 0 bank.val)
    Completes (.sinterCombine bank false) s fun t =>
      storedBeam t u.dest = c.beam ∧ lineErr t u.dest = {} ∧
      (∀ d, d ≠ u.dest → storedBeam t d = storedBeam s d ∧ lineErr t d = lineErr s d) ∧
      queueOf t bank.val = passOn u.dest (.got c.beam false) rest ∧
      (∀ k, k ≠ bank.val → queueOf t k = queueOf s k) ∧ t.sinter.lfsr.get 0 bank.val = c.lfsr ∧
      ∀ k, k ≠ bank.val → t.sinter.lfsr.get 0 k = s.sinter.lfsr.get 0 k := by
  intro c
  refine completes_sched (f := combineHead bank.val false) rfl hu ?_
  rw [combineHead_applies hq hst]
  have hunmeasured := applyHead_unmeasured hp bank.val rest b s
  have hqueue : (applyHead bank.val u b rest s).sinter.queue =
      s.sinter.queue.set [] bank.val (passOn u.dest (.got c.beam false) rest) := congrArg Sinter.queue hunmeasured
  have hlfsr : (applyHead bank.val u b rest s).sinter.lfsr = s.sinter.lfsr.set 0 bank.val c.lfsr :=
    congrArg Sinter.lfsr hunmeasured
  have htrf : (applyHead bank.val u b rest s).trf = (writeLine u.dest c.beam s).trf := applyHead_trf hp ..
  have hbeam (d : BitVec 20) : storedBeam (settle (advanceSlots (applyHead bank.val u b rest s))) d =
      storedBeam (writeLine u.dest c.beam s) d :=
    storedBeam_congr (by rw [settle_advanceSlots_beams, htrf]) d
  have herr (d : BitVec 20) : lineErr (settle (advanceSlots (applyHead bank.val u b rest s))) d =
      lineErr (writeLine u.dest c.beam s) d :=
    lineErr_congr (by rw [settle_errs, advanceSlots_trf, htrf]) d
  rw [settle_advanceSlots_sinter Sinter.lfsr fun _ => rfl, hlfsr, hbeam, herr]
  refine ⟨storedBeam_writeLine_same .., lineErr_writeLine_same .., fun d hd => ?_, ?_, fun k hk => ?_,
    SMap.get_set_same .., fun k hk => SMap.get_set_other _ _ _ hk⟩
  · rw [hbeam, herr]
    exact ⟨storedBeam_writeLine_other _ _ hd, lineErr_writeLine_other _ _ hd⟩
  · rw [settle_advanceSlots_queueOf, queueOf, hqueue, SMap.get_set_same]
  · rw [settle_advanceSlots_queueOf, queueOf, hqueue, SMap.get_set_other _ _ _ hk, queueOf]

theorem sinterCombine_drops (hu : unitsOn s = true) {bank : Fin 512} (hq : queueOf s bank.val = u :: rest)
    (hst : u.stored = .got b true) (parity : Bool) : Completes (.sinterCombine bank parity) s fun t =>
      queueOf t bank.val = passOn u.dest .lost rest ∧ t.trf.beams = s.trf.beams := by
  refine completes_sched (f := combineHead bank.val parity) rfl hu ?_
  rw [combineHead_drops hq hst, settle_advanceSlots_queueOf, settle_advanceSlots_beams, dropHead_trf, withParity_trf]
  exact ⟨queueOf_setQueue_same bank.val (passOn u.dest .lost rest) (withParity parity bank.val u s).2, rfl⟩

/-- The next update's read is accepted at its bank. -/
theorem sinterRead_reads (hu : unitsOn s = true) {bank : Fin 512} {i : Nat} (hn : nextSinterRead s bank.val = some i)
    (hi : (queueOf s bank.val)[i]? = some u) :
    let line := readLine (storedBeam s u.dest) (lineErr s u.dest)
    Completes (.sinterRead bank {}) s fun t =>
      (queueOf t bank.val)[i]? = some { u with stored := .got line.beam line.ue } ∧
      (∀ j, j ≠ i → (queueOf t bank.val)[j]? = (queueOf s bank.val)[j]?) ∧
      (∀ k, k ≠ bank.val → queueOf t k = queueOf s k) ∧ t.trf.beams = s.trf.beams := by
  intro line
  have hexec : exec (.sinterRead bank {}) s = done (onlyIf (unitsOn s) (sinterReadAt bank.val i {}) s) := by
    have hdef : exec (.sinterRead bank {}) s = execSinterRead bank {} s := rfl
    rw [hdef, execSinterRead, onlyIf_pos _ _ hu, onlyIf_pos _ _ hu, hn]
  refine completes_onlyIf hexec hu ?_
  have hqueue (k : Nat) : queueOf (settle (sinterReadAt bank.val i {} s)) k = queueOf (sinterReadAt bank.val i {} s) k :=
    queueOf_congr (by rw [settle_sinter]) k
  simp only [hqueue, settle_beams]
  exact sinterReadAt_reads hi

/-! ### The sequencer releases its lowest beam (R166) -/

theorem sequencerRelease_releases (hu : unitsOn s = true) {n : Fin 4} {x : SeqBeam} {xs : List SeqBeam}
    (hn : s.sched.slot[n].holdsSeq = true) (hs : s.sinter.seqBeams = x :: xs) (hx : x.num = s.sinter.seqNext)
    (hnet : s.sinter.net.get [] (20 + n.val) = []) : Completes (.sequencerRelease n) s fun t =>
      t.sinter.seqNext = s.sinter.seqNext + 1 ∧ t.sinter.net.get [] (20 + n.val) = x.ups ∧
        (∀ y ∈ xs, y ∈ t.sinter.seqBeams) ∧ t.trf.beams = s.trf.beams := by
  have hrelease : seqRelease n s = toNet (20 + n.val) x.ups
      (s.onSinter fun k => { k with seqBeams := xs, seqNext := k.seqNext + 1 }) := by
    rw [seqRelease, hs]
    exact if_pos (by rw [hx, hnet]; simp)
  have hfeeds := flushLoops_feeds (seqRelease n s)
  refine completes_sched (f := fun s => flushLoops (seqRelease n s)) (cond := unitsOn s && s.sched.slot[n].holdsSeq) rfl
    (by rw [hu, hn]; rfl) ?_
  rw [settle_advanceSlots_sinter Sinter.seqNext fun _ => rfl, settle_advanceSlots_sinter Sinter.net fun _ => rfl,
    settle_advanceSlots_sinter Sinter.seqBeams fun _ => rfl, settle_advanceSlots_beams, flushLoops_trf, seqRelease_trf]
  refine ⟨?_, ?_, fun y hy => hfeeds.held y ?_, rfl⟩
  · rw [hfeeds.seqNext, hrelease]
    rfl
  · obtain ⟨more, hmore, hside⟩ := hfeeds.net (20 + n.val)
    rw [hmore, hside (by omega), List.append_nil, hrelease, toNet_net_same, State.onSinter_sinter, hnet, List.nil_append]
  · rw [hrelease]
    exact hy

end

/-- Settles O36: an update's way from its source by its queue and its read to its line, and the sequencer's release. -/
theorem sinterUpdatesReachTheirBeam : Obligations.SinterUpdatesReachTheirBeam := by
  unfold Obligations.SinterUpdatesReachTheirBeam
  intro s hu
  exact ⟨fun src u rest hn hq => sinterUpdateEnqueue_enters hu hn hq, fun bank i u hn hi => sinterRead_reads hu hn hi,
    fun bank u rest b hq hst hp => sinterCombine_stores hu hq hst hp,
    fun bank u rest b hq hst parity => sinterCombine_drops hu hq hst parity,
    fun n x xs hn hs hx hnet => sequencerRelease_releases hu hn hs hx hnet⟩

end Sys2Proof.Machine
end
